-- ==== Sys2Proof/Word.lean ====
section
/-! DEFINITION. Words, bytes and positions: the plainest types of the model. -/

namespace Sys2Proof

/-- A 32-bit register word (R5, "Registers are 32 bits wide"). -/
abbrev Word := BitVec 32

/-- One byte. -/
abbrev Byte := BitVec 8

/-- A string of bytes, first byte first. -/
abbrev Bytes := List Byte

/-- Die position P0 to P7; line lane Lp is on die Pp ("Positions and names"). -/
abbrev Die := Fin 8

/-- Host lane H0 to H15; H2p and H2p+1 are on die Pp. -/
abbrev HostLane := Fin 16

end Sys2Proof
end

