-- ==== Sys2Proof/Types.lean ====
section
/-! DEFINITION. The names the spec gives to the things commands and events speak of: parts, privileges,
profiles, statuses, media, request envelopes, headers and records. -/

namespace Sys2Proof

/-- The six orderable parts (R2). -/
inductive Part where
  | ko0802C | ko0802N | ko1604C | ko1604N | ko3208C | ko3208N
  deriving DecidableEq, Repr

/-- Privileges in rising order (R360). -/
inductive Privilege where
  | observer | operator | expert | custodian
  deriving DecidableEq, Repr

/-- Operating profiles (R16, PROFILE TLV). -/
inductive Profile where
  | full | assured | standard
  deriving DecidableEq, Repr

/-- Clock modes (CLOCK_MODE TLV). -/
inductive ClockMode where
  | locked | decoupled
  deriving DecidableEq, Repr

/-- Client port widths (R64). -/
inductive Width where
  | w200 | w400 | w800 | w1600
  deriving DecidableEq, Repr

/-- One port of a port plan: its first host lane and its width (PORT TLV). -/
structure Port where
  first : HostLane
  width : Width
  deriving DecidableEq, Repr

/-- Where a packet comes from: port A, port B, or the in-band channel of a lane (R31). -/
inductive Medium where
  | portA | portB | inband (lane : Die)
  deriving DecidableEq, Repr

/-- Management ports A (on P0) and B (on P1). -/
inductive MPort where
  | a | b
  deriving DecidableEq, Repr

/-- Status codes of replies (R384). -/
inductive Status where
  | ok | pending | deferred | badOpcode | badLength | badParam | notPermitted | notAuthenticated
  | ownedByOther | domainOff | busy | bankBusy | orderViolation | leaseExpired | limitReached
  | unsupportedOnPart | seqStale | receiverReset | mbDomainOff | integrityFail
  deriving DecidableEq, Repr

/-- What the length and TLV checks of R352, R353, R385 and R387 found in a packet, with ERR_INDEX. -/
inductive ReqForm where
  | good | badLength (errIndex : Nat) | badParam (errIndex : Nat)
  deriving DecidableEq, Repr

/-- The envelope of a Slostan request (R347): how it came, its channel, sequence and source, what the
form checks of R352 and R353 found, its TLV bytes (for the audit digest of R617), and the source address and tag of its
Ethernet frame (R345, R428). -/
structure Req where
  medium : Medium
  channel : BitVec 8
  seq : BitVec 16
  src : BitVec 16
  form : ReqForm
  tlvs : Bytes
  mac : BitVec 48
  vlan : Option (BitVec 16)
  deriving DecidableEq, Repr

/-- Transmitter states (R121), from the most restrictive. -/
inductive TxState where
  | mute | pilot | withheld | live
  deriving DecidableEq, Repr

/-- Squelch causes (R122), by rising code. -/
inductive Cause where
  | notUp | power | linePll | mask | forced | safetyC | agreeFail | noKey | noPort
  deriving DecidableEq, Repr

/-- Acquisition states (R173). -/
inductive RxState where
  | down | signalWait | gain | freq | blindEq | marker | pilotEq | locked | fastReacq
  deriving DecidableEq, Repr

/-- Power states (R492). -/
inductive PowerState where
  | active | lineIdle | doze | nap | dormant | off
  deriving DecidableEq, Repr

/-- Power domains of a die (R491). -/
inductive Domain where
  | aon | ctrl | mgmt | host | fabric | tx | rx | dataPath | ana
  deriving DecidableEq, Repr

/-- Wake sources (R503). -/
inductive WakeSrc where
  | none | policy | cmp0 | cmp1 | timer | hrx | mrx | keyExpiry
  deriving DecidableEq, Repr

/-- PLLs of a die (R508). -/
inductive Pll where
  | line | host | mgmt | sys
  deriving DecidableEq, Repr

/-- Cleartext policies (R303). -/
inductive CipherPolicy where
  | gcmRequired | gcmPreferred | clear
  deriving DecidableEq, Repr

/-- Key agreement modes (R280, R312). -/
inductive KeyMode where
  | hybrid | psk
  deriving DecidableEq, Repr

/-- Reasons an attempt ends (R288). -/
inductive KxReason where
  | none | timeout | certInvalid | sigFail | macFail | modeMismatch | nonceEqual | peerAbort
  | leaderChange | noCredential | superseded
  deriving DecidableEq, Repr

/-- Lifecycle states (R611, R613). -/
inductive Lifecycle where
  | manufactured | provisioned | deployed | retired
  deriving DecidableEq, Repr

/-- Event severities (R382, R592). -/
inductive Severity where
  | info | warn | fault | safety
  deriving DecidableEq, Repr

/-- Transaction modes (R373). -/
inductive TxnMode where
  | atomic | sequence
  deriving DecidableEq, Repr

/-- One claim: a class of R370 and an instance (lane, die, or 0). -/
structure ClaimId where
  cls : Nat
  inst : Nat
  deriving DecidableEq, Repr

/-- Configuration of one power group (WAKE_BUDGET TLV, R402). -/
structure WakeBudget where
  dies : BitVec 8
  lineTraffic : Bool
  budget : Nat
  deriving DecidableEq, Repr

/-- One wake comparator setting (WAKE_CMP TLV); `ain` selects CMP1, else CMP0. -/
structure WakeCmp where
  ain : Bool
  ainSel : Nat
  thr : Nat
  hyst : Nat
  deriving DecidableEq, Repr

/-- Range, park code and clear code of a DAC channel (DAC_CH_CFG TLV). -/
structure DacCfg where
  range : Nat
  park : Nat
  clear : Nat
  deriving DecidableEq, Repr

/-- Waveform parameters (WAVE TLV, R529). -/
structure Wave where
  shape : Nat
  span : Nat
  offset : Nat
  rate : Nat
  relPhase : Nat
  point : Nat
  deriving DecidableEq, Repr

/-- One sequencer entry (SEQ_ENTRY TLV). -/
structure SeqEntry where
  input : Nat
  ts : Nat
  gain : Nat
  deriving DecidableEq, Repr

/-- One converter sample (SAMPLES TLV, R537). -/
structure Sample where
  settling : Bool
  overrange : Bool
  value : Int
  deriving DecidableEq, Repr

/-- Calibration kinds (CAL_KIND TLV, R544). -/
inductive CalKind where
  | internal | sysZero | sysFull
  deriving DecidableEq, Repr

/-- One emission limit (EMISSION_LIMIT TLV): lane, input 0xFF or 0 to 11, monitor code. -/
structure EmissionLimit where
  lane : Nat
  input : Nat
  code : Int
  deriving DecidableEq, Repr

/-- Next hops of routes (ROUTE TLV, R438). -/
inductive Hop where
  | portA | portB | link (lane : Die) | loc
  deriving DecidableEq, Repr

/-- Where a route came from (R438), best first. -/
inductive Origin where
  | loc | neighbour | static | learned
  deriving DecidableEq, Repr

/-- Media of Jeuri messages: a management port, or the line link over a lane (R433, R446). -/
inductive JMedium where
  | portA | portB | link (lane : Die)
  deriving DecidableEq, Repr

/-- Body of a HELLO message (R433). Node numbers stand for node addresses with die bits 0. -/
structure Hello where
  packageId : BitVec 64
  node : Nat
  forwarder : Bool
  plain : Bool
  root : Nat
  rootHops : Nat
  uplink : Nat
  heard : Nat
  helloMs : Nat
  deriving DecidableEq, Repr

/-- One entry of a ROUTES message (R439). -/
structure RouteAd where
  node : Nat
  hops : Nat
  deriving DecidableEq, Repr

/-- An Ethernet frame on a management port (R421, R428, R430). `len` is its length in bytes. -/
structure EthFrame where
  dst : BitVec 48
  src : BitVec 48
  vlan : Option (BitVec 16)
  ethertype : BitVec 16
  payload : Bytes
  len : Nat
  fcsOk : Bool
  deriving DecidableEq, Repr

/-- A key-exchange record: header (R280) and the fields of its body (R282); fields a record does not
have are empty. -/
structure KxRec where
  ver : Nat
  mode : Nat
  session : BitVec 32
  epoch : Nat
  lenOk : Bool
  nonce : Bytes
  point : Bytes
  kem : Bytes
  cert : Bytes
  sig : Bytes
  mac : Bytes
  reason : Nat
  raw : Bytes
  deriving DecidableEq, Repr

/-- The frame header (R91). -/
structure Header where
  hdrVer : BitVec 4
  profile : BitVec 2
  cipher : BitVec 2
  lane : BitVec 8
  frameCount : BitVec 48
  keyEpoch : BitVec 16
  rackCd : BitVec 13
  blockSeq : BitVec 22
  phase : BitVec 9
  topping : Bool
  shared : Bool
  withheld : Bool
  deriving DecidableEq, Repr

/-- The FEEDBACK field (R96); tap steps are signed. -/
structure Feedback where
  snr : BitVec 16
  corrBits : BitVec 32
  uncorrCw : BitVec 16
  avgIter : BitVec 16
  firSeq : BitVec 8
  firStep : List Int
  valid : Bool
  rxLock : Bool
  rxState : BitVec 4
  deriving DecidableEq, Repr

/-- The TOPPING_STATUS field (R97). -/
structure ToppingStatus where
  toppedMask : BitVec 8
  failedMask : BitVec 8
  double : Bool
  toppedCw : BitVec 32
  deriving DecidableEq, Repr

/-- One TOPPING_COPY entry that is not all zero (R98). -/
structure CopyEntry where
  lane : Die
  header : Header
  tag : BitVec 128
  crc : BitVec 32
  deriving DecidableEq, Repr

/-- One in-band segment (R443). -/
structure Segment where
  valid : Bool
  start : Bool
  fin : Bool
  seq : BitVec 16
  data : Bytes
  deriving DecidableEq, Repr

/-- The information of an overhead codeword (R88). -/
structure Overhead where
  header : Header
  gcmTag : BitVec 128
  payloadCrc : BitVec 32
  mgmt : Segment
  feedback : Feedback
  topping : ToppingStatus
  copies : List CopyEntry
  deriving DecidableEq, Repr

/-- How the overhead codeword of a received frame ended (R99, R100). -/
inductive OhResult where
  | decFail
  | crcFail
  | ok (oh : Overhead)
  deriving DecidableEq, Repr

/-- What a 64b/66b block is, as far as deletion and insertion read it (R58, R59). -/
inductive BlockKind where
  | idle | orderedSet | term | other | error
  deriving DecidableEq, Repr

/-- A 64b/66b block in the order of transmission, bit 0 first: sync header, then 64 bits. -/
abbrev Block66 := BitVec 66

/-- A 257-bit unit of a port (R51), bit 0 first. -/
abbrev PortUnit := BitVec 257

/-- A codeword of 40 blocks of 256 bits (R78). -/
abbrev Codeword := List (BitVec 256)

/-- Mailbox endpoints (R477). -/
inductive Endpoint where
  | core | key | safe | pwr
  deriving DecidableEq, Repr

/-- A mailbox message: its type word and the words after word 0 (R477). -/
structure MbMsg where
  epoch : Nat
  msgType : BitVec 32
  words : List (BitVec 64)
  deriving DecidableEq, Repr

/-- Outcomes of a mailbox post (R480, R481). -/
inductive MbOutcome where
  | stored | busy | receiverReset (purged : Nat) | mbDomainOff
  deriving DecidableEq, Repr

/-- Health report of a HEARTBEAT (R472). -/
structure HbReport where
  power : PowerState
  fwValid : Bool
  supplyFault : Bool
  clockFault : Bool
  lockstep : Bool
  deriving DecidableEq, Repr

/-- Units that an ECC error concerns (R564). -/
inductive EccUnit where
  | engine (e : Fin 8) | keyManager | other
  deriving DecidableEq, Repr

/-- Diagnostic points (POINT TLV). -/
inductive Point where
  | hostTx | hostRx | lineTx | lineRx
  deriving DecidableEq, Repr

/-- What a CAPTURE_SET asks (CAPTURE_CFG TLV). -/
structure CaptureCfg where
  point : Nat
  trigger : Nat
  len : Nat
  pre : Nat
  deriving DecidableEq, Repr

/-- A firmware image as FW_LOAD receives it (R618); `codeLen` is the header's CODE_LEN. -/
structure FwImage where
  size : Nat
  magic : BitVec 32
  hdrFormat : BitVec 16
  partMask : BitVec 16
  version : BitVec 32
  secver : Nat
  codeLen : Nat
  digest : Bytes
  code : Bytes
  signature : Bytes
  deriving DecidableEq, Repr

/-- A limited change (R611) that is being programmed; `ceilings` names its lanes. -/
inductive LimitCut where
  | lifecycle | secver | permit | identity | ownerKey | revoke
  | ceilings (lanes : BitVec 8)
  deriving DecidableEq, Repr

/-- Outcome of a die's full self-test (R567, R569): the failed items, and the units that failed items found faulty:
decoder engines, cipher pipelines of each direction, an ADC sub-converter. -/
structure TestOutcome where
  die : Die
  failed : BitVec 11
  badEngines : BitVec 8
  badTx : BitVec 4
  badRx : BitVec 4
  badAdc : Option Nat
  durationMs : Nat
  coverage : Nat
  deriving DecidableEq, Repr

/-- The values a receiver holds that path memory stores (R178): what adaptation has reached. -/
structure RxSet where
  coefs : List Int
  main : Nat
  nle : List Int
  d1 : Int
  d2 : Int
  means : List Int
  sigma : Nat
  gain : Nat
  freq : Int
  deriving DecidableEq, Repr

end Sys2Proof
end

