-- ==== Sys2Proof/Syntax.lean ====
section
/-! DEFINITION. The commands and events of the block: one constructor for each row of spec/opcode_table.json.
A Slostan request carries its envelope `Req` and the values of its TLVs; an optional TLV is an `Option`, a
TLV that may repeat is a list in the order of the packet. An event carries what the world outside the block
decides: the lane, die or port, the quantities an analogue circuit measures, and the data that arrive. -/

namespace Sys2Proof

/-- The commands and events (spec/opcode_table.json), in the table's order. -/
inductive Instr where
  -- Session group (R395).
  | ping (r : Req) (echo : Option Bytes)
  | sessionOpen (r : Req) (priv : Privilege)
  | secureHello (r : Req) (nonce point cert : Bytes) (priv : Privilege)
  | secureFinish (r : Req) (chan : BitVec 8) (sig mac : Bytes)
  | sessionClose (r : Req)
  | slostanCfgSet (r : Req) (etherType : Option (BitVec 16)) (idle : Option Nat) (plainMax : Option Privilege)
  -- Profile group (R396).
  | profileSet (r : Req) (profile : Profile) (clock : Option ClockMode) (ports : List Port)
  | profileChangeDone
  | lineUp (r : Req) (lanes : BitVec 8)
  | portPlanSet (r : Req) (ports : List Port)
  | hostLaneSet (r : Req) (lane : Nat) (eq : Option (Nat × Nat × Nat)) (pol : Option (Bool × Bool))
  | lineTxSet (r : Req) (lanes : BitVec 8) (force swing shape : Option Nat) (delay : Option Word)
      (adaptEn : Option Nat)
  | lineDown (r : Req) (lanes : BitVec 8)
  | lineRxSet (r : Req) (lanes : BitVec 8) (capThr losThr bw fastEn fbSuggest : Nat)
  | lineRealign (r : Req) (lane : Nat)
  | lineStatusGet (r : Req) (lanes : BitVec 8)
  -- Claims group (R399).
  | claim (r : Req) (claims : List ClaimId) (lease : Option Nat)
  | release (r : Req) (claims : List ClaimId)
  | leaseRenew (r : Req)
  | begin (r : Req) (mode : TxnMode)
  | commit (r : Req)
  | abort (r : Req)
  | stagedCommand (c : Instr)
  -- Vintage and power groups (R401).
  | vintageCommit (r : Req) (slot : Nat) (label : Option Bytes)
  | vintageCommitDone
  | vintageRestore (r : Req) (slot : Nat)
  | vintageList (r : Req)
  | vintagePrefer (r : Req) (slot : Nat)
  | vintageDelete (r : Req) (slot : Nat)
  | powerPolicySet (r : Req) (groups : List WakeBudget)
  | powerStateGet (r : Req)
  | wakeCmpSet (r : Req) (dies : BitVec 8) (cmps : List WakeCmp) (enable : Option Bool)
  | shutdown (r : Req) (selfTest : Option Bool)
  -- Cipher group (R404).
  | cipherPolicySet (r : Req) (policy : CipherPolicy)
  | keyModeSet (r : Req) (mode : KeyMode)
  | keyPskSet (r : Req) (psk : Bytes)
  | keyLifeSet (r : Req) (frameLog2 timeLimit : Option Nat)
  | keyRetainSet (r : Req) (enable : Bool)
  | keyZeroise (r : Req) (psk : Option Bool)
  | keyAgreeStart (r : Req)
  | keyRack (r : Req)
  | cipherSfClear (r : Req) (lane : Nat)
  | cipherStatusGet (r : Req) (lanes : BitVec 8)
  -- Housekeeping group (R405).
  | dacChSet (r : Req) (dies : BitVec 8) (ch : Nat) (cfg : DacCfg)
  | dacRangeSwitch (die : Die) (ch : Fin 6)
  | dacParkEnd (die : Die) (ch : Fin 6)
  | dacWrite (r : Req) (dies : BitVec 8) (ch : Nat) (codes : List Nat)
  | dacWaveSet (r : Req) (dies : BitVec 8) (ch : Nat) (wave : Wave)
  | dacStatusGet (r : Req) (dies : BitVec 8)
  | madcConvert (r : Req) (dies : BitVec 8) (conv : Nat) (input : Nat) (preset : Option Nat)
  | madcSeqSet (r : Req) (dies : BitVec 8) (conv : Nat) (entries : List SeqEntry) (preset : Option Nat)
  | madcTriggerSet (r : Req) (dies : BitVec 8) (conv : Nat) (source delay : Nat) (period : Option Nat)
  | madcCalibrate (r : Req) (dies : BitVec 8) (conv : Nat) (kind : CalKind)
  | madcRead (r : Req) (dies : BitVec 8) (conv : Nat) (count : Option Nat)
  | madcTestdacSet (r : Req) (dies : BitVec 8) (conv : Nat) (code : Nat)
  -- Telemetry group (R408).
  | eventSubscribe (r : Req) (rate : Nat) (sevMin : Option Nat) (mask : Option (BitVec 544))
  | eventAck (r : Req) (seq : BitVec 16)
  | eventFilterSet (r : Req) (mask : Option (BitVec 544)) (sevMin : Option Nat) (rate : Option Nat)
  | eventUnsubscribe (r : Req)
  | eventNotify (r : Req)
  | intervalSet (r : Req) (us : Option Nat) (syncEn : Option Bool)
  | counterRead (r : Req) (first count : Nat)
  | tagSet (r : Req) (k : Nat) (seed : BitVec 32)
  | tagRead (r : Req) (dies : BitVec 8) (count : Option Nat)
  | topdownRead (r : Req) (lane : Nat)
  | timeGet (r : Req)
  -- Safety group (R409).
  | safetyLimitSet (r : Req) (limits : List EmissionLimit)
  | safetyStatusGet (r : Req)
  | safetyReset (r : Req) (lane : Nat) (retest : Bool)
  | selftestRun (r : Req) (dies : BitVec 8)
  | selftestResultGet (r : Req) (dies : BitVec 8)
  -- Fabric group (R411).
  | nodeSet (r : Req) (node : Nat)
  | routeGet (r : Req)
  | routeSet (r : Req) (routes : List (Nat × Hop))
  | mgmtPortSet (r : Req) (port : MPort) (fixed fec eee : Bool)
  | mgmtStatusGet (r : Req)
  | neighbourGet (r : Req)
  -- Lifecycle group (R412).
  | lifecycleAdvance (r : Req) (target : Lifecycle) (confirm : Word)
  | cleartextWithdraw (r : Req) (confirm : Word)
  | laserCeilingSet (r : Req) (ceilings : List (Nat × Nat))
  | nodeIdentitySet (r : Req) (confirm : Word)
  | ownerKeySet (r : Req) (key : Bytes)
  | ownerKeyRevoke (r : Req) (confirm : Word)
  | ownerCertSet (r : Req) (cert : Bytes)
  | fwLoad (r : Req) (image : Bytes)
  | fwLoadDone
  | fwActivate (r : Req) (confirm : Word)
  | fwDieRejoin (die : Die) (digestOk : Bool)
  | fwRejoinTimeout (die : Die)
  | auditRead (r : Req) (first count : Nat)
  | limitsGet (r : Req)
  -- Diagnostics group (R414).
  | patternSet (r : Req) (point : Point) (pattern : Nat) (lane : Nat)
  | patternStatusGet (r : Req) (point : Point) (lane : Nat)
  | errorInject (r : Req) (kind lane count : Nat)
  | loopbackSet (r : Req) (lane : Nat) (mode : Nat)
  | captureSet (r : Req) (lane : Nat) (cfg : CaptureCfg)
  | captureDone (lane : Die) (samples : List (BitVec 8))
  | captureRead (r : Req) (lane : Nat)
  -- Expert opcodes (R417).
  | regRead (r : Req) (addr : Word) (count : Option Nat)
  | regWrite (r : Req) (addr value : Word) (mask : Option Word)
  | txBankLoad (r : Req) (lane bank : Nat) (coeffs : List Int) (swap : Bool)
  | txAdaptSet (r : Req) (lane : Nat) (word : Word)
  | txPdLoad (r : Req) (lane bank : Nat) (coeffs : List Int) (swap : Bool)
  | txMaskSet (r : Req) (lane : Nat) (lims : List Nat) (action : Nat)
  | rxBankLoad (r : Req) (lane bank main : Nat) (coeffs : List Int) (swap : Bool) (fade : Option (Nat × Nat))
  | rxBankSwap (r : Req) (lane bank : Nat) (fade : Option (Nat × Nat))
  | rxAdaptSet (r : Req) (lane : Nat) (adapt : Option Word) (enables : Option Nat) (dfe : Option (Int × Int))
      (nle : Option (List Int))
  | rxPathSet (r : Req) (lane : Nat) (pin clear maxTries tryFrames : Nat)
  | rxBankRead (r : Req) (lane kind index : Nat)
  | decPoolSet (r : Req) (lane cap manFence : Nat)
  | frameLockSet (r : Req) (lane tol lockN lossN slipWin : Nat)
  | deskewSet (r : Req) (lane guard : Nat)
  | toppingSet (r : Req) (rxEn copyHold : Nat)
  | arbSet (r : Req) (dies : BitVec 8) (arbs : List (Nat × Nat))
  | arbStatusGet (r : Req)
  | timebaseSet (r : Req) (ns : Nat) (frac : Nat)
  -- Register steps.
  | firSwap (r : Req) (lane : Die)
  | pdSwap (r : Req) (lane : Die)
  | launchDelayWrite (r : Req) (lane : Die) (value : Word)
  | fadeReq (r : Req) (lane : Die) (value : Word)
  | pathClear (r : Req) (lane : Die) (value : Word)
  | manFenceWrite (r : Req) (lane : Die) (fence : BitVec 8)
  | mgmtRestart (r : Req) (port : MPort)
  | swClr (r : Req) (die : Die) (on : Bool)
  | dacCodeWrite (r : Req) (die : Die) (ch : Fin 6) (code : Nat)
  | dacQueuePush (r : Req) (die : Die) (ch : Fin 6) (code : Nat)
  | injStart (r : Req) (die : Die) (conv : Fin 2)
  | madcFifoRead (r : Req) (die : Die) (conv : Fin 2)
  | injResRead (r : Req) (die : Die) (conv : Fin 2)
  | clearAll (r : Req) (die : Die)
  | counterWriteCommit (r : Req) (die : Die) (hi : Nat)
  | cntLatLoRead (r : Req) (die : Die)
  | frameCountLoRead (r : Req) (die : Die) (rx : Bool)
  | patgCountLoRead (r : Req) (die : Die) (err : Bool)
  | timeLoRead (r : Req) (die : Die)
  -- Packets and protocol timers.
  | mgmtFrameReceive (port : MPort) (frame : EthFrame)
  | slostanRequestArrival (medium : Medium) (mac : BitVec 48) (vlan : Option (BitVec 16)) (bytes : Bytes)
  | chunk (r : Req) (opcode : Nat) (offset total : Nat) (data : Bytes) (crc : Option (BitVec 32))
  | chunkTransferTimeout (channel : BitVec 8)
  | secureHelloTimeout (channel : BitVec 8)
  | sessionIdleTimeout (channel : BitVec 8)
  | leaseExpiry (channel : BitVec 8)
  | portDownClaimRelease (channel : BitVec 8)
  | safetyEventResend (channel : BitVec 8) (seq : BitVec 16)
  -- Jeuri fabric.
  | jeuriHello (medium : JMedium) (mac : BitVec 48) (hops : Nat) (sender : BitVec 16) (hello : Hello)
  | jeuriRoutes (medium : JMedium) (sender : BitVec 16) (ads : List RouteAd)
  | jeuriData (medium : JMedium) (hops : Nat) (packet : Bytes)
  | helloInterval
  | neighbourDead (medium : JMedium) (packageId : BitVec 64)
  | triggerHoldoffEnd (medium : JMedium) (routes : Bool)
  | routesRefresh
  | routeAgeOut (node : Nat)
  -- Key exchange.
  | kxHello (lane : Die) (rec : KxRec)
  | kxResponse (lane : Die) (rec : KxRec)
  | kxConfirm (lane : Die) (rec : KxRec)
  | kxAck (lane : Die) (rec : KxRec)
  | kxAbort (lane : Die) (rec : KxRec)
  | kxResyncReq (lane : Die) (rec : KxRec)
  | keyAgreeTimeout (initiator : Bool)
  | keyAgreeBackoffEnd
  | keyLifeThreshold
  | keyExpired
  | rackChangeover (lane : Die)
  | rxOldKeyZeroise (lane : Die)
  | retainedKeyExpiry (die : Die)
  -- Line transmitter.
  | frameTransmit (lane : Die) (bypass : Option (Fin 256))
  | txHoldEnd (fc : Nat) (missing : Die)
  | maskMeasurement (lane : Die) (powers : List Nat)
  | adaptHoldEnd (lane : Die)
  | noFeedbackTimeout (lane : Die)
  -- Line receiver.
  | firSuggestion (lane : Die)
  | losDeclare (lane : Die) (powers : List Nat)
  | losClear (lane : Die) (powers : List Nat)
  | captureStep (lane : Die) (before after : List Nat) (power : Nat)
  | captureStepForget (lane : Die)
  | gainSettled (lane : Die) (gain : Nat)
  | freqFound (lane : Die) (freq : Int)
  | blindEqConverged (lane : Die) (coefs : List Int)
  | acqTimeout (lane : Die)
  | markerCandidate (lane : Die) (pos : Nat) (window pilots : BitVec 64)
  | frameLock (lane : Die) (pos : Nat)
  | markerCheck (lane : Die) (window : BitVec 64) (near : List (Int × BitVec 64))
  | fastReacqTryEnd (lane : Die)
  | pathMemoryRefresh (lane : Die) (gain : Nat) (freq : Int)
  | adcSpareHandover (lane : Die) (calOk : Bool)
  | adcSubRetired (lane : Die) (index : Nat)
  | fadeStart (lane : Die)
  | fadeEnd (lane : Die)
  | frameReceiveOverhead (lane : Die)
  | interleaverGroupQueue (lane : Die) (group : Nat) (samples : List Int)
  | decodeDone (lane : Die) (engine : Fin 8) (converged : Bool) (iterations : Nat) (result : Codeword) (checkerBad : Bool)
  | engineWatchdog (lane : Die) (engine : Fin 8)
  | engineSliceDone (lane : Die) (engine : Fin 8) (pass : Bool)
  | engineSliceStart (lane : Die) (engine : Fin 8)
  | checkerSelfTest (lane : Die) (acceptsGood acceptsBad : Bool)
  | frameRelease (owner : Die) (fc : Nat)
  | deskewAlignRetry (owner : Die)
  | deskewSlewStep (owner : Die)
  -- Topping lane.
  | erasureNotice (die : Die) (src : Die) (cw : Nat)
  | toppingWindowEnd (lane : Die) (fc cw : Nat) (got : BitVec 8)
  | treeChange
  -- Cipher self-checks.
  | cipherPipeCheck (lane : Die) (txBad rxBad : BitVec 4)
  | cipherSliceDone (lane : Die) (rx : Bool) (pipe : Fin 4) (pass : Bool)
  -- Host side.
  | hostCodewordReceive (port : HostLane) (uncorr : Bool) (corrected : Nat) (units : List PortUnit)
  | hostLaneLoss (lane : HostLane) (sig cdr am align : Bool)
  | hostLaneRecover (lane : HostLane)
  | hostPairOffset (die : Die) (exceeds : Bool)
  -- Package interior.
  | sbSlotArbitration (crcErr : BitVec 8)
  | sbReq (src dst : Die) (tag : Nat) (write : Bool) (addr value : Word)
  | sbRsp (src dst : Die) (tag : Nat)
  | sbReqResend (src : Die) (tag : Nat)
  | mailboxPost (src dst : Die) (sep rep : Endpoint) (secure : Bool) (msg : MbMsg)
  | mbAck (src dst : Die) (sep rep : Endpoint) (outcome : MbOutcome)
  | mailboxReceiverReset (die : Die) (ep : Endpoint)
  | mbMutualFull (a b : Die) (aep bep : Endpoint)
  | heartbeat (die : Die)
  | heartbeatReceive (die : Die) (src : Die) (rep : HbReport)
  | heartbeatTimeout (die : Die)
  | elect (die : Die) (resign : Bool) (fwValid : Bool)
  | electionWindowClose
  | mirror
  | sbSafetyBroadcast (src : Die) (trip : Bool)
  | sbDeadlineMissed (die : Die) (cls : Fin 8)
  | sbStarvation (die : Die) (cls : Fin 8)
  | d2dTransferReceive (die : Die) (port : Fin 3) (crcOk : Bool)
  | d2dLinkDown (die : Die) (port : Fin 3) (trainingLost : Bool)
  | d2dRetrain (die : Die) (port : Fin 3)
  | d2dLinkUp (die : Die) (port : Fin 3)
  -- Telemetry and time.
  | telemetryBoundary
  | latch (die : Die)
  | snapshotComplete
  | syncInEdge
  | slowClockCalibrated (ratio : Nat)
  | crystalStart
  | crystalFail
  | refclkLost
  | refclkHoldoverEnd
  | refclkReturn
  | pllLock (die : Die) (pll : Pll)
  -- Power.
  | dieStateEntryDone (die : Die)
  | wakeSource (die : Die) (src : WakeSrc)
  | wakeDone (die : Die)
  | wakeCmpTrip (die : Die) (cmp : Fin 2) (level : Nat)
  | thermalConversion (die : Die) (bits : List Bool)
  -- Safety.
  | safetyConversion (lane : Die) (bits : List Bool)
  | safetyConversionMissing (lane : Die)
  | comparatorTest (lane : Die) (atHigh atLow : Bool)
  | emissionTrip (lane : Die) (cmpB : Bool) (level : Int)
  | sfLArmed (lane : Die)
  | ldisStuck (lane : Die) (high : Bool)
  | safeMonFault (lane : Die)
  | lockstepMismatch (die : Die)
  | supplyFault (die : Die) (cut : Option LimitCut)
  | memScrub (die : Die) (corrected : Nat) (uncorr : List EccUnit)
  | selftestOverdue
  | selftestDone (results : List TestOutcome)
  -- Housekeeping analogue.
  | dacUpdate (die : Die)
  | dacShort (die : Die) (ch : Fin 6) (acts : Bool)
  | clrNAssert
  | clrNRelease
  | madcTimer (die : Die) (conv : Fin 2)
  | madcTriggerDelayEnd (die : Die) (conv : Fin 2)
  | madcConversionDone (die : Die) (conv : Fin 2) (overload : Bool) (bits : List Bool)
  | madcInjectedTrigger (die : Die) (conv : Fin 2) (safety : Bool)
  | madcCalibrationDone (die : Die) (conv : Fin 2) (sums : List (Int × Int))
  -- Management ports.
  | mgmtSignalDetect (port : MPort)
  | mgmtTrainingComplete (port : MPort)
  | mgmtTrainFail (port : MPort)
  | mgmtBackoffEnd (port : MPort)
  | mgmtLinkUp (port : MPort)
  | mgmtLinkDown (port : MPort)
  | lpiIdleTimer (port : MPort)
  -- Reset and start.
  | powerOnResetRelease
  | resetNFall (cut : Option LimitCut)
  | startUp (fwOk : BitVec 8) (tests : List TestOutcome)
  | eccErrorAtAccess (die : Die) (unit : EccUnit) (uncorr : Bool)
  | pllLockLost (die : Die) (pll : Pll)
  | vintageRestoreDone
  | shutdownComplete (results : List TestOutcome)
  | hostTxBlockDue (port : HostLane)
  | mgmtSignalLoss (port : MPort)
  | mgmtPartnerLpi (port : MPort) (enter : Bool)
  | wakeCmpRearm (die : Die) (cmp : Fin 2) (level : Nat)
  | mailboxMessageRead (die : Die) (ep : Endpoint) (src : Die) (sep : Endpoint)
  | markerConfirmation (lane : Die) (pos : Nat) (window pilots : BitVec 64)
  | patternCheckerSync (lane : Die) (checker : Fin 3) (lock : Bool) (bits errs : Nat)
  deriving DecidableEq, Repr

end Sys2Proof
end

