-- ==== Sys2Proof/Config.lean ====
section
/-! DEFINITION. What one implementation fixes and the spec does not give: free values, and the cryptographic
functions that the spec takes from other standards. Each is a constant without a body: a statement holds
whatever it is. -/

namespace Sys2Proof

/-- A value the spec leaves open, by the state's free-value counter. -/
opaque Config.freeValue : Nat → Nat

/-- SHA-384 (R357, R617). -/
opaque Config.sha384 : Bytes → Bytes

/-- HMAC-SHA-384 (R357, R283): key, message. -/
opaque Config.hmac384 : Bytes → Bytes → Bytes

/-- HKDF-Extract and HKDF-Expand with SHA-384 (R277, R357). -/
opaque Config.hkdfExtract : Bytes → Bytes → Bytes
opaque Config.hkdfExpand : Bytes → Bytes → Nat → Bytes

/-- The public point and the shared x-coordinate of ephemeral ECDH P-384 with the part's `n`th random key. -/
opaque Config.ecdhPublic : Nat → Bytes
opaque Config.ecdhShared : Nat → Bytes → Bytes

/-- ML-KEM-1024: the public key of the `n`th random key, encapsulation (ciphertext, secret), decapsulation. -/
opaque Config.kemPublic : Nat → Bytes
opaque Config.kemEncaps : Nat → Bytes → Bytes × Bytes
opaque Config.kemDecaps : Nat → Bytes → Bytes

/-- Random bytes by index and length (the part's random number generator). -/
opaque Config.random : Nat → Nat → Bytes

/-- ECDSA P-384 with SHA-384: signature with the part's identity key, and verification under a public key. -/
opaque Config.identitySign : Bytes → Bytes
opaque Config.ecdsaVerify : Bytes → Bytes → Bytes → Bool

/-- X.509 certificates (R276, R358): whether a certificate verifies under a key, the key it certifies, the
privilege its organisational unit names, whether its subject fits R284, and the part's self-signed one. -/
opaque Config.certVerify : Bytes → Bytes → Bool
opaque Config.certKey : Bytes → Bytes
opaque Config.certPrivilege : Bytes → Option Privilege
opaque Config.certSubjectOk : Bytes → Bool
opaque Config.selfCert : Bytes → Bytes

/-- AES-256-GCM opening (R359): key, IV, AAD, ciphertext and tag; none when the tag fails. -/
opaque Config.gcmOpen : Bytes → Bytes → Bytes → Bytes → Option Bytes

/-- AES-256-GCM sealing (R359): key, IV, AAD, plaintext; the ciphertext with the 16-byte tag after it. -/
opaque Config.gcmSeal : Bytes → Bytes → Bytes → Bytes → Bytes

/-- Whether a 257-bit block is the first of an alignment-marker group of a port of a width, as IEEE 802.3 forms them. -/
opaque Config.markerUnit : Width → PortUnit → Bool

/-- The 8-tap compensation FIR of a monitor converter (R536), whose coefficients the spec does not give: the raw sample of a
preset from the last eight CIC outputs, the latest first. -/
opaque Config.compensation : Nat → List (BitVec 40) → Int

/-- How far a trip comparator's threshold lies from a lane's limit (R553), in converter codes: lane, limit, whether CMPB. -/
opaque Config.tripOffset : Nat → Nat → Bool → Int

/-- The identity public key that NODE_IDENTITY_SET binds (R611). -/
opaque Config.identityPublic : Bytes

/-- The Oxlovin firmware signing key (R611, R618). -/
opaque Config.firmwareKey : Bytes

/-- Fixed at manufacture (R611): PACKAGE_ID and the MAC addresses of ports A and B. -/
opaque Config.packageId : BitVec 64
opaque Config.macA : BitVec 48
opaque Config.macB : BitVec 48

end Sys2Proof
end

