-- ==== Sys2Proof/Machine/Regs.lean ====
section
/-! DEFINITION. The register fields of every block, from the spec's register tables: address, place, width,
access and reset value. Fields whose value the machine computes when it is read (fill levels, identity, wiring,
mirrors of another register) have no row here: RegAccess.lean computes them. -/

namespace Sys2Proof.Machine

/-- Access kinds of the register tables (R6): read-write, read-only, write-only, write 1 to clear, and cleared
by reading. -/
inductive Acc where
  | rw | ro | wo | w1c | rc
  deriving DecidableEq, Repr

/-- One field of a register: block, word, highest bit, width, access and value at reset. -/
structure Fld where
  blk : Nat
  word : Nat
  hi : Nat
  width : Nat
  acc : Acc
  rst : Nat
  deriving DecidableEq, Repr

/-- The lowest bit of a field. -/
def Fld.lo (f : Fld) : Nat := f.hi + 1 - f.width

/-! Block DIE (0x00): R33. -/

def blkDIE : Nat := 0x00
def DIE_STAT_FW_VALID : Fld := ⟨0x00, 1, 3, 1, .ro, 0⟩
def DIE_TEMP_TJ : Fld := ⟨0x00, 2, 15, 16, .ro, 0⟩

/-! Block PWR (0x01): R519. -/

def blkPWR : Nat := 0x01
def PWR_STATE_WAKE_SRC : Fld := ⟨0x01, 0, 23, 4, .ro, 0⟩
def PWR_STATE_CAUSE : Fld := ⟨0x01, 0, 17, 2, .ro, 0⟩
def PWR_STATE_TARGET : Fld := ⟨0x01, 0, 14, 3, .ro, 0⟩
def PWR_STATE_TRANS : Fld := ⟨0x01, 0, 11, 1, .ro, 0⟩
def PWR_STATE_CUR : Fld := ⟨0x01, 0, 2, 3, .ro, 0⟩
def PWR_POLICY_LINE_TRAFFIC : Fld := ⟨0x01, 1, 8, 1, .ro, 0⟩
def PWR_POLICY_GROUP : Fld := ⟨0x01, 1, 7, 8, .ro, 0⟩
def PWR_BUDGET : Fld := ⟨0x01, 2, 31, 32, .ro, 0⟩
def PWR_RETAIN_MASK_HI : Fld := ⟨0x01, 3, 7, 3, .rw, 7⟩
def PWR_RETAIN_MASK_B4 : Fld := ⟨0x01, 3, 4, 1, .ro, 0⟩
def PWR_RETAIN_MASK_LO : Fld := ⟨0x01, 3, 3, 4, .rw, 0xF⟩
def PWR_WAKE_EN_MRX : Fld := ⟨0x01, 4, 4, 1, .rw, 1⟩
def PWR_WAKE_EN_HRX : Fld := ⟨0x01, 4, 3, 1, .rw, 0⟩
def PWR_WAKE_EN_TIMER : Fld := ⟨0x01, 4, 2, 1, .rw, 0⟩
def PWR_WAKE_EN_CMP1 : Fld := ⟨0x01, 4, 1, 1, .rw, 0⟩
def PWR_WAKE_EN_CMP0 : Fld := ⟨0x01, 4, 0, 1, .rw, 0⟩
def PWR_WAKE_TIMER_PERIODS : Fld := ⟨0x01, 5, 31, 32, .rw, 0⟩
def PWR_WAKE_CMP_TRIPPED (n : Nat) : Fld := ⟨0x01, 6 + 1 * n, 31, 1, .w1c, 0⟩
def PWR_WAKE_CMP_ABOVE (n : Nat) : Fld := ⟨0x01, 6 + 1 * n, 30, 1, .ro, 0⟩
def PWR_WAKE_CMP_AIN_SEL (n : Nat) : Fld := ⟨0x01, 6 + 1 * n, 19, 4, .rw, 0⟩
def PWR_WAKE_CMP_HYST (n : Nat) : Fld := ⟨0x01, 6 + 1 * n, 13, 6, .rw, 4⟩
def PWR_WAKE_CMP_THR (n : Nat) : Fld := ⟨0x01, 6 + 1 * n, 5, 6, .rw, 0x3F⟩

/-! Block CLK (0x02): R520. -/

def blkCLK : Nat := 0x02
def CLK_PLL_STAT_REF_LOST : Fld := ⟨0x02, 0, 8, 1, .w1c, 0⟩
def CLK_PLL_STAT_UNLOCK_SEEN : Fld := ⟨0x02, 0, 7, 1, .w1c, 0⟩
def CLK_PLL_STAT_REF_OK : Fld := ⟨0x02, 0, 4, 1, .ro, 0⟩
def CLK_PLL_STAT_SYS_LOCK : Fld := ⟨0x02, 0, 3, 1, .ro, 0⟩
def CLK_PLL_STAT_MGMT_LOCK : Fld := ⟨0x02, 0, 2, 1, .ro, 0⟩
def CLK_PLL_STAT_HOST_LOCK : Fld := ⟨0x02, 0, 1, 1, .ro, 0⟩
def CLK_PLL_STAT_LINE_LOCK : Fld := ⟨0x02, 0, 0, 1, .ro, 0⟩
def CLK_SLOW_RATIO : Fld := ⟨0x02, 1, 31, 24, .ro, 0x9502F9⟩
def CLK_SLOW_XTAL_FAIL : Fld := ⟨0x02, 1, 2, 1, .w1c, 0⟩
def CLK_SLOW_CAL_VALID : Fld := ⟨0x02, 1, 1, 1, .ro, 0⟩
def CLK_SLOW_SRC : Fld := ⟨0x02, 1, 0, 1, .ro, 0⟩
def CLK_TIME_HI_NS_HI : Fld := ⟨0x02, 3, 31, 32, .ro, 0⟩
def CLK_TIME_FRAC_EXTRAPOLATED : Fld := ⟨0x02, 4, 16, 1, .ro, 0⟩
def CLK_TIME_FRAC_FRAC : Fld := ⟨0x02, 4, 15, 16, .ro, 0⟩
def CLK_INTERVAL_SYNC_EN : Fld := ⟨0x02, 6, 17, 1, .rw, 0⟩
def CLK_INTERVAL_INTERVAL_US : Fld := ⟨0x02, 6, 16, 17, .rw, 0x3E8⟩
def CLK_SYNC_STAT_IGNORED : Fld := ⟨0x02, 7, 31, 16, .ro, 0⟩
def CLK_SYNC_STAT_SLEWING : Fld := ⟨0x02, 7, 3, 1, .ro, 0⟩
def CLK_SYNC_STAT_MOVED : Fld := ⟨0x02, 7, 2, 1, .w1c, 0⟩
def CLK_SYNC_STAT_IGN_SEEN : Fld := ⟨0x02, 7, 1, 1, .w1c, 0⟩
def CLK_SYNC_STAT_SYNC_SEEN : Fld := ⟨0x02, 7, 0, 1, .w1c, 0⟩

/-! Block SB (0x03): R485, R486, R487, R488. -/

def blkSB : Nat := 0x03
def SB_CTRL_STARVE_THR : Fld := ⟨0x03, 0, 3, 4, .rw, 4⟩
def SB_STAT_HEALTHY : Fld := ⟨0x03, 1, 31, 8, .ro, 0⟩
def SB_STAT_SUCC_VALID : Fld := ⟨0x03, 1, 15, 1, .ro, 0⟩
def SB_STAT_SUCCESSOR : Fld := ⟨0x03, 1, 14, 3, .ro, 0⟩
def SB_STAT_LEADER : Fld := ⟨0x03, 1, 10, 3, .ro, 0⟩
def SB_STAT_LOAD_HIGH : Fld := ⟨0x03, 1, 3, 1, .w1c, 0⟩
def SB_STAT_STARVED : Fld := ⟨0x03, 1, 2, 1, .w1c, 0⟩
def SB_STAT_MISSED : Fld := ⟨0x03, 1, 1, 1, .w1c, 0⟩
def SB_STAT_CRC_ERR : Fld := ⟨0x03, 1, 0, 1, .w1c, 0⟩
def SB_DEADLINE0_CLASS0 : Fld := ⟨0x03, 2, 31, 8, .ro, 2⟩
def SB_DEADLINE0_CLASS1 : Fld := ⟨0x03, 2, 23, 8, .ro, 4⟩
def SB_DEADLINE0_CLASS2 : Fld := ⟨0x03, 2, 15, 8, .ro, 8⟩
def SB_DEADLINE0_CLASS3 : Fld := ⟨0x03, 2, 7, 8, .rw, 0x10⟩
def SB_DEADLINE1_CLASS4 : Fld := ⟨0x03, 3, 31, 8, .rw, 0x20⟩
def SB_DEADLINE1_CLASS5 : Fld := ⟨0x03, 3, 23, 8, .rw, 0x40⟩
def SB_DEADLINE1_CLASS6 : Fld := ⟨0x03, 3, 15, 8, .rw, 0x80⟩
def SB_DEADLINE1_CLASS7 : Fld := ⟨0x03, 3, 7, 8, .rw, 0xFF⟩
def SB_LOAD_BE_LOAD : Fld := ⟨0x03, 4, 31, 16, .ro, 0⟩
def SB_LOAD_DL_LOAD : Fld := ⟨0x03, 4, 15, 16, .ro, 0⟩

/-! Block D2D (0x04): R489. -/

def blkD2D : Nat := 0x04
def D2D_PORT_STAT_DOWN_SEEN : Fld := ⟨0x04, 0, 11, 3, .w1c, 0⟩
def D2D_PORT_STAT_UP : Fld := ⟨0x04, 0, 2, 3, .ro, 0⟩

/-! Block HOST (0x05): R63, R65, R66, R67, R69. -/

def blkHOST : Nat := 0x05
def HOST_PORT_CFG_BASE : Fld := ⟨0x05, 0, 14, 3, .ro, 0⟩
def HOST_PORT_CFG_RM_EN : Fld := ⟨0x05, 0, 7, 1, .ro, 0⟩
def HOST_PORT_CFG_CLK_SRC : Fld := ⟨0x05, 0, 6, 1, .ro, 0⟩
def HOST_PORT_CFG_USED : Fld := ⟨0x05, 0, 5, 2, .ro, 0⟩
def HOST_PORT_CFG_WIDTH : Fld := ⟨0x05, 0, 3, 4, .ro, 0⟩
def HOST_LANE_CTRL_TX_PRE (n : Nat) : Fld := ⟨0x05, 1 + 1 * n, 11, 3, .rw, 0⟩
def HOST_LANE_CTRL_TX_POST (n : Nat) : Fld := ⟨0x05, 1 + 1 * n, 8, 3, .rw, 0⟩
def HOST_LANE_CTRL_TX_AMP (n : Nat) : Fld := ⟨0x05, 1 + 1 * n, 5, 2, .rw, 1⟩
def HOST_LANE_CTRL_TX_INV (n : Nat) : Fld := ⟨0x05, 1 + 1 * n, 2, 1, .rw, 0⟩
def HOST_LANE_CTRL_RX_INV (n : Nat) : Fld := ⟨0x05, 1 + 1 * n, 1, 1, .rw, 0⟩
def HOST_LANE_CTRL_IDLE (n : Nat) : Fld := ⟨0x05, 1 + 1 * n, 0, 1, .ro, 1⟩
def HOST_LANE_STAT_SIG_LOST (n : Nat) : Fld := ⟨0x05, 3 + 1 * n, 7, 1, .w1c, 0⟩
def HOST_LANE_STAT_CDR_LOST (n : Nat) : Fld := ⟨0x05, 3 + 1 * n, 6, 1, .w1c, 0⟩
def HOST_LANE_STAT_AM_LOST (n : Nat) : Fld := ⟨0x05, 3 + 1 * n, 5, 1, .w1c, 0⟩
def HOST_LANE_STAT_ALIGN_LOST (n : Nat) : Fld := ⟨0x05, 3 + 1 * n, 4, 1, .w1c, 0⟩
def HOST_LANE_STAT_ALIGN_OK (n : Nat) : Fld := ⟨0x05, 3 + 1 * n, 3, 1, .ro, 0⟩
def HOST_LANE_STAT_AM_LOCK (n : Nat) : Fld := ⟨0x05, 3 + 1 * n, 2, 1, .ro, 0⟩
def HOST_LANE_STAT_CDR_LOCK (n : Nat) : Fld := ⟨0x05, 3 + 1 * n, 1, 1, .ro, 0⟩
def HOST_LANE_STAT_SIG_DET (n : Nat) : Fld := ⟨0x05, 3 + 1 * n, 0, 1, .ro, 0⟩
def HOST_RM_CTRL_HI_MARK : Fld := ⟨0x05, 5, 23, 8, .rw, 0x50⟩
def HOST_RM_CTRL_LO_MARK : Fld := ⟨0x05, 5, 15, 8, .rw, 0x30⟩
def HOST_RM_STAT_UNDER_L2H (n : Nat) : Fld := ⟨0x05, 6 + 1 * n, 3, 1, .w1c, 0⟩
def HOST_RM_STAT_OVER_L2H (n : Nat) : Fld := ⟨0x05, 6 + 1 * n, 2, 1, .w1c, 0⟩
def HOST_RM_STAT_UNDER_H2L (n : Nat) : Fld := ⟨0x05, 6 + 1 * n, 1, 1, .w1c, 0⟩
def HOST_RM_STAT_OVER_H2L (n : Nat) : Fld := ⟨0x05, 6 + 1 * n, 0, 1, .w1c, 0⟩

/-! Block HFEC (0x06): R70. -/

def blkHFEC : Nat := 0x06
def HFEC_CTRL_SER_THR : Fld := ⟨0x06, 0, 15, 16, .rw, 0⟩
def HFEC_STAT_OWNER (n : Nat) : Fld := ⟨0x06, 1 + 1 * n, 4, 1, .ro, 0⟩
def HFEC_STAT_DEGRADED (n : Nat) : Fld := ⟨0x06, 1 + 1 * n, 3, 1, .ro, 0⟩
def HFEC_STAT_DEGRADE_SEEN (n : Nat) : Fld := ⟨0x06, 1 + 1 * n, 2, 1, .w1c, 0⟩
def HFEC_STAT_UNCORR_SEEN (n : Nat) : Fld := ⟨0x06, 1 + 1 * n, 1, 1, .w1c, 0⟩
def HFEC_STAT_SLIP_SEEN (n : Nat) : Fld := ⟨0x06, 1 + 1 * n, 0, 1, .w1c, 0⟩

/-! Block LTX (0x07): R138 to R147. -/

def blkLTX : Nat := 0x07
def LTX_CTRL_FORCE : Fld := ⟨0x07, 0, 9, 2, .rw, 0⟩
def LTX_CTRL_PD_ACTIVE : Fld := ⟨0x07, 0, 5, 1, .ro, 0⟩
def LTX_CTRL_PD_EN : Fld := ⟨0x07, 0, 4, 1, .rw, 0⟩
def LTX_CTRL_FIR_ACTIVE : Fld := ⟨0x07, 0, 3, 1, .ro, 0⟩
def LTX_CTRL_PD_SWAP : Fld := ⟨0x07, 0, 2, 1, .wo, 0⟩
def LTX_CTRL_FIR_SWAP : Fld := ⟨0x07, 0, 1, 1, .wo, 0⟩
def LTX_STAT_FIR_REVERT : Fld := ⟨0x07, 1, 10, 1, .w1c, 0⟩
def LTX_STAT_MASK_VIOL : Fld := ⟨0x07, 1, 9, 1, .w1c, 0⟩
def LTX_STAT_CLIP : Fld := ⟨0x07, 1, 8, 1, .w1c, 0⟩
def LTX_STAT_SQ_CAUSE : Fld := ⟨0x07, 1, 7, 4, .ro, 1⟩
def LTX_STAT_TX_STATE : Fld := ⟨0x07, 1, 1, 2, .ro, 0⟩
def LTX_DAC_CTRL_SWING : Fld := ⟨0x07, 2, 7, 4, .rw, 8⟩
def LTX_DAC_CTRL_SHAPE : Fld := ⟨0x07, 2, 1, 2, .rw, 0⟩
def LTX_DELAY_INT : Fld := ⟨0x07, 3, 27, 12, .rw, 0⟩
def LTX_DELAY_SLEW : Fld := ⟨0x07, 3, 11, 2, .rw, 0⟩
def LTX_DELAY_MODE : Fld := ⟨0x07, 3, 9, 1, .rw, 0⟩
def LTX_DELAY_BUSY : Fld := ⟨0x07, 3, 8, 1, .ro, 0⟩
def LTX_DELAY_FRAC : Fld := ⟨0x07, 3, 5, 6, .rw, 0⟩
def LTX_DELAY_NOW_INT : Fld := ⟨0x07, 4, 27, 12, .ro, 0⟩
def LTX_DELAY_NOW_FRAC : Fld := ⟨0x07, 4, 5, 6, .ro, 0⟩
def LTX_ADAPT_CTRL_EN : Fld := ⟨0x07, 5, 31, 1, .rw, 0⟩
def LTX_ADAPT_CTRL_TAP_MASK : Fld := ⟨0x07, 5, 25, 10, .rw, 0x3FF⟩
def LTX_ADAPT_CTRL_MIN_GAP : Fld := ⟨0x07, 5, 15, 8, .rw, 0x40⟩
def LTX_ADAPT_CTRL_GAIN : Fld := ⟨0x07, 5, 7, 2, .rw, 0⟩
def LTX_ADAPT_CTRL_MAIN_MIN : Fld := ⟨0x07, 5, 5, 6, .rw, 0x20⟩
def LTX_ADAPT_STAT_LAST_SEQ : Fld := ⟨0x07, 6, 31, 8, .ro, 0⟩
def LTX_ADAPT_STAT_HOLD : Fld := ⟨0x07, 6, 2, 1, .ro, 0⟩
def LTX_ADAPT_STAT_NO_FEEDBACK : Fld := ⟨0x07, 6, 1, 1, .ro, 0⟩
def LTX_ADAPT_STAT_PENDING : Fld := ⟨0x07, 6, 0, 1, .ro, 0⟩
def LTX_MASK_CTRL_ACTION : Fld := ⟨0x07, 7, 9, 2, .rw, 0⟩
def LTX_MASK_CTRL_VIOL_BANDS : Fld := ⟨0x07, 7, 7, 8, .ro, 0⟩
def LTX_MASK_LIM (i : Nat) : Fld := ⟨0x07, 8 + i / 4, 31 - 8 * (i % 4), 8, .rw, 0⟩
def LTX_MASK_REL (i : Nat) : Fld := ⟨0x07, 10 + i / 4, 31 - 8 * (i % 4), 8, .ro, 0⟩
def LTX_FIR (b i : Nat) : Fld := ⟨0x07, 16 + 4 * b + i / 4, 31 - 8 * (i % 4), 8, .rw, if i = 3 then 0x30 else 0⟩
def LTX_PD (b i : Nat) : Fld := ⟨0x07, 64 + 16 * b + i / 4, 31 - 8 * (i % 4), 8, .rw, 0⟩

/-! Block LRX (0x08): R190 to R203. -/

def blkLRX : Nat := 0x08
def LRX_CTRL_FAST_EN : Fld := ⟨0x08, 0, 8, 1, .rw, 1⟩
def LRX_CTRL_FB_SUGGEST : Fld := ⟨0x08, 0, 7, 1, .rw, 1⟩
def LRX_CTRL_DFE_AD : Fld := ⟨0x08, 0, 6, 1, .rw, 1⟩
def LRX_CTRL_DFE_EN : Fld := ⟨0x08, 0, 5, 1, .rw, 1⟩
def LRX_CTRL_NLE_AD : Fld := ⟨0x08, 0, 4, 1, .rw, 1⟩
def LRX_CTRL_NLE_EN : Fld := ⟨0x08, 0, 3, 1, .rw, 1⟩
def LRX_CTRL_FFE_AD : Fld := ⟨0x08, 0, 2, 1, .rw, 1⟩
def LRX_STAT_ADC_RETIRED : Fld := ⟨0x08, 1, 12, 1, .w1c, 0⟩
def LRX_STAT_FAST_FAIL : Fld := ⟨0x08, 1, 11, 1, .w1c, 0⟩
def LRX_STAT_ACQ_TIMEOUT : Fld := ⟨0x08, 1, 10, 1, .w1c, 0⟩
def LRX_STAT_CAPTURE : Fld := ⟨0x08, 1, 9, 1, .w1c, 0⟩
def LRX_STAT_LOS_SEEN : Fld := ⟨0x08, 1, 8, 1, .w1c, 0⟩
def LRX_STAT_LOS : Fld := ⟨0x08, 1, 5, 1, .ro, 1⟩
def LRX_STAT_RX_LOCK : Fld := ⟨0x08, 1, 4, 1, .ro, 0⟩
def LRX_STAT_ACQ_STATE : Fld := ⟨0x08, 1, 3, 4, .ro, 0⟩
def LRX_FRONT_GAIN : Fld := ⟨0x08, 2, 31, 8, .ro, 0x78⟩
def LRX_FRONT_POWER : Fld := ⟨0x08, 2, 23, 8, .ro, 0xFF⟩
def LRX_FRONT_CAP_THR : Fld := ⟨0x08, 2, 11, 4, .rw, 3⟩
def LRX_FRONT_LOS_THR : Fld := ⟨0x08, 2, 4, 5, .rw, 0x18⟩
def LRX_TIMING_FREQ_OFS : Fld := ⟨0x08, 3, 31, 16, .ro, 0⟩
def LRX_TIMING_BW : Fld := ⟨0x08, 3, 1, 2, .rw, 2⟩
def LRX_ADC_RETIRED : Fld := ⟨0x08, 4, 23, 7, .ro, 0x7F⟩
def LRX_ADC_SPARE : Fld := ⟨0x08, 4, 16, 7, .ro, 0x40⟩
def LRX_ADC_DEGRADED : Fld := ⟨0x08, 4, 4, 1, .ro, 0⟩
def LRX_ADC_NO_SPARE : Fld := ⟨0x08, 4, 3, 1, .ro, 0⟩
def LRX_ADC_ROT_EN : Fld := ⟨0x08, 4, 2, 1, .rw, 1⟩
def LRX_ADC_ROT_PERIOD : Fld := ⟨0x08, 4, 1, 2, .rw, 1⟩
def LRX_FADE_CTRL_REQ : Fld := ⟨0x08, 5, 7, 1, .wo, 0⟩
def LRX_FADE_CTRL_POLICY : Fld := ⟨0x08, 5, 6, 1, .rw, 0⟩
def LRX_FADE_CTRL_REQ_BANK : Fld := ⟨0x08, 5, 5, 2, .rw, 0⟩
def LRX_FADE_CTRL_LEN : Fld := ⟨0x08, 5, 2, 3, .rw, 4⟩
def LRX_FADE_STAT_PROGRESS : Fld := ⟨0x08, 6, 29, 14, .ro, 0⟩
def LRX_FADE_STAT_QUEUED : Fld := ⟨0x08, 6, 7, 1, .ro, 0⟩
def LRX_FADE_STAT_Q_BANK : Fld := ⟨0x08, 6, 6, 2, .ro, 0⟩
def LRX_FADE_STAT_FADING : Fld := ⟨0x08, 6, 4, 1, .ro, 0⟩
def LRX_FADE_STAT_TGT : Fld := ⟨0x08, 6, 3, 2, .ro, 0⟩
def LRX_FADE_STAT_ACTIVE : Fld := ⟨0x08, 6, 1, 2, .ro, 0⟩
def LRX_ADAPT_CTRL_MU_FFE : Fld := ⟨0x08, 7, 23, 4, .rw, 8⟩
def LRX_ADAPT_CTRL_MU_FFE_ACQ : Fld := ⟨0x08, 7, 19, 4, .rw, 4⟩
def LRX_ADAPT_CTRL_MU_NLE : Fld := ⟨0x08, 7, 15, 4, .rw, 0xA⟩
def LRX_ADAPT_CTRL_MU_DFE : Fld := ⟨0x08, 7, 11, 4, .rw, 8⟩
def LRX_ADAPT_CTRL_LEAK : Fld := ⟨0x08, 7, 7, 4, .rw, 0⟩
def LRX_DFE_D1 : Fld := ⟨0x08, 8, 15, 8, .rw, 0⟩
def LRX_DFE_D2 : Fld := ⟨0x08, 8, 7, 8, .rw, 0⟩
def LRX_NLE_Q (i : Nat) : Fld := ⟨0x08, 9 + i / 2, 25 - 16 * (i % 2), 10, .rw, 0⟩
def LRX_SNR : Fld := ⟨0x08, 12, 31, 16, .ro, 0⟩
def LRX_SNR_SIGMA : Fld := ⟨0x08, 12, 15, 16, .ro, 0⟩
def LRX_PATH_CTRL_PIN : Fld := ⟨0x08, 13, 31, 8, .rw, 0⟩
def LRX_PATH_CTRL_CLEAR : Fld := ⟨0x08, 13, 23, 8, .wo, 0⟩
def LRX_PATH_CTRL_MAX_TRIES : Fld := ⟨0x08, 13, 7, 4, .rw, 8⟩
def LRX_PATH_CTRL_TRY_FRAMES : Fld := ⟨0x08, 13, 1, 2, .rw, 1⟩
def LRX_PATH_STAT_VALID : Fld := ⟨0x08, 14, 31, 8, .ro, 0⟩
def LRX_PATH_STAT_CUR_VALID : Fld := ⟨0x08, 14, 11, 1, .ro, 0⟩
def LRX_PATH_STAT_CURRENT : Fld := ⟨0x08, 14, 10, 3, .ro, 0⟩
def LRX_PATH_STAT_HIT_VALID : Fld := ⟨0x08, 14, 3, 1, .ro, 0⟩
def LRX_PATH_STAT_LAST_HIT : Fld := ⟨0x08, 14, 2, 3, .ro, 0⟩
def LRX_CB_F (b i : Nat) : Fld := ⟨0x08, 32 + 32 * b + i / 2, 27 - 16 * (i % 2), 12, .rw, if i = 10 then 0x200 else 0⟩
def LRX_CB_M (i : Nat) : Fld := ⟨0x08, 32 + 32 * i + 21, 5, 6, .rw, 0xA⟩

/-! Block LFR (0x09): R104, R106 to R108, R343. -/

def blkLFR : Nat := 0x09
def LFR_CFG_RX_PRECODE : Fld := ⟨0x09, 0, 2, 1, .rw, 0⟩
def LFR_CFG_TX_PRECODE : Fld := ⟨0x09, 0, 1, 1, .rw, 0⟩
def LFR_CFG_WITHHELD : Fld := ⟨0x09, 0, 0, 1, .ro, 0⟩
def LFR_TX_FC_HI_FC_HI : Fld := ⟨0x09, 1, 15, 16, .ro, 0⟩
def LFR_TX_FC_LO_FC_LO : Fld := ⟨0x09, 2, 31, 32, .ro, 0⟩
def LFR_RX_FC_HI_FC_HI : Fld := ⟨0x09, 3, 15, 16, .ro, 0⟩
def LFR_RX_FC_LO_FC_LO : Fld := ⟨0x09, 4, 31, 32, .ro, 0⟩
def LFR_OH_STAT_LANE_MISMATCH : Fld := ⟨0x09, 5, 4, 1, .w1c, 0⟩
def LFR_OH_STAT_PROFILE_MISMATCH : Fld := ⟨0x09, 5, 3, 1, .w1c, 0⟩
def LFR_OH_STAT_VER_MISMATCH : Fld := ⟨0x09, 5, 2, 1, .w1c, 0⟩
def LFR_OH_STAT_OH_CRC_FAIL : Fld := ⟨0x09, 5, 1, 1, .w1c, 0⟩
def LFR_OH_STAT_OH_DEC_FAIL : Fld := ⟨0x09, 5, 0, 1, .w1c, 0⟩
def LFR_STD_STAT_HOST_LOST : Fld := ⟨0x09, 6, 5, 1, .w1c, 0⟩
def LFR_STD_STAT_LOCK_LOST : Fld := ⟨0x09, 6, 4, 1, .w1c, 0⟩
def LFR_STD_STAT_PRBS_TX : Fld := ⟨0x09, 6, 3, 1, .ro, 0⟩
def LFR_STD_STAT_PRBS_HOST : Fld := ⟨0x09, 6, 2, 1, .ro, 0⟩
def LFR_STD_STAT_AM_LOCK : Fld := ⟨0x09, 6, 1, 1, .ro, 0⟩
def LFR_STD_STAT_INNER_LOCK : Fld := ⟨0x09, 6, 0, 1, .ro, 0⟩

/-! Block DEC (0x0A): R236 to R242. -/

def blkDEC : Nat := 0x0A
def DEC_MARK_CTRL_SLIP_WIN : Fld := ⟨0x0A, 0, 19, 4, .rw, 4⟩
def DEC_MARK_CTRL_LOSS_N : Fld := ⟨0x0A, 0, 15, 4, .rw, 4⟩
def DEC_MARK_CTRL_LOCK_N : Fld := ⟨0x0A, 0, 11, 4, .rw, 3⟩
def DEC_MARK_CTRL_TOL : Fld := ⟨0x0A, 0, 3, 4, .rw, 6⟩
def DEC_MARK_STAT_SLIP : Fld := ⟨0x0A, 1, 18, 1, .w1c, 0⟩
def DEC_MARK_STAT_LOCK_LOST : Fld := ⟨0x0A, 1, 17, 1, .w1c, 0⟩
def DEC_MARK_STAT_FLOCK : Fld := ⟨0x0A, 1, 16, 1, .ro, 0⟩
def DEC_MARK_STAT_MISS_RUN : Fld := ⟨0x0A, 1, 15, 4, .ro, 0⟩
def DEC_MARK_STAT_PILOT_LANE : Fld := ⟨0x0A, 1, 10, 3, .ro, 0⟩
def DEC_MARK_STAT_LAST_ERRS : Fld := ⟨0x0A, 1, 6, 7, .ro, 0x7F⟩
def DEC_POOL_CTRL_MAN_FENCE : Fld := ⟨0x0A, 2, 15, 8, .rw, 0⟩
def DEC_POOL_CTRL_CAP : Fld := ⟨0x0A, 2, 4, 5, .rw, 0xC⟩
def DEC_POOL_STAT_FENCED : Fld := ⟨0x0A, 3, 31, 8, .ro, 0⟩
def DEC_POOL_STAT_PERM : Fld := ⟨0x0A, 3, 23, 8, .ro, 0⟩
def DEC_POOL_STAT_IN_SERVICE : Fld := ⟨0x0A, 3, 15, 4, .ro, 8⟩
def DEC_POOL_STAT_CAP_REDUCED : Fld := ⟨0x0A, 3, 9, 1, .w1c, 0⟩
def DEC_POOL_STAT_CHK_FAIL : Fld := ⟨0x0A, 3, 8, 1, .w1c, 0⟩
def DEC_POOL_STAT_CAP_EFF : Fld := ⟨0x0A, 3, 4, 5, .ro, 0xC⟩
def DEC_FENCE_INFO_FENCE_COUNT : Fld := ⟨0x0A, 4, 31, 16, .ro, 0⟩
def DEC_FENCE_INFO_LAST_ENG : Fld := ⟨0x0A, 4, 15, 3, .ro, 0⟩
def DEC_FENCE_INFO_LAST_CAUSE : Fld := ⟨0x0A, 4, 9, 2, .ro, 0⟩
def DEC_DSK_CTRL_GUARD : Fld := ⟨0x0A, 5, 9, 10, .rw, 0⟩
def DEC_DSK_STAT_SLACK : Fld := ⟨0x0A, 6, 29, 14, .ro, 0⟩
def DEC_DSK_STAT_SLEWING : Fld := ⟨0x0A, 6, 4, 1, .ro, 0⟩
def DEC_DSK_STAT_RANGE : Fld := ⟨0x0A, 6, 3, 1, .w1c, 0⟩
def DEC_DSK_STAT_LATE : Fld := ⟨0x0A, 6, 2, 1, .w1c, 0⟩
def DEC_DSK_STAT_EXCLUDED : Fld := ⟨0x0A, 6, 1, 1, .ro, 0⟩
def DEC_DSK_STAT_ALIGNED : Fld := ⟨0x0A, 6, 0, 1, .ro, 0⟩

/-! Block TOP (0x0B): R266, R268, R269. -/

def blkTOP : Nat := 0x0B
def TOP_CFG_GROUP_MASK : Fld := ⟨0x0B, 0, 31, 8, .ro, 0⟩
def TOP_CFG_ROLE : Fld := ⟨0x0B, 0, 21, 2, .ro, 0⟩
def TOP_CFG_TOP_LANE : Fld := ⟨0x0B, 0, 18, 3, .ro, 0⟩
def TOP_CFG_PARENT_VALID : Fld := ⟨0x0B, 0, 11, 1, .ro, 0⟩
def TOP_CFG_TX_PARENT : Fld := ⟨0x0B, 0, 10, 3, .ro, 0⟩
def TOP_CTRL_RX_EN : Fld := ⟨0x0B, 1, 8, 1, .rw, 1⟩
def TOP_CTRL_COPY_HOLD : Fld := ⟨0x0B, 1, 6, 7, .rw, 0x40⟩
def TOP_STAT_INCL_MASK : Fld := ⟨0x0B, 2, 31, 8, .ro, 0⟩
def TOP_STAT_UNPROT : Fld := ⟨0x0B, 2, 7, 1, .ro, 0⟩
def TOP_STAT_ACTIVE : Fld := ⟨0x0B, 2, 6, 1, .ro, 0⟩
def TOP_STAT_REROUTED : Fld := ⟨0x0B, 2, 5, 1, .w1c, 0⟩
def TOP_STAT_OVERRUN : Fld := ⟨0x0B, 2, 4, 1, .w1c, 0⟩
def TOP_STAT_RX_LATE : Fld := ⟨0x0B, 2, 3, 1, .w1c, 0⟩
def TOP_STAT_TX_MISSING : Fld := ⟨0x0B, 2, 2, 1, .w1c, 0⟩
def TOP_STAT_DOUBLE : Fld := ⟨0x0B, 2, 1, 1, .w1c, 0⟩

/-! Block CIPH (0x0C): R317 to R321. -/

def blkCIPH : Nat := 0x0C
def CIPH_CFG_RESYNC_THR : Fld := ⟨0x0C, 0, 15, 8, .rw, 0x10⟩
def CIPH_CFG_MODE : Fld := ⟨0x0C, 0, 5, 2, .ro, 1⟩
def CIPH_CFG_PERMIT : Fld := ⟨0x0C, 0, 3, 1, .ro, 1⟩
def CIPH_CFG_POLICY : Fld := ⟨0x0C, 0, 1, 2, .ro, 0⟩
def CIPH_TX_STAT_EPOCH : Fld := ⟨0x0C, 1, 31, 16, .ro, 0⟩
def CIPH_TX_STAT_RACK_CD : Fld := ⟨0x0C, 1, 15, 13, .ro, 0⟩
def CIPH_TX_STAT_NEXT_VALID : Fld := ⟨0x0C, 1, 2, 1, .ro, 0⟩
def CIPH_TX_STAT_KEY_VALID : Fld := ⟨0x0C, 1, 1, 1, .ro, 0⟩
def CIPH_TX_STAT_AGREEING : Fld := ⟨0x0C, 1, 0, 1, .ro, 0⟩
def CIPH_RX_STAT_EPOCH : Fld := ⟨0x0C, 2, 31, 16, .ro, 0⟩
def CIPH_RX_STAT_FAIL_RUN : Fld := ⟨0x0C, 2, 15, 8, .ro, 0⟩
def CIPH_RX_STAT_NEXT_VALID : Fld := ⟨0x0C, 2, 3, 1, .ro, 0⟩
def CIPH_RX_STAT_KEY_VALID : Fld := ⟨0x0C, 2, 2, 1, .ro, 0⟩
def CIPH_RX_STAT_LAST_CLEAR : Fld := ⟨0x0C, 2, 1, 1, .ro, 0⟩
def CIPH_FLAGS_BYPASS : Fld := ⟨0x0C, 3, 8, 1, .w1c, 0⟩
def CIPH_FLAGS_SF_C : Fld := ⟨0x0C, 3, 7, 1, .ro, 0⟩
def CIPH_FLAGS_PIPE_FAIL : Fld := ⟨0x0C, 3, 6, 1, .w1c, 0⟩
def CIPH_FLAGS_EXPIRED : Fld := ⟨0x0C, 3, 5, 1, .w1c, 0⟩
def CIPH_FLAGS_RESYNC_SENT : Fld := ⟨0x0C, 3, 4, 1, .w1c, 0⟩
def CIPH_FLAGS_MISMATCH : Fld := ⟨0x0C, 3, 3, 1, .w1c, 0⟩
def CIPH_FLAGS_CLEAR_REFUSED : Fld := ⟨0x0C, 3, 2, 1, .w1c, 0⟩
def CIPH_FLAGS_EPOCH_UNKNOWN : Fld := ⟨0x0C, 3, 1, 1, .w1c, 0⟩
def CIPH_FLAGS_TAG_FAIL : Fld := ⟨0x0C, 3, 0, 1, .w1c, 0⟩
def CIPH_LIFE_TIME_LIMIT : Fld := ⟨0x0C, 4, 31, 16, .ro, 0x3C⟩
def CIPH_LIFE_FRAME_LOG2 : Fld := ⟨0x0C, 4, 5, 6, .ro, 0x1B⟩
def CIPH_TX_USED_USED : Fld := ⟨0x0C, 5, 31, 32, .ro, 0⟩
def CIPH_PIPE_TX_OK : Fld := ⟨0x0C, 6, 7, 4, .ro, 0xF⟩
def CIPH_PIPE_RX_OK : Fld := ⟨0x0C, 6, 3, 4, .ro, 0xF⟩

/-! Block KEY (0x0D): R322. -/

def blkKEY : Nat := 0x0D
def KEY_POLICY_RETAIN : Fld := ⟨0x0D, 0, 1, 1, .rw, 0⟩
def KEY_CRED_PSK_PRESENT : Fld := ⟨0x0D, 1, 7, 1, .ro, 0⟩
def KEY_CRED_CERT_PRESENT : Fld := ⟨0x0D, 1, 6, 1, .ro, 0⟩
def KEY_CRED_OWNER_VALID : Fld := ⟨0x0D, 1, 5, 1, .ro, 0⟩
def KEY_CRED_OWNER_SLOT : Fld := ⟨0x0D, 1, 1, 2, .ro, 0⟩
def KEY_AGREE_TX_ATTEMPTS : Fld := ⟨0x0D, 2, 31, 8, .ro, 0⟩
def KEY_AGREE_TX_LAST_REASON : Fld := ⟨0x0D, 2, 23, 8, .ro, 0⟩
def KEY_AGREE_TX_NEXT_DUE : Fld := ⟨0x0D, 2, 7, 8, .ro, 0⟩
def KEY_AGREE_RX_ATTEMPTS : Fld := ⟨0x0D, 3, 31, 8, .ro, 0⟩
def KEY_AGREE_RX_LAST_REASON : Fld := ⟨0x0D, 3, 23, 8, .ro, 0⟩

/-! Block MGMT (0x0E): R449 to R451. -/

def blkMGMT : Nat := 0x0E
def MGMT_CTRL_LPI_IDLE : Fld := ⟨0x0E, 0, 23, 8, .rw, 0x64⟩
def MGMT_CTRL_FEC_ERR_PCS : Fld := ⟨0x0E, 0, 4, 1, .rw, 0⟩
def MGMT_CTRL_EEE_EN : Fld := ⟨0x0E, 0, 3, 1, .rw, 0⟩
def MGMT_CTRL_FEC_EN : Fld := ⟨0x0E, 0, 2, 1, .rw, 0⟩
def MGMT_CTRL_MODE : Fld := ⟨0x0E, 0, 1, 1, .rw, 0⟩
def MGMT_CTRL_RESTART : Fld := ⟨0x0E, 0, 0, 1, .wo, 0⟩
def MGMT_STAT_TRAIN_FAILS : Fld := ⟨0x0E, 1, 31, 8, .ro, 0⟩
def MGMT_STAT_BACKOFF : Fld := ⟨0x0E, 1, 23, 8, .ro, 0⟩
def MGMT_STAT_LINK_LOST : Fld := ⟨0x0E, 1, 9, 1, .w1c, 0⟩
def MGMT_STAT_TRAIN_FAIL : Fld := ⟨0x0E, 1, 8, 1, .w1c, 0⟩
def MGMT_STAT_ON_PRESET : Fld := ⟨0x0E, 1, 7, 1, .ro, 0⟩
def MGMT_STAT_FEC_LOCK : Fld := ⟨0x0E, 1, 6, 1, .ro, 0⟩
def MGMT_STAT_LPI_RX : Fld := ⟨0x0E, 1, 5, 1, .ro, 0⟩
def MGMT_STAT_LPI_TX : Fld := ⟨0x0E, 1, 4, 1, .ro, 0⟩
def MGMT_STAT_BLOCK_LOCK : Fld := ⟨0x0E, 1, 3, 1, .ro, 0⟩
def MGMT_STAT_STATE : Fld := ⟨0x0E, 1, 1, 2, .ro, 0⟩
def MGMT_TX_PRESET_POST : Fld := ⟨0x0E, 2, 14, 5, .rw, 6⟩
def MGMT_TX_PRESET_MAIN : Fld := ⟨0x0E, 2, 9, 5, .rw, 0x1C⟩
def MGMT_TX_PRESET_PRE : Fld := ⟨0x0E, 2, 4, 5, .rw, 2⟩
def MGMT_MAC_HI : Fld := ⟨0x0E, 3, 15, 16, .ro, 0⟩
def MGMT_MAC_LO : Fld := ⟨0x0E, 4, 31, 32, .ro, 0⟩

/-! Block FAB (0x0F): R452. -/

def blkFAB : Nat := 0x0F
def FAB_NODE : Fld := ⟨0x0F, 0, 28, 13, .ro, 0⟩
def FAB_NODE_CONFLICT : Fld := ⟨0x0F, 0, 0, 1, .w1c, 0⟩
def FAB_CFG_HELLO_INT : Fld := ⟨0x0F, 1, 23, 8, .rw, 0xA⟩
def FAB_CFG_DEAD_MULT : Fld := ⟨0x0F, 1, 15, 8, .rw, 3⟩
def FAB_CFG_LEAF : Fld := ⟨0x0F, 1, 0, 1, .rw, 0⟩
def FAB_STAT_ROOT : Fld := ⟨0x0F, 2, 28, 13, .ro, 0⟩
def FAB_STAT_ROOT_HOPS : Fld := ⟨0x0F, 2, 15, 4, .ro, 0⟩
def FAB_STAT_UPLINK : Fld := ⟨0x0F, 2, 11, 2, .ro, 3⟩
def FAB_STAT_UP_LANE : Fld := ⟨0x0F, 2, 9, 3, .ro, 0⟩
def FAB_STAT_TABLE_FULL : Fld := ⟨0x0F, 2, 1, 1, .w1c, 0⟩
def FAB_STAT_HOP_DROP : Fld := ⟨0x0F, 2, 0, 1, .w1c, 0⟩
def FAB_INBAND_UP_MASK : Fld := ⟨0x0F, 3, 31, 8, .ro, 0⟩
def FAB_INBAND_SEG_LOST : Fld := ⟨0x0F, 3, 15, 8, .w1c, 0⟩

/-! Block DACB (0x10): R548. -/

def blkDACB : Nat := 0x10
def DACB_CTRL_CLEAR_SEEN : Fld := ⟨0x10, 0, 2, 1, .w1c, 0⟩
def DACB_CTRL_CLR_N_LOW : Fld := ⟨0x10, 0, 1, 1, .ro, 0⟩
def DACB_CTRL_SW_CLR : Fld := ⟨0x10, 0, 0, 1, .rw, 0⟩
def DACB_CFG_RANGE (n : Nat) : Fld := ⟨0x10, 16 + 8 * n, 29, 2, .rw, 0⟩
def DACB_CFG_PARK (n : Nat) : Fld := ⟨0x10, 16 + 8 * n, 27, 12, .rw, 0⟩
def DACB_CFG_CLEAR (n : Nat) : Fld := ⟨0x10, 16 + 8 * n, 11, 12, .rw, 0⟩
def DACB_OUT_NOW (n : Nat) : Fld := ⟨0x10, 17 + 8 * n, 27, 12, .ro, 0⟩
def DACB_OUT_CODE (n : Nat) : Fld := ⟨0x10, 17 + 8 * n, 11, 12, .rw, 0⟩
def DACB_QUEUE_PUSH (n : Nat) : Fld := ⟨0x10, 18 + 8 * n, 11, 12, .wo, 0⟩
def DACB_STAT_SC (n : Nat) : Fld := ⟨0x10, 19 + 8 * n, 4, 1, .w1c, 0⟩
def DACB_STAT_SC_NOW (n : Nat) : Fld := ⟨0x10, 19 + 8 * n, 3, 1, .ro, 0⟩
def DACB_STAT_PARKING (n : Nat) : Fld := ⟨0x10, 19 + 8 * n, 2, 1, .ro, 0⟩
def DACB_STAT_CLEARED (n : Nat) : Fld := ⟨0x10, 19 + 8 * n, 0, 1, .ro, 0⟩
def DACB_WAVE_SHAPE (n : Nat) : Fld := ⟨0x10, 20 + 8 * n, 31, 3, .rw, 0⟩
def DACB_WAVE_SPAN (n : Nat) : Fld := ⟨0x10, 20 + 8 * n, 27, 12, .rw, 0⟩
def DACB_WAVE_OFFSET (n : Nat) : Fld := ⟨0x10, 20 + 8 * n, 11, 12, .rw, 0⟩
def DACB_RATE (n : Nat) : Fld := ⟨0x10, 21 + 8 * n, 31, 32, .rw, 0⟩
def DACB_PHASE_REL_PHASE (n : Nat) : Fld := ⟨0x10, 22 + 8 * n, 31, 32, .rw, 0⟩
def DACB_EVT_POINT (n : Nat) : Fld := ⟨0x10, 23 + 8 * n, 15, 16, .rw, 0xFFFF⟩

/-! Block MADC (0x11): R549. -/

def blkMADC : Nat := 0x11
def MADC_CTRL_SEQ_LEN (n : Nat) : Fld := ⟨0x11, 16 + 16 * n, 31, 4, .rw, 0⟩
def MADC_CTRL_PRESET (n : Nat) : Fld := ⟨0x11, 16 + 16 * n, 25, 2, .rw, 1⟩
def MADC_CTRL_TRIG_SRC (n : Nat) : Fld := ⟨0x11, 16 + 16 * n, 18, 3, .rw, 7⟩
def MADC_CTRL_DELAY (n : Nat) : Fld := ⟨0x11, 16 + 16 * n, 15, 16, .rw, 0⟩
def MADC_TIMER_PERIOD (n : Nat) : Fld := ⟨0x11, 17 + 16 * n, 31, 32, .rw, 0x2800⟩
def MADC_NATIVE_INPUT (n : Nat) : Fld := ⟨0x11, 18 + 16 * n, 19, 4, .rw, 0⟩
def MADC_NATIVE_GAIN (n : Nat) : Fld := ⟨0x11, 18 + 16 * n, 10, 3, .rw, 0⟩
def MADC_NATIVE_TS (n : Nat) : Fld := ⟨0x11, 18 + 16 * n, 7, 8, .rw, 0x10⟩
def MADC_INJ_EN (n : Nat) : Fld := ⟨0x11, 19 + 16 * n, 31, 1, .rw, 0⟩
def MADC_INJ_START (n : Nat) : Fld := ⟨0x11, 19 + 16 * n, 30, 1, .wo, 0⟩
def MADC_INJ_SRC (n : Nat) : Fld := ⟨0x11, 19 + 16 * n, 29, 2, .rw, 0⟩
def MADC_INJ_PRESET (n : Nat) : Fld := ⟨0x11, 19 + 16 * n, 27, 2, .rw, 0⟩
def MADC_INJ_GAIN (n : Nat) : Fld := ⟨0x11, 19 + 16 * n, 25, 3, .rw, 0⟩
def MADC_INJ_INPUT (n : Nat) : Fld := ⟨0x11, 19 + 16 * n, 22, 4, .rw, 0⟩
def MADC_INJ_DELAY (n : Nat) : Fld := ⟨0x11, 19 + 16 * n, 15, 16, .rw, 0⟩
def MADC_INJ_RES_NEW (n : Nat) : Fld := ⟨0x11, 20 + 16 * n, 25, 1, .rc, 0⟩
def MADC_INJ_RES_OVERRANGE (n : Nat) : Fld := ⟨0x11, 20 + 16 * n, 24, 1, .ro, 0⟩
def MADC_INJ_RES_VALUE (n : Nat) : Fld := ⟨0x11, 20 + 16 * n, 23, 24, .ro, 0⟩
def MADC_STAT_REG_OVR (n : Nat) : Fld := ⟨0x11, 21 + 16 * n, 31, 8, .ro, 0⟩
def MADC_STAT_INJ_OVR (n : Nat) : Fld := ⟨0x11, 21 + 16 * n, 23, 8, .ro, 0⟩
def MADC_STAT_FIFO_LOST (n : Nat) : Fld := ⟨0x11, 21 + 16 * n, 12, 1, .w1c, 0⟩
def MADC_STAT_CAL_FAIL (n : Nat) : Fld := ⟨0x11, 21 + 16 * n, 11, 1, .w1c, 0⟩
def MADC_TESTDAC_CONNECT (n : Nat) : Fld := ⟨0x11, 23 + 16 * n, 10, 1, .rw, 0⟩
def MADC_TESTDAC_CODE (n : Nat) : Fld := ⟨0x11, 23 + 16 * n, 9, 10, .rw, 0⟩
def MADC_CAL_OFS (b i : Nat) : Fld := ⟨0x11, 24 + 16 * b + i, 31, 16, .rw, 0⟩
def MADC_CAL_GAIN (b i : Nat) : Fld := ⟨0x11, 24 + 16 * b + i, 15, 16, .rw, 0x8000⟩
def MADC_SEQ_INPUT (b i : Nat) : Fld := ⟨0x11, 64 + 16 * b + i, 19, 4, .rw, 0⟩
def MADC_SEQ_GAIN (b i : Nat) : Fld := ⟨0x11, 64 + 16 * b + i, 10, 3, .rw, 0⟩
def MADC_SEQ_TS (b i : Nat) : Fld := ⟨0x11, 64 + 16 * b + i, 7, 8, .rw, 0x10⟩

/-! Block SAFE (0x12): R575. -/

def blkSAFE : Nat := 0x12
def SAFE_CTRL_FORCE_LDIS : Fld := ⟨0x12, 0, 0, 1, .rw, 0⟩
def SAFE_STAT_TRIP_CAUSE : Fld := ⟨0x12, 1, 19, 4, .ro, 0⟩
def SAFE_STAT_LDIS_STUCK : Fld := ⟨0x12, 1, 9, 1, .w1c, 0⟩
def SAFE_STAT_MON_FAULT : Fld := ⟨0x12, 1, 8, 1, .ro, 0⟩
def SAFE_STAT_SFD_ALARM : Fld := ⟨0x12, 1, 7, 1, .w1c, 0⟩
def SAFE_STAT_LOCKSTEP_SEEN : Fld := ⟨0x12, 1, 6, 1, .w1c, 0⟩
def SAFE_STAT_CMPB_OK : Fld := ⟨0x12, 1, 5, 1, .ro, 0⟩
def SAFE_STAT_CMPA_OK : Fld := ⟨0x12, 1, 4, 1, .ro, 0⟩
def SAFE_STAT_LDIS_PIN : Fld := ⟨0x12, 1, 3, 1, .ro, 0⟩
def SAFE_STAT_TRIPPED : Fld := ⟨0x12, 1, 2, 1, .ro, 0⟩
def SAFE_STAT_ARMED : Fld := ⟨0x12, 1, 1, 1, .ro, 0⟩
def SAFE_LIMIT_VALID : Fld := ⟨0x12, 2, 31, 1, .ro, 0⟩
def SAFE_LIMIT_INPUT : Fld := ⟨0x12, 2, 27, 4, .ro, 0xC⟩
def SAFE_LIMIT : Fld := ⟨0x12, 2, 23, 24, .ro, 0⟩
def SAFE_LAST_VALID : Fld := ⟨0x12, 3, 25, 1, .ro, 0⟩
def SAFE_LAST_CONV : Fld := ⟨0x12, 3, 24, 1, .ro, 0⟩
def SAFE_LAST_VALUE : Fld := ⟨0x12, 3, 23, 24, .ro, 0⟩
def SAFE_ECC_CORR : Fld := ⟨0x12, 4, 31, 16, .ro, 0⟩
def SAFE_ECC_UNCORR : Fld := ⟨0x12, 4, 15, 16, .ro, 0⟩

/-! Block BIST (0x13): R576. -/

def blkBIST : Nat := 0x13
def BIST_STAT_RUNNING : Fld := ⟨0x13, 0, 28, 1, .ro, 0⟩
def BIST_STAT_VERDICT : Fld := ⟨0x13, 0, 27, 2, .ro, 3⟩
def BIST_STAT_COVER : Fld := ⟨0x13, 0, 25, 10, .ro, 0⟩
def BIST_STAT_DURATION : Fld := ⟨0x13, 0, 15, 16, .ro, 0⟩
def BIST_FAILED_ITEMS : Fld := ⟨0x13, 1, 10, 11, .ro, 0⟩
def BIST_AGE_HOURS : Fld := ⟨0x13, 2, 31, 32, .ro, 0xFFFFFFFF⟩
def BIST_SLICE_PASSED : Fld := ⟨0x13, 3, 31, 16, .ro, 0⟩
def BIST_SLICE_FAILED : Fld := ⟨0x13, 3, 15, 16, .ro, 0⟩

/-! Block CNT (0x14): R600. -/

def blkCNT : Nat := 0x14
def CNT_CTRL_CLEAR_ALL : Fld := ⟨0x14, 0, 0, 1, .wo, 0⟩
def CNT_SEL_INDEX : Fld := ⟨0x14, 1, 7, 8, .rw, 0⟩
def CNT_LAT_HI_STICKY : Fld := ⟨0x14, 3, 31, 1, .ro, 0⟩
def CNT_LAT_HI_VAL_HI : Fld := ⟨0x14, 3, 15, 16, .ro, 0⟩
def CNT_WR_LO : Fld := ⟨0x14, 4, 31, 32, .rw, 0⟩
def CNT_WR_HI : Fld := ⟨0x14, 5, 15, 16, .wo, 0⟩
def CNT_STAT_TAG_FULL_SEEN : Fld := ⟨0x14, 6, 1, 1, .w1c, 0⟩
def CNT_STAT_SKIPPED : Fld := ⟨0x14, 6, 0, 1, .w1c, 0⟩

/-! Block EVT (0x15): R601. -/

def blkEVT : Nat := 0x15
def EVT_EN0_EN : Fld := ⟨0x15, 0, 31, 32, .rw, 0xFFFFFFFF⟩
def EVT_EN1_EN : Fld := ⟨0x15, 1, 31, 32, .rw, 0xFFFFFFFF⟩
def EVT_PKG_EN : Fld := ⟨0x15, 2, 16, 17, .rw, 0x1FFFF⟩
def EVT_STAT_LAST : Fld := ⟨0x15, 3, 5, 6, .ro, 0⟩

/-! Block MBX (0x16): R490. -/

def blkMBX : Nat := 0x16
def MBX_EPOCH : Fld := ⟨0x16, 0, 7, 8, .ro, 1⟩
def MBX_STAT_PURGED : Fld := ⟨0x16, 1, 23, 8, .ro, 0⟩
def MBX_STAT_DRAIN_OWED : Fld := ⟨0x16, 1, 3, 1, .ro, 0⟩
def MBX_STAT_MUTUAL_FULL : Fld := ⟨0x16, 1, 2, 1, .w1c, 0⟩
def MBX_STAT_SEC_VIOL : Fld := ⟨0x16, 1, 1, 1, .w1c, 0⟩
def MBX_STAT_DOMAIN_OFF_SEEN : Fld := ⟨0x16, 1, 0, 1, .w1c, 0⟩

/-! Block NVM (0x17): R628. -/

def blkNVM : Nat := 0x17
def NVM_STAT_VALID : Fld := ⟨0x17, 0, 31, 8, .ro, 0⟩
def NVM_STAT_PREF_VALID : Fld := ⟨0x17, 0, 19, 1, .ro, 0⟩
def NVM_STAT_PREFERRED : Fld := ⟨0x17, 0, 18, 3, .ro, 0⟩
def NVM_STAT_BOOT_SRC : Fld := ⟨0x17, 0, 15, 2, .ro, 2⟩
def NVM_STAT_BOOT_SLOT : Fld := ⟨0x17, 0, 13, 3, .ro, 0⟩
def NVM_STAT_COMMITTING : Fld := ⟨0x17, 0, 3, 1, .ro, 0⟩
def NVM_STAT_ADJUSTED : Fld := ⟨0x17, 0, 2, 1, .w1c, 0⟩
def NVM_STAT_REPAIRED : Fld := ⟨0x17, 0, 1, 1, .w1c, 0⟩
def NVM_STAT_SKIPPED : Fld := ⟨0x17, 0, 0, 1, .w1c, 0⟩
def NVM_COMMITS_COUNT : Fld := ⟨0x17, 1, 31, 32, .ro, 0⟩
def NVM_AUDIT_NEXT_SEQ : Fld := ⟨0x17, 2, 31, 32, .ro, 0⟩
def NVM_FW_ACTIVE_VERSION : Fld := ⟨0x17, 3, 31, 32, .ro, 0⟩
def NVM_FW_STAT_ACT_SECVER : Fld := ⟨0x17, 4, 31, 6, .ro, 0⟩
def NVM_FW_STAT_SBY_SECVER : Fld := ⟨0x17, 4, 25, 6, .ro, 0⟩
def NVM_FW_STAT_REVERTED : Fld := ⟨0x17, 4, 2, 1, .w1c, 0⟩
def NVM_FW_STAT_TRIAL : Fld := ⟨0x17, 4, 1, 1, .ro, 0⟩
def NVM_FW_STAT_SBY_VALID : Fld := ⟨0x17, 4, 0, 1, .ro, 0⟩

/-! Block FUSE (0x18): R629. -/

def blkFUSE : Nat := 0x18
def FUSE_STAT_LIFECYCLE : Fld := ⟨0x18, 0, 31, 2, .ro, 0⟩
def FUSE_STAT_SECVER : Fld := ⟨0x18, 0, 29, 6, .ro, 0⟩
def FUSE_STAT_PERMIT : Fld := ⟨0x18, 0, 23, 1, .ro, 0⟩
def FUSE_STAT_IDENTITY_SET : Fld := ⟨0x18, 0, 22, 1, .ro, 0⟩
def FUSE_STAT_OWNER_VALID : Fld := ⟨0x18, 0, 21, 1, .ro, 0⟩
def FUSE_STAT_OWNER_SLOT : Fld := ⟨0x18, 0, 20, 2, .ro, 0⟩
def FUSE_STAT_SLOTS_LEFT : Fld := ⟨0x18, 0, 18, 3, .ro, 4⟩
def FUSE_STAT_CIPHER : Fld := ⟨0x18, 0, 15, 1, .ro, 0⟩
def FUSE_CEIL_WRITES_LEFT (n : Nat) : Fld := ⟨0x18, 1 + 1 * n, 18, 3, .ro, 4⟩
def FUSE_CEIL_CEILING (n : Nat) : Fld := ⟨0x18, 1 + 1 * n, 11, 12, .ro, 0⟩
def FUSE_PKG_ID_HI_ID_HI : Fld := ⟨0x18, 9, 31, 32, .ro, 0⟩
def FUSE_PKG_ID_LO_ID_LO : Fld := ⟨0x18, 10, 31, 32, .ro, 0⟩

/-! Block PATG (0x19): R416. -/

def blkPATG : Nat := 0x19
def PATG_CFG_LOOPBACK : Fld := ⟨0x19, 0, 14, 3, .rw, 0⟩
def PATG_CFG_HOST_RX1 : Fld := ⟨0x19, 0, 11, 2, .rw, 0⟩
def PATG_CFG_HOST_TX1 : Fld := ⟨0x19, 0, 9, 2, .rw, 0⟩
def PATG_CFG_HOST_RX0 : Fld := ⟨0x19, 0, 7, 2, .rw, 0⟩
def PATG_CFG_HOST_TX0 : Fld := ⟨0x19, 0, 5, 2, .rw, 0⟩
def PATG_CFG_LINE_RX : Fld := ⟨0x19, 0, 3, 2, .rw, 0⟩
def PATG_CFG_LINE_TX : Fld := ⟨0x19, 0, 1, 2, .rw, 0⟩
def PATG_SEL_CHECKER : Fld := ⟨0x19, 1, 1, 2, .rw, 0⟩
def PATG_BITS_HI : Fld := ⟨0x19, 3, 31, 32, .ro, 0⟩
def PATG_ERR_HI : Fld := ⟨0x19, 5, 31, 32, .ro, 0⟩
def PATG_STAT_CAP_DONE : Fld := ⟨0x19, 6, 7, 1, .ro, 0⟩
def PATG_STAT_CAP_ARMED : Fld := ⟨0x19, 6, 6, 1, .ro, 0⟩
def PATG_STAT_INJ_BUSY : Fld := ⟨0x19, 6, 5, 1, .ro, 0⟩
def PATG_STAT_LOCK_HRX1 : Fld := ⟨0x19, 6, 2, 1, .ro, 0⟩
def PATG_STAT_LOCK_HRX0 : Fld := ⟨0x19, 6, 1, 1, .ro, 0⟩
def PATG_STAT_LOCK_LRX : Fld := ⟨0x19, 6, 0, 1, .ro, 0⟩

/-- Every stored field of block DIE. -/
def rowsDIE : List Fld :=
    [DIE_STAT_FW_VALID, DIE_TEMP_TJ]

/-- Every stored field of block PWR. -/
def rowsPWR : List Fld :=
    [PWR_STATE_WAKE_SRC, PWR_STATE_CAUSE, PWR_STATE_TARGET, PWR_STATE_TRANS, PWR_STATE_CUR, PWR_POLICY_LINE_TRAFFIC, PWR_POLICY_GROUP, PWR_BUDGET, PWR_RETAIN_MASK_HI, PWR_RETAIN_MASK_B4, PWR_RETAIN_MASK_LO, PWR_WAKE_EN_MRX, PWR_WAKE_EN_HRX, PWR_WAKE_EN_TIMER, PWR_WAKE_EN_CMP1, PWR_WAKE_EN_CMP0, PWR_WAKE_TIMER_PERIODS]
    ++ ((List.range 2).map fun n => PWR_WAKE_CMP_TRIPPED n)
    ++ ((List.range 2).map fun n => PWR_WAKE_CMP_ABOVE n)
    ++ ((List.range 2).map fun n => PWR_WAKE_CMP_AIN_SEL n)
    ++ ((List.range 2).map fun n => PWR_WAKE_CMP_HYST n)
    ++ ((List.range 2).map fun n => PWR_WAKE_CMP_THR n)

/-- Every stored field of block CLK. -/
def rowsCLK : List Fld :=
    [CLK_PLL_STAT_REF_LOST, CLK_PLL_STAT_UNLOCK_SEEN, CLK_PLL_STAT_REF_OK, CLK_PLL_STAT_SYS_LOCK, CLK_PLL_STAT_MGMT_LOCK, CLK_PLL_STAT_HOST_LOCK, CLK_PLL_STAT_LINE_LOCK, CLK_SLOW_RATIO, CLK_SLOW_XTAL_FAIL, CLK_SLOW_CAL_VALID, CLK_SLOW_SRC, CLK_TIME_HI_NS_HI, CLK_TIME_FRAC_EXTRAPOLATED, CLK_TIME_FRAC_FRAC, CLK_INTERVAL_SYNC_EN, CLK_INTERVAL_INTERVAL_US, CLK_SYNC_STAT_IGNORED, CLK_SYNC_STAT_SLEWING, CLK_SYNC_STAT_MOVED, CLK_SYNC_STAT_IGN_SEEN, CLK_SYNC_STAT_SYNC_SEEN]

/-- Every stored field of block SB. -/
def rowsSB : List Fld :=
    [SB_CTRL_STARVE_THR, SB_STAT_HEALTHY, SB_STAT_SUCC_VALID, SB_STAT_SUCCESSOR, SB_STAT_LEADER, SB_STAT_LOAD_HIGH, SB_STAT_STARVED, SB_STAT_MISSED, SB_STAT_CRC_ERR, SB_DEADLINE0_CLASS0, SB_DEADLINE0_CLASS1, SB_DEADLINE0_CLASS2, SB_DEADLINE0_CLASS3, SB_DEADLINE1_CLASS4, SB_DEADLINE1_CLASS5, SB_DEADLINE1_CLASS6, SB_DEADLINE1_CLASS7, SB_LOAD_BE_LOAD, SB_LOAD_DL_LOAD]

/-- Every stored field of block D2D. -/
def rowsD2D : List Fld :=
    [D2D_PORT_STAT_DOWN_SEEN, D2D_PORT_STAT_UP]

/-- Every stored field of block HOST. -/
def rowsHOST : List Fld :=
    [HOST_PORT_CFG_BASE, HOST_PORT_CFG_RM_EN, HOST_PORT_CFG_CLK_SRC, HOST_PORT_CFG_USED, HOST_PORT_CFG_WIDTH]
    ++ ((List.range 2).map fun n => HOST_LANE_CTRL_TX_PRE n)
    ++ ((List.range 2).map fun n => HOST_LANE_CTRL_TX_POST n)
    ++ ((List.range 2).map fun n => HOST_LANE_CTRL_TX_AMP n)
    ++ ((List.range 2).map fun n => HOST_LANE_CTRL_TX_INV n)
    ++ ((List.range 2).map fun n => HOST_LANE_CTRL_RX_INV n)
    ++ ((List.range 2).map fun n => HOST_LANE_CTRL_IDLE n)
    ++ ((List.range 2).map fun n => HOST_LANE_STAT_SIG_LOST n)
    ++ ((List.range 2).map fun n => HOST_LANE_STAT_CDR_LOST n)
    ++ ((List.range 2).map fun n => HOST_LANE_STAT_AM_LOST n)
    ++ ((List.range 2).map fun n => HOST_LANE_STAT_ALIGN_LOST n)
    ++ ((List.range 2).map fun n => HOST_LANE_STAT_ALIGN_OK n)
    ++ ((List.range 2).map fun n => HOST_LANE_STAT_AM_LOCK n)
    ++ ((List.range 2).map fun n => HOST_LANE_STAT_CDR_LOCK n)
    ++ ((List.range 2).map fun n => HOST_LANE_STAT_SIG_DET n)
    ++ [HOST_RM_CTRL_HI_MARK, HOST_RM_CTRL_LO_MARK]
    ++ ((List.range 2).map fun n => HOST_RM_STAT_UNDER_L2H n)
    ++ ((List.range 2).map fun n => HOST_RM_STAT_OVER_L2H n)
    ++ ((List.range 2).map fun n => HOST_RM_STAT_UNDER_H2L n)
    ++ ((List.range 2).map fun n => HOST_RM_STAT_OVER_H2L n)

/-- Every stored field of block HFEC. -/
def rowsHFEC : List Fld :=
    [HFEC_CTRL_SER_THR]
    ++ ((List.range 2).map fun n => HFEC_STAT_OWNER n)
    ++ ((List.range 2).map fun n => HFEC_STAT_DEGRADED n)
    ++ ((List.range 2).map fun n => HFEC_STAT_DEGRADE_SEEN n)
    ++ ((List.range 2).map fun n => HFEC_STAT_UNCORR_SEEN n)
    ++ ((List.range 2).map fun n => HFEC_STAT_SLIP_SEEN n)

/-- Every stored field of block LTX. -/
def rowsLTX : List Fld :=
    [LTX_CTRL_FORCE, LTX_CTRL_PD_ACTIVE, LTX_CTRL_PD_EN, LTX_CTRL_FIR_ACTIVE, LTX_CTRL_PD_SWAP, LTX_CTRL_FIR_SWAP, LTX_STAT_FIR_REVERT, LTX_STAT_MASK_VIOL, LTX_STAT_CLIP, LTX_STAT_SQ_CAUSE, LTX_STAT_TX_STATE, LTX_DAC_CTRL_SWING, LTX_DAC_CTRL_SHAPE, LTX_DELAY_INT, LTX_DELAY_SLEW, LTX_DELAY_MODE, LTX_DELAY_BUSY, LTX_DELAY_FRAC, LTX_DELAY_NOW_INT, LTX_DELAY_NOW_FRAC, LTX_ADAPT_CTRL_EN, LTX_ADAPT_CTRL_TAP_MASK, LTX_ADAPT_CTRL_MIN_GAP, LTX_ADAPT_CTRL_GAIN, LTX_ADAPT_CTRL_MAIN_MIN, LTX_ADAPT_STAT_LAST_SEQ, LTX_ADAPT_STAT_HOLD, LTX_ADAPT_STAT_NO_FEEDBACK, LTX_ADAPT_STAT_PENDING, LTX_MASK_CTRL_ACTION, LTX_MASK_CTRL_VIOL_BANDS]
    ++ ((List.range 8).map fun i => LTX_MASK_LIM i)
    ++ ((List.range 8).map fun i => LTX_MASK_REL i)
    ++ ((List.range 2).flatMap fun b => (List.range 10).map fun i => LTX_FIR b i)
    ++ ((List.range 2).flatMap fun b => (List.range 64).map fun i => LTX_PD b i)

/-- Every stored field of block LRX. -/
def rowsLRX : List Fld :=
    [LRX_CTRL_FAST_EN, LRX_CTRL_FB_SUGGEST, LRX_CTRL_DFE_AD, LRX_CTRL_DFE_EN, LRX_CTRL_NLE_AD, LRX_CTRL_NLE_EN, LRX_CTRL_FFE_AD, LRX_STAT_ADC_RETIRED, LRX_STAT_FAST_FAIL, LRX_STAT_ACQ_TIMEOUT, LRX_STAT_CAPTURE, LRX_STAT_LOS_SEEN, LRX_STAT_LOS, LRX_STAT_RX_LOCK, LRX_STAT_ACQ_STATE, LRX_FRONT_GAIN, LRX_FRONT_POWER, LRX_FRONT_CAP_THR, LRX_FRONT_LOS_THR, LRX_TIMING_FREQ_OFS, LRX_TIMING_BW, LRX_ADC_RETIRED, LRX_ADC_SPARE, LRX_ADC_DEGRADED, LRX_ADC_NO_SPARE, LRX_ADC_ROT_EN, LRX_ADC_ROT_PERIOD, LRX_FADE_CTRL_REQ, LRX_FADE_CTRL_POLICY, LRX_FADE_CTRL_REQ_BANK, LRX_FADE_CTRL_LEN, LRX_FADE_STAT_PROGRESS, LRX_FADE_STAT_QUEUED, LRX_FADE_STAT_Q_BANK, LRX_FADE_STAT_FADING, LRX_FADE_STAT_TGT, LRX_FADE_STAT_ACTIVE, LRX_ADAPT_CTRL_MU_FFE, LRX_ADAPT_CTRL_MU_FFE_ACQ, LRX_ADAPT_CTRL_MU_NLE, LRX_ADAPT_CTRL_MU_DFE, LRX_ADAPT_CTRL_LEAK, LRX_DFE_D1, LRX_DFE_D2]
    ++ ((List.range 6).map fun i => LRX_NLE_Q i)
    ++ [LRX_SNR, LRX_SNR_SIGMA, LRX_PATH_CTRL_PIN, LRX_PATH_CTRL_CLEAR, LRX_PATH_CTRL_MAX_TRIES, LRX_PATH_CTRL_TRY_FRAMES, LRX_PATH_STAT_VALID, LRX_PATH_STAT_CUR_VALID, LRX_PATH_STAT_CURRENT, LRX_PATH_STAT_HIT_VALID, LRX_PATH_STAT_LAST_HIT]
    ++ ((List.range 4).flatMap fun b => (List.range 41).map fun i => LRX_CB_F b i)
    ++ ((List.range 4).map fun i => LRX_CB_M i)

/-- Every stored field of block LFR. -/
def rowsLFR : List Fld :=
    [LFR_CFG_RX_PRECODE, LFR_CFG_TX_PRECODE, LFR_CFG_WITHHELD, LFR_TX_FC_HI_FC_HI, LFR_TX_FC_LO_FC_LO, LFR_RX_FC_HI_FC_HI, LFR_RX_FC_LO_FC_LO, LFR_OH_STAT_LANE_MISMATCH, LFR_OH_STAT_PROFILE_MISMATCH, LFR_OH_STAT_VER_MISMATCH, LFR_OH_STAT_OH_CRC_FAIL, LFR_OH_STAT_OH_DEC_FAIL, LFR_STD_STAT_HOST_LOST, LFR_STD_STAT_LOCK_LOST, LFR_STD_STAT_PRBS_TX, LFR_STD_STAT_PRBS_HOST, LFR_STD_STAT_AM_LOCK, LFR_STD_STAT_INNER_LOCK]

/-- Every stored field of block DEC. -/
def rowsDEC : List Fld :=
    [DEC_MARK_CTRL_SLIP_WIN, DEC_MARK_CTRL_LOSS_N, DEC_MARK_CTRL_LOCK_N, DEC_MARK_CTRL_TOL, DEC_MARK_STAT_SLIP, DEC_MARK_STAT_LOCK_LOST, DEC_MARK_STAT_FLOCK, DEC_MARK_STAT_MISS_RUN, DEC_MARK_STAT_PILOT_LANE, DEC_MARK_STAT_LAST_ERRS, DEC_POOL_CTRL_MAN_FENCE, DEC_POOL_CTRL_CAP, DEC_POOL_STAT_FENCED, DEC_POOL_STAT_PERM, DEC_POOL_STAT_IN_SERVICE, DEC_POOL_STAT_CAP_REDUCED, DEC_POOL_STAT_CHK_FAIL, DEC_POOL_STAT_CAP_EFF, DEC_FENCE_INFO_FENCE_COUNT, DEC_FENCE_INFO_LAST_ENG, DEC_FENCE_INFO_LAST_CAUSE, DEC_DSK_CTRL_GUARD, DEC_DSK_STAT_SLACK, DEC_DSK_STAT_SLEWING, DEC_DSK_STAT_RANGE, DEC_DSK_STAT_LATE, DEC_DSK_STAT_EXCLUDED, DEC_DSK_STAT_ALIGNED]

/-- Every stored field of block TOP. -/
def rowsTOP : List Fld :=
    [TOP_CFG_GROUP_MASK, TOP_CFG_ROLE, TOP_CFG_TOP_LANE, TOP_CFG_PARENT_VALID, TOP_CFG_TX_PARENT, TOP_CTRL_RX_EN, TOP_CTRL_COPY_HOLD, TOP_STAT_INCL_MASK, TOP_STAT_UNPROT, TOP_STAT_ACTIVE, TOP_STAT_REROUTED, TOP_STAT_OVERRUN, TOP_STAT_RX_LATE, TOP_STAT_TX_MISSING, TOP_STAT_DOUBLE]

/-- Every stored field of block CIPH. -/
def rowsCIPH : List Fld :=
    [CIPH_CFG_RESYNC_THR, CIPH_CFG_MODE, CIPH_CFG_PERMIT, CIPH_CFG_POLICY, CIPH_TX_STAT_EPOCH, CIPH_TX_STAT_RACK_CD, CIPH_TX_STAT_NEXT_VALID, CIPH_TX_STAT_KEY_VALID, CIPH_TX_STAT_AGREEING, CIPH_RX_STAT_EPOCH, CIPH_RX_STAT_FAIL_RUN, CIPH_RX_STAT_NEXT_VALID, CIPH_RX_STAT_KEY_VALID, CIPH_RX_STAT_LAST_CLEAR, CIPH_FLAGS_BYPASS, CIPH_FLAGS_SF_C, CIPH_FLAGS_PIPE_FAIL, CIPH_FLAGS_EXPIRED, CIPH_FLAGS_RESYNC_SENT, CIPH_FLAGS_MISMATCH, CIPH_FLAGS_CLEAR_REFUSED, CIPH_FLAGS_EPOCH_UNKNOWN, CIPH_FLAGS_TAG_FAIL, CIPH_LIFE_TIME_LIMIT, CIPH_LIFE_FRAME_LOG2, CIPH_TX_USED_USED, CIPH_PIPE_TX_OK, CIPH_PIPE_RX_OK]

/-- Every stored field of block KEY. -/
def rowsKEY : List Fld :=
    [KEY_POLICY_RETAIN, KEY_CRED_PSK_PRESENT, KEY_CRED_CERT_PRESENT, KEY_CRED_OWNER_VALID, KEY_CRED_OWNER_SLOT, KEY_AGREE_TX_ATTEMPTS, KEY_AGREE_TX_LAST_REASON, KEY_AGREE_TX_NEXT_DUE, KEY_AGREE_RX_ATTEMPTS, KEY_AGREE_RX_LAST_REASON]

/-- Every stored field of block MGMT. -/
def rowsMGMT : List Fld :=
    [MGMT_CTRL_LPI_IDLE, MGMT_CTRL_FEC_ERR_PCS, MGMT_CTRL_EEE_EN, MGMT_CTRL_FEC_EN, MGMT_CTRL_MODE, MGMT_CTRL_RESTART, MGMT_STAT_TRAIN_FAILS, MGMT_STAT_BACKOFF, MGMT_STAT_LINK_LOST, MGMT_STAT_TRAIN_FAIL, MGMT_STAT_ON_PRESET, MGMT_STAT_FEC_LOCK, MGMT_STAT_LPI_RX, MGMT_STAT_LPI_TX, MGMT_STAT_BLOCK_LOCK, MGMT_STAT_STATE, MGMT_TX_PRESET_POST, MGMT_TX_PRESET_MAIN, MGMT_TX_PRESET_PRE, MGMT_MAC_HI, MGMT_MAC_LO]

/-- Every stored field of block FAB. -/
def rowsFAB : List Fld :=
    [FAB_NODE, FAB_NODE_CONFLICT, FAB_CFG_HELLO_INT, FAB_CFG_DEAD_MULT, FAB_CFG_LEAF, FAB_STAT_ROOT, FAB_STAT_ROOT_HOPS, FAB_STAT_UPLINK, FAB_STAT_UP_LANE, FAB_STAT_TABLE_FULL, FAB_STAT_HOP_DROP, FAB_INBAND_UP_MASK, FAB_INBAND_SEG_LOST]

/-- Every stored field of block DACB. -/
def rowsDACB : List Fld :=
    [DACB_CTRL_CLEAR_SEEN, DACB_CTRL_CLR_N_LOW, DACB_CTRL_SW_CLR]
    ++ ((List.range 6).map fun n => DACB_CFG_RANGE n)
    ++ ((List.range 6).map fun n => DACB_CFG_PARK n)
    ++ ((List.range 6).map fun n => DACB_CFG_CLEAR n)
    ++ ((List.range 6).map fun n => DACB_OUT_NOW n)
    ++ ((List.range 6).map fun n => DACB_OUT_CODE n)
    ++ ((List.range 6).map fun n => DACB_QUEUE_PUSH n)
    ++ ((List.range 6).map fun n => DACB_STAT_SC n)
    ++ ((List.range 6).map fun n => DACB_STAT_SC_NOW n)
    ++ ((List.range 6).map fun n => DACB_STAT_PARKING n)
    ++ ((List.range 6).map fun n => DACB_STAT_CLEARED n)
    ++ ((List.range 6).map fun n => DACB_WAVE_SHAPE n)
    ++ ((List.range 6).map fun n => DACB_WAVE_SPAN n)
    ++ ((List.range 6).map fun n => DACB_WAVE_OFFSET n)
    ++ ((List.range 6).map fun n => DACB_RATE n)
    ++ ((List.range 6).map fun n => DACB_PHASE_REL_PHASE n)
    ++ ((List.range 6).map fun n => DACB_EVT_POINT n)

/-- Every stored field of block MADC. -/
def rowsMADC : List Fld :=
    ((List.range 2).map fun n => MADC_CTRL_SEQ_LEN n)
    ++ ((List.range 2).map fun n => MADC_CTRL_PRESET n)
    ++ ((List.range 2).map fun n => MADC_CTRL_TRIG_SRC n)
    ++ ((List.range 2).map fun n => MADC_CTRL_DELAY n)
    ++ ((List.range 2).map fun n => MADC_TIMER_PERIOD n)
    ++ ((List.range 2).map fun n => MADC_NATIVE_INPUT n)
    ++ ((List.range 2).map fun n => MADC_NATIVE_GAIN n)
    ++ ((List.range 2).map fun n => MADC_NATIVE_TS n)
    ++ ((List.range 2).map fun n => MADC_INJ_EN n)
    ++ ((List.range 2).map fun n => MADC_INJ_START n)
    ++ ((List.range 2).map fun n => MADC_INJ_SRC n)
    ++ ((List.range 2).map fun n => MADC_INJ_PRESET n)
    ++ ((List.range 2).map fun n => MADC_INJ_GAIN n)
    ++ ((List.range 2).map fun n => MADC_INJ_INPUT n)
    ++ ((List.range 2).map fun n => MADC_INJ_DELAY n)
    ++ ((List.range 2).map fun n => MADC_INJ_RES_NEW n)
    ++ ((List.range 2).map fun n => MADC_INJ_RES_OVERRANGE n)
    ++ ((List.range 2).map fun n => MADC_INJ_RES_VALUE n)
    ++ ((List.range 2).map fun n => MADC_STAT_REG_OVR n)
    ++ ((List.range 2).map fun n => MADC_STAT_INJ_OVR n)
    ++ ((List.range 2).map fun n => MADC_STAT_FIFO_LOST n)
    ++ ((List.range 2).map fun n => MADC_STAT_CAL_FAIL n)
    ++ ((List.range 2).map fun n => MADC_TESTDAC_CONNECT n)
    ++ ((List.range 2).map fun n => MADC_TESTDAC_CODE n)
    ++ ((List.range 2).flatMap fun b => (List.range 5).map fun i => MADC_CAL_OFS b i)
    ++ ((List.range 2).flatMap fun b => (List.range 5).map fun i => MADC_CAL_GAIN b i)
    ++ ((List.range 2).flatMap fun b => (List.range 16).map fun i => MADC_SEQ_INPUT b i)
    ++ ((List.range 2).flatMap fun b => (List.range 16).map fun i => MADC_SEQ_GAIN b i)
    ++ ((List.range 2).flatMap fun b => (List.range 16).map fun i => MADC_SEQ_TS b i)

/-- Every stored field of block SAFE. -/
def rowsSAFE : List Fld :=
    [SAFE_CTRL_FORCE_LDIS, SAFE_STAT_TRIP_CAUSE, SAFE_STAT_LDIS_STUCK, SAFE_STAT_MON_FAULT, SAFE_STAT_SFD_ALARM, SAFE_STAT_LOCKSTEP_SEEN, SAFE_STAT_CMPB_OK, SAFE_STAT_CMPA_OK, SAFE_STAT_LDIS_PIN, SAFE_STAT_TRIPPED, SAFE_STAT_ARMED, SAFE_LIMIT_VALID, SAFE_LIMIT_INPUT, SAFE_LIMIT, SAFE_LAST_VALID, SAFE_LAST_CONV, SAFE_LAST_VALUE, SAFE_ECC_CORR, SAFE_ECC_UNCORR]

/-- Every stored field of block BIST. -/
def rowsBIST : List Fld :=
    [BIST_STAT_RUNNING, BIST_STAT_VERDICT, BIST_STAT_COVER, BIST_STAT_DURATION, BIST_FAILED_ITEMS, BIST_AGE_HOURS, BIST_SLICE_PASSED, BIST_SLICE_FAILED]

/-- Every stored field of block CNT. -/
def rowsCNT : List Fld :=
    [CNT_CTRL_CLEAR_ALL, CNT_SEL_INDEX, CNT_LAT_HI_STICKY, CNT_LAT_HI_VAL_HI, CNT_WR_LO, CNT_WR_HI, CNT_STAT_TAG_FULL_SEEN, CNT_STAT_SKIPPED]

/-- Every stored field of block EVT. -/
def rowsEVT : List Fld :=
    [EVT_EN0_EN, EVT_EN1_EN, EVT_PKG_EN, EVT_STAT_LAST]

/-- Every stored field of block MBX. -/
def rowsMBX : List Fld :=
    [MBX_EPOCH, MBX_STAT_PURGED, MBX_STAT_DRAIN_OWED, MBX_STAT_MUTUAL_FULL, MBX_STAT_SEC_VIOL, MBX_STAT_DOMAIN_OFF_SEEN]

/-- Every stored field of block NVM. -/
def rowsNVM : List Fld :=
    [NVM_STAT_VALID, NVM_STAT_PREF_VALID, NVM_STAT_PREFERRED, NVM_STAT_BOOT_SRC, NVM_STAT_BOOT_SLOT, NVM_STAT_COMMITTING, NVM_STAT_ADJUSTED, NVM_STAT_REPAIRED, NVM_STAT_SKIPPED, NVM_COMMITS_COUNT, NVM_AUDIT_NEXT_SEQ, NVM_FW_ACTIVE_VERSION, NVM_FW_STAT_ACT_SECVER, NVM_FW_STAT_SBY_SECVER, NVM_FW_STAT_REVERTED, NVM_FW_STAT_TRIAL, NVM_FW_STAT_SBY_VALID]

/-- Every stored field of block FUSE. -/
def rowsFUSE : List Fld :=
    [FUSE_STAT_LIFECYCLE, FUSE_STAT_SECVER, FUSE_STAT_PERMIT, FUSE_STAT_IDENTITY_SET, FUSE_STAT_OWNER_VALID, FUSE_STAT_OWNER_SLOT, FUSE_STAT_SLOTS_LEFT, FUSE_STAT_CIPHER]
    ++ ((List.range 8).map fun n => FUSE_CEIL_WRITES_LEFT n)
    ++ ((List.range 8).map fun n => FUSE_CEIL_CEILING n)
    ++ [FUSE_PKG_ID_HI_ID_HI, FUSE_PKG_ID_LO_ID_LO]

/-- Every stored field of block PATG. -/
def rowsPATG : List Fld :=
    [PATG_CFG_LOOPBACK, PATG_CFG_HOST_RX1, PATG_CFG_HOST_TX1, PATG_CFG_HOST_RX0, PATG_CFG_HOST_TX0, PATG_CFG_LINE_RX, PATG_CFG_LINE_TX, PATG_SEL_CHECKER, PATG_BITS_HI, PATG_ERR_HI, PATG_STAT_CAP_DONE, PATG_STAT_CAP_ARMED, PATG_STAT_INJ_BUSY, PATG_STAT_LOCK_HRX1, PATG_STAT_LOCK_HRX0, PATG_STAT_LOCK_LRX]

/-- The stored fields of a block (R363); none for an unused ID. -/
def blockRows (blk : Nat) : List Fld :=
  match blk with
  | 0x00 => rowsDIE
  | 0x01 => rowsPWR
  | 0x02 => rowsCLK
  | 0x03 => rowsSB
  | 0x04 => rowsD2D
  | 0x05 => rowsHOST
  | 0x06 => rowsHFEC
  | 0x07 => rowsLTX
  | 0x08 => rowsLRX
  | 0x09 => rowsLFR
  | 0x0A => rowsDEC
  | 0x0B => rowsTOP
  | 0x0C => rowsCIPH
  | 0x0D => rowsKEY
  | 0x0E => rowsMGMT
  | 0x0F => rowsFAB
  | 0x10 => rowsDACB
  | 0x11 => rowsMADC
  | 0x12 => rowsSAFE
  | 0x13 => rowsBIST
  | 0x14 => rowsCNT
  | 0x15 => rowsEVT
  | 0x16 => rowsMBX
  | 0x17 => rowsNVM
  | 0x18 => rowsFUSE
  | 0x19 => rowsPATG
  | _ => []

/-- The last register word of a block (R419); DEDUCED: the last word of its register table. -/
def lastWord (blk : Nat) : Nat :=
  match blk with
  | 0x00 => 0x2
  | 0x01 => 0x7
  | 0x02 => 0x7
  | 0x03 => 0x4
  | 0x04 => 0x0
  | 0x05 => 0x7
  | 0x06 => 0x2
  | 0x07 => 0x5F
  | 0x08 => 0x95
  | 0x09 => 0x6
  | 0x0A => 0x6
  | 0x0B => 0x2
  | 0x0C => 0x6
  | 0x0D => 0x3
  | 0x0E => 0x4
  | 0x0F => 0x3
  | 0x10 => 0x3F
  | 0x11 => 0x5F
  | 0x12 => 0x4
  | 0x13 => 0x3
  | 0x14 => 0x6
  | 0x15 => 0x3
  | 0x16 => 0x1
  | 0x17 => 0x4
  | 0x18 => 0xA
  | 0x19 => 0x6
  | _ => 0

end Sys2Proof.Machine
end

