-- ==== Sys2Proof/Machine/NMap.lean ====
section
/-! DEFINITION. Sparse tables of natural numbers in one canonical form: keys strictly rising, no entry 0, and a
key without an entry reads 0. Register fields and counters are held so. -/

namespace Sys2Proof.Machine

/-- A sparse table: (key, value) pairs. -/
abbrev NMap := List (Nat × Nat)

/-- The value at a key; 0 without an entry. -/
def NMap.get : NMap → Nat → Nat
  | [], _ => 0
  | (a, v) :: m, k => if a = k then v else NMap.get m k

/-- The table with every entry of key `k` replaced by one of value `v`, or by none when `v` is 0. -/
def NMap.set : NMap → Nat → Nat → NMap
  | [], k, v => if v = 0 then [] else [(k, v)]
  | (a, w) :: m, k, v =>
    if a < k then (a, w) :: NMap.set m k v
    else if a = k then (if v = 0 then m else (k, v) :: m)
    else (if v = 0 then (a, w) :: m else (k, v) :: (a, w) :: m)

/-- Every key of the table lies above `b` and the keys rise strictly, and no value is 0. -/
def NMap.wfAbove : Nat → NMap → Bool
  | _, [] => true
  | b, (a, v) :: m => decide (b ≤ a) && decide (v ≠ 0) && NMap.wfAbove (a + 1) m

/-- The canonical form. -/
def NMap.wf (m : NMap) : Bool := NMap.wfAbove 0 m

/-- The table without the entries whose key `p` accepts. -/
def NMap.drop (m : NMap) (p : Nat → Bool) : NMap := m.filter fun kv => !p kv.1

/-- The entries whose key lies in `[lo, lo + n)`, as a table of keys from 0. -/
def NMap.slice (m : NMap) (lo n : Nat) : NMap :=
  (m.filter fun kv => decide (lo ≤ kv.1 ∧ kv.1 < lo + n)).map fun kv => (kv.1 - lo, kv.2)

end Sys2Proof.Machine
end

