-- ==== Sys2Proof/Machine/State.lean ====
section
/-! DEFINITION. The state of the block: everything the spec gives the part, as plain data. Register fields live in
one sparse table (`regs`), each held as its difference from the field's reset value, so that the empty table is
the part with every register at its Reset value. What has no register has a field of its own here. -/

namespace Sys2Proof.Machine

/-- Reasons a step stops with a fault: none. Every command and event of the spec answers a next state. -/
inductive Fault where
  deriving DecidableEq, Repr

/-- Reasons a command has no meaning. -/
inductive Refusal where
  /-- Raised by an arm of exec whose command has no meaning yet; safe, since nothing is claimed of it. -/
  | notModelled (mnemonic : String)
  deriving DecidableEq, Repr

/-- Where the part is between power-up and OFF (R622 to R626). -/
inductive Phase where
  | powerOff | inReset | ready | recovery | stopping | shuttingDown | off
  deriving DecidableEq, Repr

/-- A TLV of a reply: its type and its value bytes (R351, R394). -/
structure Tlv where
  type : Nat
  value : Bytes
  deriving DecidableEq, Repr

/-- An event record (R597). -/
structure EvRec where
  source : Nat
  sev : Severity
  extrap : Bool
  resent : Bool
  held : Bool
  timeNs : Nat
  count : Nat
  arg : Bytes
  deriving DecidableEq, Repr

/-- Contents of a sideband slot (R460, R461), as the dies take them: `ctr` is the response slot that carries counter `index` of the
latched set of boundary `num` (R583). -/
inductive SlotMsg where
  | req (dst : Die) (tag : Nat) (write : Bool) (addr value : Word)
  | rsp (dst : Die) (tag : Nat) (domainOff : Bool) (data : Word)
  | ctr (dst : Die) (tag num index value : Nat) (wrapped last : Bool)
  | mb (dst : Die) (secure : Bool) (sep rep : Endpoint) (index : Nat) (last : Bool) (word : BitVec 64)
  | mbAck (dst : Die) (sep rep : Endpoint) (outcome : MbOutcome)
  | heartbeat (rep : HbReport) (mask : Option (BitVec 8))
  | elect (resign fwValid : Bool)
  | latch (num timeNs : Nat)
  | safety (trip : Bool)
  | mirror
  deriving DecidableEq, Repr

/-- What goes out at a port's host lanes at a time (R45 to R48, R57): Local Fault in a valid stream; a block of an
alignment-marker group; the 257-bit block `j` of host codeword `n`, which a die encodes; the 64b/66b block `j` of one;
the STANDARD stream of the host lane of a line lane as it came, or PRBS31 in its place (R339, R340); a received block returned by
loopback. -/
inductive HostOut where
  | localFault
  | marker (n j : Nat) (die : Die)
  | unit (n j : Nat) (die : Die) (u : PortUnit)
  | block (n j : Nat) (die : Die) (b : Block66)
  | through (lane : Die)
  | prbs (lane : Die)
  | looped (u : PortUnit)
  deriving DecidableEq, Repr

/-- What the part sends and shows to the world, in the order it happens. -/
inductive Output where
  | reply (medium : Medium) (channel : BitVec 8) (nonce : Option Nat) (seq : BitVec 16) (dest src : BitVec 16)
      (opcode : Nat) (tlvs : List Tlv)
  | event (medium : Medium) (channel : BitVec 8) (nonce : Option Nat) (seq : BitVec 16) (recs : List EvRec)
      (dropped : Nat)
  | replyChunk (medium : Medium) (channel : BitVec 8) (nonce : Option Nat) (seq : BitVec 16) (dest src : BitVec 16)
      (opcode : Nat) (offset total : Nat) (data : Bytes) (crc : Option (BitVec 32))
  | eth (port : MPort) (dst src : BitVec 48) (vlan : Option (BitVec 16)) (ethertype : BitVec 16) (payload : Bytes)
  | inband (lane : Die) (message : Bytes)
  | frame (lane : Die) (state : TxState) (oh : Option Overhead) (codes : List Int) (delay swing : Nat)
  | hostBlock (port : HostLane) (what : HostOut)
  | slot (src : Die) (msg : SlotMsg) (bits : BitVec 96)
  | codeword (lane : Die) (cw : Nat) (good : Bool)
  | ldis (lane : Die) (high : Bool)
  | aout (die : Die) (ch : Fin 6) (level : Nat)
  | floats (die : Die)
  | injected (lane : Die) (bits : Nat)
  deriving DecidableEq, Repr

/-- A stored reply (R361): the latest one sent for a sequence. -/
structure CachedReply where
  seq : BitVec 16
  opcode : Nat
  tlvs : List Tlv
  deriving DecidableEq, Repr

/-- One staged command (R374) with its sequence and the bytes of its parameters. -/
structure Staged where
  seq : BitVec 16
  cmd : Instr
  size : Nat
  deriving DecidableEq, Repr

/-- An open transaction (R373); `doomed` is the first failing command's status and sequence (R374). -/
structure Txn where
  mode : TxnMode
  staged : List Staged
  doomed : Option (Status × BitVec 16)
  deriving DecidableEq, Repr

/-- A chunked transfer in progress (R365, R366). -/
structure ChunkXfer where
  opcode : Nat
  total : Nat
  data : Bytes
  lastAt : Nat
  deriving DecidableEq, Repr

/-- Keys of a secure session (R357): each a 32-byte key and a 4-byte salt. -/
structure SessKeys where
  kc : Bytes
  kp : Bytes
  deriving DecidableEq, Repr

/-- A session and its channel (R354 to R376). -/
structure Session where
  channel : BitVec 8
  secure : Bool
  src : BitVec 16
  medium : Medium
  priv : Privilege
  restricted : Bool
  lastAt : Nat
  seqLast : Option (BitVec 16)
  cache : List CachedReply
  leaseMs : Nat
  leaseUntil : Nat
  claims : List ClaimId
  leaseLost : Bool
  txn : Option Txn
  txnLost : Bool
  chunk : Option ChunkXfer
  keys : Option SessKeys
  txNum : Nat
  rxHigh : Nat
  rxSeen : List Nat
  /-- Source address and tag of the last packet received (R345, R428). -/
  mac : BitVec 48
  vlan : Option (BitVec 16)
  closing : Bool
  /-- Since when the route table holds no entry for the controller's node number (R441). -/
  noRouteAt : Option Nat
  deriving DecidableEq, Repr

/-- A secure handshake in progress (R357, R358). -/
structure Handshake where
  channel : BitVec 8
  medium : Medium
  mac : BitVec 48
  vlan : Option (BitVec 16)
  src : BitVec 16
  seq : BitVec 16
  start : Nat
  priv : Privilege
  restricted : Bool
  transcript : Bytes
  ctrlKey : Bytes
  keys : SessKeys
  finish : Bytes
  deriving DecidableEq, Repr

/-- An unacknowledged SAFETY event of a subscriber (R382). -/
structure Unacked where
  seq : BitVec 16
  ev : EvRec
  sentAt : Nat
  deriving DecidableEq, Repr

/-- An event subscriber (R381 to R383). `credit` is the token bucket, in events times 10^9 times 2^40. -/
structure Subscriber where
  num : Nat
  channel : BitVec 8
  rate : Nat
  sevMin : Nat
  mask : BitVec 544
  queue : List EvRec
  nextSeq : BitVec 16
  unacked : List Unacked
  dropped : Nat
  credit : Nat
  creditAt : Nat
  deriving DecidableEq, Repr

/-- An entry of the execution queue (R367, R368): its stamp, its opcode, the envelope of the request as it arrived. -/
structure QEntry where
  stamp : Nat
  opcode : Nat
  req : Req
  deriving DecidableEq, Repr

/-- Work that goes on after a PENDING or DEFERRED reply (R364). -/
inductive PendKind where
  | profile | commit (slot : Nat) | restore (adjusted : Bool) | shutdown (selfTest : Bool)
  | dacCh (dies : List Die) (ch : Nat)
  | convert (die : Die) (conv : Nat)
  | calibrate (dies : List Die) (conv : Nat)
  | selftest (dies : List Die) | fwLoad | fwActivate | capture (lane : Die) | realign (owner : Die)
  deriving DecidableEq, Repr

/-- A request whose final reply is still to come (R364). -/
structure PendOp where
  kind : PendKind
  channel : BitVec 8
  seq : BitVec 16
  medium : Medium
  mac : BitVec 48
  vlan : Option (BitVec 16)
  src : BitVec 16
  opcode : Nat
  cls : Nat
  priv : Privilege
  secure : Bool
  tlvs : Bytes
  deriving DecidableEq, Repr

/-- The protocol interpreter (chapter 10). -/
structure SlState where
  etherType : BitVec 16
  /-- The EtherType set, until the reply has gone (R346). -/
  etherNext : Option (BitVec 16)
  idle : Nat
  plainMax : Privilege
  sessions : List Session
  handshakes : List Handshake
  execQ : List QEntry
  pend : List PendOp
  subs : List Subscriber
  held : List EvRec
  /-- SAFETY events that no subscriber has acknowledged yet (R560), by source and time. -/
  alarms : List (Nat × Nat)
  mirrored : Option (List Session × List Subscriber)
  deriving DecidableEq, Repr

/-- An audit record (R617). -/
structure AuditRec where
  seq : Nat
  timeNs : Nat
  extrap : Bool
  opcode : Nat
  status : Nat
  src : BitVec 16
  channel : BitVec 8
  priv : Privilege
  medium : Nat
  flags : Nat
  lifecycle : Nat
  digest : Bytes
  deriving DecidableEq, Repr

/-- One copy of a vintage in the settings store (R603, R604). -/
structure VCopy where
  die : Die
  second : Bool
  slot : Nat
  part : Part
  commit : Nat
  timeNs : Nat
  label : Bytes
  body : List Instr
  /-- Its CRC (R90, R603), a free value: the spec fixes no order and no forms of the records it is computed over. -/
  crc : BitVec 32
  crcOk : Bool
  deriving DecidableEq, Repr

/-- Limited-change settings and what is fixed at manufacture (R611). -/
structure Fuses where
  lifecycle : Nat
  secver : Nat
  ceilings : Vector (List Nat) 8
  permit : Bool
  identity : Option Bytes
  ownerSlot : Nat
  ownerKey : Option Bytes
  packageId : BitVec 64
  macA : BitVec 48
  macB : BitVec 48
  /-- Changes that an interruption used up without a value (R612); the used ceiling entries stand in `ceilings`. -/
  spent : List LimitCut
  deriving DecidableEq, Repr

/-- A firmware bank (R618 to R621). -/
structure FwBank where
  version : Nat
  secver : Nat
  valid : Bool
  deriving DecidableEq, Repr

/-- A firmware activation in progress (R620): dies moved, the die restarting and since when. -/
structure FwTrial where
  moved : List Die
  restarting : Die
  since : Nat
  oldLeader : Option Die
  deriving DecidableEq, Repr

/-- A self-test record (R572). -/
structure TestRec where
  kind : Nat
  verdict : Nat
  timeNs : Nat
  duration : Nat
  coverage : Nat
  failed : Nat
  hours : Nat
  restored : Nat
  retired : Nat
  deriving DecidableEq, Repr

/-- Safety record, self-test records and service time in MRAM (R551, R566, R572): a lane's emission input and
limit, a die's latest record, the service time at its last pass. -/
structure SafetyNv where
  limits : Vector (Option (Nat × Nat)) 8
  tests : Vector (Option TestRec) 8
  passAt : Vector (Option Nat) 8
  service : Nat
  overdueAt : Option Nat
  deriving DecidableEq, Repr

/-- What MRAM and fuses hold (chapter 18). -/
structure NvState where
  copies : List VCopy
  /-- The body of the vintage last restored; empty for rootstock (R499, R608). -/
  restored : List Instr
  preferred : Option Nat
  commits : Nat
  committing : Option VCopy
  audit : List AuditRec
  auditNext : Nat
  fuses : Fuses
  /-- A limited change was interrupted since the last start (R612). -/
  limitCut : Bool
  active : FwBank
  standby : FwBank
  loading : Option FwBank
  trial : Option FwTrial
  psk : Option Bytes
  ownerCert : Option Bytes
  identityKey : Bool
  identityPub : Bytes
  /-- Calibration values saved to MRAM (R544), by register key. -/
  cal : NMap
  safety : SafetyNv
  deriving DecidableEq, Repr

/-- Package time and intervals (R511 to R517). Times count 2^-40 ns. `now` never jumps; package time is
`now` + `offset`, which TIMEBASE_SET moves (R420). -/
structure TimeState where
  now : Nat
  offset : Int
  extrap : Bool
  uncert : Nat
  periodStart : Option Nat
  periodRc : Bool
  refclk : Bool
  refLostAt : Option Nat
  slowCount : Nat
  slowCalAt : Nat
  setPending : Option (Nat × Nat)
  ivNum : Nat
  lastBoundary : Nat
  nextBoundary : Nat
  moved : Bool
  lastEdge : Option Nat
  slew : Int
  deriving DecidableEq, Repr

/-- What one boundary recorded (R515, R197 of the SNAPSHOT TLV). -/
structure Boundary where
  num : Nat
  timeNs : Nat
  actualNs : Nat
  extrap : Bool
  moved : Bool
  skipped : Bool
  deriving DecidableEq, Repr

/-- One latched set (R580, R583); `die` 8 is the leader's set of the package counters. -/
structure LatchSet where
  die : Nat
  num : Nat
  vals : NMap
  wraps : List Nat
  collected : Bool
  /-- Which of its six groups of 32 counters the leader has got. -/
  parts : BitVec 6
  deriving DecidableEq, Repr

/-- The latest complete snapshot (R583). -/
structure Snapshot where
  bound : Boundary
  vals : NMap
  wraps : List Nat
  deriving DecidableEq, Repr

/-- A thief-tag record (R591): offsets by station. -/
structure TagRec where
  rx : Bool
  lane : Die
  flags : Nat
  frame : Nat
  codeword : Nat
  iter : Nat
  baseNs : Nat
  offsets : List Nat
  deriving DecidableEq, Repr

/-- Counters, snapshots, tags (chapter 17). -/
structure TelState where
  ctr : NMap
  wraps : List Nat
  sets : List LatchSet
  bounds : List Boundary
  snap : Option Snapshot
  carry : List Nat
  tagNext : Nat × BitVec 32
  deriving DecidableEq, Repr

/-- A pending sideband request of a die (R464, R466 to R468): the dies that a broadcast has not reached yet, and the slots that
become pending one after the other behind this one (R467). -/
structure SbReqEnt where
  cls : Nat
  count : Nat
  waited : Nat
  missed : Bool
  copies : Nat
  msg : SlotMsg
  owe : BitVec 8
  next : List SlotMsg
  deriving DecidableEq, Repr

/-- A REQ that waits for its response (R462). -/
structure SbOut where
  dst : Die
  tag : Nat
  slot : Nat
  resends : Nat
  write : Bool
  addr : Word
  value : Word
  deriving DecidableEq, Repr

/-- A mailbox channel with what it holds (R478). -/
structure MbChan where
  src : Die
  sep : Endpoint
  dst : Die
  rep : Endpoint
  msgs : List MbMsg
  /-- The slot count at which it last became full (R483). -/
  fullAt : Nat
  deriving DecidableEq, Repr

/-- A slot that a die has received and not yet acted on (R461). -/
structure SlotIn where
  dst : Die
  src : Die
  msg : SlotMsg
  deriving DecidableEq, Repr

/-- The words of a mailbox message that have come so far; of the words on the way between two dies, those of one kind are one
message's (R460, R467). -/
structure MbPart where
  src : Die
  dst : Die
  secure : Bool
  words : List (BitVec 64)
  deriving DecidableEq, Repr

/-- An election window (R474). -/
structure Election where
  openSlot : Nat
  entrants : List (Die × Bool)
  resigned : Option Die
  deriving DecidableEq, Repr

/-- The sideband and what runs on it, package-wide (chapter 13). -/
structure SbState where
  slot : Nat
  granted : Option Die
  dlSlots : Nat
  beSlots : Nat
  allSlots : Nat
  tagCtr : Nat
  inbox : List SlotIn
  parts : List MbPart
  mail : List MbChan
  owed : List (Die × Endpoint × Die × Endpoint)
  election : Option Election
  oldLeader : Option Die
  elected : Bool
  pendRoutes : Bool
  deriving DecidableEq, Repr

/-- The sideband interface of a die (R462 to R472). -/
structure SbDie where
  reqs : List SbReqEnt
  loss : Nat
  sitOut : Nat
  credits : List Nat
  outs : List SbOut
  grants : Nat
  misses : Nat
  starves : Nat
  /-- When it last broadcast a HEARTBEAT (R472). -/
  hbSent : Option Nat
  lastHb : Nat
  hbMissed : Nat
  clockFault : Bool
  /-- Unhealthy for the loss of REFCLK only (R658). -/
  refFault : Bool
  supplyFault : Bool
  lockstep : Bool
  d2dFails : List Nat
  /-- Transfers that wait at each die-to-die port, RESERVED and GENERAL (R454). -/
  d2dWait : List (Nat × Nat)
  d2dRetrain : List Nat
  deriving DecidableEq, Repr

/-- The power sequencer of a die (chapter 14). -/
structure PwrDie where
  waking : Bool
  evalPending : Bool
  since : Nat
  leftActive : Option Nat
  thermalHold : Bool
  coolSince : Option Nat
  armed0 : Bool
  armed1 : Bool
  tjAt : Option Nat
  retained : Nat
  restarted : Bool
  anaPowered : Bool
  mrxHold : Bool
  deriving DecidableEq, Repr

/-- A neighbour (R434): its medium (0 port A, 1 port B, 2 LINK), the lanes its HELLOs came by, its MAC address on a port, its last
HELLO, whether it found the route table full (R438). -/
structure Nbr where
  medium : Nat
  lanes : BitVec 8
  mac : BitVec 48
  hello : Hello
  lastAt : Nat
  noRoute : Bool
  deriving DecidableEq, Repr

/-- A LEARNED route (R438, R439): destination, hop count, the neighbour that advertised it, when. -/
structure Learned where
  node : Nat
  hops : Nat
  medium : Nat
  packageId : BitVec 64
  at_ : Nat
  deriving DecidableEq, Repr

/-- A medium of the fabric (R434, R437): the HELLO last sent, the node last heard, when the last triggered messages
went, and whether a further one waits. -/
structure MediumSt where
  lastSent : List Hello
  heard : Nat
  helloAt : Option Nat
  routesAt : Option Nat
  helloDue : Bool
  routesDue : Bool
  deriving DecidableEq, Repr

/-- A management port's training (R422 to R427): whether training has completed, since when its present state runs,
consecutive failures for the back-off, since when no frame was sent, whether the port restarts after the reply that is
being sent (R422), the transmit preset in force (R451). -/
structure PortSt where
  trained : Bool
  since : Nat
  retries : Nat
  idleSince : Nat
  restart : Bool
  preset : Nat
  deriving DecidableEq, Repr

/-- Management ports and the Jeuri fabric (chapter 12). -/
structure FabState where
  downA : Option Nat
  downB : Option Nat
  /-- Since when the line link of each lane is down (R446). -/
  downIn : Vector (Option Nat) 8
  /-- The node number set, until the next HELLO takes it up (R429). -/
  nodeNext : Option Nat
  nbrs : List Nbr
  statics : List (Nat × Hop)
  learned : List Learned
  media : Vector MediumSt 3
  /-- What was last advertised on each ACTIVE link (R436, R439). -/
  sentRoutes : List (Nat × BitVec 64 × List RouteAd)
  lastHello : Nat
  lastRoutes : Nat
  ports : Vector PortSt 2
  deriving DecidableEq, Repr

/-- A range change in progress on a DAC channel (R523): the old and the new range, since when its step runs. -/
structure DacPark where
  oldRange : Nat
  newRange : Nat
  switched : Bool
  since : Nat
  deriving DecidableEq, Repr

/-- A DAC channel (R521 to R533): its queue, a direct code that waits for the next update, its waveform's
accumulator and noise register, the phase at the last update. -/
structure DacCh where
  queue : List Nat
  direct : Option Nat
  running : Bool
  acc : Nat
  lfsr : BitVec 23
  lastPhase : Option Nat
  park : Option DacPark
  deriving DecidableEq, Repr

/-- What a converter does: an entry of a scan, a native, own injected or safety injected conversion, or a
calibration (R537 to R545). -/
inductive ConvAct where
  | idle | entry (k : Nat) | native | own | safety | cal (kind : CalKind)
  deriving DecidableEq, Repr

/-- The decimation chain of a monitor converter (R536): three integrators, three comb delays, the eight samples that its
compensation FIR holds, the latest first. -/
structure Cic where
  i1 : BitVec 40
  i2 : BitVec 40
  i3 : BitVec 40
  d1 : BitVec 40
  d2 : BitVec 40
  d3 : BitVec 40
  taps : List (BitVec 40)
  deriving DecidableEq, Repr

/-- What a synchronising reset leaves (R537). -/
def Cic.zero : Cic := ⟨0, 0, 0, 0, 0, 0, []⟩

/-- A monitor converter: what it does until when, with which preset and gain code, its decimation chain, what an injected conversion interrupted, what waits. -/
structure Conv where
  fifo : List Sample
  act : ConvAct
  endsAt : Nat
  preNow : Nat
  gainNow : Nat
  cic : Cic
  back : ConvAct
  delayEnd : Option Nat
  ownDelayEnd : Option Nat
  heldOwn : Bool
  preset : Nat
  natWait : Bool
  calWait : Option CalKind
  calFailed : Bool
  timerAt : Nat
  ovrIv : Option Nat
  lostIv : Option Nat
  deriving DecidableEq, Repr

/-- The housekeeping analogue blocks of a die (chapter 15); `sineAcc` is the accumulator CH1 and CH2 share. -/
structure AnaDie where
  chs : Vector DacCh 6
  sineAcc : Nat
  updAt : Option Nat
  safetyClr : Bool
  convs : Vector Conv 2
  deriving DecidableEq, Repr

/-- The safety monitor of a die (R551 to R563): comparator tests passed since ANA was powered, a conversion below
the limit since then or since a wake, the last M0 result of a pair, disagreeing pairs in a row, the level driven
at LDIS_N, a stuck ball, the times of the lane's SF-D catches. -/
structure SafeDie where
  testedA : Bool
  testedB : Bool
  below : Bool
  nextCmpB : Bool
  nextConv : Fin 2
  m0 : Option Int
  disagree : Nat
  lastConvAt : Nat
  convAt : Option Nat
  cmpAt : Option Nat
  scrubAt : Option Nat
  ldisHigh : Bool
  /-- CH0 is held from the moment ANA is powered until SF-L is armed (R506, R661). -/
  armHold : Bool
  stuck : Bool
  underTest : Bool
  /-- A trip during a self-test waits to be reported (R568). -/
  tripHeld : Bool
  catches : List Nat
  deriving DecidableEq, Repr

/-- A FIR swap that waits for a frame boundary (R117, R119, R133, R135): a controller's, an adaptation swap with
its new set, or a swap back. -/
inductive FirSwap where
  | user | adapt (set : List Int) | revert
  deriving DecidableEq, Repr

/-- What a restore has for a lane's next frame (R608): both FIR banks, both predistortion tables, their active
selections. -/
structure TxLoad where
  fir0 : List Int
  fir1 : List Int
  pd0 : List Int
  pd1 : List Int
  firAct : Nat
  pdAct : Nat
  deriving DecidableEq, Repr

/-- A FIR bank of these contents takes other coefficients. -/
def TxLoad.setFir (t : TxLoad) (b : Nat) (c : List Int) : TxLoad := if b = 0 then { t with fir0 := c } else { t with fir1 := c }

/-- A predistortion table of these contents takes other entries. -/
def TxLoad.setPd (t : TxLoad) (b : Nat) (c : List Int) : TxLoad := if b = 0 then { t with pd0 := c } else { t with pd1 := c }

def TxLoad.fir (t : TxLoad) (b : Nat) : List Int := if b = 0 then t.fir0 else t.fir1
def TxLoad.pd (t : TxLoad) (b : Nat) : List Int := if b = 0 then t.pd0 else t.pd1

/-- The transmitter of a lane (chapter 4): what its registers do not hold. `fc` is the count of the last frame
sent, `sentAt` its time. -/
structure TxLane where
  up : Bool
  /-- When the lane last came up (R332). -/
  upAt : Nat
  running : Bool
  fc : Nat
  sentAt : Nat
  /-- The states that causes active since the last boundary have required (R124). -/
  held : List TxState
  /-- SWING and SHAPE as they act since the last boundary (R115). -/
  swingNow : Nat
  shapeNow : Nat
  /-- The values u sent last, newest first; none in MUTE (R110, R112, R113). -/
  sentLast : List (Option Nat)
  /-- The bits of the unit that the last frame left unfinished (R53). -/
  carry : List Bool
  /-- Block sequence and phase start anew at the next frame: the lane's port has changed (R51). -/
  renumber : Bool
  /-- Frames since an adaptation swap (R135), and since the last mask measurement (R131). -/
  sinceAdapt : Option Nat
  maskFrames : Nat
  firSwap : Option FirSwap
  pdSwap : Bool
  holdLeft : Nat
  sinceSwap : Option Nat
  sinceFb : Nat
  violRun : Nat
  cleanRun : Nat
  maskReverted : Bool
  maskMute : Bool
  /-- BLOCK_SEQ and PHASE of the last frame sent (R53), as `seq` without its field's modulus. -/
  seq : Nat
  phase : Nat
  load : Option TxLoad
  /-- Banks, tables and selections as the latest accepted command or register write left them (R602). -/
  kept : TxLoad
  deriving DecidableEq, Repr

/-- A path-memory try in progress (R181): the entries still to try, the one tried, since when. -/
structure PathTry where
  left : List (Fin 8)
  cur : Option (Fin 8)
  since : Nat
  deriving DecidableEq, Repr

/-- A bank swap accepted or running (R164 to R167). `jump` waits for a block group without a fade. -/
structure Fade where
  tgt : Nat
  jump : Bool
  begun : Bool
  asked : Nat
  since : Nat
  len : Nat
  deriving DecidableEq, Repr

/-- A fade or jump that has begun, while the samples it shaped wait for their interleaver group (R165, R167): its acceptance,
its first symbol, when it was abandoned, its length in symbols, and both banks. -/
structure FadeRun where
  asked : Nat
  since : Nat
  upto : Option Nat
  len : Nat
  oldF : List Int
  oldM : Nat
  newF : List Int
  newM : Nat
  deriving DecidableEq, Repr

/-- A frame-marker candidate (R205, R206): the symbol at which it matched last, the pilot lane of that match, and how many
frames in a row it has matched. -/
structure MarkCand where
  pos : Nat
  pilotLane : Nat
  matched : Nat
  deriving DecidableEq, Repr

/-- The receiver of a lane (chapter 5): what its registers do not hold. -/
structure RxLane where
  since : Nat
  goodOh : Nat
  lockedFrames : Nat
  sinceRefresh : Nat
  sinceSuggest : Nat
  needEntry : Bool
  entries : Vector (Option RxSet) 8
  order : List (Fin 8)
  try_ : Option PathTry
  prefer : Option (Fin 8)
  capture : Option Nat
  fade : Option Fade
  queued : Option Nat
  fades : List FadeRun
  means : List Int
  /-- What the adapted coefficients are beyond their registers, in units of these: FFE, NLE, DFE (R160, R169, R170). -/
  fineF : List ℚ
  fineQ : List ℚ
  fineD : List ℚ
  /-- Values sent and slicer inputs of the pilots of the last 64 block groups, newest first (R171). -/
  pilots : List (List (Nat × ℚ))
  /-- Since when the running rotation period runs (R149). -/
  rotAt : Nat
  /-- Whether the next acquisition is cold whatever path memory holds (R17). -/
  cold : Bool
  firSeq : Nat
  firStep : List Int
  adcFails : Nat
  tol : Nat
  lockN : Nat
  cands : List MarkCand
  pos : Nat
  /-- The DFE and NLE values that RX_ADAPT_SET or a register write last set (R602). -/
  dfeSet : Int × Int
  nleSet : List Int
  deriving DecidableEq, Repr

/-- A codeword in the decoder pool (R222, R229): the frame's index on this lane, the codeword, whether it is
decoded again, and its soft values, two a symbol. -/
structure CwJob where
  frame : Nat
  cw : Nat
  redo : Bool
  soft : List Int
  deriving DecidableEq, Repr

/-- A decoder engine (R227 to R233): its codeword, the one it suspended with the core cycles spent on it, whether
it holds a finished result that the reorder buffer cannot take, since when its cycles are not yet charged (R586),
since when it works on its codeword (a resumed one counts from earlier by the time it had before) and under which cap, the same of
the suspended one, its slices, and from
when the next one may start; none until the frame boundary after the fence (R232). -/
structure Engine where
  job : Option CwJob
  saved : Option CwJob
  savedCyc : Nat
  stalled : Bool
  since : Nat
  begun : Nat
  cap : Nat
  savedSpan : Nat
  savedCap : Nat
  slicing : Bool
  sliceDue : Option Nat
  clean : Nat
  failed : Nat
  returning : Bool
  deriving DecidableEq, Repr

/-- A received frame in the lane's delay line (R214, R223): its index, header, tag and CRC as taken or predicted,
whether the overhead came in this frame, arrival stamp, and the codewords done, failed and delivered. -/
structure RxFrame where
  idx : Nat
  header : Option Header
  own : Bool
  /-- Whether what became of the overhead codeword has been taken (R99, R100). -/
  ohSeen : Bool
  tag : BitVec 128
  crc : BitVec 32
  laneBad : Bool
  seqBad : Bool
  arrival : Nat
  done : BitVec 256
  failed : BitVec 256
  /-- Codewords that have come, and what waits to be counted until the header is known (R102, R226). -/
  queued : BitVec 256
  owed : List (Nat × Nat)
  rebuilt : BitVec 256
  delivered : Nat
  corr : Nat
  iters : Nat
  attempts : Nat
  /-- Codewords decoded again, and each codeword's iterations (R591). -/
  redone : BitVec 256
  its : NMap
  /-- Decoded codewords (R214, R223); RX_PRECODE as it acts in the frame (R87); BLOCK_SEQ beyond its 22 bits (R54). -/
  words : List (Nat × Codeword)
  precode : Bool
  seqExt : Nat
  /-- The cleartext policy as it acts on the frame (R304). -/
  policy : Nat
  /-- Core cycles at which each codeword entered an engine first and left the pool (R226, R591). -/
  starts : NMap
  ends : NMap
  deriving DecidableEq, Repr

/-- The decoder pool and the frames of a lane (chapter 6). `header` is the last header; `stats` the corrected bits,
codewords not decoded, iterations and attempts of the last 64 frames, with the frame's index. `lastTags` is the tag setting in
force (R588), `seqExt` the extended block sequence of the last header (R54). -/
structure PoolSt where
  engines : Vector Engine 8
  queue : List CwJob
  redo : List CwJob
  idx : Nat
  frames : List RxFrame
  header : Option Header
  seqExt : Nat
  rxFc : Nat
  stats : List (Nat × Nat × Nat × Nat × Nat)
  lastTags : Nat × BitVec 32
  deriving DecidableEq, Repr

/-- Units retired in MRAM (R153, R232, R275). -/
structure UnitRec where
  adc : Option Nat
  perm : BitVec 8
  txPipes : BitVec 4
  rxPipes : BitVec 4
  deriving DecidableEq, Repr

/-- Account of the cipher pipelines since the last latch (R587): since when, and cycles charged in each
direction. -/
structure CipherAcct where
  since : Nat
  tx : Nat
  rx : Nat
  deriving DecidableEq, Repr

/-- The in-band channel of a lane (R443 to R446): messages that wait, the bytes of the first already sent, the next
SEG_SEQ; the last SEG_SEQ received, the message being rebuilt, when an overhead codeword last passed OH_CRC, RX_LOCK of
the last FEEDBACK. -/
structure Inband where
  txq : List Bytes
  txPos : Nat
  txSeq : Nat
  rxSeq : Option Nat
  rxPart : Option Bytes
  ohAt : Option Nat
  farLock : Bool
  deriving DecidableEq, Repr

/-- A traffic key with its salt (R276, R277): its epoch, the direction bit of its agreement, when it was installed. -/
structure TKey where
  epoch : Nat
  key : Bytes
  salt : Bytes
  dir : Nat
  at_ : Nat
  deriving DecidableEq, Repr

/-- Traffic keys that a die's key manager holds (R276, R294): the transmit key, the next one, the receive keys newest
first. -/
structure KeySt where
  txCur : Option TKey
  txNext : Option TKey
  rx : List TKey
  deriving DecidableEq, Repr

/-- The cipher of a lane (R293, R296, R308, R561, R662): whether it uses the next transmit key, whether it has announced
it, the RACK_CD it last sent, the highest frame count sent under the epoch in use, whether that epoch is barred to it;
the transmit pipelines whose slice has passed since an SF-C trip; fenced pipelines with their clean and failed slices;
the conditions of R662 that hold; whether the receive stream is unavailable under R305. -/
structure CiphLane where
  onNext : Bool
  announced : Bool
  cd : Nat
  highFc : Option Nat
  barred : Bool
  sfPass : BitVec 4
  txFenced : BitVec 4
  rxFenced : BitVec 4
  txSlices : List (Nat × Nat)
  rxSlices : List (Nat × Nat)
  txSpare : Fin 4
  rxSpare : Fin 4
  txSliceAt : List (Option Nat)
  rxSliceAt : List (Option Nat)
  checkAt : Option Nat
  condClear : Bool
  condMismatch : Bool
  condHdr : Bool
  condProfile : Bool
  condLane : Bool
  unavailable : Bool
  deriving DecidableEq, Repr

/-- An agreement attempt (R279 to R288): its records so far, the far end's certified key, the keys derived;
none for an ephemeral key that has been zeroised (R276, R309). -/
structure Attempt where
  session : BitVec 32
  epoch : Nat
  mode : KeyMode
  start : Nat
  secret : Option Nat
  nonce : Bytes
  hello : Bytes
  response : Bytes
  confirm : Bytes
  peer : Bytes
  key : Option TKey
  kci : Bytes
  kcr : Bytes
  deriving DecidableEq, Repr

/-- Key agreement (R285 to R302): the attempts as initiator and responder; the wait after the next failure in seconds,
when the next attempt is due, whether the last failed; times of the last RESYNC_REQ acted on and sent; whether the
next announcement is a resynchronisation's; records that wait for a lane; the newest receive epoch with the time of its
first frame and the lanes that authenticated one; whether KEY_EXPIRED was raised for the key in use. -/
structure KxSt where
  tx : Option Attempt
  rx : Option Attempt
  wait : Nat
  due : Option Nat
  failed : Bool
  actedAt : Option Nat
  sentAt : Option Nat
  resync : Bool
  outbox : List Bytes
  newer : Option (Nat × Nat × BitVec 8)
  expired : Bool
  deriving DecidableEq, Repr

/-- The release schedule of an alignment group, kept at its lowest lane, and a lane's part in it (R213 to R220): the frame
released next, the instant T of the frame before it in core cycles, the reference lane with its stamp of that frame, when a
refused alignment is tried again, core cycles still to slew and since when, whether DESKEW_RANGE has refused a slew, GUARD as
it acts since the last alignment, slew or LINE_REALIGN (R220); late and early frames in a row, whether the lane is readmitted at the next frame. -/
structure DskSt where
  next : Nat
  t : Int
  refA : Option (Die × Nat)
  retryAt : Option Nat
  slew : Int
  slewAt : Nat
  blocked : Bool
  guard : Nat
  late : Nat
  early : Nat
  readmit : Bool
  deriving DecidableEq, Repr

/-- What a data lane gives to the topping lane's frame of equal count (R247, R249, R254): its header, tag, CRC and payload,
and the block group from whose data block on SAFETY_C has taken its frame to PILOT. -/
structure Contribution where
  lane : Die
  fc : Nat
  header : Header
  tag : BitVec 128
  crc : BitVec 32
  payload : List Bool
  cut : Option Nat
  deriving DecidableEq, Repr

/-- The topping lane's frame while it is held (R254): its count, state and overhead, and TX_PRECODE and PD_EN as they stood at
its boundary. -/
structure TopFrame where
  fc : Nat
  tags : Nat × BitVec 32
  state : TxState
  oh : Overhead
  prec : Bool
  pdEn : Bool
  deriving DecidableEq, Repr

/-- Topping at a die (R244 to R262): the frame its lane released last with the core cycle of its release, the copies of the last topping overheads with their
frame counts, frames released since one was decoded, the codewords being rebuilt here and those that found no room, and, at
the topping die, the lanes left out of a frame, the contributions held, and the frame that waits for them. -/
structure TopSt where
  rel : Option RxFrame
  relAt : Nat
  copies : List (Nat × List CopyEntry)
  since : Option Nat
  rebuilds : List Nat
  noRoom : List Nat
  missing : Option (Nat × BitVec 8)
  held : List Contribution
  waiting : Option TopFrame
  deriving DecidableEq, Repr

/-- TOPPING_STATUS (R97): what the running window of 1,024 frames has seen, and what is sent. -/
structure TopPkg where
  /-- The neighbours of every die as the trees in force have them (R252, R253), by rising port number. -/
  links : List (Die × List Die)
  mask : BitVec 8
  dbl : Bool
  cw : Nat
  frames : Nat
  shown : ToppingStatus
  deriving DecidableEq, Repr

/-- A port's queues at its first host lane (R49, R57 to R61, R70). Host to line: the rate-matching FIFO (whether it runs, its
blocks, the block that arrived last and the one written last, whether the next block written is an error block, since when
and how many blocks the line has taken), the number of the next block towards the line and the blocks of its unit so far; the
number of the next host codeword, whether an alignment-marker group has begun the count, and the codeword at which it did. `units` are the units dealt to
the line lane of this die for the port (R51), with their sequence. Line to host: units in sequence, or on a rate-matched port
blocks, that have not gone on, since when and how many have, the FIFO with its last block and error mark; the unit at which
host codeword 0 begins (R54), and the place of the next block in the stream sent to the host. `symbols` counts what this die
corrected in the interval, `pairBad` the offset of R42. -/
structure PortQ where
  runs : Bool
  fifo : List Block66
  came : Option Block66
  last : Option Block66
  err : Bool
  since : Nat
  taken : Nat
  outNext : Nat
  part : List Block66
  cwNum : Nat
  counting : Bool
  countedAt : Nat
  units : List (Nat × PortUnit)
  backUnits : List (Nat × PortUnit)
  wait : List Block66
  waitSince : Nat
  waitTaken : Nat
  back : List Block66
  backCame : Option Block66
  backLast : Option Block66
  backErr : Bool
  anchor : Option Nat
  hostNext : Nat
  symbols : Nat
  pairBad : Bool
  deriving DecidableEq, Repr

/-- What a lane has released towards the host (R46, R48, R54): whether its payload is available, the bits of the unit that
the last frame left unfinished and whether it is spoilt, and the units that wait for the other lanes of the port, with their
frame. -/
structure RxOut where
  avail : Bool
  carry : List Bool
  tailBad : Bool
  units : Option (Nat × List (Nat × PortUnit))
  deriving DecidableEq, Repr

/-- Diagnostics of a die (R414 to R416): bits and errors counted by the checkers LINE_RX, HOST_RX0 and HOST_RX1; an error
injection by kind, host lane of the die and errors still to inject; the capture that runs, and the samples of the last. -/
structure DiagSt where
  checks : List (Nat × Nat)
  inject : Option (Nat × Nat × Nat)
  capture : Option CaptureCfg
  samples : List (BitVec 8)
  deriving DecidableEq, Repr

-- INSERT-STRUCTS

/-- What one die holds, its lane included. -/
structure DieSt where
  sb : SbDie
  pwr : PwrDie
  log : List EvRec
  tags : List TagRec
  tagDropSeen : Bool
  ana : AnaDie
  safe : SafeDie
  tx : TxLane
  rx : RxLane
  pool : PoolSt
  units : UnitRec
  acct : CipherAcct
  inband : Inband
  keys : KeySt
  ciph : CiphLane
  dsk : DskSt
  top : TopSt
  host : Vector PortQ 2
  rxOut : RxOut
  diag : DiagSt
-- INSERT-DIE-FIELDS
  deriving DecidableEq, Repr

/-- The state of the part, and the queue of commands that wait. -/
structure State where
  /-- Which orderable part this is (R2). -/
  part : Part
  phase : Phase
  /-- Running profile, clock mode and port plan (R16, R22, R37). -/
  profile : Profile
  clockMode : ClockMode
  plan : List Port
  /-- Commands that wait, first in first out. -/
  pending : List Instr
  /-- What has been sent, oldest first (the model's own field). -/
  out : List Output
  /-- Free-value counter (the model's own field). -/
  free : Nat
  /-- Register fields, by `Fld` key, as value xor reset value. -/
  regs : NMap
  sl : SlState
  nv : NvState
  time : TimeState
  tel : TelState
  sb : SbState
  /-- The power policy as last set (R402). -/
  policy : List WakeBudget
  fab : FabState
  /-- A COMMAND trigger is to fire the common trigger line (R542). -/
  cmdTrigger : Bool
  kx : KxSt
  topPkg : TopPkg
  /-- A restore that takes lanes to DOWN (R608), with the lanes it brings up when they have reached it. -/
  restoring : Option (BitVec 8)
-- INSERT-FIELDS
  dies : Vector DieSt 8
  deriving DecidableEq, Repr

/-! ### The part right after reset

The registers stand at their Reset values (`regs := []`); MRAM and fuses are those of a part as it leaves the
factory. What the spec gives no reset value is empty, zero or false (assumption log). -/

def SbDie.reset : SbDie :=
  { reqs := [], loss := 0, sitOut := 0, credits := [2, 2, 2, 2, 2, 2, 2, 2], outs := [], grants := 0, misses := 0,
    starves := 0, hbSent := none, lastHb := 0, hbMissed := 0, clockFault := false, refFault := false, supplyFault := false, lockstep := false,
    d2dFails := [0, 0, 0], d2dWait := [(0, 0), (0, 0), (0, 0)], d2dRetrain := [0, 0, 0] }

def PwrDie.reset : PwrDie :=
  { waking := false, evalPending := false, since := 0, leftActive := none, thermalHold := false, coolSince := none,
    armed0 := true, armed1 := true, tjAt := none, retained := 0, restarted := false, anaPowered := true,
    mrxHold := false }

def DacCh.reset : DacCh :=
  { queue := [], direct := none, running := false, acc := 0, lfsr := 1, lastPhase := none, park := none }

def Conv.reset : Conv :=
  { fifo := [], act := .idle, endsAt := 0, preNow := 0, gainNow := 0, cic := .zero, back := .idle, delayEnd := none, ownDelayEnd := none, heldOwn := false,
    preset := 0, natWait := false, calWait := none, calFailed := false, timerAt := 0, ovrIv := none, lostIv := none }

def AnaDie.reset : AnaDie :=
  { chs := Vector.replicate 6 DacCh.reset, sineAcc := 0, updAt := none, safetyClr := false, convs := Vector.replicate 2 Conv.reset }

def SafeDie.reset : SafeDie :=
  { testedA := false, testedB := false, below := false, nextCmpB := false, nextConv := 0, m0 := none, disagree := 0,
    lastConvAt := 0, convAt := none, cmpAt := none, scrubAt := none, ldisHigh := false, armHold := false, stuck := false, underTest := false, tripHeld := false,
    catches := [] }

/-- Banks and tables at their register reset values. -/
def TxLoad.reset : TxLoad := { fir0 := [0, 0, 0, 48], fir1 := [0, 0, 0, 48], pd0 := [], pd1 := [], firAct := 0, pdAct := 0 }

def TxLane.reset : TxLane :=
  { up := false, upAt := 0, running := false, fc := 0, sentAt := 0, held := [], swingNow := 8, shapeNow := 0,
    sentLast := [], carry := [], renumber := false, sinceAdapt := none, maskFrames := 0, firSwap := none, pdSwap := false,
    holdLeft := 0, sinceSwap := none, sinceFb := 0, violRun := 0, cleanRun := 0, maskReverted := false,
    maskMute := false, seq := 0, phase := 0, load := none, kept := .reset }

def RxLane.reset : RxLane :=
  { since := 0, goodOh := 0, lockedFrames := 0, sinceRefresh := 0, sinceSuggest := 0, needEntry := false,
    entries := Vector.replicate 8 none, order := [], try_ := none, prefer := none, capture := none, fade := none,
    queued := none, fades := [], means := [], fineF := [], fineQ := [], fineD := [], pilots := [], rotAt := 0, cold := false, firSeq := 0, firStep := [], adcFails := 0, tol := 0, lockN := 0, cands := [],
    pos := 0, dfeSet := (0, 0), nleSet := [0, 0, 0, 0, 0, 0] }

def Engine.reset : Engine :=
  { job := none, saved := none, savedCyc := 0, stalled := false, since := 0, begun := 0,
    cap := 0, savedSpan := 0, savedCap := 0, slicing := false, sliceDue := none, clean := 0, failed := 0, returning := false }

def PoolSt.reset : PoolSt :=
  { engines := Vector.replicate 8 Engine.reset, queue := [], redo := [], idx := 0, frames := [], header := none,
    seqExt := 0, rxFc := 0, stats := [], lastTags := (0, 0) }

def CiphLane.reset : CiphLane :=
  { onNext := false, announced := false, cd := 0, highFc := none, barred := false, sfPass := 0, txFenced := 0,
    rxFenced := 0, txSlices := List.replicate 4 (0, 0), rxSlices := List.replicate 4 (0, 0), txSpare := 3, rxSpare := 3,
    txSliceAt := List.replicate 4 none, rxSliceAt := List.replicate 4 none, checkAt := none, condClear := false, condMismatch := false,
    condHdr := false, condProfile := false, condLane := false, unavailable := false }

def KxSt.reset : KxSt :=
  { tx := none, rx := none, wait := 1, due := none, failed := false, actedAt := none, sentAt := none, resync := false,
    outbox := [], newer := none, expired := false }

def DskSt.reset : DskSt :=
  { next := 0, t := 0, refA := none, retryAt := none, slew := 0, slewAt := 0, blocked := false, guard := 0, late := 0, early := 0,
    readmit := false }

def TopSt.reset : TopSt := { rel := none, relAt := 0, copies := [], since := none, rebuilds := [], noRoom := [], missing := none, held := [],
                               waiting := none }

def TopPkg.reset : TopPkg := { links := [], mask := 0, dbl := false, cw := 0, frames := 0, shown := ⟨0, 0, false, 0⟩ }

def PortQ.reset : PortQ :=
  { runs := false, fifo := [], came := none, last := none, err := false, since := 0, taken := 0, outNext := 0, part := [],
    cwNum := 0, counting := false, countedAt := 0, units := [], backUnits := [], wait := [], waitSince := 0, waitTaken := 0, back := [],
    backCame := none, backLast := none, backErr := false, anchor := none, hostNext := 0, symbols := 0, pairBad := false }

def DieSt.reset : DieSt :=
  { sb := .reset, pwr := .reset, log := [], tags := [], tagDropSeen := false, ana := .reset, safe := .reset,
    tx := .reset, rx := .reset, pool := .reset, units := ⟨none, 0, 0, 0⟩, acct := ⟨0, 0, 0⟩,
    inband := ⟨[], 0, 0, none, none, none, false⟩, keys := ⟨none, none, []⟩, ciph := .reset,
    dsk := .reset, top := .reset, host := Vector.replicate 2 PortQ.reset, rxOut := ⟨false, [], false, none⟩,
    diag := ⟨[(0, 0), (0, 0), (0, 0)], none, none, []⟩ }

def SlState.reset : SlState :=
  { etherType := 0x88B5#16, etherNext := none, idle := 60, plainMax := .operator, sessions := [], handshakes := [], execQ := [],
    pend := [], subs := [], held := [], alarms := [], mirrored := none }

def Fuses.reset : Fuses :=
  { lifecycle := 0, secver := 0, ceilings := Vector.replicate 8 [], permit := true, identity := none, ownerSlot := 0,
    ownerKey := none, packageId := Config.packageId, macA := Config.macA, macB := Config.macB,
    spent := [] }

def NvState.reset : NvState :=
  { copies := [], restored := [], preferred := none, commits := 0, committing := none, audit := [], auditNext := 0, fuses := .reset, limitCut := false,
    active := ⟨0, 0, true⟩, standby := ⟨0, 0, false⟩, loading := none, trial := none, psk := none, ownerCert := none,
    identityKey := false, identityPub := [], cal := [],
    safety := { limits := Vector.replicate 8 none, tests := Vector.replicate 8 none,
                passAt := Vector.replicate 8 none, service := 0, overdueAt := none } }

def TimeState.reset : TimeState :=
  { now := 0, offset := 0, extrap := false, uncert := 0, periodStart := none, periodRc := true, refclk := true,
    refLostAt := none, slowCount := 0, slowCalAt := 0, setPending := none, ivNum := 0, lastBoundary := 0, nextBoundary := 0,
    moved := false, lastEdge := none, slew := 0 }

def TelState.reset : TelState :=
  { ctr := [], wraps := [], sets := [], bounds := [], snap := none, carry := [], tagNext := (0, 0) }

def SbState.reset : SbState :=
  { slot := 0, granted := none, dlSlots := 0, beSlots := 0, allSlots := 0, tagCtr := 0, inbox := [], parts := [], mail := [], owed := [],
    election := none, oldLeader := none, elected := false, pendRoutes := false }

def FabState.reset : FabState :=
  { downA := some 0, downB := some 0, downIn := Vector.replicate 8 (some 0), nodeNext := none, nbrs := [], statics := [], learned := [],
    media := Vector.replicate 3 ⟨[], 0, none, none, false, false⟩, sentRoutes := [], lastHello := 0, lastRoutes := 0,
    ports := Vector.replicate 2 ⟨false, 0, 0, 0, false, 0x1B82⟩ }

/-- The part right after reset, before it starts (R622): a KO3208C (the spec names six parts; assumption log). -/
def State.reset : State :=
  { part := .ko3208C, phase := .inReset, profile := .full, clockMode := .locked, plan := [], pending := [],
    out := [], free := 0, regs := [], sl := .reset, nv := .reset, time := .reset, tel := .reset, sb := .reset,
    policy := [], fab := .reset, cmdTrigger := false, kx := .reset, topPkg := .reset, restoring := none,
    dies := Vector.replicate 8 DieSt.reset }

end Sys2Proof.Machine
end

