-- ==== Sys2Proof/Machine/Ops.lean ====
section
/-! DEFINITION. The named operations of the machine: populated units, register fields, counters, time, outputs. -/

namespace Sys2Proof.Machine

/-! ### Parts and positions -/

/-- Every die position, in order. -/
def allDies : List Die := [0, 1, 2, 3, 4, 5, 6, 7]

/-- Dies of a part (R2): two, four or eight, from P0 up. -/
def Part.dies : Part → Nat
  | .ko0802C | .ko0802N => 2
  | .ko1604C | .ko1604N => 4
  | .ko3208C | .ko3208N => 8

/-- Whether the part has the cipher (R2, R3). -/
def Part.cipher : Part → Bool
  | .ko0802C | .ko1604C | .ko3208C => true
  | .ko0802N | .ko1604N | .ko3208N => false

/-- Part code of DIE.IDENT and of the IDENT TLV (R33, R394). -/
def Part.code : Part → Nat
  | .ko0802C | .ko0802N => 0x0802
  | .ko1604C | .ko1604N => 0x1604
  | .ko3208C | .ko3208N => 0x3208

/-- Whether die Pp, and so lane Lp, exists (R2, R4). -/
def State.pop (s : State) (d : Die) : Bool := d.val < Part.dies s.part

/-- The populated dies, lowest first. -/
def State.popDies (s : State) : List Die := allDies.filter s.pop

/-- The dies of a mask, lowest first. -/
def maskDies (m : BitVec 8) : List Die := allDies.filter fun d => m.getLsbD d.val

/-- The mask of a list of dies. -/
def diesMask (ds : List Die) : BitVec 8 := ds.foldl (fun m d => m ||| (1#8 <<< d.val)) 0#8

/-- The die, or lane, of a TLV's number; none from 8 up. -/
def toDie? (n : Nat) : Option Die := if h : n < 8 then some ⟨n, h⟩ else none

/-- The die of a host lane. -/
def HostLane.die (h : HostLane) : Die := ⟨h.val / 2, by have := h.isLt; omega⟩

/-- The die of a management port: A on P0, B on P1. -/
def MPort.die : MPort → Die
  | .a => 0
  | .b => 1

/-! ### Dies -/

/-- What die `d` holds. -/
def State.die (s : State) (d : Die) : DieSt := s.dies.get d

/-- The state with die `d` changed by `g`. -/
def State.updDie (s : State) (d : Die) (g : DieSt → DieSt) : State :=
  { s with dies := s.dies.set d.val (g (s.dies.get d)) d.isLt }

/-! ### Register fields -/

/-- Registers that read the same on every die are held once, at P0: KEY.CRED and KEY.AGREE_TX and AGREE_RX (R322),
FAB (R452), EVT.PKG_EN (R601), NVM and FUSE (R627), the health and leader fields of SB.STAT, and the package's
CLK.SLOW, CLK.INTERVAL and CLK.SYNC_STAT. -/
def Fld.shared (f : Fld) : Bool :=
  f.blk == 0x0F || f.blk == 0x17 || f.blk == 0x18
  || (f.blk == 0x0D && f.word ≥ 1) || (f.blk == 0x15 && f.word == 2)
  || (f.blk == 0x03 && f.word == 1 && f.hi ≥ 8)
  || (f.blk == 0x02 && (f.word == 1 || f.word == 6 || f.word == 7))

/-- The table key of a field on a die. -/
def Fld.key (f : Fld) (d : Die) : Nat :=
  (((if f.shared then 0 else d.val) * 256 + f.blk) * 65536 + f.word) * 32 + f.hi

/-- The value of a register field. -/
def State.rd (s : State) (d : Die) (f : Fld) : Nat := s.regs.get (f.key d) ^^^ f.rst

/-- A register field as a flag. -/
def State.flag (s : State) (d : Die) (f : Fld) : Bool := s.rd d f != 0

/-- The state with a register field set; the value is cut to the field's width. -/
def State.wr (s : State) (d : Die) (f : Fld) (v : Nat) : State :=
  { s with regs := s.regs.set (f.key d) ((v % 2 ^ f.width) ^^^ f.rst) }

/-- Sets or clears a one-bit field. -/
def State.wrB (s : State) (d : Die) (f : Fld) (b : Bool) : State := s.wr d f (if b then 1 else 0)

/-- A field holding a two's-complement number. -/
def State.rdInt (s : State) (d : Die) (f : Fld) : Int :=
  let v := s.rd d f
  if v < 2 ^ (f.width - 1) then (v : Int) else (v : Int) - 2 ^ f.width

/-- Writes a two's-complement number. -/
def State.wrInt (s : State) (d : Die) (f : Fld) (v : Int) : State := s.wr d f (v % (2 ^ f.width : Int)).toNat

/-- Adds to a field that saturates at its highest value. -/
def State.incSat (s : State) (d : Die) (f : Fld) (n : Nat) : State :=
  s.wr d f (min (s.rd d f + n) (2 ^ f.width - 1))

/-- Applies an update for each element of a list, first to last. -/
def State.each {α : Type} (s : State) (l : List α) (g : State → α → State) : State := l.foldl g s

/-! ### Counters (R577 to R581) -/

/-- Package index of local counter `i` of a die (R577). -/
def ctrIndex (d : Die) (i : Nat) : Nat := d.val * 192 + i

/-- Adds to a counter of package index `k`, modulo 2^48, setting its wrap flag at a wrap (R577, R581). -/
def State.addCtr (s : State) (k n : Nat) : State :=
  let v := s.tel.ctr.get k + n
  let wraps := if v < 2 ^ 48 || s.tel.wraps.contains k then s.tel.wraps else k :: s.tel.wraps
  { s with tel := { s.tel with ctr := s.tel.ctr.set k (v % 2 ^ 48), wraps := wraps } }

/-- Adds `n` to local counter `i` of a populated die (R578). -/
def State.cntN (s : State) (d : Die) (i n : Nat) : State := if s.pop d then s.addCtr (ctrIndex d i) n else s

/-- Counts one at local counter `i` of a die. -/
def State.cnt (s : State) (d : Die) (i : Nat) : State := s.cntN d i 1

/-- Counts one at a package counter (R579). -/
def State.cntPkg (s : State) (k : Nat) : State := s.addCtr k 1

/-- Sets a counter, leaving its wrap flag (R582). -/
def State.setCtr (s : State) (k v : Nat) : State :=
  { s with tel := { s.tel with ctr := s.tel.ctr.set k (v % 2 ^ 48) } }

/-! ### Time (R513, R514) -/

/-- Units of package time in a nanosecond. -/
def nsU : Nat := 2 ^ 40
def usU (n : Nat) : Nat := n * (1000 * 2 ^ 40)
def msU (n : Nat) : Nat := n * (1000000 * 2 ^ 40)
def secU (n : Nat) : Nat := n * (1000000000 * 2 ^ 40)

/-- Package time in time units (R513). -/
def State.pkgTime (s : State) : Nat := ((s.time.now : Int) + s.time.offset).toNat

/-- Package time in nanoseconds, 64 bits (R513). -/
def State.ns (s : State) : Nat := s.pkgTime / nsU % 2 ^ 64

/-- Whether a time span that began at `t` has lasted `span`. -/
def State.past (s : State) (t span : Nat) : Bool := t + span ≤ s.time.now

/-! ### Outputs -/

/-- Appends to what the part has sent. -/
def State.emit (s : State) (o : Output) : State := { s with out := s.out ++ [o] }

/-! ### Leader and health (R472, R474) -/

/-- The leader's position (SB.STAT.LEADER). -/
def State.leader (s : State) : Die := Fin.ofNat 8 (s.rd 0 SB_STAT_LEADER)

/-- The health mask (SB.STAT.HEALTHY). -/
def State.healthMask (s : State) : BitVec 8 := BitVec.ofNat 8 (s.rd 0 SB_STAT_HEALTHY)

/-- Whether a die is healthy. -/
def State.healthy (s : State) (d : Die) : Bool := s.healthMask.getLsbD d.val

/-- Sets or clears a die's bit of the health mask. -/
def State.setHealthy (s : State) (d : Die) (b : Bool) : State :=
  let m := s.healthMask
  s.wr 0 SB_STAT_HEALTHY (if b then m ||| (1#8 <<< d.val) else m &&& ~~~(1#8 <<< d.val)).toNat

/-- The bit of a mask held in a field. -/
def State.bit (s : State) (d : Die) (f : Fld) (i : Nat) : Bool := (s.rd d f).testBit i

/-- Sets or clears one bit of a mask held in a field. -/
def State.setBit (s : State) (d : Die) (f : Fld) (i : Nat) (b : Bool) : State :=
  let v := s.rd d f
  s.wr d f (if b then v ||| 2 ^ i else v - (if v.testBit i then 2 ^ i else 0))

/-- The word that the stored fields of a register make; a write-only field reads 0 (R6). -/
def State.wordOf (s : State) (d : Die) (blk word : Nat) : Nat :=
  ((blockRows blk).filter fun f => f.word == word && f.acc != .wo).foldl (fun a f => a + s.rd d f * 2 ^ f.lo) 0

/-! ### Free values -/

/-- A fresh value the spec leaves open: nothing constrains it (see the assumption log). -/
def State.fresh (s : State) : Nat × State := (Config.freeValue s.free, { s with free := s.free + 1 })

/-! ### Things that happen once a period -/

/-- Whether the next one is due; the first is due at once. -/
def periodDue (last : Option Nat) (period now : Nat) : Bool :=
  match last with
  | some t => decide (t + period ≤ now)
  | none => true

/-- What counts as its time when it happens now: its place on its own grid, or now where a period or more was missed. -/
def nextDue (last : Option Nat) (period now : Nat) : Nat :=
  match last with
  | some t => if now < t + 2 * period then t + period else now
  | none => now

/-! ### Phases -/

/-- Whether line frames and host blocks are sent: outside starts, OFF and the recovery loader (R622, R625). -/
def State.dataRuns (s : State) : Bool := s.phase == .ready || s.phase == .stopping || s.phase == .shuttingDown

/-! ### Bytes -/

/-- The low `n` bytes of a number, most significant first (R386). -/
def be : Nat → Nat → Bytes
  | 0, _ => []
  | n + 1, v => be n (v / 256) ++ [BitVec.ofNat 8 v]

/-- The number a big-endian byte string stands for. -/
def ofBe (b : Bytes) : Nat := b.foldl (fun a x => a * 256 + x.toNat) 0

/-- A signed number in `n` bytes, two's complement (R386). -/
def beInt (n : Nat) (v : Int) : Bytes := be n (v % (256 ^ n : Int)).toNat

/-- Bytes cut or zero-padded to `n`. -/
def padTo (n : Nat) (b : Bytes) : Bytes := (b ++ List.replicate n 0#8).take n

/-- The first `n` elements from position `i`. -/
def sub (b : Bytes) (i n : Nat) : Bytes := (b.drop i).take n

/-- One byte of CRC-32, most significant bit first, generator 0x04C11DB7 (R90). -/
def crcByte (c : BitVec 32) (b : Byte) : BitVec 32 :=
  (List.range 8).foldl (fun c _ => if c.getLsbD 31 then (c <<< 1) ^^^ 0x04C11DB7#32 else c <<< 1)
    (c ^^^ (b.setWidth 32 <<< 24))

/-- CRC-32 of R90 over bytes: preset to ones, no reflection, complemented. -/
def crc32 (b : Bytes) : BitVec 32 := ~~~(b.foldl crcByte (BitVec.allOnes 32))

end Sys2Proof.Machine
end

