-- ==== Sys2Proof/Machine/Inject.lean ====
section
/-! DEFINITION. What error injection and captures do inside other operations (R414, R416). The spec names what is injected,
not where: LINE_BITS and TAG act on the frames that the lane sends, CW_FAIL on the codewords it decodes, HOST_SYMBOL on the
codewords its host port receives (DESIGN CHOICE, assumption log). -/

namespace Sys2Proof.Machine

/-- What an injection leaves to inject. -/
def State.setInject (s : State) (d : Die) (x : Option (Nat × Nat × Nat)) : State :=
  (s.updDie d fun y => { y with diag := { y.diag with inject := x } }).wrB d PATG_STAT_INJ_BUSY x.isSome

/-- Takes one error of a kind, if one is to be injected there. -/
def State.takeInject (s : State) (d : Die) (kind which : Nat) : Bool × State :=
  match (s.die d).diag.inject with
  | some (k, w, n) =>
    if k = kind ∧ w = which then (true, s.setInject d (if n ≤ 1 then none else some (k, w, n - 1))) else (false, s)
  | none => (false, s)

/-- Line bit errors go into the next frame of the lane. -/
def State.injectLineBits (s : State) (l : Die) : State :=
  match (s.die l).diag.inject with
  | some (0, _, n) => (s.setInject l none).emit (.injected l n)
  | _ => s

/-- A capture that waits for a trigger sees it. -/
def State.capTrigger (s : State) (l : Die) (trigger : Nat) : State :=
  match (s.die l).diag.capture with
  | some c => if c.trigger = trigger then s.wr l PATG_STAT_CAP_ARMED 0 else s
  | none => s

end Sys2Proof.Machine
end

