-- ==== Sys2Proof/Machine/TopDown.lean ====
section
/-! DEFINITION. Frame periods, and the top-down accounts of the decoder engines (R73, R332, R586). -/

namespace Sys2Proof.Machine

/-- The length of one frame, or in STANDARD of one period of R332, in time units: 1,320,960 symbols. -/
def State.frameU (s : State) : Nat :=
  if s.profile = .standard then 1320960 * 10000000 * nsU / 1134375000 else 22848000000 * nsU / 4015625

/-- The length of `n` symbols. -/
def State.symbolsU (s : State) (n : Nat) : Nat := n * s.frameU / 1320960

/-- The core cycle in which a time lies: 8,256 core cycles make a frame (R586). -/
def State.coreCycle (s : State) (t : Nat) : Nat := t * 8256 / s.frameU

/-- Slots of the decoder pool's account, as local counter indices (R578, R586). -/
abbrev slotRETIRED : Nat := 80
abbrev slotWASTED : Nat := 81
abbrev slotSTARVED : Nat := 82
abbrev slotSTALLED : Nat := 83

def State.engine (s : State) (l : Die) (e : Fin 8) : Engine := (s.die l).pool.engines.get e

def State.updPool (s : State) (l : Die) (g : PoolSt → PoolSt) : State := s.updDie l fun x => { x with pool := g x.pool }

def State.updEngine (s : State) (l : Die) (e : Fin 8) (g : Engine → Engine) : State :=
  s.updPool l fun p => { p with engines := p.engines.set e.val (g (p.engines.get e)) e.isLt }

/-- Core cycles of an engine that no slot has counted yet. -/
def State.uncharged (s : State) (l : Die) (e : Fin 8) : Nat :=
  s.coreCycle s.time.now - s.coreCycle (s.engine l e).since

/-- Charges an engine's cycles since its last charge to a slot (R586). -/
def State.charge (s : State) (l : Die) (e : Fin 8) (slot : Nat) : State :=
  (s.cntN l slot (s.uncharged l e)).updEngine l e fun x => { x with since := s.time.now }

/-- The slot an engine's present work counts in at a latch: codewords in an engine count as RETIRED (R586). -/
def Engine.slotNow (x : Engine) : Nat :=
  if x.stalled then slotSTALLED else if x.job.isSome then slotRETIRED else slotSTARVED

/-- Charges every engine of a die at a latch (R586): a suspended codeword's cycles are charged too. -/
def State.chargeAll (s : State) (l : Die) : State :=
  s.each allDies fun s e =>
    let x := s.engine l e
    (((s.charge l e x.slotNow).cntN l slotRETIRED x.savedCyc)).updEngine l e fun y => { y with savedCyc := 0 }

/-- Charges `n` cycles of cipher pipelines to a local counter in one direction (R587). -/
def State.chargePipes (s : State) (l : Die) (rx : Bool) (slot n : Nat) : State :=
  (s.cntN l slot n).updDie l fun x =>
    { x with acct := if rx then { x.acct with rx := x.acct.rx + n } else { x.acct with tx := x.acct.tx + n } }

/-- Charges the cycles in which a cipher pipeline had no block waiting at a latch (R587): three pipelines count in
each direction. -/
def State.chargeCipher (s : State) (l : Die) : State :=
  let a := (s.die l).acct
  let total := 3 * (s.coreCycle s.time.now - s.coreCycle a.since)
  ((s.cntN l 124 (total - a.tx)).cntN l 128 (total - a.rx)).updDie l fun x =>
    { x with acct := ⟨s.time.now, 0, 0⟩ }

/-- Restarts the account of a die whose core clock starts again. -/
def State.restartCharge (s : State) (l : Die) : State :=
  (s.each allDies fun s e => s.updEngine l e fun x => { x with since := s.time.now, savedCyc := 0 }).updDie l fun x =>
    { x with acct := ⟨s.time.now, 0, 0⟩ }

end Sys2Proof.Machine
end

