-- ==== Sys2Proof/Machine/Routes.lean ====
section
/-! DEFINITION. Node addresses, the route table, Jeuri messages as bytes, and the in-band queues (R428 to R446). -/

namespace Sys2Proof.Machine

/-! ### Node numbers and neighbours (R429, R434 to R436) -/

/-- The package's node number in use; 0 for none (R429). -/
def State.node (s : State) : Nat := s.rd 0 FAB_NODE

/-- Whether the package forwards and can be root (R429, R433). -/
def State.forwarder (s : State) : Bool := s.node != 0 && !s.flag 0 FAB_CFG_LEAF

/-- Whether a neighbour names this package in its HEARD (R434). -/
def State.twoWay (s : State) (n : Nbr) : Bool := s.node != 0 && n.hello.heard == s.node

/-- A neighbour with the package's own node number and another PACKAGE_ID (R434). -/
def State.inConflict (s : State) (n : Nbr) : Bool :=
  s.node != 0 && n.hello.node == s.node && n.hello.packageId != s.nv.fuses.packageId

/-- Whether the medium of a neighbour is treated as BLOCKED (R434): two packages heard on a port, or a node conflict on the port
or on the neighbour's line link. -/
def State.nbrBlocked (s : State) (n : Nbr) : Bool :=
  if 2 ≤ n.medium then s.inConflict n
  else
    let ns := s.fab.nbrs.filter fun x => x.medium == n.medium
    decide (2 ≤ ns.length) || ns.any s.inConflict

/-- The order of uplink choice (R435): fewest ROOT_HOPS, then port A, port B, LINK, then the lowest node number. -/
def betterUplink (a b : Nbr) : Bool :=
  a.hello.rootHops < b.hello.rootHops || (a.hello.rootHops == b.hello.rootHops
    && (a.medium < b.medium || (a.medium == b.medium && a.hello.node < b.hello.node)))

/-- The neighbours among which a package chooses its root and uplink (R435). -/
def State.offers (s : State) : List Nbr :=
  if s.forwarder then s.fab.nbrs.filter fun n =>
    s.twoWay n && n.hello.forwarder && n.hello.uplink != s.node && n.hello.rootHops != 15 && !s.nbrBlocked n
  else []

/-- The root (R435). -/
def State.rootOf (s : State) : Nat := (s.offers.map fun n => n.hello.root).foldl min s.node

/-- The uplink neighbour (R435); none for a package that is its own root. -/
def State.uplink? (s : State) : Option Nbr :=
  if s.rootOf = s.node then none
  else (s.offers.filter fun n => n.hello.root == s.rootOf).foldl (fun b n =>
    match b with
    | none => some n
    | some m => if betterUplink n m then some n else some m) none

/-- Hops to the root (R435). -/
def State.rootHopsOf (s : State) : Nat :=
  match s.uplink? with
  | some n => n.hello.rootHops + 1
  | none => 0

/-- Whether two neighbour entries are the same neighbour on the same medium. -/
def Nbr.same (a b : Nbr) : Bool := a.medium == b.medium && a.hello.packageId == b.hello.packageId

/-- Whether the link to a neighbour is ACTIVE (R436). -/
def State.linkActive (s : State) (n : Nbr) : Bool :=
  s.twoWay n && !s.nbrBlocked n
    && (!n.hello.forwarder || n.hello.uplink == s.node
      || (match s.uplink? with
          | some u => u.same n
          | none => false))

/-- The lanes of a neighbour's link that are up (R446). -/
def State.nbrLanes (s : State) (n : Nbr) : List Die :=
  (maskDies n.lanes).filter fun l => s.bit 0 FAB_INBAND_UP_MASK l.val

/-- The next hop towards a neighbour (R438, R446): a link's lane is its lowest up lane. -/
def State.nbrHop (s : State) (n : Nbr) : Hop :=
  match n.medium with
  | 0 => .portA
  | 1 => .portB
  | _ => .link ((s.nbrLanes n).headD ((maskDies n.lanes).headD 0))

/-! ### The route table (R438) -/

/-- One entry of the route table. -/
structure RouteEntry where
  node : Nat
  hop : Hop
  hops : Nat
  origin : Origin
  deriving DecidableEq, Repr

/-- The neighbour a LEARNED route came from. -/
def State.learnedFrom (s : State) (e : Learned) : Option Nbr :=
  s.fab.nbrs.find? fun n => n.medium == e.medium && n.hello.packageId == e.packageId

/-- Entries by origin, best first; a destination keeps its first (R438). -/
def State.routeEntries (s : State) : List RouteEntry :=
  let own := if s.node = 0 then [] else [RouteEntry.mk s.node .loc 0 .loc]
  let nb := (s.fab.nbrs.filter fun n => s.twoWay n && n.hello.node != 0 && !n.noRoute).map fun n =>
    RouteEntry.mk n.hello.node (s.nbrHop n) 1 .neighbour
  let st := s.fab.statics.map fun r => RouteEntry.mk r.1 r.2 0 .static
  let le := s.fab.learned.flatMap fun e =>
    (s.learnedFrom e).toList.map fun n => RouteEntry.mk e.node (s.nbrHop n) e.hops .learned
  (own ++ nb ++ st ++ le).foldl (fun t e => if t.any (fun x => x.node == e.node) then t else t ++ [e]) []

/-- The route to a node number. -/
def State.route? (s : State) (node : Nat) : Option RouteEntry := s.routeEntries.find? fun e => e.node == node

/-- Whether the route table holds an entry for a node address. -/
def State.hasRoute (s : State) (addr : BitVec 16) : Bool := (s.route? (addr.toNat / 8)).isSome

/-- The medium of a hop towards a controller. -/
def Hop.medium? : Hop → Option Medium
  | .portA => some .portA
  | .portB => some .portB
  | .link l => some (.inband l)
  | .loc => none

/-- The medium by which a packet to `src` leaves: its route's, or for 0xFFFF and without a route the medium it came
by (R350, R441). -/
def State.pathTo (s : State) (src : BitVec 16) (m : Medium) : Medium :=
  if src = 0xFFFF then m else (((s.route? (src.toNat / 8)).map RouteEntry.hop).bind Hop.medium?).getD m

/-! ### Jeuri messages as bytes (R431 to R433, R439) -/

def JMedium.index : JMedium → Nat
  | .portA => 0
  | .portB => 1
  | .link _ => 2

/-- A message: header of R431, then its body. -/
def State.jeuriMsg (s : State) (type hops : Nat) (body : Bytes) : Bytes :=
  be 1 (16 + type) ++ be 1 hops ++ be 2 body.length ++ be 2 (if s.node = 0 then 0 else s.node * 8 + s.leader.val)
    ++ be 2 0 ++ body

/-- A HELLO body (R433); node numbers go in node-address form. -/
def helloBody (h : Hello) (medium : Nat) (leader : Die) : Bytes :=
  be 8 h.packageId.toNat ++ be 2 (if h.node = 0 then 0 else h.node * 8 + leader.val)
    ++ be 1 ((if h.forwarder then 1 else 0) + (if h.plain then 2 else 0)) ++ be 1 medium ++ be 2 (h.root * 8)
    ++ be 1 h.rootHops ++ be 1 0 ++ be 2 (h.uplink * 8) ++ be 2 (h.heard * 8) ++ be 2 h.helloMs ++ be 2 0

/-- A ROUTES body (R439). -/
def routesBody (ads : List RouteAd) : Bytes :=
  be 2 ads.length ++ be 2 0 ++ ads.flatMap fun a => be 2 (a.node * 8) ++ be 1 a.hops ++ be 1 0

/-! ### The in-band queues (R443, R446) -/

def State.inb (s : State) (l : Die) : Inband := (s.die l).inband

def State.updInb (s : State) (l : Die) (g : Inband → Inband) : State :=
  s.updDie l fun x => { x with inband := g x.inband }

/-- Bytes that wait on a lane. -/
def State.inbWaiting (s : State) (l : Die) : Nat := ((s.inb l).txq.map List.length).sum - (s.inb l).txPos

/-- The lane of a list with the fewest bytes waiting, the lowest on ties (R446). -/
def State.leastLane (s : State) (ls : List Die) : Option Die :=
  ls.foldl (fun b l =>
    match b with
    | none => some l
    | some m => if s.inbWaiting l < s.inbWaiting m then some l else some m) none

/-- Queues a message on a lane. -/
def State.inbPush (s : State) (l : Die) (m : Bytes) : State := s.updInb l fun x => { x with txq := x.txq ++ [m] }

/-- Counts a dropped Jeuri message at a die (R578). -/
def State.jeuriDropped (s : State) (d : Die) : State := s.cnt d 152

/-- The die of a medium. -/
def JMedium.die : JMedium → Die
  | .portA => 0
  | .portB => 1
  | .link l => l

/-- Whether a management port is UP (R423). -/
def State.portUp (s : State) (p : MPort) : Bool := s.rd (MPort.die p) MGMT_STAT_STATE == 2

/-- A frame leaves a management port: low-power idle ends (R427), the frame is counted. -/
def State.portSent (s : State) (p : MPort) : State :=
  let d := MPort.die p
  let i : Fin 2 := match p with
    | .a => 0
    | .b => 1
  let s := (s.cnt d 145).wr d MGMT_STAT_LPI_TX 0
  { s with fab := { s.fab with ports := s.fab.ports.set i.val { s.fab.ports.get i with idleSince := s.time.now } i.isLt } }

/-- A port's own MAC address (R428, R451). -/
def State.ownMac (s : State) (p : MPort) : BitVec 48 :=
  BitVec.ofNat 48 (s.rd (MPort.die p) MGMT_MAC_HI * 2 ^ 32 + s.rd (MPort.die p) MGMT_MAC_LO)

/-- The group address of Jeuri frames (R430). -/
abbrev jeuriMac : BitVec 48 := 0x034A45554952#48

/-- Sends an Ethernet frame on a port that is UP, from its own address and with the configured EtherType (R345, R428). -/
def State.sendEth (s : State) (p : MPort) (dst : BitVec 48) (vlan : Option (BitVec 16)) (payload : Bytes) : State :=
  if s.portUp p then (s.portSent p).emit (.eth p dst (s.ownMac p) vlan s.sl.etherType payload) else s

/-- Sends a Jeuri message on a port (R430). -/
def State.sendPort (s : State) (p : MPort) (m : Bytes) : State := s.sendEth p jeuriMac none m

/-- Sends a message whole on one up lane of a neighbour's link; with none it is dropped and counted (R446). -/
def State.sendLink (s : State) (n : Nbr) (m : Bytes) : State :=
  match s.leastLane (s.nbrLanes n) with
  | some l => s.inbPush l m
  | none => s.jeuriDropped ((maskDies n.lanes).headD 0)

/-- Sends a message to a neighbour. -/
def State.sendNbr (s : State) (n : Nbr) (m : Bytes) : State :=
  match n.medium with
  | 0 => s.sendPort .a m
  | 1 => s.sendPort .b m
  | _ => s.sendLink n m

/-- The neighbour whose link has a lane. -/
def State.nbrOnLane (s : State) (l : Die) : Option Nbr := s.fab.nbrs.find? fun n => n.medium == 2 && n.lanes.getLsbD l.val

/-! ### Slostan packets as bytes (R347, R351, R359) -/

/-- TLVs as bytes (R351). -/
def tlvBytes (t : List Tlv) : Bytes := t.flatMap fun x => be 2 x.type ++ be 2 x.value.length ++ x.value

/-- A packet: header, NONCE when the channel is secure, TLVs, and on a secure channel enciphered TLVs and tag. -/
def packetBytes (flags : Nat) (ch : BitVec 8) (seq dest src : BitVec 16) (opcode : Nat) (sec : Option (SessKeys × Nat))
    (tlvs : Bytes) : Bytes :=
  let nonce := match sec with
    | some (_, n) => be 2 1 ++ be 2 8 ++ be 8 n
    | none => []
  let head := be 1 (16 + flags + (if sec.isSome then 2 else 0)) ++ [ch] ++ be 2 seq.toNat ++ be 2 dest.toNat
    ++ be 2 src.toNat ++ be 2 opcode ++ be 2 (nonce.length + tlvs.length) ++ nonce
  match sec with
  | some (k, n) => head ++ Config.gcmSeal (k.kp.take 32) (k.kp.drop 32 ++ be 8 n) head tlvs
  | none => head ++ tlvs

/-- The neighbour a hop leads to. -/
def State.nbrOfHop (s : State) (node : Nat) : Hop → Option Nbr
  | .portA => s.fab.nbrs.find? fun n => n.medium == 0 && (n.hello.node == node || !s.fab.nbrs.any fun x =>
      x.medium == 0 && x.hello.node == node)
  | .portB => s.fab.nbrs.find? fun n => n.medium == 1 && (n.hello.node == node || !s.fab.nbrs.any fun x =>
      x.medium == 1 && x.hello.node == node)
  | .link l => s.nbrOnLane l
  | .loc => none

/-- Sends a message on a lane's line link (R446). -/
def State.sendLane (s : State) (l : Die) (m : Bytes) : State :=
  match s.nbrOnLane l with
  | some n => s.sendLink n m
  | none => if s.bit 0 FAB_INBAND_UP_MASK l.val then s.inbPush l m else s.jeuriDropped l

/-- Sends a packet over a hop as DATA with `hops`, or as a plain frame to the MAC address of a neighbour with PLAIN 1 (R440). -/
def State.sendVia (s : State) (node : Nat) (h : Hop) (hops : Nat) (vlan : Option (BitVec 16)) (p : Bytes) : State :=
  let msg := s.jeuriMsg 1 hops p
  let plain := (s.nbrOfHop node h).filter fun n => n.hello.plain && n.hello.node == node
  let port (q : MPort) : State := match plain with
    | some n => s.sendEth q n.mac vlan p
    | none => s.sendPort q msg
  match h with
  | .portA => port .a
  | .portB => port .b
  | .link l => s.sendLane l msg
  | .loc => s

/-- A packet of the part's own goes by the medium its controller is bound to: a frame to the controller's MAC address, or in-band
in a DATA message (R428, R441, R444). -/
def State.sendBy (s : State) (m : Medium) (mac : BitVec 48) (vlan : Option (BitVec 16)) (packet : Bytes) : State :=
  match m with
  | .inband l => s.sendLane l (s.jeuriMsg 1 15 packet)
  | .portA => s.sendEth .a mac vlan packet
  | .portB => s.sendEth .b mac vlan packet

/-- A reply or event goes to a node address by its route, and without one, or to 0xFFFF, by the medium of its session (R350, R440,
R441). -/
def State.sendOwn (s : State) (dest : BitVec 16) (m : Medium) (mac : BitVec 48) (vlan : Option (BitVec 16)) (packet : Bytes) :
    State :=
  match if dest = 0xFFFF then none else s.route? (dest.toNat / 8) with
  | some e => if e.hop = .loc then s.sendBy m mac vlan packet else s.sendVia e.node e.hop 15 vlan packet
  | none => s.sendBy m mac vlan packet

/-- The lanes of the line link that a lane belongs to; a lane without neighbour stands alone (R446). -/
def State.linkLanes (s : State) (l : Die) : List Die :=
  match s.nbrOnLane l with
  | some n => maskDies n.lanes
  | none => [l]

/-- Whether the line link of a lane is up (R446). -/
def State.lineLinkUp (s : State) (l : Die) : Bool := (s.linkLanes l).any fun d => s.bit 0 FAB_INBAND_UP_MASK d.val

/-- Changes since when line links are down. -/
def State.updFabDown (s : State) (v : Vector (Option Nat) 8) : State := { s with fab := { s.fab with downIn := v } }

/-- Since when line links are down follows their lanes (R372, R446). -/
def State.followLinks (s : State) : State :=
  s.updFabDown (Vector.ofFn fun l => if s.lineLinkUp l then none else some ((s.fab.downIn.get l).getD s.time.now))

/-- Since when a session's way is down (R372, R441): for a controller with a node address, while the route table holds
no entry for it; otherwise its medium. -/
def State.sessionDown (s : State) (x : Session) : Option Nat :=
  if x.src != 0xFFFF then x.noRouteAt
  else match x.medium with
    | .portA => s.fab.downA
    | .portB => s.fab.downB
    | .inband l => s.fab.downIn.get l

/-- Whether a packet's medium fits a session (R354, R441, R446): one of a node address is bound to no medium, another to its port
or line link. -/
def State.fits (s : State) (x : Session) (src : BitVec 16) (m : Medium) : Bool :=
  x.src == src && (x.src != 0xFFFF || match x.medium, m with
    | .inband a, .inband b => (s.linkLanes a).contains b
    | a, b => a == b)

end Sys2Proof.Machine
end

