-- ==== Sys2Proof/Machine/Events.lean ====
section
/-! DEFINITION. Event sources, the raise of an event, its way to the subscribers, and the SAFETY events held for
them (R381 to R383, R592 to R598, R662). -/

namespace Sys2Proof.Machine

/-! ### Sources: local index of a die (R592) and package index (R593) -/

abbrev evHOST_PAIR_OFFSET : Nat := 0
abbrev evSEQ_SLIP : Nat := 1
abbrev evOH_LOST : Nat := 2
abbrev evHDR_VERSION : Nat := 3
abbrev evPROFILE_MISMATCH : Nat := 4
abbrev evLANE_ID_MISMATCH : Nat := 5
abbrev evTX_MASK_VIOL : Nat := 6
abbrev evTX_MASK_MUTE : Nat := 7
abbrev evTX_FIR_REVERT : Nat := 8
abbrev evADC_SUB_RETIRED : Nat := 9
abbrev evADC_DEGRADED : Nat := 10
abbrev evRX_LOS : Nat := 11
abbrev evRX_CAPTURE : Nat := 12
abbrev evACQ_TIMEOUT : Nat := 13
abbrev evFAST_REACQ_FAIL : Nat := 14
abbrev evFRAME_LOCK : Nat := 15
abbrev evFRAME_SLIP : Nat := 16
abbrev evFRAME_LOCK_LOST : Nat := 17
abbrev evDESKEW_RANGE : Nat := 18
abbrev evDESKEW_EXCLUDED : Nat := 19
abbrev evDEC_CAP_REDUCED : Nat := 20
abbrev evDEC_POOL_EMPTY : Nat := 21
abbrev evDEC_ENGINE_FENCED : Nat := 22
abbrev evDEC_ENGINE_UNFENCED : Nat := 23
abbrev evDEC_ENGINE_PERMANENT : Nat := 24
abbrev evDEC_CHECKER_FAIL : Nat := 25
abbrev evTOP_UNPROTECTED : Nat := 26
abbrev evTOP_REROUTE : Nat := 27
abbrev evTOP_TX_MISSING : Nat := 28
abbrev evTOP_DOUBLE : Nat := 29
abbrev evTOP_RX_LATE : Nat := 30
abbrev evTOP_OVERRUN : Nat := 31
abbrev evTAG_FAIL : Nat := 32
abbrev evKEY_RESYNC : Nat := 33
abbrev evCLEAR_REFUSED : Nat := 34
abbrev evCIPHER_MISMATCH : Nat := 35
abbrev evCIPHER_PIPE_FAIL : Nat := 36
abbrev evCIPHER_PIPE_FENCED : Nat := 37
abbrev evCIPHER_BYPASS : Nat := 38
abbrev evSFD_CATCH : Nat := 39
abbrev evSF_D_ALARM : Nat := 40
abbrev evLASER_TRIP : Nat := 41
abbrev evLDIS_STUCK : Nat := 42
abbrev evSAFE_MON_FAULT : Nat := 43
abbrev evLOCKSTEP_MISMATCH : Nat := 44
abbrev evMEM_UNCORR : Nat := 45
abbrev evSUPPLY_FAULT : Nat := 46
abbrev evSELFTEST_FAIL : Nat := 47
abbrev evDIE_UNHEALTHY : Nat := 48
abbrev evTHERMAL_LIMIT : Nat := 49
abbrev evPOWER_WAKE : Nat := 50
abbrev evSB_DEADLINE_MISSED : Nat := 51
abbrev evSB_STARVATION : Nat := 52
abbrev evD2D_LINK_DOWN : Nat := 53
abbrev evMB_MUTUAL_FULL : Nat := 54
abbrev evDAC_SHORT : Nat := 55
abbrev evDAC_CLEARED : Nat := 56
abbrev evMADC_OVERRUN : Nat := 57
abbrev evMADC_FIFO_LOST : Nat := 58
abbrev evMADC_CAL_FAIL : Nat := 59
abbrev evMGMT_LINK_UP : Nat := 60
abbrev evMGMT_LINK_DOWN : Nat := 61
abbrev evMGMT_TRAIN_FAIL : Nat := 62
abbrev evTAG_DROPPED : Nat := 63

abbrev evLEADER_CHANGE : Nat := 0
abbrev evCLAIM_EXPIRED : Nat := 1
abbrev evKEY_AGREED : Nat := 2
abbrev evRACK_DONE : Nat := 3
abbrev evKEY_AGREE_FAIL : Nat := 4
abbrev evKEY_EXPIRED : Nat := 5
abbrev evCIPHER_DOWNGRADE : Nat := 6
abbrev evREFCLK_LOST : Nat := 7
abbrev evSLOW_CLK_FAIL : Nat := 8
abbrev evSB_LOAD_HIGH : Nat := 9
abbrev evJEURI_NEIGHBOUR_UP : Nat := 10
abbrev evJEURI_NEIGHBOUR_LOST : Nat := 11
abbrev evJEURI_MULTI_NEIGHBOUR : Nat := 12
abbrev evNODE_CONFLICT : Nat := 13
abbrev evROUTE_TABLE_FULL : Nat := 14
abbrev evSELFTEST_OVERDUE : Nat := 15
abbrev evCNT_SNAPSHOT_SKIPPED : Nat := 16

/-- Severity of a local source (R592). -/
def sevLocal (i : Nat) : Severity :=
  if i ∈ [38, 40, 41, 42, 43] then .safety
  else if i ∈ [0, 3, 4, 7, 10, 18, 21, 24, 25, 35, 36, 44, 45, 46, 47, 48, 49] then .fault
  else if i ∈ [12, 15, 23, 27, 50, 52, 56, 60, 63] then .info
  else .warn

/-- Severity of a package source, by its index from 512 (R593). -/
def sevPkg (j : Nat) : Severity :=
  if j ∈ [0, 2, 3, 10] then .info else if j ∈ [5, 7, 13] then .fault else .warn

/-- Codes 0 to 3 of a severity (R597). -/
def Severity.code : Severity → Nat
  | .info => 0
  | .warn => 1
  | .fault => 2
  | .safety => 3

/-- An argument of R598: byte 0, byte 1, then the rest, padded with zeros. -/
def evArg (b0 b1 : Nat) (rest : Bytes) : Bytes := padTo 8 ([BitVec.ofNat 8 b0, BitVec.ofNat 8 b1] ++ rest)

/-- An argument that names nothing (R598). -/
def noArg : Bytes := evArg 0xFF 0xFF []

/-! ### Subscribers' queues (R381 to R383, R595) -/

/-- Whether a subscriber's filter passes a record (R594); SAFETY passes every filter. -/
def Subscriber.passes (u : Subscriber) (e : EvRec) : Bool :=
  e.sev == .safety || (u.mask.getMsbD e.source && decide (u.sevMin ≤ Severity.code e.sev))

/-- One event's worth of the token bucket. -/
def creditUnit : Nat := 10 ^ 9 * 2 ^ 40

/-- The bucket filled up to `now`: `rate` events a second, at most 64 (R381). -/
def Subscriber.refill (u : Subscriber) (now : Nat) : Subscriber :=
  { u with credit := min (64 * creditUnit) (u.credit + u.rate * (now - u.creditAt)), creditAt := now }

/-- Merges a record into a waiting one of the same source, or none (R595). -/
def mergeInto (q : List EvRec) (e : EvRec) : Option (List EvRec) :=
  if e.sev = .safety then none
  else if q.any (fun x => x.source == e.source) then
    some (q.map fun x => if x.source = e.source then { x with count := min 65535 (x.count + 1) } else x)
  else none

/-- Removes the first record of a severity. -/
def dropFirst (sev : Severity) : List EvRec → List EvRec
  | [] => []
  | x :: xs => if x.sev = sev then xs else x :: dropFirst sev xs

/-- The queue after a record that must give way to 64 others: the oldest INFO, else the oldest WARN, else the
oldest FAULT goes (R383). -/
def evict (q : List EvRec) : List EvRec :=
  if q.any (fun x => x.sev == .info) then dropFirst .info q
  else if q.any (fun x => x.sev == .warn) then dropFirst .warn q
  else dropFirst .fault q

/-- A record arrives at a subscriber's queue: merged, rate-limited, queued or dropped, with what was dropped
counted (R382, R383, R595). The 64 places are those of records other than SAFETY; SAFETY records stand in
entries reserved for them and are never dropped. -/
def Subscriber.offer (u : Subscriber) (now : Nat) (e : EvRec) : Subscriber × Nat :=
  if u.passes e then
    match mergeInto u.queue e with
    | some q => ({ u with queue := q }, 0)
    | none =>
      if e.sev = .safety then ({ u with queue := u.queue ++ [e] }, 0)
      else
        let u := u.refill now
        if u.credit < creditUnit then ({ u with dropped := u.dropped + 1 }, 1)
        else
          let u := { u with credit := u.credit - creditUnit }
          let q := u.queue ++ [e]
          if (q.filter fun x => x.sev != .safety).length ≤ 64 then ({ u with queue := q }, 0)
          else ({ u with queue := evict q, dropped := u.dropped + 1 }, 1)
  else (u, 0)

/-- Whether packets can leave by a medium: a port that is UP, or a lane that carries the in-band channel (R372,
R445). -/
def State.mediumUp (s : State) : Medium → Bool
  | .portA => s.rd 0 MGMT_STAT_STATE == 2
  | .portB => s.rd 1 MGMT_STAT_STATE == 2
  | .inband l => s.lineLinkUp l

/-- The session that holds a channel. -/
def State.session? (s : State) (ch : BitVec 8) : Option Session := s.sl.sessions.find? fun x => x.channel == ch

/-- Changes the session of a channel. -/
def State.updSession (s : State) (ch : BitVec 8) (g : Session → Session) : State :=
  { s with sl := { s.sl with sessions := s.sl.sessions.map fun x => if x.channel = ch then g x else x } }

/-- Takes the next packet number of a secure channel (R359); none on a non-secure one. -/
def State.takeNonce (s : State) (ch : BitVec 8) : Option Nat × State :=
  match s.session? ch with
  | some x => if x.secure then (some (x.txNum + 1), s.updSession ch fun y => { y with txNum := y.txNum + 1 })
    else (none, s)
  | none => (none, s)

/-- Changes the subscriber of a channel. -/
def State.updSub (s : State) (ch : BitVec 8) (g : Subscriber → Subscriber) : State :=
  { s with sl := { s.sl with subs := s.sl.subs.map fun u => if u.channel = ch then g u else u } }

/-- The EVENT_RECORD TLV (R597). -/
def tlvEvent (e : EvRec) : Tlv :=
  ⟨0x019C, be 2 e.source ++ be 1 (Severity.code e.sev)
    ++ be 1 ((if e.extrap then 1 else 0) + (if e.resent then 2 else 0) + (if e.held then 4 else 0))
    ++ be 8 e.timeNs ++ be 2 e.count ++ be 2 0 ++ e.arg⟩

/-- Sends an event packet to a session's controller (R381). -/
def State.sendEvent (s : State) (x : Session) (seq : BitVec 16) (recs : List EvRec) (dropped : Nat) : State :=
  let (nonce, s) := s.takeNonce x.channel
  let m := s.pathTo x.src x.medium
  let s := s.emit (.event m x.channel nonce seq recs dropped)
  let own := BitVec.ofNat 16 (s.node * 8 + s.leader.val)
  let tlvs := recs.map tlvEvent ++ [⟨0x019D, be 4 dropped⟩]
  s.sendOwn x.src x.medium x.mac x.vlan (packetBytes 4 x.channel seq x.src own 0x0710 (x.keys.bind fun k => nonce.map fun n => (k, n))
    (tlvBytes tlvs))

/-- Sends one packet of up to eight waiting records (R381). SAFETY records stay unacknowledged (R382). -/
def State.sendEvents (s : State) (u : Subscriber) (x : Session) : State :=
  match u.queue with
  | [] => s
  | _ =>
    let recs := u.queue.take 8
    let unacked := (recs.filter fun e => e.sev == .safety).map fun e => ⟨u.nextSeq, e, s.time.now⟩
    let s := s.sendEvent x u.nextSeq recs u.dropped
    s.updSub u.channel fun v =>
      { v with queue := u.queue.drop 8, nextSeq := u.nextSeq + 1, unacked := v.unacked ++ unacked, dropped := 0 }

/-- Sends what waits in a subscriber's queue, at most `n` packets, while its medium is up (R381). -/
def State.flushSub : Nat → State → BitVec 8 → State
  | 0, s, _ => s
  | n + 1, s, ch =>
    match s.sl.subs.find? (fun u => u.channel == ch), s.session? ch with
    | some u, some x =>
      if u.queue.isEmpty || !s.mediumUp (s.pathTo x.src x.medium) then s else State.flushSub n (s.sendEvents u x) ch
    | _, _ => s

/-- Sends what waits for every subscriber. -/
def State.flushAll (s : State) : State :=
  s.each (s.sl.subs.map fun u => u.channel) fun s ch => State.flushSub 16 s ch

/-- Offers a record to one subscriber and counts what it drops (R579). -/
def State.offerTo (s : State) (e : EvRec) (ch : BitVec 8) : State :=
  match s.sl.subs.find? (fun u => u.channel == ch) with
  | none => s
  | some u =>
    let (v, n) := u.offer s.time.now e
    (s.updSub ch fun _ => v).addCtr (1536 + u.num) n

/-- Delivers a raised record: to every subscriber, or held when it is a SAFETY record and there is none (R382). A SAFETY event ends
low-power idle (R427). -/
def State.deliver (s : State) (e : EvRec) : State :=
  let s : State := if e.sev = .safety then
      let s : State := { s with sl := { s.sl with alarms := s.sl.alarms ++ [(e.source, e.timeNs)] } }
      (s.wr 0 MGMT_STAT_LPI_TX 0).wr 1 MGMT_STAT_LPI_TX 0
    else s
  if s.sl.subs.isEmpty then
    if e.sev = .safety then { s with sl := { s.sl with held := s.sl.held ++ [{ e with held := true }] } } else s
  else ((s.sl.subs.map fun u => u.channel).foldl (fun s ch => s.offerTo e ch) s).flushAll

/-- Adds a record to a die's event log, which keeps the last 256 (R596). -/
def State.logEvent (s : State) (d : Die) (e : EvRec) : State :=
  s.updDie d fun x => { x with log := (x.log ++ [e]).drop ((x.log.length + 1) - 256) }

/-- Makes the record of a raise (R597). -/
def State.evRec (s : State) (source : Nat) (sev : Severity) (arg : Bytes) : EvRec :=
  { source, sev, extrap := s.time.extrap, resent := false, held := false, timeNs := s.ns, count := 1, arg }

/-- Whether a local source is enabled (R594): SAFETY sources always are. -/
def State.evEnabled (s : State) (d : Die) (i : Nat) : Bool :=
  sevLocal i == .safety || (if i < 32 then s.bit d EVT_EN0_EN i else s.bit d EVT_EN1_EN (i - 32))

/-- Raises local source `i` of die `d`, logged at die `at_` (R594 to R596). -/
def State.raiseAt (s : State) (at_ d : Die) (i : Nat) (arg : Bytes) : State :=
  if s.pop d && s.evEnabled d i then
    let e := s.evRec (d.val * 64 + i) (sevLocal i) arg
    (((s.addCtr (1540 + Severity.code e.sev) 1).logEvent at_ e).wr at_ EVT_STAT_LAST i).deliver e
  else s

/-- Raises local source `i` of die `d` with an argument. -/
def State.raise (s : State) (d : Die) (i : Nat) (arg : Bytes) : State := s.raiseAt d d i arg

/-- Raises local source `i` of a die for its lane: byte 0 names the lane, the rest does not apply (R598). -/
def State.raiseLane (s : State) (d : Die) (i : Nat) : State := s.raise d i (evArg d.val 0xFF [])

/-- Raises package source `j`; the leader logs it (R593, R596). -/
def State.raisePkg (s : State) (j : Nat) (arg : Bytes) : State :=
  if (s.rd 0 EVT_PKG_EN).testBit j then
    let e := s.evRec (512 + j) (sevPkg j) arg
    ((s.addCtr (1540 + Severity.code e.sev) 1).logEvent s.leader e).deliver e
  else s

/-- A condition of R662: sets its sticky flag while it holds, raises its event at its first frame. -/
def State.condition (s : State) (d : Die) (f : Fld) (i : Nat) (ongoing : Bool) : State :=
  let s := s.wr d f 1
  if ongoing then s else s.raiseLane d i

end Sys2Proof.Machine
end

