-- ==== Sys2Proof/Machine/Opcodes.lean ====
section
/-! DEFINITION. The Slostan opcodes (R395 to R417): the opcode and the envelope of each command that is one. -/

namespace Sys2Proof.Machine

/-- The opcode of a command that is a Slostan request with an opcode of its own; none for the others. -/
def opcode? : Instr → Option Nat
  | .ping .. => some 0x0001
  | .sessionOpen .. => some 0x0002
  | .secureHello .. => some 0x0003
  | .secureFinish .. => some 0x0004
  | .sessionClose .. => some 0x0005
  | .slostanCfgSet .. => some 0x0006
  | .profileSet .. => some 0x0101
  | .lineUp .. => some 0x0102
  | .portPlanSet .. => some 0x0103
  | .hostLaneSet .. => some 0x0104
  | .lineTxSet .. => some 0x0105
  | .lineDown .. => some 0x0106
  | .lineRxSet .. => some 0x0107
  | .lineRealign .. => some 0x0108
  | .lineStatusGet .. => some 0x0109
  | .claim .. => some 0x0201
  | .release .. => some 0x0202
  | .leaseRenew .. => some 0x0203
  | .begin .. => some 0x0204
  | .commit .. => some 0x0205
  | .abort .. => some 0x0206
  | .vintageCommit .. => some 0x0301
  | .vintageRestore .. => some 0x0302
  | .vintageList .. => some 0x0303
  | .vintagePrefer .. => some 0x0304
  | .vintageDelete .. => some 0x0305
  | .powerPolicySet .. => some 0x0401
  | .powerStateGet .. => some 0x0402
  | .wakeCmpSet .. => some 0x0403
  | .shutdown .. => some 0x0404
  | .cipherPolicySet .. => some 0x0501
  | .keyModeSet .. => some 0x0502
  | .keyPskSet .. => some 0x0503
  | .keyLifeSet .. => some 0x0504
  | .keyRetainSet .. => some 0x0505
  | .keyZeroise .. => some 0x0506
  | .keyAgreeStart .. => some 0x0507
  | .keyRack .. => some 0x0508
  | .cipherSfClear .. => some 0x0509
  | .cipherStatusGet .. => some 0x050A
  | .dacChSet .. => some 0x0601
  | .dacWrite .. => some 0x0602
  | .dacWaveSet .. => some 0x0603
  | .dacStatusGet .. => some 0x0604
  | .madcConvert .. => some 0x0610
  | .madcSeqSet .. => some 0x0611
  | .madcTriggerSet .. => some 0x0612
  | .madcCalibrate .. => some 0x0613
  | .madcRead .. => some 0x0614
  | .madcTestdacSet .. => some 0x0615
  | .eventSubscribe .. => some 0x0701
  | .eventAck .. => some 0x0702
  | .eventFilterSet .. => some 0x0703
  | .eventUnsubscribe .. => some 0x0704
  | .intervalSet .. => some 0x0705
  | .counterRead .. => some 0x0706
  | .tagSet .. => some 0x0707
  | .tagRead .. => some 0x0708
  | .topdownRead .. => some 0x0709
  | .timeGet .. => some 0x070A
  | .eventNotify .. => some 0x0710
  | .safetyLimitSet .. => some 0x0801
  | .safetyStatusGet .. => some 0x0802
  | .safetyReset .. => some 0x0803
  | .selftestRun .. => some 0x0804
  | .selftestResultGet .. => some 0x0805
  | .nodeSet .. => some 0x0901
  | .routeGet .. => some 0x0902
  | .routeSet .. => some 0x0903
  | .mgmtPortSet .. => some 0x0904
  | .mgmtStatusGet .. => some 0x0905
  | .neighbourGet .. => some 0x0906
  | .lifecycleAdvance .. => some 0x0A01
  | .cleartextWithdraw .. => some 0x0A02
  | .laserCeilingSet .. => some 0x0A03
  | .nodeIdentitySet .. => some 0x0A04
  | .ownerKeySet .. => some 0x0A05
  | .ownerKeyRevoke .. => some 0x0A06
  | .ownerCertSet .. => some 0x0A07
  | .fwLoad .. => some 0x0A08
  | .fwActivate .. => some 0x0A09
  | .auditRead .. => some 0x0A0A
  | .limitsGet .. => some 0x0A0B
  | .patternSet .. => some 0x0B01
  | .patternStatusGet .. => some 0x0B02
  | .errorInject .. => some 0x0B03
  | .loopbackSet .. => some 0x0B04
  | .captureSet .. => some 0x0B05
  | .captureRead .. => some 0x0B06
  | .regRead .. => some 0x4001
  | .regWrite .. => some 0x4002
  | .txBankLoad .. => some 0x4120
  | .txAdaptSet .. => some 0x4121
  | .txPdLoad .. => some 0x4122
  | .txMaskSet .. => some 0x4123
  | .rxBankLoad .. => some 0x4130
  | .rxBankSwap .. => some 0x4131
  | .rxAdaptSet .. => some 0x4132
  | .rxPathSet .. => some 0x4133
  | .rxBankRead .. => some 0x4134
  | .decPoolSet .. => some 0x4140
  | .frameLockSet .. => some 0x4141
  | .deskewSet .. => some 0x4142
  | .toppingSet .. => some 0x4150
  | .arbSet .. => some 0x4160
  | .arbStatusGet .. => some 0x4161
  | .timebaseSet .. => some 0x4170
  | .firSwap .. => some 0x4002
  | .pdSwap .. => some 0x4002
  | .launchDelayWrite .. => some 0x4002
  | .fadeReq .. => some 0x4002
  | .pathClear .. => some 0x4002
  | .manFenceWrite .. => some 0x4002
  | .mgmtRestart .. => some 0x4002
  | .swClr .. => some 0x4002
  | .dacCodeWrite .. => some 0x4002
  | .dacQueuePush .. => some 0x4002
  | .injStart .. => some 0x4002
  | .clearAll .. => some 0x4002
  | .counterWriteCommit .. => some 0x4002
  | .madcFifoRead .. => some 0x4001
  | .injResRead .. => some 0x4001
  | .cntLatLoRead .. => some 0x4001
  | .frameCountLoRead .. => some 0x4001
  | .patgCountLoRead .. => some 0x4001
  | .timeLoRead .. => some 0x4001
  | .stagedCommand c => opcode? c
  | .chunk _ op .. => some op
  | _ => none

/-- The opcodes that requests can carry (R395 to R417); EVENT_NOTIFY is sent by the part only (R392). -/
def definedOps : List Nat :=
  [0x0001, 0x0002, 0x0003, 0x0004, 0x0005, 0x0006, 0x0101, 0x0102, 0x0103, 0x0104, 0x0105, 0x0106, 0x0107, 0x0108, 0x0109]
  ++ [0x0201, 0x0202, 0x0203, 0x0204, 0x0205, 0x0206, 0x0301, 0x0302, 0x0303, 0x0304, 0x0305, 0x0401, 0x0402, 0x0403, 0x0404]
  ++ [0x0501, 0x0502, 0x0503, 0x0504, 0x0505, 0x0506, 0x0507, 0x0508, 0x0509, 0x050A, 0x0601, 0x0602, 0x0603, 0x0604]
  ++ [0x0610, 0x0611, 0x0612, 0x0613, 0x0614, 0x0615, 0x0701, 0x0702, 0x0703, 0x0704, 0x0705, 0x0706, 0x0707, 0x0708]
  ++ [0x0709, 0x070A, 0x0801, 0x0802, 0x0803, 0x0804, 0x0805, 0x0901, 0x0902, 0x0903, 0x0904, 0x0905, 0x0906]
  ++ [0x0A01, 0x0A02, 0x0A03, 0x0A04, 0x0A05, 0x0A06, 0x0A07, 0x0A08, 0x0A09, 0x0A0A, 0x0A0B]
  ++ [0x0B01, 0x0B02, 0x0B03, 0x0B04, 0x0B05, 0x0B06, 0x4001, 0x4002, 0x4120, 0x4121, 0x4122, 0x4123]
  ++ [0x4130, 0x4131, 0x4132, 0x4133, 0x4134, 0x4140, 0x4141, 0x4142, 0x4150, 0x4160, 0x4161, 0x4170]

/-- The opcodes that a transaction does not stage: the reads, COMMIT and ABORT (R374). -/
def unstagedOps : List Nat :=
  [0x0001, 0x0109, 0x0205, 0x0206, 0x0303, 0x0402, 0x050A, 0x0604, 0x0614, 0x0706, 0x0708, 0x0709, 0x070A, 0x0802, 0x0805]
  ++ [0x0902, 0x0905, 0x0906, 0x0A0A, 0x0A0B, 0x0B02, 0x0B06, 0x4001, 0x4134, 0x4161]

/-- The envelope of a command that is a request; a staged command has that of the command it stages. -/
def req? : Instr → Option Req
  | .ping r .. => some r
  | .sessionOpen r .. => some r
  | .secureHello r .. => some r
  | .secureFinish r .. => some r
  | .sessionClose r .. => some r
  | .slostanCfgSet r .. => some r
  | .profileSet r .. => some r
  | .lineUp r .. => some r
  | .portPlanSet r .. => some r
  | .hostLaneSet r .. => some r
  | .lineTxSet r .. => some r
  | .lineDown r .. => some r
  | .lineRxSet r .. => some r
  | .lineRealign r .. => some r
  | .lineStatusGet r .. => some r
  | .claim r .. => some r
  | .release r .. => some r
  | .leaseRenew r .. => some r
  | .begin r .. => some r
  | .commit r .. => some r
  | .abort r .. => some r
  | .vintageCommit r .. => some r
  | .vintageRestore r .. => some r
  | .vintageList r .. => some r
  | .vintagePrefer r .. => some r
  | .vintageDelete r .. => some r
  | .powerPolicySet r .. => some r
  | .powerStateGet r .. => some r
  | .wakeCmpSet r .. => some r
  | .shutdown r .. => some r
  | .cipherPolicySet r .. => some r
  | .keyModeSet r .. => some r
  | .keyPskSet r .. => some r
  | .keyLifeSet r .. => some r
  | .keyRetainSet r .. => some r
  | .keyZeroise r .. => some r
  | .keyAgreeStart r .. => some r
  | .keyRack r .. => some r
  | .cipherSfClear r .. => some r
  | .cipherStatusGet r .. => some r
  | .dacChSet r .. => some r
  | .dacWrite r .. => some r
  | .dacWaveSet r .. => some r
  | .dacStatusGet r .. => some r
  | .madcConvert r .. => some r
  | .madcSeqSet r .. => some r
  | .madcTriggerSet r .. => some r
  | .madcCalibrate r .. => some r
  | .madcRead r .. => some r
  | .madcTestdacSet r .. => some r
  | .eventSubscribe r .. => some r
  | .eventAck r .. => some r
  | .eventFilterSet r .. => some r
  | .eventUnsubscribe r .. => some r
  | .eventNotify r .. => some r
  | .intervalSet r .. => some r
  | .counterRead r .. => some r
  | .tagSet r .. => some r
  | .tagRead r .. => some r
  | .topdownRead r .. => some r
  | .timeGet r .. => some r
  | .safetyLimitSet r .. => some r
  | .safetyStatusGet r .. => some r
  | .safetyReset r .. => some r
  | .selftestRun r .. => some r
  | .selftestResultGet r .. => some r
  | .nodeSet r .. => some r
  | .routeGet r .. => some r
  | .routeSet r .. => some r
  | .mgmtPortSet r .. => some r
  | .mgmtStatusGet r .. => some r
  | .neighbourGet r .. => some r
  | .lifecycleAdvance r .. => some r
  | .cleartextWithdraw r .. => some r
  | .laserCeilingSet r .. => some r
  | .nodeIdentitySet r .. => some r
  | .ownerKeySet r .. => some r
  | .ownerKeyRevoke r .. => some r
  | .ownerCertSet r .. => some r
  | .fwLoad r .. => some r
  | .fwActivate r .. => some r
  | .auditRead r .. => some r
  | .limitsGet r .. => some r
  | .patternSet r .. => some r
  | .patternStatusGet r .. => some r
  | .errorInject r .. => some r
  | .loopbackSet r .. => some r
  | .captureSet r .. => some r
  | .captureRead r .. => some r
  | .regRead r .. => some r
  | .regWrite r .. => some r
  | .txBankLoad r .. => some r
  | .txAdaptSet r .. => some r
  | .txPdLoad r .. => some r
  | .txMaskSet r .. => some r
  | .rxBankLoad r .. => some r
  | .rxBankSwap r .. => some r
  | .rxAdaptSet r .. => some r
  | .rxPathSet r .. => some r
  | .rxBankRead r .. => some r
  | .decPoolSet r .. => some r
  | .frameLockSet r .. => some r
  | .deskewSet r .. => some r
  | .toppingSet r .. => some r
  | .arbSet r .. => some r
  | .arbStatusGet r .. => some r
  | .timebaseSet r .. => some r
  | .firSwap r .. => some r
  | .pdSwap r .. => some r
  | .launchDelayWrite r .. => some r
  | .fadeReq r .. => some r
  | .pathClear r .. => some r
  | .manFenceWrite r .. => some r
  | .mgmtRestart r .. => some r
  | .swClr r .. => some r
  | .dacCodeWrite r .. => some r
  | .dacQueuePush r .. => some r
  | .injStart r .. => some r
  | .madcFifoRead r .. => some r
  | .injResRead r .. => some r
  | .clearAll r .. => some r
  | .counterWriteCommit r .. => some r
  | .cntLatLoRead r .. => some r
  | .frameCountLoRead r .. => some r
  | .patgCountLoRead r .. => some r
  | .timeLoRead r .. => some r
  | .chunk r .. => some r
  | .stagedCommand c => req? c
  | _ => none

end Sys2Proof.Machine
end

