-- ==== Sys2Proof/Machine/Slostan.lean ====
section
/-! DEFINITION. The Slostan interpreter: sessions, sequence numbers, the checks of R362, claims and leases,
staging, replies, final replies and the audit ring. Every command of the protocol is run by `Slostan.run`. -/

namespace Sys2Proof.Machine

/-! ### Codes -/

/-- Status codes (R384). -/
def Status.code : Status → Nat
  | .ok => 0x0000
  | .pending => 0x0001
  | .deferred => 0x0002
  | .badOpcode => 0x8001
  | .badLength => 0x8002
  | .badParam => 0x8003
  | .notPermitted => 0x8004
  | .notAuthenticated => 0x8005
  | .ownedByOther => 0x8006
  | .domainOff => 0x8007
  | .busy => 0x8008
  | .bankBusy => 0x8009
  | .orderViolation => 0x800A
  | .leaseExpired => 0x800B
  | .limitReached => 0x800C
  | .unsupportedOnPart => 0x800D
  | .seqStale => 0x800E
  | .receiverReset => 0x800F
  | .mbDomainOff => 0x8010
  | .integrityFail => 0x8011

/-- Privilege codes, rising with what they allow (R360). -/
def Privilege.code : Privilege → Nat
  | .observer => 0
  | .operator => 1
  | .expert => 2
  | .custodian => 3

/-- The lower of two privileges. -/
def Privilege.lower (a b : Privilege) : Privilege := if Privilege.code a ≤ Privilege.code b then a else b

/-- Medium code of an audit record (R617). -/
def Medium.code : Medium → Nat
  | .portA => 0
  | .portB => 1
  | .inband l => 2 + l.val

/-- The populated die whose counters count a medium's packets: P0 for port A and lane L0, P1 for port B and L1;
the counters 144 to 151 exist on P0 and P1 only (R578). -/
def Medium.die? : Medium → Option Die
  | .portA => some 0
  | .portB => some 1
  | .inband l => if l.val < 2 then some l else none

/-- What the runner must know of a command: its row of the command reference (R395 to R417) and the units and
claims that its operands name. `bad` is the position of the first TLV that check 9 refuses beyond the form
checks of the envelope. -/
structure CmdInfo where
  code : Nat
  priv : Option Privilege
  cls : Nat := 0
  insts : List Nat := [0]
  also : List ClaimId := []
  dies : List Die := []
  unsup : Bool := false
  sec : Bool := false
  cip : Bool := false
  ns : Bool := false
  rt : Bool := false
  read : Bool := false
  stage : Bool := true
  bad : Option Nat := none

/-- The claims a command needs no other session to hold (R370, R389). -/
def CmdInfo.claims (i : CmdInfo) : List ClaimId :=
  (if i.cls = 0 then [] else i.insts.map fun n => ⟨i.cls, n⟩) ++ i.also

/-- What executing a command gives: its status, the TLVs of the reply, and the state after it. -/
structure Res where
  status : Status
  tlvs : List Tlv := []
  err : Option Nat := none
  delayUs : Option Nat := none
  pend : Option PendKind := none
  adjusted : Bool := false
  state : State

def Res.ok (s : State) : Res := { status := .ok, state := s }
def Res.okWith (s : State) (t : List Tlv) : Res := { status := .ok, tlvs := t, state := s }
def Res.fail (st : Status) (s : State) : Res := { status := st, state := s }
def Res.badParam (n : Nat) (s : State) : Res := { status := .badParam, err := some n, state := s }
def Res.pending (k : PendKind) (s : State) : Res := { status := .pending, pend := some k, state := s }

/-! ### Audit (R615 to R617) -/

/-- Appends an audit record; the ring keeps the last 4,096 on every die (R615). -/
def State.addAudit (s : State) (g : Nat → AuditRec) : State :=
  let n := s.nv.auditNext
  let s := { s with nv := { s.nv with
      audit := (s.nv.audit ++ [g n]).drop ((s.nv.audit.length + 1) - 4096)
      auditNext := (n + 1) % 2 ^ 32 } }
  s.wr 0 NVM_AUDIT_NEXT_SEQ (n + 1)

/-- A record of the part's own (R617): kind and argument. -/
def State.auditOwn (s : State) (kind arg : Nat) : State :=
  s.addAudit fun n =>
    { seq := n, timeNs := s.ns, extrap := s.time.extrap, opcode := 0, status := 0, src := 0, channel := 0,
      priv := .observer, medium := 0, flags := 0, lifecycle := s.nv.fuses.lifecycle,
      digest := padTo 8 [BitVec.ofNat 8 kind, BitVec.ofNat 8 arg] }

/-- The record of a request with a status code (R616). -/
def State.auditCode (s : State) (r : Req) (x : Session) (opcode st : Nat) (staged adjusted : Bool) : State :=
  s.addAudit fun n =>
    { seq := n, timeNs := s.ns, extrap := s.time.extrap, opcode, status := st, src := r.src,
      channel := r.channel, priv := x.priv, medium := Medium.code r.medium,
      flags := (if x.secure then 1 else 0) + (if staged then 2 else 0) + (if adjusted then 4 else 0),
      lifecycle := s.nv.fuses.lifecycle, digest := (Config.sha384 r.tlvs).take 8 }

/-- The record of a request with its final status (R616). -/
def State.auditReq (s : State) (r : Req) (x : Session) (opcode : Nat) (st : Status) (staged adjusted : Bool) :
    State := s.auditCode r x opcode (Status.code st) staged adjusted

/-! ### Replies (R350, R351, R388) -/

/-- The package's node address of a die: node number and die bits (R428, R429). -/
def State.nodeAddr (s : State) (d : Die) : BitVec 16 := BitVec.ofNat 16 (s.rd 0 FAB_NODE * 8 + d.val)

def tlvStatus (st : Status) : Tlv := ⟨0x0002, be 2 (Status.code st)⟩
def tlvDelay (us : Nat) : Tlv := ⟨0x0004, be 4 us⟩
def tlvErr (n : Nat) : Tlv := ⟨0x0005, be 2 n⟩

/-- The TLVs of a reply: STATUS, then ERR_INDEX or DELAY, then the row's own with status OK (R388). A register read that ends in
DOMAIN_OFF carries its DATA too, all zero: R363 and R204 say so of reads, where R388 speaks of replies at large (DEDUCED,
assumption log). -/
def Res.replyTlvs (q : Res) : List Tlv :=
  tlvStatus q.status :: (q.err.toList.map tlvErr ++ q.delayUs.toList.map tlvDelay
    ++ if q.status = .ok ∨ q.status = .domainOff then q.tlvs else [])

/-- An EtherType that has been set applies from the first frame after the reply (R346). -/
def State.takeEther (s : State) : State :=
  { s with sl := { s.sl with etherType := s.sl.etherNext.getD s.sl.etherType, etherNext := none } }

/-- Sends one reply packet with flags R and `flags`, to the source address of its request and with its session's tag (R345,
R428). -/
def State.sendReplyPacket (s : State) (r : Req) (opcode flags : Nat) (out : Option Nat → Output) (tlvs : Bytes) : State :=
  let (nonce, s) := s.takeNonce r.channel
  let sec := ((s.session? r.channel).bind Session.keys).bind fun k => nonce.map fun n => (k, n)
  let vlan := match s.session? r.channel with
    | some x => x.vlan
    | none => r.vlan
  let s := (s.emit (out nonce)).sendOwn r.src r.medium r.mac vlan
    (packetBytes (8 + flags) r.channel r.seq r.src (s.nodeAddr s.leader) opcode sec tlvs)
  s.takeEther

/-- Sends the rest of a reply as chunks of `n` bytes (R366). -/
def State.sendChunks (r : Req) (opcode n : Nat) (all : Bytes) : Nat → Nat → State → State
  | 0, _, s => s
  | fuel + 1, at_, s =>
    let data := sub all at_ n
    let last := all.length ≤ at_ + n
    let crc := if last then some (crc32 all) else none
    let chunk : Tlv := ⟨0x0003, be 4 at_ ++ be 4 all.length ++ ((crc.map fun c => be 4 c.toNat).getD [])⟩
    let s := s.sendReplyPacket r opcode 1 (fun nonce => .replyChunk (s.pathTo r.src r.medium) r.channel nonce r.seq r.src
      (s.nodeAddr s.leader) opcode at_ all.length data crc) (tlvBytes [chunk] ++ data)
    if last then s else State.sendChunks r opcode n all fuel (at_ + n) s

/-- Sends a reply (R350), in chunks when its data exceeds 1,400 bytes (R366); the spec leaves the length of a chunk
open (a free value). -/
def State.sendReply (s : State) (r : Req) (opcode : Nat) (t : List Tlv) : State :=
  let all := tlvBytes t
  if all.length ≤ 1400 then
    s.sendReplyPacket r opcode 0 (fun nonce => .reply (s.pathTo r.src r.medium) r.channel nonce r.seq r.src
      (s.nodeAddr s.leader) opcode t) all
  else
    let (v, s) := s.fresh
    State.sendChunks r opcode (1 + v % 1372) all all.length 0 s

/-- Keeps the replies to the 16 most recent new requests, the latest reply of each (R361, R364). -/
def cacheReply (c : List CachedReply) (e : CachedReply) : List CachedReply :=
  if c.any (fun x => x.seq == e.seq) then c.map fun x => if x.seq = e.seq then e else x
  else (e :: c).take 16

/-- Mirrors the session table and the subscriptions to the successor (R379). -/
def State.mirrorNow (s : State) : State :=
  if s.flag 0 SB_STAT_SUCC_VALID then { s with sl := { s.sl with mirrored := some (s.sl.sessions, s.sl.subs) } }
  else s

/-- Sends a reply to a session's request, stores it, and mirrors it before it goes (R361, R379). -/
def State.replyCached (s : State) (r : Req) (opcode : Nat) (t : List Tlv) : State :=
  ((s.updSession r.channel fun x => { x with cache := cacheReply x.cache ⟨r.seq, opcode, t⟩ }).mirrorNow).sendReply
    r opcode t

/-- Counts a packet that is dropped under R354 or R359. -/
def State.countDropped (s : State) (m : Medium) : State :=
  match Medium.die? m with
  | some d => s.cnt d 149
  | none => s

/-- Counts a malformed packet (R349). -/
def State.countMalformed (s : State) (m : Medium) : State :=
  match Medium.die? m with
  | some d => s.cnt d 148
  | none => s

/-! ### Claims and leases (R370 to R372) -/

/-- Whether a session other than the one on `ch` holds a claim. -/
def State.heldByOther (s : State) (ch : BitVec 8) (c : ClaimId) : Bool :=
  s.sl.sessions.any fun x => x.channel != ch && x.claims.contains c

/-- The audit records of the staged commands of a transaction (R616), each with a status code. -/
def State.auditStaged (s : State) (x : Session) (t : Txn) (st : Nat) : State :=
  t.staged.foldl (fun s c =>
    match req? c.cmd, opcode? c.cmd with
    | some r, some op => s.auditCode r x op st true false
    | _, _ => s) s

/-- A transaction is rolled back, nothing applied (R376). The spec names no outcome for the audit records of
commands that are rolled back: a free value. -/
def State.rollback (s : State) (x : Session) : State :=
  match x.txn with
  | none => s
  | some t =>
    let (v, s) := s.fresh
    (s.auditStaged x t (v % 65536)).updSession x.channel fun y => { y with txn := none }

/-- The claims of a session are released: its transaction is rolled back, CLAIM_EXPIRED is raised for each claim,
and the session's next request that needs a claim, or its next COMMIT, gets LEASE_EXPIRED (R372). -/
def State.expireClaims (s : State) (x : Session) : State :=
  let s := (s.rollback x).updSession x.channel fun y => { y with claims := [], leaseLost := true }
  x.claims.foldl (fun s c =>
    (s.cntPkg 1547).raisePkg evCLAIM_EXPIRED (evArg x.channel.toNat c.cls [BitVec.ofNat 8 c.inst])) s

/-- Whether a session's claims are due to be released: its lease has expired, or its port has been down for
200 ms (R372). -/
def State.claimsDue (s : State) (x : Session) : Bool :=
  !x.claims.isEmpty && (decide (x.leaseUntil ≤ s.time.now)
    || match s.sessionDown x with
       | some t => s.past t (msU 200)
       | none => false)


/-- Renews every lease of a session (R372). -/
def State.renew (s : State) (ch : BitVec 8) : State :=
  s.updSession ch fun x => { x with leaseUntil := s.time.now + msU x.leaseMs }

/-! ### Sequence numbers (R361) -/

inductive SeqVerdict where
  | fresh
  | repeated (c : CachedReply)
  | stale
  deriving DecidableEq, Repr

/-- Whether a sequence is new, one of the 16 stored, or neither (R361). -/
def seqVerdict (x : Session) (seq : BitVec 16) : SeqVerdict :=
  match x.seqLast with
  | none => .fresh
  | some l =>
    let d := (seq - l).toNat
    if 1 ≤ d ∧ d ≤ 32768 then .fresh
    else match x.cache.find? fun c => c.seq == seq with
      | some c => .repeated c
      | none => .stale

/-! ### The checks of R362 -/

/-- Opcodes the recovery loader accepts (R621). -/
def recoveryOps : List Nat := [0x0001, 0x0002, 0x0003, 0x0004, 0x0A08, 0x0A09]

/-- Whether the session's privilege suffices (R360), with R614 for sessions opened while no owner slot is
active, and with the session-group opcodes of channel 0x00 refused on a session's channel. -/
def privOk (x : Session) (i : CmdInfo) : Bool :=
  (match i.priv with
    | none => decide (i.code = 0x0001)
    | some p => decide (Privilege.code p ≤ Privilege.code x.priv))
  && (!x.restricted || i.read || decide (i.code / 256 = 0x0A) || decide (i.code = 0x0001)
      || decide (i.code = 0x0005))

/-- Checks 3 to 6 of R362. -/
def State.checks3to6 (s : State) (x : Session) (i : CmdInfo) : Option Status :=
  if s.phase = .recovery && !recoveryOps.contains i.code then some .badOpcode
  else if (i.cip && !Part.cipher s.part) || i.unsup || i.dies.any (fun d => !s.pop d) then some .unsupportedOnPart
  else if i.sec && !x.secure then some .notAuthenticated
  else if !privOk x i then some .notPermitted
  else none

/-- Checks 7 and 8 of R362: the claims the session has lost, and those another session holds. -/
def State.checks7to8 (s : State) (x : Session) (i : CmdInfo) : Option Status :=
  if x.leaseLost && (i.cls != 0 || i.code == 0x0205) then some .leaseExpired
  else if i.claims.any (s.heldByOther x.channel) then some .ownedByOther
  else none

/-- Check 9 of R362: the first offending TLV. -/
def check9 (r : Req) (i : CmdInfo) : Option Nat :=
  match r.form with
  | .badParam n => some n
  | _ => i.bad

/-- Whether the part runs in STANDARD (held as the profile of the active configuration). -/
def State.standard (s : State) : Bool := s.profile == .standard

/-- Whether staging refuses a command (R374, R403): a class the session has not claimed, a session, claim,
chunked or LIFECYCLE command or SHUTDOWN, and in ATOMIC one that acts on the data path in real time. -/
def stageRefused (x : Session) (t : Txn) (i : CmdInfo) : Bool :=
  !i.stage || i.claims.any (fun c => !x.claims.contains c) || (t.mode == .atomic && i.rt)

/-- A request that fails inside a transaction dooms it (R374); the first failure decides (R376). -/
def State.doom (s : State) (x : Session) (seq : BitVec 16) (st : Status) : State :=
  s.updSession x.channel fun y =>
    { y with txn := y.txn.map fun t => { t with doomed := t.doomed.or (some (st, seq)) } }

/-- Staging (R374): the command is kept with the transaction and replied OK, or its status dooms it. -/
def State.stageCommand (s : State) (r : Req) (x : Session) (t : Txn) (i : CmdInfo) (c : Instr) : Res :=
  if stageRefused x t i then .fail .notPermitted (s.doom x r.seq .notPermitted)
  else if 32 ≤ t.staged.length || 16384 < (t.staged.map Staged.size).sum + r.tlvs.length then
    .fail .busy (s.doom x r.seq .busy)
  else match check9 r i with
    | some n => .badParam n (s.doom x r.seq .badParam)
    | none => .ok (s.updSession x.channel fun y =>
        { y with txn := some { t with staged := t.staged ++ [Staged.mk r.seq c r.tlvs.length] } })

/-! ### Ends of sessions and subscriptions (R355, R382) -/

/-- Ends a subscription: each unacknowledged SAFETY event goes to every remaining subscriber that has not had
it, or is held when none remains (R382). -/
def State.endSub (s : State) (ch : BitVec 8) : State :=
  match s.sl.subs.find? fun u => u.channel == ch with
  | none => s
  | some u =>
    let rest := s.sl.subs.filter fun v => v.channel != ch
    let evs := (u.unacked.map fun a => a.ev) ++ (u.queue.filter fun e => e.sev == .safety)
    let s := { s with sl := { s.sl with subs := rest } }
    if rest.isEmpty then
      let held := evs.map fun e => { e with held := true }
      { s with sl := { s.sl with held := s.sl.held ++ held } }
    else
      let same (a b : EvRec) : Bool := a.source == b.source && a.timeNs == b.timeNs
      let give (v : Subscriber) : Subscriber :=
        { v with queue := v.queue ++ evs.filter fun e =>
            !(v.queue.any (same e) || v.unacked.any fun a => same e a.ev) }
      let s := { s with sl := { s.sl with subs := s.sl.subs.map give } }
      s.flushAll

/-- Ends a session (R355): its claims, transaction, chunked transfer, keys and subscription go with it. -/
def State.endSession (s : State) (ch : BitVec 8) : State :=
  let s := match s.session? ch with
    | some x => s.rollback x
    | none => s
  let s := s.endSub ch
  { s with sl := { s.sl with sessions := s.sl.sessions.filter fun x => x.channel != ch } }

/-- Whether a session has sent nothing for SESSION_IDLE seconds (R355). -/
def State.idleDue (s : State) (x : Session) : Bool := s.past x.lastAt (secU s.sl.idle)

/-- Ends the sessions that have been idle too long, and releases the claims of sessions that are due (R355, R372). -/
def State.expireDue (s : State) : State :=
  let s := s.sl.sessions.foldl (fun s x => if s.idleDue x then s.endSession x.channel else s) s
  s.sl.sessions.foldl (fun s x => if s.claimsDue x then s.expireClaims x else s) s

/-! ### Running a request -/

/-- The bookkeeping after a request's execution: the pending operation, the audit record, counts, the reply. -/
def State.conclude (r : Req) (x : Session) (i : CmdInfo) (audited : Bool) (q : Res) : State :=
  let s := q.state
  let final := q.status != .pending && q.status != .deferred
  let s : State := match q.pend with
    | some k => { s with sl := { s.sl with pend := s.sl.pend ++
        [⟨k, r.channel, r.seq, r.medium, r.mac, r.vlan, r.src, i.code, i.cls, x.priv, x.secure, r.tlvs⟩] } }
    | none => s
  let s := if audited && final && i.cls != 0 then s.auditReq r x i.code q.status false q.adjusted else s
  let s := if q.status = .busy then s.cntPkg 1545 else s
  s.replyCached r i.code q.replyTlvs

/-- Whether an entry of the execution queue is the request of an envelope: that of its packet as it arrived, its length check
included; the checks of its TLVs (R353) are the command's own. -/
def QEntry.isFor (e : QEntry) (r : Req) : Bool :=
  decide ({ r with form := .good } = { e.req with form := .good })
    && match e.req.form, r.form with
      | .badLength a, .badLength b => a == b
      | .badLength _, _ => false
      | _, .badLength _ => false
      | _, _ => true

/-- Whether a request is the next one of the execution queue (R367). -/
def State.turn (s : State) (r : Req) : Bool :=
  match s.sl.execQ with
  | e :: _ => e.isFor r
  | [] => false

/-- The execution queue's first request leaves it (R367). -/
def State.dequeue (s : State) (_r : Req) : State := { s with sl := { s.sl with execQ := s.sl.execQ.drop 1 } }

/-- Whether the part has started and has not stopped (R622 step 8, R625). -/
def State.started (s : State) : Bool := s.dataRuns || s.phase == .recovery

/-- Whether the leader runs (R11, R475): it has not failed; the loss of REFCLK does not stop it (R658), and a part in recovery
is led by P0 (R621). -/
def State.leads (s : State) : Bool := s.phase == .recovery || s.healthy s.leader || (s.die s.leader).sb.refFault

/-- Whether the interpreter takes requests (R11, R377, R622 step 8, R625). -/
def State.open? (s : State) : Bool := s.started && s.leads

/-- Whether a request touches a die under test, or the leader is under test (R568). -/
def State.testBusy (s : State) (i : CmdInfo) : Bool :=
  i.dies.any (fun d => (s.die d).safe.underTest) || ((s.die s.leader).safe.underTest && i.code != 0x0001)

/-- Whether a command is staged rather than executed while a transaction is open (R374). -/
def CmdInfo.stages (i : CmdInfo) : Bool := !(i.read || i.code == 0x0205 || i.code == 0x0206)

/-- Execution of a request that passed checks 1 and 2: the remaining checks in order, staging, the command. -/
def Slostan.execute (r : Req) (c : Instr) (i : CmdInfo) (body : Req → Session → State → Res) (x : Session)
    (s : State) : State :=
  match s.checks3to6 x i with
  | some st => State.conclude r x i false (.fail st (if i.stages then s.doom x r.seq st else s))
  | none =>
    let s := s.renew r.channel
    match s.checks7to8 x i with
    | some st =>
      let s := if st = .leaseExpired then (s.rollback x).updSession r.channel fun y => { y with leaseLost := false, claims := [] }
        else s
      State.conclude r x i true (.fail st (if i.stages then s.doom x r.seq st else s))
    | none =>
      match x.txn, i.stages with
      | some t, true =>
        let q := s.stageCommand r x t i c
        State.conclude r x i (q.status != .ok) q
      | _, _ =>
        match check9 r i with
        | some n => State.conclude r x i true (.badParam n s)
        | none =>
          if (s.phase = .shuttingDown && i.code != 0x0001) || s.testBusy i then State.conclude r x i true (.fail .busy s)
          else if i.ns && s.standard then State.conclude r x i true (.fail .notPermitted s)
          else State.conclude r x i true (body r x (s.cntPkg 1544))

/-- A request whose opcode is not defined (R362 check 3). -/
def State.refuseOpcode (s : State) (r : Req) (code : Nat) (x : Session) : State :=
  (s.doom x r.seq .badOpcode).replyCached r code [tlvStatus .badOpcode]

/-- A request that fails check 1 or 2 while a transaction would stage it dooms the transaction (R374). -/
def State.doomEarly (s : State) (r : Req) (code : Nat) (x : Session) (st : Status) : State :=
  if unstagedOps.contains code then s else s.doom x r.seq st

/-- Checks 1 and 2 of R362 on a session's channel, for the queue's first request: `k` goes on with a request that is new. -/
def Slostan.take (r : Req) (code : Nat) (k : Session → State → State) (s : State) : State :=
  let s := s.dequeue r
  if !s.open? then s
  else
    let s := s.expireDue
    match s.session? r.channel with
    | none =>
      if r.channel = 0 then s.sendReply r code [tlvStatus .notAuthenticated] else s.countDropped r.medium
    | some x =>
      if !s.fits x r.src r.medium then s.countDropped r.medium
      else
        match r.form with
        | .badLength n => (s.doomEarly r code x .badLength).sendReply r code [tlvStatus .badLength, tlvErr n]
        | _ =>
          match seqVerdict x r.seq with
          | .repeated c => s.sendReply r c.opcode c.tlvs
          | .stale => ((s.doomEarly r code x .seqStale).cntPkg 1546).sendReply r code [tlvStatus .seqStale]
          | .fresh => k x (s.updSession r.channel fun y => { y with
              seqLast := some r.seq, lastAt := s.time.now, medium := r.medium, mac := r.mac, vlan := r.vlan })

/-- Requests at the head of the queue whose opcode is not defined are answered in their turn (R362, R367), at most `n`. No command of
the table runs them: whatever looks at the queue next does (DESIGN CHOICE, assumption log). -/
def State.drainUndefined : Nat → State → State
  | 0, s => s
  | n + 1, s =>
    match s.sl.execQ with
    | e :: _ =>
      if definedOps.contains e.opcode || e.opcode = 0x0710 then s
      else State.drainUndefined n (Slostan.take e.req e.opcode (fun x s => s.refuseOpcode e.req e.opcode x) s)
    | [] => s

/-- The queue with a request at its head, if its turn has come. -/
def State.atHead (s : State) (r : Req) : State := if s.turn r then s else s.drainUndefined s.sl.execQ.length

/-- A request that is the queue's first (R367) goes through checks 1 and 2; another command of a request does nothing. -/
def Slostan.receive (r : Req) (code : Nat) (k : Session → State → State) (s : State) : State :=
  let s := s.atHead r
  if s.turn r then Slostan.take r code k s else s

/-- Runs one request (R362, R367): what the interpreter does between two queued requests. -/
def Slostan.run (r : Req) (c : Instr) (i : CmdInfo) (body : Req → Session → State → Res) (s : State) : State :=
  Slostan.receive r i.code (Slostan.execute r c i body) s

/-- Runs a request of channel 0x00 (R354, R393): not sequence-checked, its reply not stored. -/
def Slostan.run0 (r : Req) (code : Nat) (body : Req → State → Res) (s : State) : State :=
  let s := s.atHead r
  if !s.turn r then s
  else
  let s := s.dequeue r
  if !s.open? then s
  else match r.form with
    | .badLength n => s.sendReply r code [tlvStatus .badLength, tlvErr n]
    | .badParam n => s.sendReply r code [tlvStatus .badParam, tlvErr n]
    | .good =>
      if s.phase = .shuttingDown && code != 0x0001 then s.sendReply r code [tlvStatus .busy]
      else let q := body r (s.cntPkg 1544); q.state.sendReply r code q.replyTlvs

/-! ### Final replies (R364) -/

/-- The final reply of a pending operation: audited, stored, sent, if its session still exists. -/
def State.finalReply (s : State) (p : PendOp) (q : Res) : State :=
  let r : Req := ⟨p.medium, p.channel, p.seq, p.src, .good, p.tlvs, p.mac, p.vlan⟩
  let s := { s with sl := { s.sl with pend := s.sl.pend.filter fun o => o != p } }
  match s.session? p.channel with
  | some x =>
    let s := if p.cls != 0 then s.auditReq r { x with priv := p.priv, secure := p.secure } p.opcode q.status false
        q.adjusted else s
    s.replyCached r p.opcode q.replyTlvs
  | none => s

/-- The pending operation of a kind. -/
def State.pend? (s : State) (k : PendKind) : Option PendOp := s.sl.pend.find? fun p => p.kind == k

/-- Sends the final reply of the pending operation of a kind, if there is one. -/
def State.finishPend (s : State) (k : PendKind) (st : Status) (t : List Tlv) : State :=
  match s.pend? k with
  | some p => s.finalReply p { status := st, tlvs := t, state := s }
  | none => s

/-! ### Ends of all sessions (R377) -/

/-- Ends every session, claim, transaction and subscription without notice (R377). -/
def State.endAllSessions (s : State) : State :=
  let evs := s.sl.subs.flatMap fun u => (u.unacked.map fun a => a.ev) ++ u.queue.filter fun e => e.sev == .safety
  let held := s.sl.held ++ evs.map fun e => { e with held := true }
  { s with sl := { s.sl with
      sessions := [], handshakes := [], execQ := [], pend := [], subs := [], mirrored := none, held := held } }

end Sys2Proof.Machine
end

