-- ==== Sys2Proof/Machine/Domains.lean ====
section
/-! DEFINITION. Power domains, the domain and claim class of each register block, and whether a block can be
accessed (R363, R400, R491, R495, R660). -/

namespace Sys2Proof.Machine

/-- Codes 0 to 5 of a power state (R492). -/
def PowerState.code : PowerState → Nat
  | .active => 0
  | .lineIdle => 1
  | .doze => 2
  | .nap => 3
  | .dormant => 4
  | .off => 5

/-- The power state of a code. -/
def PowerState.ofCode : Nat → PowerState
  | 0 => .active
  | 1 => .lineIdle
  | 2 => .doze
  | 3 => .nap
  | 4 => .dormant
  | _ => .off

/-- A die's present power state (PWR.STATE.CUR). -/
def State.power (s : State) (d : Die) : PowerState := PowerState.ofCode (s.rd d PWR_STATE_CUR)

/-- Whether a die is in ACTIVE. -/
def State.active (s : State) (d : Die) : Bool := s.power d == .active

/-- How a domain stands in a power state (R495, R660): on, readable only, or without clock or power. -/
inductive DomainLevel where
  | on | readOnly | dead
  deriving DecidableEq, Repr

/-- The table of R495 as R660 reads it. -/
def domainLevel : Domain → PowerState → DomainLevel
  | .aon, .off => .dead
  | .aon, _ => .on
  | .ctrl, .dormant | .ctrl, .off => .dead
  | .ctrl, _ => .on
  | .mgmt, .dormant | .mgmt, .off => .dead
  | .mgmt, _ => .on
  | .host, .active | .host, .lineIdle => .on
  | .host, _ => .dead
  | .fabric, .active | .fabric, .lineIdle => .on
  | .fabric, _ => .dead
  | .tx, .active => .on
  | .tx, _ => .dead
  | .rx, .active => .on
  | .rx, .lineIdle => .readOnly
  | .rx, _ => .dead
  | .dataPath, .active => .on
  | .dataPath, _ => .dead
  | .ana, .nap => .readOnly
  | .ana, .dormant | .ana, .off => .dead
  | .ana, _ => .on

/-- The domain of a register block (R491). -/
def blockDomain : Nat → Domain
  | 0x03 | 0x16 | 0x01 | 0x02 => .aon
  | 0x00 | 0x12 | 0x13 | 0x14 | 0x15 | 0x17 | 0x18 | 0x0F => .ctrl
  | 0x0E => .mgmt
  | 0x05 | 0x06 => .host
  | 0x04 => .fabric
  | 0x07 => .tx
  | 0x08 | 0x0A => .rx
  | 0x10 | 0x11 => .ana
  | _ => .dataPath

/-- How a domain of a die stands now. -/
def State.level (s : State) (d : Die) (m : Domain) : DomainLevel := domainLevel m (s.power d)

/-- Whether a read, or a write, of a block finds its domain without clock or power (R363, R660). -/
def State.blockOff (s : State) (d : Die) (blk : Nat) (write : Bool) : Bool :=
  match s.level d (blockDomain blk) with
  | .on => false
  | .readOnly => write
  | .dead => true

/-- Whether a domain takes commands that change or start something in it (R660). -/
def State.domainOn (s : State) (d : Die) (m : Domain) : Bool := s.level d m == .on

/-- The claim class of a register block (R400). -/
def blockClass : Nat → Nat
  | 0x00 | 0x05 | 0x06 => 1
  | 0x01 | 0x02 => 2
  | 0x17 => 3
  | 0x0C | 0x0D => 4
  | 0x07 | 0x08 | 0x09 | 0x0A | 0x0B | 0x19 => 5
  | 0x10 | 0x11 => 6
  | 0x12 | 0x13 => 7
  | 0x14 | 0x15 => 8
  | 0x18 => 10
  | _ => 9

/-- The instance of a block's class on a die: the die for classes 5 and 6 (R400). -/
def blockInst (blk : Nat) (d : Die) : Nat := if blockClass blk = 5 || blockClass blk = 6 then d.val else 0

/-- The privilege a register access needs: EXPERT (R417); on the KEY block any to read and CUSTODIAN to write
(R322); SAFE.CTRL is written by OPERATOR (R574). -/
def regPriv (blk word : Nat) (write : Bool) : Privilege :=
  if blk = 0x0D then (if write then .custodian else .observer)
  else if blk = 0x12 && word = 0 && write then .operator
  else .expert

/-- The command row of an access to one register word (R363, R400, R417). -/
def regInfo (d : Die) (blk word : Nat) (write : Bool) : CmdInfo :=
  { code := if write then 0x4002 else 0x4001
    priv := some (regPriv blk word write)
    cls := if write then blockClass blk else 0
    insts := [blockInst blk d]
    dies := [d]
    unsup := blk = 0x0E && 2 ≤ d.val
    sec := blk = 0x0D
    cip := blk = 0x0C || blk = 0x0D
    read := !write }

/-- DATA of a register read: words of 4 bytes (R394). -/
def tlvData (ws : List Nat) : Tlv := ⟨0x0102, ws.flatMap (be 4)⟩

/-- An access to a register whose domain is off ends in DOMAIN_OFF and does nothing; a read returns data 0 (R204, R363). -/
def regGuard (d : Die) (blk : Nat) (write : Bool) (s : State) (q : Res) : Res :=
  if s.blockOff d blk write then
    { Res.fail .domainOff s with tlvs := if write then [] else q.tlvs.map fun t => { t with value := List.replicate t.value.length 0#8 } }
  else q

/-- A lane-mask parameter as lanes, and whether check 9 refuses it: the mask 0x00 is refused (R394). -/
def maskBad (m : BitVec 8) (i : Nat) : Option Nat := if m = 0#8 then some i else none

/-- Whether a lane or die number of a TLV is out of range (R394). -/
def numBad (n bound i : Nat) : Option Nat := if n < bound then none else some i

/-- The first of several refusals of check 9. -/
def firstBad (l : List (Option Nat)) : Option Nat := l.findSome? id

/-- The dies a number names, none when it is out of range. -/
def oneDie (n : Nat) : List Die := (toDie? n).toList

end Sys2Proof.Machine
end

