-- ==== Sys2Proof/Machine/Sideband.lean ====
section
/-! DEFINITION. The data fabric's links, the sideband and its arbitration, mailboxes, health and the leader
(chapter 13), as operations. Commands that touch more (takeover, register requests) stand in later files. -/

namespace Sys2Proof.Machine

/-! ### Fabric links (R453, R458) -/

/-- The die that port Dk of die Pp joins (R453); none when unwired. -/
def State.peer (s : State) (d : Die) (k : Nat) : Option Die :=
  let x (m : Nat) : Option Die := some (Fin.ofNat 8 (d.val ^^^ m))
  match Part.dies s.part, k with
  | 8, 0 => x 1
  | 8, 1 => x 2
  | 8, 2 => x 4
  | 4, 0 => x 1
  | 4, 1 => x 3
  | 2, 0 => x 1
  | _, _ => none

/-- The port of the peer that the link of port Dk ends at: on every part the two ends use the same number. -/
def State.linkUp (s : State) (d : Die) (k : Nat) : Bool := s.bit d D2D_PORT_STAT_UP k

/-- Whether a die has a wired port up (R459, R472). -/
def State.anyLinkUp (s : State) (d : Die) : Bool :=
  [0, 1, 2].any fun k => (s.peer d k).isSome && s.linkUp d k

/-! ### Sideband requests -/

/-- The deadline register field of a requester class (R470, R487). -/
def sbDeadline : Nat → Fld
  | 0 => SB_DEADLINE0_CLASS0
  | 1 => SB_DEADLINE0_CLASS1
  | 2 => SB_DEADLINE0_CLASS2
  | 3 => SB_DEADLINE0_CLASS3
  | 4 => SB_DEADLINE1_CLASS4
  | 5 => SB_DEADLINE1_CLASS5
  | 6 => SB_DEADLINE1_CLASS6
  | _ => SB_DEADLINE1_CLASS7

/-- A request becomes pending with its class's deadline (R468); `next` follow it, each pending once the one before has been granted
(R467). Broadcasts are sent twice (R464). -/
def State.sbQueue (s : State) (d : Die) (cls copies : Nat) (msg : SlotMsg) (next : List SlotMsg) : State :=
  let e : SbReqEnt :=
    { cls, count := s.rd d (sbDeadline cls), waited := 0, missed := false, copies, msg, owe := BitVec.allOnes 8, next }
  s.updDie d fun x => { x with sb := { x.sb with reqs := x.sb.reqs ++ [e] } }

/-- A request of one slot becomes pending. -/
def State.sbPush (s : State) (d : Die) (cls copies : Nat) (msg : SlotMsg) : State := s.sbQueue d cls copies msg []

/-! ### Slots (R460, R461) -/

/-- KIND of a slot (R461). -/
def SlotMsg.kind : SlotMsg → BitVec 4
  | .req .. => 1
  | .rsp .. | .ctr .. => 2
  | .mb _ secure .. => if secure then 4 else 3
  | .mbAck .. => 5
  | .heartbeat .. => 6
  | .elect .. => 7
  | .latch .. => 8
  | .safety _ => 9
  | .mirror => 10

/-- The receiving die of a slot; none for a broadcast kind. -/
def SlotMsg.dst? : SlotMsg → Option Die
  | .req dst .. | .rsp dst .. | .ctr dst .. | .mb dst .. | .mbAck dst .. => some dst
  | _ => none

/-- TAG of a slot, where R460 gives it one. -/
def SlotMsg.tag? : SlotMsg → Option Nat
  | .req _ tag .. | .rsp _ tag .. | .ctr _ tag .. => some tag
  | .mb _ _ _ _ i .. => some i
  | _ => none

/-- LAST of a slot, where R460 gives it one. -/
def SlotMsg.last? : SlotMsg → Option Bool
  | .rsp .. => some true
  | .ctr _ _ _ _ _ _ last | .mb _ _ _ _ _ last _ => some last
  | _ => none

/-- A slot's 80 payload bits (R460). The fields that its kind leaves unused, and the contents of all kinds but mailbox words, are not
stated: `v` supplies them (a free value). -/
def slotPayload (src : Die) (m : SlotMsg) (v : Nat) : BitVec 80 :=
  let dst : BitVec 3 := match SlotMsg.dst? m with
    | some d => BitVec.ofNat 3 d.val
    | none => BitVec.ofNat 3 v
  let last : BitVec 1 := match SlotMsg.last? m with
    | some b => BitVec.ofBool b
    | none => BitVec.ofNat 1 (v / 8)
  let tag : BitVec 5 := BitVec.ofNat 5 ((SlotMsg.tag? m).getD (v / 16))
  let data : BitVec 64 := match m with
    | .mb _ _ _ _ _ _ w => w
    | _ => BitVec.ofNat 64 (v / 512)
  SlotMsg.kind m ++ BitVec.ofNat 3 src.val ++ dst ++ last ++ tag ++ data

/-- The CRC-16 of a slot over bits in order (R460): 0x1021, preset to 0xFFFF. -/
def crc16 (bits : List Bool) : BitVec 16 :=
  bits.foldl (fun c b => (c <<< 1) ^^^ (if c.getLsbD 15 != b then 0x1021#16 else 0#16)) 0xFFFF#16

/-- The bits of a word, most significant first. -/
def msbBits {w : Nat} (x : BitVec w) : List Bool := (List.range w).map fun i => x.getMsbD i

/-- The 96 bits of a slot, most significant first (R460). -/
def slotBits (src : Die) (m : SlotMsg) (v : Nat) : BitVec 96 :=
  let p := slotPayload src m v
  p ++ crc16 (msbBits p)

/-! ### Mailboxes (R477 to R483) -/

/-- Endpoint codes (R477). -/
def Endpoint.code : Endpoint → Nat
  | .core => 0
  | .key => 1
  | .safe => 2
  | .pwr => 3

/-- The channel map of R478: none when the pair is not allowed, else whether its channel is secure. -/
def mbMap (sep rep : Endpoint) (same : Bool) : Option Bool :=
  match sep, rep with
  | .key, .key => some true
  | .core, .key | .key, .core => if same then some true else none
  | .key, _ | _, .key => none
  | _, _ => some false

/-- The domain of an endpoint (R491): the power manager stands in AON, the others in CTRL. -/
def Endpoint.domain : Endpoint → Domain
  | .pwr => .aon
  | _ => .ctrl

def MbChan.isFor (c : MbChan) (src : Die) (sep : Endpoint) (dst : Die) (rep : Endpoint) : Bool :=
  c.src == src && c.sep == sep && c.dst == dst && c.rep == rep

/-- The messages that a channel holds, oldest first. -/
def State.mbMsgs (s : State) (src : Die) (sep : Endpoint) (dst : Die) (rep : Endpoint) : List MbMsg :=
  match s.sb.mail.find? fun c => c.isFor src sep dst rep with
  | some c => c.msgs
  | none => []

/-- Replaces what a channel holds; an empty channel has no entry. -/
def State.mbSet (s : State) (src : Die) (sep : Endpoint) (dst : Die) (rep : Endpoint) (ms : List MbMsg) : State :=
  let rest := s.sb.mail.filter fun c => !c.isFor src sep dst rep
  let since := match s.sb.mail.find? fun c => c.isFor src sep dst rep with
    | some c => if c.msgs.length < 4 then s.sb.slot else c.fullAt
    | none => s.sb.slot
  { s with sb := { s.sb with mail := if ms.isEmpty then rest else rest ++ [⟨src, sep, dst, rep, ms, since⟩] } }

/-- Whether the lower side of a pair owes a drain before it posts again (R483). -/
def State.owes (s : State) (src : Die) (sep : Endpoint) (dst : Die) (rep : Endpoint) : Bool :=
  s.sb.owed.contains (src, sep, dst, rep)

/-- A post outcome goes back as MB_ACK (R480, R481). -/
def State.mbAckSend (s : State) (at_ to_ : Die) (sep rep : Endpoint) (o : MbOutcome) : State :=
  s.sbPush at_ 2 1 (.mbAck to_ sep rep o)

/-! ### Mailbox words (R467, R477, R479, R480) -/

/-- Word 0 of a message (R477). -/
def mbHeader (sep rep : Endpoint) (m : MbMsg) : BitVec 64 :=
  BitVec.ofNat 8 m.epoch ++ BitVec.ofNat 2 (Endpoint.code sep) ++ BitVec.ofNat 2 (Endpoint.code rep)
    ++ BitVec.ofNat 5 m.words.length ++ (0 : BitVec 15) ++ m.msgType

/-- The slots of a message, word 0 first. -/
def mbSlots (dst : Die) (secure : Bool) (sep rep : Endpoint) (m : MbMsg) : List SlotMsg :=
  (mbHeader sep rep m :: m.words).mapIdx fun i w => .mb dst secure sep rep i (i == m.words.length) w

/-- The message that words make. -/
def mbOfWords : List (BitVec 64) → MbMsg
  | [] => ⟨0, 0, []⟩
  | h :: ws => ⟨(h.extractLsb' 56 8).toNat, h.extractLsb' 0 32, ws⟩

/-- A slot that the channel map does not allow is discarded (R479). -/
def State.secViol (s : State) (dst : Die) : State := (s.cnt dst 167).wr dst MBX_STAT_SEC_VIOL 1

/-- How the outcome of a post gets back to its sender: as MB_ACK, or at once within a die (R480, R490). -/
def State.mbOutcome (s : State) (src dst : Die) (sep rep : Endpoint) (o : MbOutcome) : State :=
  if src ≠ dst then s.mbAckSend dst src sep rep o
  else if o = .mbDomainOff then s.wr src MBX_STAT_DOMAIN_OFF_SEEN 1
  else s

/-- A whole message is stored in its channel or refused (R480, R483). -/
def State.mbStore (s : State) (src dst : Die) (sep rep : Endpoint) (m : MbMsg) : State :=
  if s.level dst (Endpoint.domain rep) = .dead then s.mbOutcome src dst sep rep .mbDomainOff
  else if s.owes src sep dst rep || 4 ≤ (s.mbMsgs src sep dst rep).length then
    (s.cnt dst 165).mbOutcome src dst sep rep .busy
  else (s.mbSet src sep dst rep (s.mbMsgs src sep dst rep ++ [m])).mbOutcome src dst sep rep .stored

/-- A mailbox word arrives; the last one completes its message. A message that misses a word is not stored, and has no outcome: the
spec has none for it (DEDUCED, assumption log). -/
def State.mbWord (s : State) (src dst : Die) (secure : Bool) (sep rep : Endpoint) (i : Nat) (last : Bool) (w : BitVec 64) : State :=
  if mbMap sep rep (src == dst) ≠ some secure then s.secViol dst
  else
    let mine (p : MbPart) : Bool := p.src == src && p.dst == dst && p.secure == secure
    let had := ((s.sb.parts.find? mine).map MbPart.words).getD []
    let rest := s.sb.parts.filter fun p => !mine p
    let now := if i = 0 then [w] else if i = had.length then had ++ [w] else []
    let s := { s with sb := { s.sb with parts := if last || now.isEmpty then rest else rest ++ [⟨src, dst, secure, now⟩] } }
    if last && now.length == i + 1 then s.mbStore src dst sep rep (mbOfWords now) else s

/-- A message's words wait at its sender: in class KEY or MAILBOX, behind those of an earlier message of the kind to the same die
(R460, R467, R470). -/
def State.mbQueue (s : State) (src : Die) (dst : Die) (secure : Bool) (ms : List SlotMsg) : State :=
  let same (e : SbReqEnt) : Bool := match e.msg with
    | .mb d sec .. => d == dst && sec == secure
    | _ => false
  if (s.die src).sb.reqs.any same then
    s.updDie src fun x =>
      { x with sb := { x.sb with reqs := x.sb.reqs.map fun e => if same e then { e with next := e.next ++ ms } else e } }
  else match ms with
    | [] => s
    | m :: rest => s.sbQueue src (if secure then 4 else 6) 1 m rest

/-! ### Arbitration (R462, R466 to R469) -/

/-- The die a request needs a credit for; none for broadcasts and responses (R462). A mailbox message takes its credit with its first
word, since one MB_ACK answers it (DEDUCED, assumption log). -/
def SlotMsg.creditFor : SlotMsg → Option Die
  | .req dst .. => some dst
  | .mb dst _ _ _ i .. => if i = 0 then some dst else none
  | _ => none

/-- Whether a die holds a request credit for another (R462). -/
def SbDie.hasCredit (b : SbDie) (m : SlotMsg) : Bool :=
  match SlotMsg.creditFor m with
  | some d => decide (0 < b.credits.getD d.val 0)
  | none => true

/-- The order of a die's own requests: lowest deadline count, then lowest class (R466). -/
def moreUrgent (a b : SbReqEnt) : Bool := a.count < b.count || (a.count == b.count && a.cls < b.cls)

/-- The most urgent request a die can send now (R462, R466); the older one among equals. -/
def SbDie.urgent (b : SbDie) : Option SbReqEnt :=
  (b.reqs.filter fun e => SbDie.hasCredit b e.msg).foldl (fun best e =>
    match best with
    | none => some e
    | some x => if moreUrgent e x then some e else best) none

/-- One slot's ageing of a request (R468): the count falls unless it is best effort or 0. -/
def SbReqEnt.age (e : SbReqEnt) : SbReqEnt :=
  { e with count := if e.count = 255 || e.count = 0 then e.count else e.count - 1, waited := e.waited + 1 }

/-- How long a die that lost `n` times in a row sits out, before the bound of its request (R469). -/
def backoff (n : Nat) : Nat := min 128 (2 ^ (n - 1))

/-- The arbitrations a die still sits out, never more than half the count of a deadline request (R469). -/
def SbDie.sits (b : SbDie) : Nat :=
  match b.urgent with
  | some e => if e.count = 255 then b.sitOut else min b.sitOut (e.count / 2)
  | none => b.sitOut

/-- The dies that drive a start bit in this slot, each with its deadline (R466). -/
def State.contenders (s : State) : List (Die × Nat) :=
  s.popDies.filterMap fun d =>
    let b := (s.die d).sb
    match b.urgent with
    | some e => if b.sits = 0 && s.power d != .off then some (d, e.count) else none
    | none => none

/-- The winner: the lowest deadline, and among equals the lowest position (R466). -/
def arbWinner (l : List (Die × Nat)) : Option Die :=
  (l.foldl (fun (best : Option (Die × Nat)) x =>
    match best with
    | none => some x
    | some y => if x.2 < y.2 then some x else best) none).map Prod.fst

/-- Removes the first request equal to `e`. -/
def eraseReq (e : SbReqEnt) : List SbReqEnt → List SbReqEnt
  | [] => []
  | x :: xs => if x = e then xs else x :: eraseReq e xs

/-- A die's requests after `e` has been granted one slot, which did not reach the dies of `bad`: a second copy of a broadcast and the
slot that follows are requests of their own, whose deadline is loaded anew (R464, R467). -/
def State.afterGrant (s : State) (d : Die) (e : SbReqEnt) (bad : BitVec 8) : State :=
  s.updDie d fun x =>
    let rest := eraseReq e x.sb.reqs
    let fresh := { e with count := s.rd d (sbDeadline e.cls), waited := 0, missed := false }
    let again := if 1 < e.copies then [{ fresh with copies := e.copies - 1, owe := e.owe &&& bad }]
      else match e.next with
        | [] => []
        | m :: ms => [{ fresh with msg := m, next := ms }]
    let b := { x.sb with reqs := rest ++ again, loss := 0, sitOut := 0, grants := x.sb.grants + 1 }
    let b := match SlotMsg.creditFor e.msg with
      | some dst => { b with credits := b.credits.set dst.val (b.credits.getD dst.val 0 - 1) }
      | none => b
    match e.msg with
    | .req dst tag write addr value =>
      { x with sb := { b with
          outs := if b.outs.any (fun o => o.tag == tag && o.dst == dst) then b.outs
            else b.outs ++ [⟨dst, tag, s.sb.slot, 0, write, addr, value⟩] } }
    | _ => { x with sb := b }

/-- A slot begins (R468): every waiting request ages. -/
def State.slotBegins (s : State) : State :=
  let s := { s with sb := { s.sb with slot := s.sb.slot + 1, allSlots := s.sb.allSlots + 1 } }
  s.each s.popDies fun s d =>
    s.updDie d fun x => { x with sb := { x.sb with reqs := x.sb.reqs.map SbReqEnt.age } }

/-- The dies at which a slot arrives: its receiver, or for a broadcast every die that has not had it yet (R464). -/
def State.slotDies (s : State) (e : SbReqEnt) (bad : BitVec 8) : List Die :=
  (s.popDies.filter fun d => !bad.getLsbD d.val && s.power d != .off).filter fun d => match SlotMsg.dst? e.msg with
    | some x => x == d
    | none => e.owe.getLsbD d.val

/-- A slot has come to dies: a mailbox word joins its message, the rest waits for what acts on it. -/
def State.slotArrives (s : State) (src : Die) (m : SlotMsg) (ds : List Die) : State :=
  match m with
  | .mb dst secure sep rep i last w => if ds.contains dst then s.mbWord src dst secure sep rep i last w else s
  | m => { s with sb := { s.sb with inbox := s.sb.inbox ++ ds.map fun d => ⟨d, src, m⟩ } }

/-- The slot that the winner sends, which dies may discard; what its layout leaves open is a free value (R460). -/
def State.sendSlot (s : State) (d : Die) (e : SbReqEnt) (bad : BitVec 8) : State :=
  let (v, s) := s.fresh
  let s := { s with sb := { s.sb with
      granted := some d
      dlSlots := s.sb.dlSlots + (if e.count = 255 then 0 else 1)
      beSlots := s.sb.beSlots + (if e.count = 255 then 1 else 0) } }
  let ds := s.slotDies e bad
  (((s.afterGrant d e bad).cnt d 160).emit (.slot d e.msg (slotBits d e.msg v))).slotArrives d e.msg ds

/-- One slot of the sideband (R466 to R469): counts fall, the dies arbitrate, the winner's slot is sent, losers
back off. `bad` are the dies that discard the slot. -/
def State.sbSlot (s : State) (bad : BitVec 8) : State :=
  let s := s.slotBegins
  let cs := s.contenders
  let win := arbWinner cs
  let s := s.each s.popDies fun s d => s.updDie d fun x =>
    let b := x.sb
    if cs.any (fun c => c.1 == d) then
      if win = some d then x
      else
        let n := b.loss + 1
        { x with sb := { b with loss := n, sitOut := backoff n } }
    else { x with sb := { b with sitOut := SbDie.sits b - 1 } }
  match win with
  | none => { (s.cntPkg 1557) with sb := { s.sb with granted := none } }
  | some d =>
    match (s.die d).sb.urgent with
    | none => s
    | some e => s.sendSlot d e bad

/-- Whether the sideband clock runs: some populated die is outside DORMANT and OFF (R473). -/
def State.sbRuns (s : State) : Bool := s.popDies.any fun d => s.power d != .dormant && s.power d != .off

/-- Receivers that discard the slot on the bus (R461): each sets CRC_ERR and counts it. -/
def State.sbDiscard (s : State) (bad : BitVec 8) : State :=
  s.each (s.popDies.filter fun d => bad.getLsbD d.val && s.power d != .off) fun s d =>
    (s.cnt d 163).wr d SB_STAT_CRC_ERR 1

/-- SB_SLOT_ARBITRATION (R460, R461, R464, R466 to R469): `crcErr` are the dies at which the slot on the bus fails its CRC or has an
unused KIND, and which discard it. -/
def execSbSlotArbitration (crcErr : BitVec 8) (s : State) : Host.Outcome State Fault Refusal :=
  .next (if s.sbRuns then
    let t := s.sbSlot crcErr
    if t.sb.granted.isSome then t.sbDiscard crcErr else t
  else s)

/-- The oldest slot of a kind that has come to a die from another, taken out of what waits there. -/
def State.takeSlot (s : State) (dst src : Die) (p : SlotMsg → Bool) : Option (SlotMsg × State) :=
  match s.sb.inbox.find? fun e => e.dst == dst && e.src == src && p e.msg with
  | none => none
  | some e => some (e.msg, { s with sb := { s.sb with inbox := s.sb.inbox.erase e } })

/-- Marks a die's first request that `p` accepts as reported. -/
def State.markReq (s : State) (d : Die) (p : SbReqEnt → Bool) : Option State :=
  match (s.die d).sb.reqs.find? p with
  | none => none
  | some e => some (s.updDie d fun x =>
      { x with sb := { x.sb with reqs := x.sb.reqs.map fun y => if y = e then { y with missed := true } else y } })

/-- SB_DEADLINE_MISSED (R468): a request of the class stands at 0; reported once per request. -/
def execSbDeadlineMissed (d : Die) (cls : Fin 8) (s : State) : Host.Outcome State Fault Refusal :=
  match s.markReq d fun e => e.cls == cls.val && e.count == 0 && !e.missed with
  | some t =>
    let t := t.updDie d fun x => { x with sb := { x.sb with misses := x.sb.misses + 1 } }
    .next (((t.cnt d 161).wr d SB_STAT_MISSED 1).raise d evSB_DEADLINE_MISSED (evArg d.val 0xFF []))
  | none => .next s

/-- SB_STARVATION (R471): a best-effort request has waited 2^(8 + STARVE_THR) slots. -/
def execSbStarvation (d : Die) (cls : Fin 8) (s : State) : Host.Outcome State Fault Refusal :=
  match s.markReq d fun e => e.cls == cls.val && e.count == 255 && !e.missed
      && decide (2 ^ (8 + s.rd d SB_CTRL_STARVE_THR) ≤ e.waited) with
  | some t =>
    let t := t.updDie d fun x => { x with sb := { x.sb with starves := x.sb.starves + 1 } }
    .next (((t.cnt d 162).wr d SB_STAT_STARVED 1).raise d evSB_STARVATION (evArg d.val 0xFF []))
  | none => .next s

/-- A die gets back the request credit it holds for another (R462). -/
def State.creditBack (s : State) (d peer : Die) : State :=
  s.updDie d fun x => { x with sb := { x.sb with
    credits := x.sb.credits.set peer.val (min 2 (x.sb.credits.getD peer.val 0 + 1)) } }

/-- Whether a slot belongs to the response to a REQ of a tag. -/
def SlotMsg.answers (tag : Nat) : SlotMsg → Bool
  | .rsp _ t .. | .ctr _ t .. => t == tag
  | _ => false

/-- A group of 32 counters of a die's latched set has come to the leader (R583). -/
def State.gotPart (s : State) (d : Die) (num : Nat) (i : Nat) : State :=
  { s with tel := { s.tel with
    sets := s.tel.sets.map fun x => if x.die = d.val ∧ x.num = num then { x with parts := x.parts ||| (1#6 <<< i) } else x } }

/-- SB_RSP (R462, R583): a response slot has come to `dst`; with the last one the credit returns. -/
def execSbRsp (src dst : Die) (tag : Nat) (s : State) : Host.Outcome State Fault Refusal :=
  match s.takeSlot dst src (SlotMsg.answers tag) with
  | none => .next s
  | some (m, s) =>
    if !((s.die dst).sb.outs.any fun o => o.dst == src && o.tag == tag) || SlotMsg.last? m == some false then .next s
    else
      let t := s.updDie dst fun x => { x with sb := { x.sb with
        outs := x.sb.outs.filter fun o => !(o.dst == src && o.tag == tag) } }
      let t := match m with
        | .ctr _ _ num index .. => t.gotPart src num (index % 192 / 32)
        | _ => t
      .next (t.creditBack dst src)

/-- SB_REQ_RESEND (R462): a REQ without response for 64 slots is sent again with the same tag, at most twice; after
that the request ends with DOMAIN_OFF and the target counts a missed heartbeat. -/
def execSbReqResend (src : Die) (tag : Nat) (s : State) : Host.Outcome State Fault Refusal :=
  match (s.die src).sb.outs.find? fun o => o.tag == tag && decide (o.slot + 64 ≤ s.sb.slot) with
  | none => .next s
  | some o =>
    if o.resends < 2 then
      let t := s.updDie src fun x => { x with sb := { x.sb with
        outs := x.sb.outs.map fun p => if p = o then { p with resends := p.resends + 1, slot := s.sb.slot } else p
        credits := x.sb.credits.set o.dst.val (min 2 (x.sb.credits.getD o.dst.val 0 + 1)) } }
      .next ((t.cnt src 164).sbPush src 7 1 (.req o.dst tag o.write o.addr o.value))
    else
      let t := s.updDie src fun x => { x with sb := { x.sb with outs := x.sb.outs.filter fun p => p != o } }
      let t := t.creditBack src o.dst
      .next (t.updDie o.dst fun x => { x with sb := { x.sb with hbMissed := x.sb.hbMissed + 1 } })

/-! ### Mailbox commands (R477 to R483) -/

/-- MAILBOX_POST (R467, R478 to R480, R482, R483): a message within a die is stored or refused at once; one for another die goes
there word by word, and its outcome falls when the last word has come. -/
def execMailboxPost (src dst : Die) (sep rep : Endpoint) (secure : Bool) (msg : MbMsg) (s : State) :
    Host.Outcome State Fault Refusal :=
  let m := { msg with epoch := s.rd src MBX_EPOCH }
  if !(s.pop src && s.pop dst) then .next s
  else if src ≠ dst then .next (s.mbQueue src dst secure (mbSlots dst secure sep rep m))
  else if mbMap sep rep true ≠ some secure then .next (s.secViol dst)
  else .next (s.mbStore src dst sep rep m)

/-- MB_ACK (R462, R481): the outcome of a post reaches the sender `dst`, and its credit returns; word of a purge answers no post. -/
def execMbAck (src dst : Die) (sep rep : Endpoint) (outcome : MbOutcome) (s : State) :
    Host.Outcome State Fault Refusal :=
  match s.takeSlot dst src fun m => m == .mbAck dst sep rep outcome with
  | none => .next s
  | some (_, t) => .next (match outcome with
    | .receiverReset _ => t
    | .mbDomainOff => (t.creditBack dst src).wr dst MBX_STAT_DOMAIN_OFF_SEEN 1
    | _ => t.creditBack dst src)

/-- Clears the drain duties of pairs whose inbound channel is empty (R483). -/
def State.settleOwed (s : State) : State :=
  let owed := s.sb.owed.filter fun o => !(s.mbMsgs o.2.2.1 o.2.2.2 o.1 o.2.1).isEmpty
  let s := { s with sb := { s.sb with owed := owed } }
  s.each s.popDies fun s d => s.wrB d MBX_STAT_DRAIN_OWED (owed.any fun o => o.1 == d)

/-- A receiver endpoint resets (R481): its inbound channels are purged and each sender that lost a message is told. -/
def State.mbReset (s : State) (d : Die) (ep : Endpoint) : State :=
  let lost := s.sb.mail.filter fun c => c.dst == d && c.rep == ep && !c.msgs.isEmpty
  let n := (lost.map fun c => c.msgs.length).sum
  let s := { s with sb := { s.sb with mail := s.sb.mail.filter fun c => !(c.dst == d && c.rep == ep) } }
  let s := (s.cntN d 166 n).wr d MBX_STAT_PURGED (min 255 n)
  let s := lost.foldl (fun s c => s.mbAckSend d c.src c.sep c.rep (.receiverReset c.msgs.length)) s
  s.settleOwed

/-- MAILBOX_RECEIVER_RESET (R481). -/
def execMailboxReceiverReset (d : Die) (ep : Endpoint) (s : State) : Host.Outcome State Fault Refusal :=
  .next (if s.pop d then s.mbReset d ep else s)

/-- Since when a channel is full, by the count of slots. -/
def State.fullSince (s : State) (src : Die) (sep : Endpoint) (dst : Die) (rep : Endpoint) : Option Nat :=
  match s.sb.mail.find? fun c => c.isFor src sep dst rep with
  | some c => if 4 ≤ c.msgs.length then some c.fullAt else none
  | none => none

/-- Whether both directions of a channel pair have stayed full for 1,000 slots (R483). -/
def State.bothFull (s : State) (a b : Die) (aep bep : Endpoint) : Bool :=
  match s.fullSince a aep b bep, s.fullSince b bep a aep with
  | some x, some y => decide (max x y + 1000 ≤ s.sb.slot)
  | _, _ => false

/-- MB_MUTUAL_FULL (R483): both directions have stayed full for 1,000 slots; the lower side must drain. -/
def execMbMutualFull (a b : Die) (aep bep : Endpoint) (s : State) : Host.Outcome State Fault Refusal :=
  let aLow := a.val < b.val || (a == b && decide (Endpoint.code aep ≤ Endpoint.code bep))
  let duty := if aLow then (a, aep, b, bep) else (b, bep, a, aep)
  if s.pop a && s.pop b && s.bothFull a b aep bep && !s.sb.owed.contains duty then
    let s := { s with sb := { s.sb with owed := duty :: s.sb.owed } }
    let ends := if a = b then [a] else [a, b]
    let s := s.each ends fun s d =>
      (s.wr d MBX_STAT_MUTUAL_FULL 1).raise d evMB_MUTUAL_FULL (evArg d.val 0xFF [])
    .next s.settleOwed
  else .next s

/-- MAILBOX_MESSAGE_READ (R483): the oldest message leaves an inbound channel. -/
def execMailboxMessageRead (d : Die) (ep : Endpoint) (src : Die) (sep : Endpoint) (s : State) :
    Host.Outcome State Fault Refusal :=
  .next (s.mbSet src sep d ep ((s.mbMsgs src sep d ep).drop 1)).settleOwed

/-- Inbound channels of a die that are full now (MBX.STAT.FULL_IN). -/
def State.fullIn (s : State) (d : Die) : Nat :=
  (s.sb.mail.filter fun c => c.dst == d && decide (4 ≤ c.msgs.length)).length

/-! ### Health and succession (R472 to R474) -/

/-- Whether a die reported valid firmware (DIE.STAT.FW_VALID). -/
def State.fwValid (s : State) (d : Die) : Bool := s.flag d DIE_STAT_FW_VALID

/-- The dies that could lead: healthy, with valid firmware, lowest first (R474). -/
def State.candidates (s : State) : List Die := s.popDies.filter fun d => s.healthy d && s.fwValid d

/-- The successor present, if there is one. -/
def State.successor? (s : State) : Option Die :=
  if s.flag 0 SB_STAT_SUCC_VALID then some (Fin.ofNat 8 (s.rd 0 SB_STAT_SUCCESSOR)) else none

/-- The leader chooses its successor again, and mirrors its whole state to a newly chosen one (R379, R474). -/
def State.chooseSuccessor (s : State) : State :=
  let old := s.successor?
  match s.candidates.filter fun d => d != s.leader with
  | [] =>
    let s := (s.wr 0 SB_STAT_SUCC_VALID 0).wr 0 SB_STAT_SUCCESSOR 0
    { s with sl := { s.sl with mirrored := none } }
  | d :: _ =>
    let s := (s.wr 0 SB_STAT_SUCC_VALID 1).wr 0 SB_STAT_SUCCESSOR d.val
    if old = some d then s else s.mirrorNow

/-- A die becomes unhealthy: DIE_UNHEALTHY with a code of R598, routes and trees to follow (R459, R472); a leader that has
failed itself chooses no successor (R475). -/
def State.markUnhealthy (s : State) (d : Die) (code : Nat) : State :=
  if s.healthy d then
    let s := s.setHealthy d false
    let s := s.raiseAt s.leader d evDIE_UNHEALTHY (evArg d.val code [])
    let s := { s with sb := { s.sb with pendRoutes := true } }
    if s.healthy s.leader then s.chooseSuccessor else s
  else s

/-- A die's health report (R472). -/
def State.hbReport (s : State) (d : Die) : HbReport :=
  { power := s.power d, fwValid := s.fwValid d, supplyFault := (s.die d).sb.supplyFault,
    clockFault := (s.die d).sb.clockFault, lockstep := (s.die d).sb.lockstep }

/-- HEARTBEAT (R464, R472): every 100 µs a broadcast of class HEALTH, with the health mask when the leader sends it. -/
def execHeartbeat (d : Die) (s : State) : Host.Outcome State Fault Refusal :=
  if s.pop d && s.power d != .off && s.sbRuns && periodDue (s.die d).sb.hbSent (usU 100) s.time.now then
    let sent := nextDue (s.die d).sb.hbSent (usU 100) s.time.now
    let s := s.updDie d fun x => { x with sb := { x.sb with hbSent := some sent } }
    .next (s.sbPush d 1 2 (.heartbeat (s.hbReport d) (if s.leader = d then some s.healthMask else none)))
  else .next s

/-- SB_SAFETY_BROADCAST (R464): the trip reaches the other dies, which hold no state of it: FAULT_N and the trip are
those of the tripping die (R560). -/
def execSbSafetyBroadcast (src : Die) (trip : Bool) (s : State) : Host.Outcome State Fault Refusal :=
  .next { s with sb := { s.sb with inbox := s.sb.inbox.filter fun e => !(e.src == src && e.msg == .safety trip) } }

/-- MIRROR (R379): the leader's state reaches the successor. -/
def execMirror (s : State) : Host.Outcome State Fault Refusal := .next s.mirrorNow

/-! ### Links going down and up (R458, R459) -/

/-- Both ends of a link: die and port. -/
def State.linkEnds (s : State) (d : Die) (k : Nat) : List Die :=
  match s.peer d k with
  | some e => [d, e]
  | none => []

/-- The port of a die that joins it to another (R453). -/
def State.portOn (s : State) (a b : Die) : Option Nat := [0, 1, 2].find? fun k => s.peer a k == some b

/-- Transfers of a class wait at the port of `a` towards `b` (R454). What they carry reaches its place with the command that sends
it: the fabric's own delays are timing (assumption log). -/
def State.d2dSend (s : State) (a b : Die) (reserved : Bool) (n : Nat) : State :=
  match s.portOn a b with
  | some k => s.updDie a fun x =>
    let w := x.sb.d2dWait.getD k (0, 0)
    { x with sb := { x.sb with d2dWait := x.sb.d2dWait.set k (if reserved then (w.1 + n, w.2) else (w.1, w.2 + n)) } }
  | none => s

/-- The transfer that a port sends next goes: RESERVED ones ahead of GENERAL ones (R454). -/
def d2dNext (w : Nat × Nat) : Nat × Nat := if 0 < w.1 then (w.1 - 1, w.2) else (0, w.2 - 1)

/-- D2D_TRANSFER_RECEIVE (R454, R458): a transfer passes its CRC and has left the neighbour's port, or is replayed. -/
def execD2dTransferReceive (d : Die) (port : Fin 3) (crcOk : Bool) (s : State) :
    Host.Outcome State Fault Refusal :=
  if !(s.pop d && s.linkUp d port.val) then .next s
  else
    let n := (s.die d).sb.d2dFails.getD port.val 0
    let t := s.updDie d fun x => { x with sb := { x.sb with
      d2dFails := x.sb.d2dFails.set port.val (if crcOk then 0 else n + 1) } }
    if !crcOk then .next (if n < 3 then t.cnt d 168 else t)
    else match s.peer d port.val with
      | some e => .next (t.updDie e fun x =>
        { x with sb := { x.sb with d2dWait := x.sb.d2dWait.set port.val (d2dNext (x.sb.d2dWait.getD port.val (0, 0))) } })
      | none => .next t

/-- D2D_RETRAIN (R458): a down link is retrained every 100 ms. -/
def execD2dRetrain (d : Die) (port : Fin 3) (s : State) : Host.Outcome State Fault Refusal :=
  if s.pop d && (s.peer d port.val).isSome && !s.linkUp d port.val
      && s.past ((s.die d).sb.d2dRetrain.getD port.val 0) (msU 100) then
    .next (s.each (s.linkEnds d port.val) fun s e => s.updDie e fun x =>
      { x with sb := { x.sb with d2dRetrain := x.sb.d2dRetrain.set port.val s.time.now } })
  else .next s

/-- D2D_LINK_UP (R459): the link returns; routes and trees follow at the next frame boundary. -/
def execD2dLinkUp (d : Die) (port : Fin 3) (s : State) : Host.Outcome State Fault Refusal :=
  if s.pop d && (s.peer d port.val).isSome && !s.linkUp d port.val then
    let s := s.each (s.linkEnds d port.val) fun s e => s.setBit e D2D_PORT_STAT_UP port.val true
    .next { s with sb := { s.sb with pendRoutes := true } }
  else .next s

/-! ### ARB_SET and ARB_STATUS_GET (R417, R470, R471) -/

/-- Whether a settable class has a value from 1 to 255 (R470). -/
def arbOk (a : Nat × Nat) : Bool := decide (3 ≤ a.1 ∧ a.1 ≤ 7 ∧ 1 ≤ a.2 ∧ a.2 ≤ 255)

/-- Position of the first element that `p` refuses, counted from `n`. -/
def firstNot {α : Type} (p : α → Bool) : Nat → List α → Option Nat
  | _, [] => none
  | n, x :: xs => if p x then firstNot p (n + 1) xs else some n

/-- Whether a list holds an element twice by a key, with the position of the repeat counted from `n`. -/
def firstRepeat {α β : Type} [BEq β] (key : α → β) : Nat → List β → List α → Option Nat
  | _, _, [] => none
  | n, seen, x :: xs => if seen.contains (key x) then some n else firstRepeat key (n + 1) (key x :: seen) xs

def infoArbSet (dies : BitVec 8) (arbs : List (Nat × Nat)) : CmdInfo :=
  { code := 0x4160, priv := some .expert, cls := 9, dies := maskDies dies,
    bad := firstBad [maskBad dies 0, if arbs.isEmpty || 8 < arbs.length then some (min 9 (arbs.length + 1)) else none,
      firstNot arbOk 1 arbs, firstRepeat Prod.fst 1 [] arbs] }

def applyArbSet (dies : BitVec 8) (arbs : List (Nat × Nat)) (_ : Req) (_ : Session) (s : State) : Res :=
  .ok (s.each (maskDies dies) fun s d => arbs.foldl (fun s a => s.wr d (sbDeadline a.1) a.2) s)

/-- ARB_SET (R417, R470). -/
def execArbSet (r : Req) (dies : BitVec 8) (arbs : List (Nat × Nat)) (s : State) :
    Host.Outcome State Fault Refusal :=
  .next (Slostan.run r (.arbSet r dies arbs) (infoArbSet dies arbs) (applyArbSet dies arbs) s)

/-- The ARB_STATUS record of a die (R471). -/
def arbStatus (s : State) (d : Die) : Tlv :=
  let b := (s.die d).sb
  ⟨0x01F2, be 1 d.val ++ [0#8] ++ be 2 (s.rd d SB_LOAD_DL_LOAD) ++ be 4 b.grants ++ be 4 b.misses ++ be 4 b.starves⟩

def infoArbStatusGet : CmdInfo := { code := 0x4161, priv := some .observer, read := true }

/-- ARB_STATUS_GET (R417, R471). -/
def execArbStatusGet (r : Req) (s : State) : Host.Outcome State Fault Refusal :=
  .next (Slostan.run r (.arbStatusGet r) infoArbStatusGet
    (fun _ _ s => .okWith s (s.popDies.map (arbStatus s))) s)

end Sys2Proof.Machine
end

