-- ==== Sys2Proof/Machine/Telemetry.lean ====
section
/-! DEFINITION. Counters, snapshots, thief tags, events to subscribers, package time and telemetry intervals
(chapters 14 and 17). -/

namespace Sys2Proof.Machine

/-! ### Subscriptions (R381 to R383, R408, R664) -/

/-- The subscriber of a channel. -/
def State.sub? (s : State) (ch : BitVec 8) : Option Subscriber := s.sl.subs.find? fun u => u.channel == ch

/-- The lowest free subscriber number (R579). -/
def State.freeSubNum (s : State) : Nat :=
  ([0, 1, 2, 3].find? fun n => !s.sl.subs.any fun u => u.num == n).getD 0

def allEvents : BitVec 544 := BitVec.allOnes 544

def infoEventSubscribe (rate : Nat) (sevMin : Option Nat) : CmdInfo :=
  { code := 0x0701, priv := some .observer,
    bad := firstBad [if 1 ≤ rate ∧ rate ≤ 10000 then none else some 0,
      sevMin.bind fun v => numBad v 4 1] }

def applyEventSubscribe (rate : Nat) (sevMin : Option Nat) (mask : Option (BitVec 544)) (r : Req) (_ : Session)
    (s : State) : Res :=
  let sev := sevMin.getD 0
  let m := mask.getD allEvents
  match s.sub? r.channel with
  | some _ => .ok (s.updSub r.channel fun u =>
      { u.refill s.time.now with rate := rate, sevMin := sev, mask := m })
  | none =>
    if 4 ≤ s.sl.subs.length then .fail .busy s
    else
      let first := s.sl.subs.isEmpty
      let u : Subscriber :=
        { num := s.freeSubNum, channel := r.channel, rate := rate, sevMin := sev, mask := m,
          queue := if first then s.sl.held else [], nextSeq := 1, unacked := [], dropped := 0,
          credit := 64 * creditUnit, creditAt := s.time.now }
      let held := if first then [] else s.sl.held
      .ok { s with sl := { s.sl with subs := s.sl.subs ++ [u], held := held } }

/-- EVENT_SUBSCRIBE (R381, R664): the held SAFETY events go to the first subscriber after the reply. -/
def execEventSubscribe (r : Req) (rate : Nat) (sevMin : Option Nat) (mask : Option (BitVec 544)) (s : State) :
    Host.Outcome State Fault Refusal :=
  .next (Slostan.run r (.eventSubscribe r rate sevMin mask) (infoEventSubscribe rate sevMin)
    (applyEventSubscribe rate sevMin mask) s).flushAll

def infoEventAck : CmdInfo := { code := 0x0702, priv := some .observer }

/-- Whether an event sequence lies at or before another, modulo 2^16. -/
def seqUpTo (a b : BitVec 16) : Bool := decide ((b - a).toNat < 32768)

def applyEventAck (seq : BitVec 16) (r : Req) (_ : Session) (s : State) : Res :=
  match s.sub? r.channel with
  | none => .fail .notPermitted s
  | some u =>
    let acked := (u.unacked.filter fun a => seqUpTo a.seq seq).map fun a => (a.ev.source, a.ev.timeNs)
    let s : State := { s with sl := { s.sl with alarms := s.sl.alarms.filter fun k => !acked.contains k } }
    .ok (s.updSub r.channel fun u => { u with unacked := u.unacked.filter fun a => !seqUpTo a.seq seq })

/-- EVENT_ACK (R382, R664). -/
def execEventAck (r : Req) (seq : BitVec 16) (s : State) : Host.Outcome State Fault Refusal :=
  .next (Slostan.run r (.eventAck r seq) infoEventAck (applyEventAck seq) s)

def infoEventFilterSet (sevMin rate : Option Nat) : CmdInfo :=
  { code := 0x0703, priv := some .observer,
    bad := firstBad [sevMin.bind fun v => numBad v 4 0,
      rate.bind fun v => if 1 ≤ v ∧ v ≤ 10000 then none else some 0] }

def applyEventFilterSet (mask : Option (BitVec 544)) (sevMin rate : Option Nat) (r : Req) (_ : Session)
    (s : State) : Res :=
  match s.sub? r.channel with
  | none => .fail .notPermitted s
  | some _ => .ok (s.updSub r.channel fun u =>
      { u.refill s.time.now with
        mask := mask.getD u.mask, sevMin := sevMin.getD u.sevMin, rate := rate.getD u.rate })

/-- EVENT_FILTER_SET (R408, R664). -/
def execEventFilterSet (r : Req) (mask : Option (BitVec 544)) (sevMin rate : Option Nat) (s : State) :
    Host.Outcome State Fault Refusal :=
  .next (Slostan.run r (.eventFilterSet r mask sevMin rate) (infoEventFilterSet sevMin rate)
    (applyEventFilterSet mask sevMin rate) s)

def infoEventUnsubscribe : CmdInfo := { code := 0x0704, priv := some .observer }

def applyEventUnsubscribe (r : Req) (_ : Session) (s : State) : Res :=
  match s.sub? r.channel with
  | none => .fail .notPermitted s
  | some _ => .ok (s.endSub r.channel)

/-- EVENT_UNSUBSCRIBE (R382, R664). -/
def execEventUnsubscribe (r : Req) (s : State) : Host.Outcome State Fault Refusal :=
  .next (Slostan.run r (.eventUnsubscribe r) infoEventUnsubscribe applyEventUnsubscribe s)

/-- EVENT_NOTIFY as a request (R392): the opcode is the part's only, so check 3 answers BAD_OPCODE. -/
def execEventNotify (r : Req) (s : State) : Host.Outcome State Fault Refusal :=
  .next (Slostan.receive r 0x0710 (fun x s => s.refuseOpcode r 0x0710 x) s)

/-- SAFETY_EVENT_RESEND (R382): every 10 ms an unacknowledged SAFETY event is sent again with its sequence. -/
def execSafetyEventResend (ch : BitVec 8) (seq : BitVec 16) (s : State) : Host.Outcome State Fault Refusal :=
  match s.sub? ch, s.session? ch with
  | some u, some x =>
    let due := u.unacked.filter fun a => a.seq == seq && s.past a.sentAt (msU 10)
    if due.isEmpty || !s.mediumUp (s.pathTo x.src x.medium) then .next s
    else
      let recs := due.map fun a => { a.ev with resent := true }
      let s := s.sendEvent x seq recs 0
      .next (s.updSub ch fun v => { v with unacked := v.unacked.map fun a =>
        if a.seq = seq then { a with sentAt := s.time.now } else a })
  | _, _ => .next s

/-! ### Counters read (R577, R583, R587) -/

/-- The SNAPSHOT TLV (R394); zero before the first complete snapshot. -/
def tlvSnapshot (b : Option Boundary) : Tlv :=
  match b with
  | none => ⟨0x0197, List.replicate 24 0#8⟩
  | some b => ⟨0x0197, be 8 b.num ++ be 8 b.timeNs ++ be 4 b.actualNs
      ++ be 4 ((if b.extrap then 1 else 0) + (if b.moved then 2 else 0))⟩

/-- The value of a counter in the latest complete snapshot, with its STICKY bit (R581, R583). -/
def State.snapVal (s : State) (k : Nat) : Nat × Bool :=
  match s.tel.snap with
  | none => (0, false)
  | some p => (p.vals.get k, p.wraps.contains k)

/-- One COUNTERS entry (R394). -/
def counterEntry (v : Nat × Bool) : Bytes := [if v.2 then 0x80#8 else 0#8, 0#8] ++ be 6 v.1

/-- The die of a counter index; none for package and further indices (R577). -/
def ctrDie (k : Nat) : Option Die := if k < 1536 then toDie? (k / 192) else none

def infoCounterRead (s : State) (first count : Nat) : CmdInfo :=
  { code := 0x0706, priv := some .observer, read := true
    unsup := (List.range count).any fun i => match ctrDie (first + i) with
      | some d => !s.pop d
      | none => false
    bad := if count = 0 || 128 < count || 1600 < first + count then some 0 else none }

/-- COUNTER_READ (R577, R583). -/
def execCounterRead (r : Req) (first count : Nat) (s : State) : Host.Outcome State Fault Refusal :=
  .next (Slostan.run r (.counterRead r first count) (infoCounterRead s first count) (fun _ _ s =>
    .okWith s [tlvSnapshot (s.tel.snap.map Snapshot.bound),
      ⟨0x0196, (List.range count).flatMap fun i => counterEntry (s.snapVal (first + i))⟩]) s)

def infoTopdownRead (lane : Nat) : CmdInfo :=
  { code := 0x0709, priv := some .observer, read := true, dies := oneDie lane, bad := numBad lane 8 0 }

/-- TOPDOWN_READ (R587): the decoder pool's four counters of the lane. -/
def execTopdownRead (r : Req) (lane : Nat) (s : State) : Host.Outcome State Fault Refusal :=
  .next (Slostan.run r (.topdownRead r lane) (infoTopdownRead lane) (fun _ _ s =>
    .okWith s [tlvSnapshot (s.tel.snap.map Snapshot.bound),
      ⟨0x019A, [80, 81, 82, 83].flatMap fun i => be 8 (s.snapVal (lane * 192 + i)).1⟩]) s)

/-! ### Clear, write and latched reads (R582, R600) -/

/-- CLEAR_ALL (R582): every counter of the die becomes 0; wrap flags stay. -/
def State.clearCounters (s : State) (d : Die) : State :=
  { s with tel := { s.tel with ctr := NMap.drop s.tel.ctr fun k => decide (k / 192 = d.val ∧ k < 1536) } }

def execClearAll (r : Req) (d : Die) (s : State) : Host.Outcome State Fault Refusal :=
  .next (Slostan.run r (.clearAll r d) (regInfo d 0x14 0 true)
    (fun _ _ s => regGuard d 0x14 true s (.ok (s.clearCounters d))) s)

/-- COUNTER_WRITE_COMMIT (R582): a write of CNT.WR_HI sets the selected counter to WR_HI:WR_LO. -/
def State.commitCounter (s : State) (d : Die) (hi : Nat) : State :=
  s.setCtr (ctrIndex d (s.rd d CNT_SEL_INDEX)) ((hi % 65536) * 2 ^ 32 + s.rd d CNT_WR_LO)

def execCounterWriteCommit (r : Req) (d : Die) (hi : Nat) (s : State) : Host.Outcome State Fault Refusal :=
  .next (Slostan.run r (.counterWriteCommit r d hi) (regInfo d 0x14 5 true)
    (fun _ _ s => regGuard d 0x14 true s (.ok (s.commitCounter d hi))) s)

/-- A read of CNT.LAT_LO: the low word, with the rest copied into CNT.LAT_HI (R600). -/
def State.readLatLo (s : State) (d : Die) : Nat × State :=
  let v := s.snapVal (ctrIndex d (s.rd d CNT_SEL_INDEX))
  (v.1 % 2 ^ 32, (s.wr d CNT_LAT_HI_VAL_HI (v.1 / 2 ^ 32)).wrB d CNT_LAT_HI_STICKY v.2)

/-- CNT_LAT_LO_READ (R600). -/
def execCntLatLoRead (r : Req) (d : Die) (s : State) : Host.Outcome State Fault Refusal :=
  .next (Slostan.run r (.cntLatLoRead r d) (regInfo d 0x14 2 false) (fun _ _ s =>
    regGuard d 0x14 false s (.okWith (s.readLatLo d).2 [tlvData [(s.readLatLo d).1]])) s)

/-! ### Thief tags (R588 to R591) -/

def infoTagSet (k : Nat) (seed : BitVec 32) : CmdInfo :=
  { code := 0x0707, priv := some .operator, cls := 8,
    bad := if (k = 0 ∨ (8 ≤ k ∧ k ≤ 24)) ∧ seed ≠ 0#32 then none else some 0 }

def applyTagSet (k : Nat) (seed : BitVec 32) (_ : Req) (_ : Session) (s : State) : Res :=
  .ok { s with tel := { s.tel with tagNext := (k, seed) } }

/-- TAG_SET (R588): for every lane, from its next frame boundary. -/
def execTagSet (r : Req) (k : Nat) (seed : BitVec 32) (s : State) : Host.Outcome State Fault Refusal :=
  .next (Slostan.run r (.tagSet r k seed) (infoTagSet k seed) (applyTagSet k seed) s)

/-- One step of the tag register: x^32 + x^22 + x^2 + x + 1 in the form of R75 (R588). -/
def tagStep (x : BitVec 32) : BitVec 32 :=
  let b := x.getLsbD 31 ^^ x.getLsbD 21 ^^ x.getLsbD 1 ^^ x.getLsbD 0
  (x <<< 1) ||| (if b then 1#32 else 0#32)

/-- The tag register's value at the start of a frame (R588). -/
def tagInit (seed : BitVec 32) (fc : Nat) : BitVec 32 :=
  let x := seed ^^^ BitVec.ofNat 32 fc
  if x = 0#32 then 1#32 else x

/-- The codewords tagged among the `n` that follow codeword `c`, from a register value (R588). -/
def tagHits (k : Nat) : Nat → Nat → BitVec 32 → List Nat
  | 0, _, _ => []
  | n + 1, c, x =>
    let y := tagStep x
    let rest := tagHits k n (c + 1) y
    if y.toNat % 2 ^ k = 0 then (c + 1) :: rest else rest

/-- The tagged codewords of a frame: none when tags are off (R588). -/
def taggedCodewords (k : Nat) (seed : BitVec 32) (fc : Nat) : List Nat :=
  if k = 0 then [] else tagHits k 255 0 (tagInit seed fc)

/-- A completed tag record enters the die's buffer of 256, or is dropped (R590). -/
def State.addTag (s : State) (d : Die) (t : TagRec) : State :=
  if (s.die d).tags.length < 256 then
    (s.updDie d fun x => { x with tags := x.tags ++ [t] }).cnt d 185
  else
    let s := (s.cnt d 186).wr d CNT_STAT_TAG_FULL_SEEN 1
    if (s.die d).tagDropSeen then s
    else (s.updDie d fun x => { x with tagDropSeen := true }).raiseLane d evTAG_DROPPED

/-- The TAG_RECORD TLV (R591). -/
def tlvTag (d : Die) (t : TagRec) : Tlv :=
  ⟨0x0199, be 1 d.val ++ be 1 (if t.rx then 0 else 1) ++ be 1 t.lane.val ++ be 1 t.flags ++ be 6 t.frame
    ++ be 1 t.codeword ++ be 1 t.iter ++ be 8 t.baseNs ++ (List.range 7).flatMap fun i => be 4 (t.offsets.getD i 0)⟩

def infoTagRead (dies : BitVec 8) (count : Option Nat) : CmdInfo :=
  { code := 0x0708, priv := some .observer, read := true, dies := maskDies dies,
    bad := firstBad [if (maskDies dies).length = 1 then none else some 0,
      count.bind fun n => if 1 ≤ n ∧ n ≤ 32 then none else some 1] }

/-- TAG_READ (R590): up to COUNT records, oldest first, leave the buffer; 32 without COUNT. -/
def execTagRead (r : Req) (dies : BitVec 8) (count : Option Nat) (s : State) : Host.Outcome State Fault Refusal :=
  .next (Slostan.run r (.tagRead r dies count) (infoTagRead dies count) (fun _ _ s =>
    match maskDies dies with
    | d :: _ =>
      if s.level d .ctrl = .dead then .fail .domainOff s
      else
        let n := count.getD 32
        .okWith (s.updDie d fun x => { x with tags := x.tags.drop n })
          (((s.die d).tags.take n).map (tlvTag d))
    | [] => .badParam 0 s) s)

/-! ### Package time (R513, R514) -/

/-- The TIME TLV (R394). -/
def tlvTime (s : State) : Tlv :=
  ⟨0x019B, be 8 s.ns ++ be 2 (s.pkgTime % nsU / 2 ^ 24) ++ be 2 (if s.time.extrap then 1 else 0)
    ++ be 4 s.time.uncert⟩

def infoTimeGet : CmdInfo := { code := 0x070A, priv := some .observer, read := true }

/-- TIME_GET (R514). -/
def execTimeGet (r : Req) (s : State) : Host.Outcome State Fault Refusal :=
  .next (Slostan.run r (.timeGet r) infoTimeGet (fun _ _ s => .okWith s [tlvTime s]) s)

/-- A read of CLK.TIME_LO copies the rest of package time (R520). -/
def State.readTimeLo (s : State) (d : Die) : Nat × State :=
  (s.ns % 2 ^ 32,
    ((s.wr d CLK_TIME_HI_NS_HI (s.ns / 2 ^ 32)).wr d CLK_TIME_FRAC_FRAC (s.pkgTime % nsU / 2 ^ 24)).wrB d
      CLK_TIME_FRAC_EXTRAPOLATED s.time.extrap)

/-- TIME_LO_READ (R520). -/
def execTimeLoRead (r : Req) (d : Die) (s : State) : Host.Outcome State Fault Refusal :=
  .next (Slostan.run r (.timeLoRead r d) (regInfo d 0x02 2 false) (fun _ _ s =>
    regGuard d 0x02 false s (.okWith (s.readTimeLo d).2 [tlvData [(s.readTimeLo d).1]])) s)

def infoTimebaseSet (ns frac : Nat) : CmdInfo :=
  { code := 0x4170, priv := some .expert, cls := 2, rt := true,
    bad := if ns < 2 ^ 64 ∧ frac < 65536 then none else some 0 }

/-- TIMEBASE_SET (R420): package time is set at the next telemetry-interval boundary. -/
def applyTimebaseSet (ns frac : Nat) (_ : Req) (_ : Session) (s : State) : Res :=
  .ok { s with time := { s.time with setPending := some (ns, frac) } }

def execTimebaseSet (r : Req) (ns frac : Nat) (s : State) : Host.Outcome State Fault Refusal :=
  .next (Slostan.run r (.timebaseSet r ns frac) (infoTimebaseSet ns frac) (applyTimebaseSet ns frac) s)

/-! ### Extrapolation (R514) -/

/-- Slow periods' ratio in units of 2^-40 ns: RATIO counts 1/2,048 REFCLK cycle of 6.4 ns (R512). -/
def State.slowPeriod (s : State) : Nat := s.rd 0 CLK_SLOW_RATIO * (64 * nsU / 10) / 2048

/-- An extrapolated period begins (R514). -/
def State.beginExtrap (s : State) : State :=
  match s.time.periodStart with
  | some _ => s
  | none => { s with time := { s.time with
      extrap := true, periodStart := some s.time.now, periodRc := s.rd 0 CLK_SLOW_SRC == 0 } }

/-- An extrapolated period ends and adds to the uncertainty once (R514). -/
def State.endExtrap (s : State) : State :=
  match s.time.periodStart with
  | none => s
  | some t =>
    let span := (s.time.now - t) / nsU
    let add := (if s.time.periodRc then span * 500 else span * 50) / 1000000 + 61040
    { s with time := { s.time with
        periodStart := none, slowCalAt := s.time.now, uncert := min 0xFFFFFFFF (s.time.uncert + add) } }

/-- Whether package time is extrapolated: every die in DORMANT, or REFCLK lost (R514). -/
def State.mustExtrap (s : State) : Bool :=
  !s.time.refclk || s.popDies.all fun d => s.power d == .dormant

/-- Begins or ends an extrapolated period as the cause comes and goes. -/
def State.updExtrap (s : State) : State := if s.mustExtrap then s.beginExtrap else s.endExtrap

/-- One tick of time on an idle block: a REFCLK cycle of 6.4 ns, or a slow period while time is extrapolated
(R513, R514; the model's choice, assumption log); service time counts it (R566). In OFF no time is kept. -/
def State.tick (s : State) : State :=
  if s.phase = .powerOff ∨ s.phase = .off then s
  else
    let span := if s.mustExtrap then s.slowPeriod else 64 * nsU / 10
    { s with
      time := { s.time with
        now := s.time.now + span, slowCount := s.time.slowCount + (if s.mustExtrap then 1 else 0) }
      nv := { s.nv with safety := { s.nv.safety with service := s.nv.safety.service + span } } }

/-! ### Telemetry intervals (R515 to R517) -/

/-- The interval length set, in time units (CLK.INTERVAL). -/
def State.interval (s : State) : Nat := usU (s.rd 0 CLK_INTERVAL_INTERVAL_US)

def infoIntervalSet (us : Option Nat) : CmdInfo :=
  { code := 0x0705, priv := some .operator, cls := 8,
    bad := us.bind fun v => if 125 ≤ v ∧ v ≤ 100000 then none else some 0 }

def applyIntervalSet (us : Option Nat) (syncEn : Option Bool) (_ : Req) (_ : Session) (s : State) : Res :=
  let s := match us with
    | some v => s.wr 0 CLK_INTERVAL_INTERVAL_US v
    | none => s
  .ok (match syncEn with
    | some b => s.wrB 0 CLK_INTERVAL_SYNC_EN b
    | none => s)

/-- INTERVAL_SET (R515, R516): a new length takes effect at the next boundary. -/
def execIntervalSet (r : Req) (us : Option Nat) (syncEn : Option Bool) (s : State) :
    Host.Outcome State Fault Refusal :=
  .next (Slostan.run r (.intervalSet r us syncEn) (infoIntervalSet us) (applyIntervalSet us syncEn) s)

/-- The length of the next interval and the error left to slew after it (R516). -/
def slewed (iv : Nat) (err : Int) : Nat × Int :=
  let step : Int := iv / 8
  if err = 0 then (iv, 0)
  else if -step ≤ err ∧ err ≤ step then (((iv : Int) + err).toNat, 0)
  else if 0 < err then (iv + iv / 8, err - step)
  else (iv - iv / 8, err + step)

/-- The load of the closed interval goes to SB.LOAD; above 60 % it is reported (R471, R488). -/
def State.closeSbLoad (s : State) : State :=
  let all := max 1 s.sb.allSlots
  let high := decide (60 * all < 100 * s.sb.dlSlots)
  let s := s.each s.popDies fun s d =>
    let s := (s.wr d SB_LOAD_DL_LOAD (min 65535 (s.sb.dlSlots * 65536 / all))).wr d SB_LOAD_BE_LOAD
      (min 65535 (s.sb.beSlots * 65536 / all))
    let s := if high then s.wr d SB_STAT_LOAD_HIGH 1 else s
    s.updDie d fun x => { x with tagDropSeen := false, sb := { x.sb with grants := 0, misses := 0, starves := 0 } }
  let s := if high then s.raisePkg evSB_LOAD_HIGH noArg else s
  { s with sb := { s.sb with dlSlots := 0, beSlots := 0, allSlots := 0 } }

/-- A boundary is taken at time `t` (R515): the interval closes, TIMEBASE_SET takes effect (R420), LATCH is sent
twice (R464). -/
def State.takeBoundary (s : State) (t : Nat) : State :=
  let setTo : Option Nat := s.time.setPending.map fun p => p.1 * nsU + p.2 * 2 ^ 24
  let offset : Int := match setTo with
    | some v => (v : Int) - t
    | none => s.time.offset
  let atPkg : Int := (t : Int) + offset
  let b : Boundary :=
    { num := s.time.ivNum + 1, timeNs := atPkg.toNat / nsU % 2 ^ 64,
      actualNs := (atPkg - ((s.time.lastBoundary : Int) + s.time.offset)).natAbs / nsU % 2 ^ 32,
      extrap := s.time.extrap, moved := s.time.moved || setTo.isSome, skipped := false }
  let (iv, err) := slewed s.interval s.time.slew
  let s := s.closeSbLoad
  let s := { s with
    time := { s.time with
      offset := offset
      extrap := s.time.extrap && setTo.isNone
      uncert := if setTo.isSome then 0 else s.time.uncert
      periodStart := if setTo.isSome then s.time.periodStart.map fun _ => t else s.time.periodStart
      setPending := none, ivNum := b.num, lastBoundary := t, nextBoundary := t + iv,
      moved := decide (s.time.slew ≠ 0), slew := err }
    tel := { s.tel with bounds := (s.tel.bounds ++ [b]).drop ((s.tel.bounds.length + 1) - 4) } }
  let s := s.wrB 0 CLK_SYNC_STAT_SLEWING (err != 0)
  s.sbPush s.leader 3 2 (.latch b.num b.timeNs)

/-- TELEMETRY_BOUNDARY (R515, R517): not while every die is in DORMANT. -/
def execTelemetryBoundary (s : State) : Host.Outcome State Fault Refusal :=
  if s.started && s.sbRuns && decide (s.time.nextBoundary ≤ s.time.now) then
    .next (s.takeBoundary s.time.nextBoundary)
  else .next s

/-- A snapshot that is still uncollected at the latch of the boundary after next is abandoned (R584): its wrap
flags go into the next complete one. -/
def State.abandon (s : State) (n : Nat) : State :=
  if s.tel.bounds.any (fun b => b.num == n && !b.skipped) then
    let ws := (s.tel.sets.filter fun x => x.num == n && !x.collected).flatMap LatchSet.wraps
    let bounds := s.tel.bounds.map fun b => if b.num = n then { b with skipped := true } else b
    let s := { s with tel := { s.tel with bounds := bounds, carry := s.tel.carry ++ ws } }
    ((s.cntPkg 1549).wr s.leader CNT_STAT_SKIPPED 1).raisePkg evCNT_SNAPSHOT_SKIPPED noArg
  else s

/-- Stores a new latched set; of the sets of one die, the two newest stay (R583). -/
def State.addSet (s : State) (x : LatchSet) : State :=
  let sets := s.tel.sets.filter fun y => !(y.die == x.die && decide (y.num + 1 < x.num))
  { s with tel := { s.tel with sets := sets ++ [x] } }

/-- One die latches its counters and wrap flags and clears the flags (R580, R581, R585). -/
def State.latchDie (s : State) (d : Die) (n : Nat) : State :=
  let old := s.tel.sets.any fun x => x.die == d.val && x.num + 2 == n && !x.collected
  let s := if old then s.abandon (n - 2) else s
  let mine (k : Nat) : Bool := k / 192 == d.val && decide (k < 1536)
  let wraps := if (s.die d).pwr.restarted then (List.range 192).map (ctrIndex d) else s.tel.wraps.filter mine
  let s := s.addSet ⟨d.val, n, s.tel.ctr.filter fun kv => mine kv.1, wraps, false, 0⟩
  let s := { s with tel := { s.tel with wraps := s.tel.wraps.filter fun k => !mine k } }
  s.updDie d fun x => { x with pwr := { x.pwr with restarted := false } }

/-- The interval's corrected host symbols of a die are judged (R70). -/
def State.closeHfec (s : State) (d : Die) : State :=
  s.each [0, 1] fun s n =>
    let i : Fin 2 := Fin.ofNat 2 n
    let thr := s.rd d HFEC_CTRL_SER_THR
    let bad := thr != 0 && decide (thr < ((s.die d).host.get i).symbols)
    let s := if bad && !s.flag d (HFEC_STAT_DEGRADED n) then s.wr d (HFEC_STAT_DEGRADE_SEEN n) 1 else s
    (s.wrB d (HFEC_STAT_DEGRADED n) bad).updDie d fun x =>
      { x with host := x.host.set i.val { x.host.get i with symbols := 0 } i.isLt }

/-- The leader latches the package counters (R580). -/
def State.latchPkg (s : State) (n : Nat) : State :=
  let s := s.addSet ⟨8, n, s.tel.ctr.filter fun kv => decide (1536 ≤ kv.1), s.tel.wraps.filter fun k => decide (1536 ≤ k),
    false, 0⟩
  { s with tel := { s.tel with wraps := s.tel.wraps.filter fun k => decide (k < 1536) } }

/-- The word of the CNT block at which a REQ asks for a group of 32 counters of a latched set: the spec gives none, and the model
takes words past the block's registers, one range for each of a die's two sets (DESIGN CHOICE, assumption log). -/
def setWord (num i : Nat) : Nat := 0x100 + 8 * (num % 2) + i

/-- The boundary that a LATCH slot belongs to. -/
def SlotMsg.latchNum? : SlotMsg → Option Nat
  | .latch num _ => some num
  | _ => none

/-- Collection of a die's set by the leader: one REQ of class BULK for each 32 counters (R583, R584). -/
def State.pushCollection (s : State) (d : Die) (num : Nat) : State :=
  if d = s.leader then s
  else (List.range 6).foldl (fun s i =>
    let tag := s.sb.tagCtr % 32
    let s := { s with sb := { s.sb with tagCtr := s.sb.tagCtr + 1 } }
    s.sbPush s.leader 7 1 (.req d tag false (BitVec.ofNat 32 (d.val * 2 ^ 26 + 0x14 * 2 ^ 18 + setWord num i)) 0#32)) s

/-- LATCH (R513, R580 to R585): a die acts on the broadcast that has come to it, once for each boundary; a die in DORMANT, in OFF or
unhealthy latches nothing. -/
def execLatch (d : Die) (s : State) : Host.Outcome State Fault Refusal :=
  match s.sb.inbox.find? fun e => e.dst == d && SlotMsg.latchNum? e.msg != none with
  | none => .next s
  | some e =>
    let n := (SlotMsg.latchNum? e.msg).getD 0
    let s := { s with sb := { s.sb with inbox := s.sb.inbox.erase e } }
    if s.pop d && s.healthy d && s.power d != .dormant && s.power d != .off
        && !s.tel.sets.any (fun x => x.die == d.val && x.num == n) then
      let s := (if s.domainOn d .dataPath then (s.chargeAll d).chargeCipher d else s).latchDie d n
      let s := s.closeHfec d
      let s := if d = s.leader then s.latchPkg n else s
      .next (s.pushCollection d n)
    else .next s

/-- The set of a die that a snapshot of boundary `n` carries: the set of that boundary, else its last one (R585). -/
def State.setFor (s : State) (die n : Nat) : Option LatchSet :=
  (s.tel.sets.filter fun x => x.die == die && decide (x.num ≤ n)).getLast?

/-- Whether the leader has got every set of boundary `n`: those of the dies that latch, group by group, and its own (R583, R585). -/
def State.collectable (s : State) (n : Nat) : Bool :=
  (s.popDies.all fun d => !s.healthy d || s.power d == .dormant || s.power d == .off
    || s.tel.sets.any fun x => x.die == d.val && x.num == n && (d == s.leader || x.parts == BitVec.allOnes 6))
  && s.tel.sets.any fun x => x.die == 8 && x.num == n

/-- The boundary whose snapshot is in collection: the oldest after the last complete one, not abandoned. -/
def State.collecting (s : State) : Option Boundary :=
  let last := match s.tel.snap with
    | some p => p.bound.num
    | none => 0
  s.tel.bounds.find? fun b => decide (last < b.num) && !b.skipped

/-- Merges tables whose keys do not overlap. -/
def mergeTables (l : List NMap) : NMap := l.foldl (fun m t => t.foldl (fun m kv => NMap.set m kv.1 kv.2) m) []

/-- SNAPSHOT_COMPLETE (R11, R583): the leader has collected every set of the boundary, and the snapshot becomes readable. -/
def execSnapshotComplete (s : State) : Host.Outcome State Fault Refusal :=
  match s.collecting with
  | none => .next s
  | some b =>
    if s.leads && s.collectable b.num then
      let sets := (8 :: s.popDies.map Fin.val).filterMap fun d => s.setFor d b.num
      let snap : Snapshot := ⟨b, mergeTables (sets.map LatchSet.vals), sets.flatMap LatchSet.wraps ++ s.tel.carry⟩
      let done := s.tel.sets.map fun x => if x.num ≤ b.num then { x with collected := true, wraps := [] } else x
      .next { s with tel := { s.tel with snap := some snap, carry := [], sets := done } }
    else .next s

/-! ### SYNC_IN (R516) -/

/-- An accepted edge moves, slews or leaves the boundaries; `e` is its time minus the nearest boundary (R516). -/
def State.syncEdge (s : State) : State :=
  let t := s.time.now
  let iv := s.interval
  let before : Int := (t : Int) - s.time.lastBoundary
  let after : Int := (t : Int) - s.time.nextBoundary
  let e := if before.natAbs ≤ after.natAbs then before else after
  let s := { s with time := { s.time with lastEdge := some t } }
  let s := s.wr 0 CLK_SYNC_STAT_SYNC_SEEN 1
  let s := s.cntPkg 1555
  if e = 0 then State.wr { s with time := { s.time with slew := 0 } } 0 CLK_SYNC_STAT_SLEWING 0
  else if e.natAbs ≤ iv / 8 then
    let s := { s with time := { s.time with
      nextBoundary := if e < 0 then t else t + iv, moved := true, slew := 0 } }
    (s.wr 0 CLK_SYNC_STAT_MOVED 1).wr 0 CLK_SYNC_STAT_SLEWING 0
  else
    let s := { s with time := { s.time with slew := e } }
    (s.wr 0 CLK_SYNC_STAT_MOVED 1).wr 0 CLK_SYNC_STAT_SLEWING 1

/-- Whether an edge comes less than half an interval after the last accepted one (R516). -/
def State.edgeTooSoon (s : State) : Bool :=
  match s.time.lastEdge with
  | some t => decide (2 * (s.time.now - t) < s.interval)
  | none => false

/-- What SYNC_IN does to the interval boundaries (R516): nothing unless SYNC_EN is 1. -/
def State.syncBoundary (s : State) : State :=
  if !s.flag 0 CLK_INTERVAL_SYNC_EN then s
  else if s.edgeTooSoon then
    ((s.incSat 0 CLK_SYNC_STAT_IGNORED 1).wr 0 CLK_SYNC_STAT_IGN_SEEN 1).cntPkg 1556
  else s.syncEdge

end Sys2Proof.Machine
end

