-- ==== Sys2Proof/Machine/Lifecycle.lean ====
section
/-! DEFINITION. Limited-change settings, credentials, firmware loading, the audit ring as read (chapter 18; R412,
R413). LIFECYCLE_ADVANCE, CLEARTEXT_WITHDRAW and the firmware trial stand in Settings.lean. -/

namespace Sys2Proof.Machine

/-- The value CONFIRM must have (R394). -/
def confirmWord : Word := 0x4F584B34#32

/-- A wrong CONFIRM is refused with BAD_PARAM (R413). -/
def confirmBad (c : Word) (i : Nat) : Option Nat := if c = confirmWord then none else some i

/-- The laser ceiling of a lane: the last value written, 0 until the first (R611). -/
def State.ceiling (s : State) (d : Die) : Nat := ((s.nv.fuses.ceilings.get d).getLast?).getD 0

/-- Whether an interruption has used up a change (R612). -/
def State.spent (s : State) (c : LimitCut) : Bool := s.nv.fuses.spent.contains c

/-- Slots of OWNER_KEY that revocation has used: those it moved past, and those of interrupted revocations (R611, R612). -/
def State.slotsUsed (s : State) : Nat := s.nv.fuses.ownerSlot + s.nv.fuses.spent.count .revoke

/-- Increments of FW_SECURITY_VERSION left (R611, R612). -/
def State.secverLeft (s : State) : Nat := 63 - s.nv.fuses.secver - s.nv.fuses.spent.count .secver

/-- Whether the conditions of an advance hold (R613). -/
def State.mayAdvance (s : State) (n : Nat) : Bool :=
  match n with
  | 1 => s.nv.fuses.identity.isSome && s.nv.fuses.ownerKey.isSome
  | 2 => s.nv.ownerCert.isSome
  | _ => true

/-- Ceiling writes left for a lane (R611). -/
def State.ceilingLeft (s : State) (d : Die) : Nat := 4 - (s.nv.fuses.ceilings.get d).length

/-- The FUSE registers and KEY.CRED follow the permanent record (R322, R629). -/
def State.syncFuse (s : State) : State :=
  let f := s.nv.fuses
  let s := s.wr 0 FUSE_STAT_LIFECYCLE f.lifecycle
  let s := s.wr 0 FUSE_STAT_SECVER f.secver
  let s := s.wrB 0 FUSE_STAT_PERMIT (f.permit && Part.cipher s.part)
  let s := s.each s.popDies fun s d => s.wrB d CIPH_CFG_PERMIT f.permit
  let s := s.wrB 0 FUSE_STAT_IDENTITY_SET f.identity.isSome
  let s := s.wrB 0 FUSE_STAT_OWNER_VALID f.ownerKey.isSome
  let s := s.wr 0 FUSE_STAT_OWNER_SLOT f.ownerSlot
  let s := s.wr 0 FUSE_STAT_SLOTS_LEFT (4 - s.slotsUsed)
  let s := s.wrB 0 FUSE_STAT_CIPHER (Part.cipher s.part)
  let s := s.wr 0 FUSE_PKG_ID_HI_ID_HI (f.packageId.toNat / 2 ^ 32)
  let s := s.wr 0 FUSE_PKG_ID_LO_ID_LO f.packageId.toNat
  let s := s.each allDies fun s d =>
    (s.wr 0 (FUSE_CEIL_WRITES_LEFT d.val) (s.ceilingLeft d)).wr 0 (FUSE_CEIL_CEILING d.val) (s.ceiling d)
  let s := s.wrB 0 KEY_CRED_PSK_PRESENT s.nv.psk.isSome
  let s := s.wrB 0 KEY_CRED_CERT_PRESENT s.nv.ownerCert.isSome
  let s := s.wrB 0 KEY_CRED_OWNER_VALID f.ownerKey.isSome
  s.wr 0 KEY_CRED_OWNER_SLOT f.ownerSlot

/-- Changes the permanent record, and the registers with it. -/
def State.updFuses (s : State) (g : Fuses → Fuses) : State :=
  State.syncFuse { s with nv := { s.nv with fuses := g s.nv.fuses } }

/-- The bit of PART_MASK that stands for a part (R618). -/
def Part.maskBit : Part → Nat
  | .ko0802C | .ko0802N => 0
  | .ko1604C | .ko1604N => 1
  | .ko3208C | .ko3208N => 2

/-! ### The settings store's registers (R610, R628) -/

/-- The copy of a slot with the highest commit number among those that pass their CRC (R610). -/
def State.best (s : State) (slot : Nat) : Option VCopy :=
  (s.nv.copies.filter fun c => c.slot == slot && c.crcOk && s.pop c.die).foldl (fun b c =>
    match b with
    | none => some c
    | some x => if x.commit < c.commit then some c else b) none

/-- Whether a copy's PART is the part's (R603, R608). -/
def State.partOk (s : State) (c : VCopy) : Bool := Part.maskBit c.part == Part.maskBit s.part

/-- Whether a slot is valid (R610). -/
def State.slotValid (s : State) (slot : Nat) : Bool := (s.best slot).any s.partOk

/-- NVM.STAT and NVM.COMMITS follow the settings store (R628). -/
def State.syncNvm (s : State) : State :=
  let mask := (List.range 8).foldl (fun m k => if s.slotValid k then m + 2 ^ k else m) 0
  let s := (s.wr 0 NVM_STAT_VALID mask).wrB 0 NVM_STAT_PREF_VALID s.nv.preferred.isSome
  let s := (s.wr 0 NVM_STAT_PREFERRED (s.nv.preferred.getD 0)).wr 0 NVM_COMMITS_COUNT s.nv.commits
  s.wrB 0 NVM_STAT_COMMITTING s.nv.committing.isSome

/-! ### Ceilings, identity, owner keys -/

def infoLaserCeilingSet (cs : List (Nat × Nat)) : CmdInfo :=
  { code := 0x0A03, priv := some .custodian, cls := 10, sec := true, stage := false,
    dies := cs.flatMap fun c => oneDie c.1,
    bad := firstBad [if cs.isEmpty || 8 < cs.length then some (min 8 cs.length) else none,
      firstNot (fun c => decide (c.1 < 8 ∧ c.2 < 4096)) 0 cs, firstRepeat Prod.fst 0 [] cs] }

def applyLaserCeilingSet (cs : List (Nat × Nat)) (_ : Req) (_ : Session) (s : State) : Res :=
  let ds := cs.flatMap fun c => (oneDie c.1).map fun d => (d, c.2)
  if ds.any fun c => s.ceilingLeft c.1 == 0 then .fail .limitReached s
  else .ok (s.updFuses fun f => { f with ceilings := ds.foldl (fun v c =>
    v.set c.1.val (v.get c.1 ++ [c.2]) c.1.isLt) f.ceilings })

/-- LASER_CEILING_SET (R413, R611): one write of every lane named, all of them or none. -/
def execLaserCeilingSet (r : Req) (cs : List (Nat × Nat)) (s : State) : Host.Outcome State Fault Refusal :=
  .next (Slostan.run r (.laserCeilingSet r cs) (infoLaserCeilingSet cs) (applyLaserCeilingSet cs) s)

def infoNodeIdentitySet (confirm : Word) : CmdInfo :=
  { code := 0x0A04, priv := some .custodian, cls := 10, sec := true, stage := false, bad := confirmBad confirm 0 }

def applyNodeIdentitySet (_ : Req) (_ : Session) (s : State) : Res :=
  if s.nv.fuses.identity.isSome || s.spent .identity then .fail .limitReached s
  else
    .okWith (s.updFuses fun f => { f with identity := some (Config.sha384 s.nv.identityPub) })
      [⟨0x01C2, s.nv.identityPub⟩]

/-- NODE_IDENTITY_SET (R611, R413): binds the digest of the identity public key, once. -/
def execNodeIdentitySet (r : Req) (confirm : Word) (s : State) : Host.Outcome State Fault Refusal :=
  .next (Slostan.run r (.nodeIdentitySet r confirm) (infoNodeIdentitySet confirm) applyNodeIdentitySet s)

def infoOwnerKeySet (key : Bytes) : CmdInfo :=
  { code := 0x0A05, priv := some .custodian, cls := 10, sec := true, stage := false,
    bad := if key.length = 97 then none else some 0 }

def tlvSlot (n : Nat) : Tlv := ⟨0x01C3, be 1 n⟩

def applyOwnerKeySet (key : Bytes) (_ : Req) (_ : Session) (s : State) : Res :=
  if s.nv.fuses.ownerKey.isSome || s.spent .ownerKey then .fail .notPermitted s
  else .okWith (s.updFuses fun f => { f with ownerKey := some key }) [tlvSlot s.nv.fuses.ownerSlot]

/-- OWNER_KEY_SET (R413): writes the active slot if it is empty. -/
def execOwnerKeySet (r : Req) (key : Bytes) (s : State) : Host.Outcome State Fault Refusal :=
  .next (Slostan.run r (.ownerKeySet r key) (infoOwnerKeySet key) (applyOwnerKeySet key) s)

def infoOwnerKeyRevoke (confirm : Word) : CmdInfo :=
  { code := 0x0A06, priv := some .custodian, cls := 10, sec := true, stage := false, bad := confirmBad confirm 0 }

def applyOwnerKeyRevoke (_ : Req) (_ : Session) (s : State) : Res :=
  if 3 ≤ s.slotsUsed then .fail .limitReached s
  else
    let n := s.nv.fuses.ownerSlot + 1
    .okWith (s.updFuses fun f => { f with
      ownerSlot := n, ownerKey := none, spent := f.spent.filter fun c => c != .ownerKey }) [tlvSlot n]

/-- OWNER_KEY_REVOKE (R413): the next slot becomes active and empty; revoking slot 3 has no changes left. -/
def execOwnerKeyRevoke (r : Req) (confirm : Word) (s : State) : Host.Outcome State Fault Refusal :=
  .next (Slostan.run r (.ownerKeyRevoke r confirm) (infoOwnerKeyRevoke confirm) applyOwnerKeyRevoke s)

/-! ### Firmware images (R618, R619) -/

/-- The fields of a firmware image (R618). -/
def parseFw (b : Bytes) : FwImage :=
  let n := ofBe (sub b 16 4)
  { size := b.length, magic := BitVec.ofNat 32 (ofBe (sub b 0 4)), hdrFormat := BitVec.ofNat 16 (ofBe (sub b 4 2)),
    partMask := BitVec.ofNat 16 (ofBe (sub b 6 2)), version := BitVec.ofNat 32 (ofBe (sub b 8 4)),
    secver := ofBe (sub b 12 1), codeLen := n, digest := sub b 20 48, code := sub b 128 n,
    signature := sub b (128 + n) 96 }

/-- The checks of R619, in order: none when the image passes. -/
def fwCheck (s : State) (b : Bytes) : Option Status :=
  let f := parseFw b
  if f.size ≠ 128 + f.codeLen + 96 || 524288 < f.codeLen then some .badLength
  else if f.magic ≠ 0x4B344657#32 || f.hdrFormat ≠ 1#16 || 63 < f.secver then some .badParam
  else if !f.partMask.getLsbD (Part.maskBit s.part) then some .unsupportedOnPart
  else if f.digest ≠ Config.sha384 f.code
      || !Config.ecdsaVerify Config.firmwareKey (b.take (128 + f.codeLen)) f.signature then some .integrityFail
  else if f.secver < s.nv.fuses.secver then some .notPermitted
  else none

def infoFwLoad : CmdInfo :=
  { code := 0x0A08, priv := some .custodian, cls := 10, sec := true, stage := false }

/-- The bank an image makes. -/
def fwBankOf (b : Bytes) : FwBank := ⟨(parseFw b).version.toNat, (parseFw b).secver, true⟩

def applyFwLoad (image : Bytes) (_ : Req) (_ : Session) (s : State) : Res :=
  if s.nv.loading.isSome || s.nv.trial.isSome then .fail .busy s
  else match fwCheck s image with
    | some st => .fail st s
    | none => .pending .fwLoad { s with nv := { s.nv with loading := some (fwBankOf image) } }

/-- FW_LOAD (R619): the image is checked whole, then its writing to the standby banks begins. -/
def execFwLoad (r : Req) (image : Bytes) (s : State) : Host.Outcome State Fault Refusal :=
  .next (Slostan.run r (.fwLoad r image) infoFwLoad (applyFwLoad image) s)

/-- The firmware registers follow the banks (R628). -/
def State.syncFw (s : State) : State :=
  let s := s.wr 0 NVM_FW_ACTIVE_VERSION s.nv.active.version
  let s := s.wr 0 NVM_FW_STAT_ACT_SECVER s.nv.active.secver
  let s := s.wr 0 NVM_FW_STAT_SBY_SECVER s.nv.standby.secver
  (s.wrB 0 NVM_FW_STAT_SBY_VALID s.nv.standby.valid).wrB 0 NVM_FW_STAT_TRIAL s.nv.trial.isSome

/-- FW_LOAD_DONE (R619): the standby banks hold the image. -/
def execFwLoadDone (s : State) : Host.Outcome State Fault Refusal :=
  match s.nv.loading with
  | none => .next s
  | some b =>
    let s := State.syncFw { s with nv := { s.nv with standby := b, loading := none } }
    .next (s.finishPend .fwLoad .ok [])

/-! ### Reads (R615, R617, R629) -/

/-- The AUDIT_RECORD TLV (R617). -/
def tlvAudit (a : AuditRec) : Tlv :=
  ⟨0x01C7, be 4 a.seq ++ be 8 (a.timeNs % 2 ^ 63 + (if a.extrap then 2 ^ 63 else 0)) ++ be 2 a.opcode ++ be 2 a.status
    ++ be 2 a.src.toNat ++ be 1 a.channel.toNat ++ be 1 (Privilege.code a.priv) ++ be 1 a.medium ++ be 1 a.flags
    ++ be 1 a.lifecycle ++ [0#8] ++ padTo 8 a.digest⟩

def infoAuditRead (first count : Nat) : CmdInfo :=
  { code := 0x0A0A, priv := some .observer, read := true,
    bad := if first < 4096 ∧ 1 ≤ count ∧ count ≤ 16 then none else some 0 }

/-- AUDIT_READ (R615): the records at the ring indices named; an index not yet written has none. -/
def execAuditRead (r : Req) (first count : Nat) (s : State) : Host.Outcome State Fault Refusal :=
  .next (Slostan.run r (.auditRead r first count) (infoAuditRead first count) (fun _ _ s =>
    .okWith s ((List.range count).flatMap fun i =>
      ((s.nv.audit.find? fun a => a.seq % 4096 == (first + i) % 4096).toList.map tlvAudit))) s)

/-- The LIMITS TLV (R394, R629). -/
def tlvLimits (s : State) : Tlv :=
  let f := s.nv.fuses
  ⟨0x01C8, be 1 f.lifecycle ++ be 1 f.secver ++ be 1 s.secverLeft ++ be 1 (if f.permit && Part.cipher s.part then 1 else 0)
    ++ be 1 (if f.identity.isSome then 1 else 0) ++ be 1 f.ownerSlot ++ be 1 (4 - s.slotsUsed) ++ [0#8]
    ++ allDies.flatMap fun d => be 1 (s.ceilingLeft d)⟩

def infoLimitsGet : CmdInfo := { code := 0x0A0B, priv := some .observer, read := true }

/-- LIMITS_GET (R412). -/
def execLimitsGet (r : Req) (s : State) : Host.Outcome State Fault Refusal :=
  .next (Slostan.run r (.limitsGet r) infoLimitsGet (fun _ _ s => .okWith s [tlvLimits s]) s)

end Sys2Proof.Machine
end

