-- ==== Sys2Proof/Machine/Sessions.lean ====
section
/-! DEFINITION. The session and claims groups of the command reference (R395, R399), and the timers of sessions,
handshakes, transfers and leases. -/

namespace Sys2Proof.Machine

/-! ### PING and SESSION_OPEN -/

def Profile.code : Profile → Nat
  | .full => 0
  | .assured => 1
  | .standard => 2

/-- The IDENT TLV (R394): the populated and healthy dies are given as masks. -/
def tlvIdent (s : State) : Tlv :=
  ⟨0x0117, be 2 (Part.code s.part) ++ be 1 (if Part.cipher s.part then 1 else 0)
    ++ be 1 (diesMask s.popDies).toNat ++ be 1 s.healthMask.toNat ++ be 1 s.leader.val ++ be 1 (Profile.code s.profile)
    ++ be 1 s.nv.fuses.lifecycle ++ be 4 s.nv.active.version ++ be 2 (s.rd 0 FAB_NODE) ++ be 2 0⟩

def tlvEcho (b : Bytes) : Tlv := ⟨0x0116, b⟩

def infoPing : CmdInfo := { code := 0x0001, priv := none, read := true }

def applyPing (echo : Option Bytes) (_ : Req) (s : State) : Res :=
  .okWith s (echo.toList.map tlvEcho ++ [tlvIdent s])

/-- PING (R350, R395): on any channel, 0x00 included. -/
def execPing (r : Req) (echo : Option Bytes) (s : State) : Host.Outcome State Fault Refusal :=
  .next (if r.channel = 0 then Slostan.run0 r 0x0001 (applyPing echo) s
    else Slostan.run r (.ping r echo) infoPing (fun r _ s => applyPing echo r s) s)

/-- A session as it opens (R355, R372). -/
def newSession (s : State) (ch : BitVec 8) (secure : Bool) (r : Req) (p : Privilege) (restricted : Bool)
    (keys : Option SessKeys) : Session :=
  { channel := ch, secure, src := r.src, medium := r.medium, priv := p, restricted, lastAt := s.time.now,
    seqLast := none, cache := [], leaseMs := 2000, leaseUntil := s.time.now + msU 2000, claims := [],
    leaseLost := false, txn := none, txnLost := false, chunk := none, keys, txNum := 0, rxHigh := 0, rxSeen := [],
    mac := r.mac, vlan := r.vlan, closing := false,
    noRouteAt := if r.src = 0xFFFF || s.hasRoute r.src then none else some s.time.now }

/-- A free channel between two numbers (R354): the part assigns one, and the spec does not say which, so a free
value picks it. -/
def State.pickChannel (s : State) (lo hi : Nat) : Option (BitVec 8) × State :=
  let taken := s.sl.sessions.map Session.channel ++ s.sl.handshakes.map Handshake.channel
  let free := ((List.range (hi + 1 - lo)).map fun i => BitVec.ofNat 8 (lo + i)).filter fun c => !taken.contains c
  let (v, s) := s.fresh
  (free[v % free.length]?, s)

/-- Whether the part's 16 sessions are all taken (R355); a secure attempt has its place from its hello on (DEDUCED, assumption
log). -/
def State.full (s : State) : Bool := decide (16 ≤ s.sl.sessions.length + s.sl.handshakes.length)

def tlvChannel (c : BitVec 8) : Tlv := ⟨0x0111, [c]⟩
def tlvPrivilege (p : Privilege) : Tlv := ⟨0x0110, be 1 (Privilege.code p)⟩

def infoSessionOpen : CmdInfo := { code := 0x0002, priv := none, stage := false }

def applySessionOpen (p : Privilege) (r : Req) (s : State) : Res :=
  if s.full then .fail .busy s
  else
    match s.pickChannel 0x01 0x7F with
    | (none, s) => .fail .busy s
    | (some ch, s) =>
      let g := Privilege.lower p s.sl.plainMax
      let x := newSession s ch false r g false none
      .okWith { s with sl := { s.sl with sessions := s.sl.sessions ++ [x] } } [tlvChannel ch, tlvPrivilege g]

/-- SESSION_OPEN (R355, R356): on channel 0x00; on a session's channel it is refused at check 6. -/
def execSessionOpen (r : Req) (p : Privilege) (s : State) : Host.Outcome State Fault Refusal :=
  .next (if r.channel = 0 then Slostan.run0 r 0x0002 (applySessionOpen p) s
    else Slostan.run r (.sessionOpen r p) infoSessionOpen (fun _ _ s => .fail .notPermitted s) s)

/-! ### Secure sessions (R357, R358, R613, R614) -/

/-- Whether a controller certificate is accepted, and the privilege it allows (R358, R614): with no active owner
key, one signed with the key it certifies is accepted and allows any. -/
def State.certGrant (s : State) (cert : Bytes) : Option Privilege :=
  match s.nv.fuses.ownerKey with
  | none => if Config.certVerify cert (Config.certKey cert) then some .custodian else none
  | some k => if Config.certVerify cert k then Config.certPrivilege cert else none

/-- The certificate the part sends: the owner certificate, or one it signs itself while no owner slot is active
(R357, R614). -/
def State.partCert (s : State) : Bytes :=
  match s.nv.fuses.ownerKey, s.nv.ownerCert with
  | some _, some c => c
  | _, _ => Config.selfCert s.nv.identityPub

def applySecureHello (nonce point cert : Bytes) (p : Privilege) (r : Req) (s : State) : Res :=
  if s.nv.fuses.lifecycle = 3 then .fail .notAuthenticated s
  else if s.full || 4 ≤ s.sl.handshakes.length then .fail .busy s
  else match s.certGrant cert with
    | none => .fail .notAuthenticated s
    | some most =>
      match s.pickChannel 0x80 0xFE with
      | (none, s) => .fail .busy s
      | (some ch, s) =>
        let n := s.free
        let s := { s with free := n + 1 }
        let hello := nonce ++ point ++ be 2 cert.length ++ cert ++ be 1 (Privilege.code p)
        let own := s.partCert
        let head := [ch] ++ Config.random n 32 ++ Config.ecdhPublic n ++ be 2 own.length ++ own
        let th := hello ++ head
        let sig := Config.identitySign th
        let prk := Config.hkdfExtract (Config.sha384 th) (Config.ecdhShared n point)
        let label (t : String) : Bytes := t.toList.map fun c => BitVec.ofNat 8 c.toNat
        let h : Handshake :=
          { channel := ch, medium := r.medium, mac := r.mac, vlan := r.vlan, src := r.src, seq := r.seq, start := s.time.now,
            priv := Privilege.lower p most, restricted := s.nv.fuses.ownerKey.isNone, transcript := th ++ sig,
            ctrlKey := Config.certKey cert,
            keys := ⟨Config.hkdfExpand prk (label "slostan c2p") 36, Config.hkdfExpand prk (label "slostan p2c") 36⟩,
            finish := Config.hkdfExpand prk (label "slostan finish") 48 }
        .okWith { s with sl := { s.sl with handshakes := s.sl.handshakes ++ [h] } } [⟨0x0115, head ++ sig⟩]

def infoSecureHello : CmdInfo := { code := 0x0003, priv := none, stage := false }

/-- SECURE_HELLO (R357, R358). -/
def execSecureHello (r : Req) (nonce point cert : Bytes) (p : Privilege) (s : State) :
    Host.Outcome State Fault Refusal :=
  .next (if r.channel = 0 then Slostan.run0 r 0x0003 (applySecureHello nonce point cert p) s
    else Slostan.run r (.secureHello r nonce point cert p) infoSecureHello (fun _ _ s => .fail .notPermitted s) s)

/-- Ends a handshake. -/
def State.dropHandshake (s : State) (ch : BitVec 8) : State :=
  { s with sl := { s.sl with handshakes := s.sl.handshakes.filter fun h => h.channel != ch } }

def infoSecureFinish : CmdInfo := { code := 0x0004, priv := none, stage := false }

/-- The end of a secure handshake (R357, R358): the session opens and its reply goes on the assigned channel; a
failed check ends the attempt with NOT_AUTHENTICATED on channel 0x00. -/
def State.finishSecure (s : State) (r : Req) (ch : BitVec 8) (sig mac : Bytes) : State :=
  match s.sl.handshakes.find? fun h => h.channel == ch && h.medium == r.medium && h.src == r.src with
  | none => s.sendReply r 0x0004 [tlvStatus .notAuthenticated]
  | some h =>
    let s := s.dropHandshake ch
    if !s.past h.start (secU 2) && Config.ecdsaVerify h.ctrlKey h.transcript sig && mac == Config.hmac384 h.finish (h.transcript ++ sig) then
      let x := newSession s ch true r h.priv h.restricted (some h.keys)
      let s := { s with sl := { s.sl with sessions := s.sl.sessions ++ [x] } }
      (s.mirrorNow).sendReply { r with channel := ch } 0x0004 [tlvStatus .ok, tlvPrivilege h.priv]
    else s.sendReply r 0x0004 [tlvStatus .notAuthenticated]

/-- SECURE_FINISH (R357, R358). -/
def execSecureFinish (r : Req) (ch : BitVec 8) (sig mac : Bytes) (s : State) : Host.Outcome State Fault Refusal :=
  if r.channel = 0 then
    let s := s.atHead r
    if !s.turn r then .next s
    else
    let s := s.dequeue r
    if !s.open? then .next s
    else match r.form with
      | .badLength n => .next (s.sendReply r 0x0004 [tlvStatus .badLength, tlvErr n])
      | .badParam n => .next (s.sendReply r 0x0004 [tlvStatus .badParam, tlvErr n])
      | .good =>
        .next (if s.phase = .shuttingDown then s.sendReply r 0x0004 [tlvStatus .busy]
          else (s.cntPkg 1544).finishSecure r ch sig mac)
  else
    .next (Slostan.run r (.secureFinish r ch sig mac) infoSecureFinish (fun _ _ s => .fail .notPermitted s) s)

/-- SECURE_HELLO_TIMEOUT (R358): no SECURE_FINISH within 2 s; the attempt ends and the channel is free. -/
def execSecureHelloTimeout (ch : BitVec 8) (s : State) : Host.Outcome State Fault Refusal :=
  match s.sl.handshakes.find? fun h => h.channel == ch with
  | none => .next s
  | some h =>
    if s.past h.start (secU 2) then
      let r : Req := ⟨h.medium, 0, h.seq, h.src, .good, [], h.mac, h.vlan⟩
      .next ((s.dropHandshake ch).sendReply r 0x0003 [tlvStatus .notAuthenticated])
    else .next s

/-! ### Closing and configuring -/

def infoSessionClose : CmdInfo := { code := 0x0005, priv := some .observer, stage := false }

/-- SESSION_CLOSE (R355): the reply goes before the session ends. -/
def execSessionClose (r : Req) (s : State) : Host.Outcome State Fault Refusal :=
  let s := Slostan.run r (.sessionClose r) infoSessionClose
    (fun r _ s => .ok (s.updSession r.channel fun x => { x with closing := true })) s
  .next ((s.sl.sessions.filter Session.closing).foldl (fun s x => s.endSession x.channel) s)

/-- SESSION_IDLE_TIMEOUT (R355). -/
def execSessionIdleTimeout (ch : BitVec 8) (s : State) : Host.Outcome State Fault Refusal :=
  match s.session? ch with
  | some x => .next (if s.idleDue x then s.endSession ch else s)
  | none => .next s

/-- EtherTypes that SLOSTAN_CFG_SET refuses (R346). -/
def etherBad (e : BitVec 16) : Bool :=
  decide (e.toNat < 0x600) || [0x0800#16, 0x0806#16, 0x86DD#16, 0x8100#16, 0x88A8#16, 0x8808#16].contains e

def infoSlostanCfgSet (e : Option (BitVec 16)) (idle : Option Nat) (pm : Option Privilege) : CmdInfo :=
  { code := 0x0006, priv := some .custodian, cls := 9, sec := true, stage := false,
    bad := firstBad [e.bind fun v => if etherBad v then some 0 else none,
      idle.bind fun v => if 10 ≤ v ∧ v ≤ 3600 then none else some e.toList.length,
      pm.bind fun v => if v = .custodian then some (e.toList.length + idle.toList.length) else none] }

def applySlostanCfgSet (e : Option (BitVec 16)) (idle : Option Nat) (pm : Option Privilege) (_ : Req)
    (_ : Session) (s : State) : Res :=
  if s.nv.fuses.lifecycle = 2 && pm == some .expert then .fail .notPermitted s
  else .ok { s with sl := { s.sl with
    etherNext := if e.isSome then e else s.sl.etherNext, idle := idle.getD s.sl.idle, plainMax := pm.getD s.sl.plainMax } }

/-- SLOSTAN_CFG_SET (R346, R613): the EtherType applies after the reply. -/
def execSlostanCfgSet (r : Req) (e : Option (BitVec 16)) (idle : Option Nat) (pm : Option Privilege) (s : State) :
    Host.Outcome State Fault Refusal :=
  .next (Slostan.run r (.slostanCfgSet r e idle pm) (infoSlostanCfgSet e idle pm) (applySlostanCfgSet e idle pm) s)

/-! ### Claims (R370 to R372) -/

/-- Whether a claim names a class and an instance that exist (R370, R394). -/
def claimOk (c : ClaimId) : Bool :=
  decide (1 ≤ c.cls ∧ c.cls ≤ 10) && (if c.cls = 5 ∨ c.cls = 6 then decide (c.inst < 8) else decide (c.inst = 0))

/-- The order of claims: by class, and within a class by instance (R371). -/
def claimLt (a b : ClaimId) : Bool := a.cls < b.cls || (a.cls == b.cls && a.inst < b.inst)

/-- Whether a list of claims rises strictly. -/
def claimsRise : List ClaimId → Bool
  | a :: b :: l => claimLt a b && claimsRise (b :: l)
  | _ => true

def infoClaim (cs : List ClaimId) (lease : Option Nat) : CmdInfo :=
  { code := 0x0201, priv := some .operator, stage := false,
    dies := cs.flatMap fun c => if c.cls = 5 ∨ c.cls = 6 then oneDie c.inst else [],
    bad := firstBad [if cs.isEmpty || 16 < cs.length then some (min 16 cs.length) else none,
      firstNot claimOk 0 cs,
      lease.bind fun v => if 100 ≤ v ∧ v ≤ 60000 then none else some cs.length] }

def applyClaim (cs : List ClaimId) (lease : Option Nat) (r : Req) (x : Session) (s : State) : Res :=
  if !claimsRise cs || cs.any (fun c => x.claims.any fun h => !claimLt h c) then .fail .orderViolation s
  else if cs.any (s.heldByOther r.channel) then .fail .ownedByOther s
  else
    let ms := lease.getD x.leaseMs
    .ok (s.updSession r.channel fun y =>
      { y with claims := y.claims ++ cs, leaseMs := ms, leaseUntil := s.time.now + msU ms })

/-- CLAIM (R371, R372): all or none. -/
def execClaim (r : Req) (cs : List ClaimId) (lease : Option Nat) (s : State) : Host.Outcome State Fault Refusal :=
  .next (Slostan.run r (.claim r cs lease) (infoClaim cs lease) (applyClaim cs lease) s)

def infoRelease (cs : List ClaimId) : CmdInfo :=
  { code := 0x0202, priv := some .operator, stage := false,
    dies := cs.flatMap fun c => if c.cls = 5 ∨ c.cls = 6 then oneDie c.inst else [],
    bad := firstBad [if 16 < cs.length then some 16 else none, firstNot claimOk 0 cs] }

def applyRelease (cs : List ClaimId) (r : Req) (_ : Session) (s : State) : Res :=
  .ok (s.updSession r.channel fun y =>
    { y with claims := if cs.isEmpty then [] else y.claims.filter fun c => !cs.contains c })

/-- RELEASE (R371): in any order; without CLAIM, every claim of the session. -/
def execRelease (r : Req) (cs : List ClaimId) (s : State) : Host.Outcome State Fault Refusal :=
  .next (Slostan.run r (.release r cs) (infoRelease cs) (applyRelease cs) s)

def infoLeaseRenew : CmdInfo := { code := 0x0203, priv := some .operator, stage := false }

/-- LEASE_RENEW (R372): passing check 6 renews every lease. -/
def execLeaseRenew (r : Req) (s : State) : Host.Outcome State Fault Refusal :=
  .next (Slostan.run r (.leaseRenew r) infoLeaseRenew (fun _ _ s => .ok s) s)

/-- LEASE_EXPIRY (R372). -/
def execLeaseExpiry (ch : BitVec 8) (s : State) : Host.Outcome State Fault Refusal :=
  match s.session? ch with
  | some x =>
    .next (if !x.claims.isEmpty && decide (x.leaseUntil ≤ s.time.now) then s.expireClaims x else s)
  | none => .next s

/-- PORT_DOWN_CLAIM_RELEASE (R372): 200 ms after a session's port went down. -/
def execPortDownClaimRelease (ch : BitVec 8) (s : State) : Host.Outcome State Fault Refusal :=
  match s.session? ch with
  | some x =>
    match s.sessionDown x with
    | some t => .next (if !x.claims.isEmpty && s.past t (msU 200) then s.expireClaims x else s)
    | none => .next s
  | none => .next s

/-! ### Transactions (R373, R376); COMMIT stands in Transactions.lean -/

def infoBegin : CmdInfo := { code := 0x0204, priv := some .operator, stage := false }

def applyBegin (m : TxnMode) (r : Req) (x : Session) (s : State) : Res :=
  if x.claims.isEmpty || x.txn.isSome then .fail .notPermitted s
  else .ok (s.updSession r.channel fun y => { y with txn := some ⟨m, [], none⟩, txnLost := false })

/-- BEGIN (R373). -/
def execBegin (r : Req) (m : TxnMode) (s : State) : Host.Outcome State Fault Refusal :=
  .next (Slostan.run r (.begin r m) infoBegin (applyBegin m) s)

def infoAbort : CmdInfo := { code := 0x0206, priv := some .operator, stage := false }

def applyAbort (_ : Req) (x : Session) (s : State) : Res :=
  if x.txn.isSome then .ok (s.rollback x) else .fail .notPermitted s

/-- ABORT (R376). -/
def execAbort (r : Req) (s : State) : Host.Outcome State Fault Refusal :=
  .next (Slostan.run r (.abort r) infoAbort applyAbort s)

/-! ### Chunked transfers (R365, R366) -/

/-- Sets or discards a session's transfer. -/
def State.setChunk (s : State) (ch : BitVec 8) (c : Option ChunkXfer) : State :=
  s.updSession ch fun x => { x with chunk := c }

/-- One chunk (R365, R374): a transaction admits none; stored, refused, or, the last one, the whole command run through checks 3 to 10. -/
def chunkStep (r : Req) (opcode offset total : Nat) (data : Bytes) (crc : Option (BitVec 32)) (x : Session)
    (s : State) : State :=
  let answer (s : State) (st : Status) : State := s.replyCached r opcode [tlvStatus st]
  let refuse (s : State) : State := (s.setChunk r.channel none).replyCached r opcode [tlvStatus .badParam, tlvErr 0]
  let have_ := match x.chunk with
    | some c => if c.opcode = opcode ∧ c.total = total ∧ !s.past c.lastAt (secU 5) then c.data else []
    | none => []
  if !definedOps.contains opcode || (s.phase == .recovery && !recoveryOps.contains opcode) then s.refuseOpcode r opcode x
  else if opcode ≠ 0x0A08 then (s.doomEarly r opcode x .badParam).replyCached r opcode [tlvStatus .badParam, tlvErr 0]
  else if x.txn.isSome then answer (s.doom x r.seq .notPermitted) .notPermitted
  else if let .badParam n := r.form then s.replyCached r opcode [tlvStatus .badParam, tlvErr n]
  else if s.phase = .shuttingDown || s.testBusy infoFwLoad then answer s .busy
  else if 4 * 1024 * 1024 < total then answer (s.setChunk r.channel none) .badLength
  else if offset ≠ have_.length ∨ total < offset + data.length then refuse s
  else if offset + data.length < total then
    answer (s.setChunk r.channel (some ⟨opcode, total, have_ ++ data, s.time.now⟩)) .ok
  else
    let s := s.setChunk r.channel none
    let whole := have_ ++ data
    if crc ≠ some (crc32 whole) then answer s .integrityFail
    else Slostan.execute r (.fwLoad r whole) infoFwLoad (applyFwLoad whole) x s

/-- CHUNK (R365): FW_LOAD is the one chunkable opcode (R391). -/
def execChunk (r : Req) (opcode offset total : Nat) (data : Bytes) (crc : Option (BitVec 32)) (s : State) :
    Host.Outcome State Fault Refusal :=
  .next (Slostan.receive r opcode (chunkStep r opcode offset total data crc) s)

/-- CHUNK_TRANSFER_TIMEOUT (R366): no chunk for 5 s; the transfer is discarded. -/
def execChunkTransferTimeout (ch : BitVec 8) (s : State) : Host.Outcome State Fault Refusal :=
  match s.session? ch with
  | some x => match x.chunk with
    | some c => .next (if s.past c.lastAt (secU 5) then s.setChunk ch none else s)
    | none => .next s
  | none => .next s

end Sys2Proof.Machine
end

