-- ==== Sys2Proof/Machine/Analogue.lean ====
section
/-! DEFINITION. The housekeeping DAC bank: channels, range changes, clears, the queue, waveforms (R521 to R533,
R405, R406). The monitor converters stand in Converters.lean. -/

namespace Sys2Proof.Machine

/-! ### Channels -/

def State.dac (s : State) (d : Die) (c : Fin 6) : DacCh := (s.die d).ana.chs.get c

def State.updDac (s : State) (d : Die) (c : Fin 6) (g : DacCh → DacCh) : State :=
  s.updDie d fun x => { x with ana := { x.ana with chs := x.ana.chs.set c.val (g (x.ana.chs.get c)) c.isLt } }

def allChs : List (Fin 6) := [0, 1, 2, 3, 4, 5]

/-- The channel of a TLV's number. -/
def chOf (n : Nat) : Fin 6 := Fin.ofNat 6 n

/-- Whether a source of a clear acts on a channel (R524). -/
def State.dacHeld (s : State) (d : Die) (c : Fin 6) : Bool :=
  s.flag d DACB_CTRL_CLR_N_LOW || s.flag d DACB_CTRL_SW_CLR || (c == 0 && ((s.die d).ana.safetyClr || (s.die d).safe.armHold))

/-- Whether a range change runs on a channel (R523). -/
def State.dacParking (s : State) (d : Die) (c : Fin 6) : Bool := (s.dac d c).park.isSome

/-- Whether a channel refuses writes, waveforms and settings with BUSY (R523, R524). -/
def State.dacBusy (s : State) (d : Die) (c : Fin 6) : Bool := s.dacHeld d c || s.dacParking d c

/-- Whether a code lies above the lane's ceiling on CH0 (R406, R522, R530). -/
def State.aboveCeiling (s : State) (d : Die) (c : Fin 6) (code : Nat) : Bool := c == 0 && s.ceiling d < code

/-- Whether every named die's ANA domain takes commands (R660). -/
def State.anaOn (s : State) (ds : List Die) : Bool := ds.all fun d => s.domainOn d .ana

/-- The final reply of a DAC_CH_SET that waits for a channel of die `d`. -/
def State.endDacPend (s : State) (d : Die) (c : Fin 6) (st : Status) : State :=
  match s.sl.pend.find? fun p => match p.kind with
    | .dacCh ds ch => ds.contains d && ch == c.val
    | _ => false with
  | none => s
  | some p => match p.kind with
    | .dacCh ds _ =>
      if st = .ok && ds.any (fun e => s.dacParking e c) then s else s.finishPend p.kind st []
    | _ => s

/-- The full scale of a range code in units of 100 mV (R521). -/
def dacFull (range : Nat) : Nat := [12, 24, 30].getD range 0

/-- The level at a channel's ball, range × code, in units of 100 mV / 4,096 (R521). -/
def State.dacLevel (s : State) (d : Die) (c : Fin 6) : Nat :=
  dacFull (s.rd d (DACB_CFG_RANGE c.val)) * s.rd d (DACB_OUT_NOW c.val)

/-- A channel's ball after its code or range may have changed: a new level is put out. -/
def State.outFollow (s old : State) (d : Die) (c : Fin 6) : State :=
  if s.dacLevel d c = old.dacLevel d c then s else s.emit (.aout d c (s.dacLevel d c))

/-- A channel puts out a code. -/
def State.setOut (s : State) (d : Die) (c : Fin 6) (v : Nat) : State := (s.wr d (DACB_OUT_NOW c.val) v).outFollow s d c

/-- A channel takes a range. -/
def State.setRange (s : State) (d : Die) (c : Fin 6) (v : Nat) : State := (s.wr d (DACB_CFG_RANGE c.val) v).outFollow s d c

/-- A clear acts on a channel (R524): the output goes to the clear code, the waveform stops, the queue is flushed,
and a range change is abandoned with the old range kept (R523). -/
def State.dacClear (s : State) (d : Die) (c : Fin 6) : State :=
  let parked := (s.dac d c).park
  let s := s.updDac d c fun x => { x with queue := [], direct := none, running := false, lastPhase := none, park := none }
  let s := (s.setOut d c (s.rd d (DACB_CFG_CLEAR c.val))).wr d (DACB_STAT_CLEARED c.val) 1
  match parked with
  | none => s
  | some p => ((s.setRange d c p.oldRange).wr d (DACB_STAT_PARKING c.val) 0).endDacPend d c .busy

/-- Every channel of a die is cleared. -/
def State.dacClearAll (s : State) (d : Die) : State := s.each allChs fun s c => s.dacClear d c

/-! ### Settings (R522, R523) -/

def infoDacChSet (dies : BitVec 8) (ch : Nat) (cfg : DacCfg) : CmdInfo :=
  { code := 0x0601, priv := some .operator, cls := 6, insts := (maskDies dies).map Fin.val, dies := maskDies dies,
    bad := firstBad [maskBad dies 0, numBad ch 6 1,
      if cfg.range < 3 ∧ cfg.park < 4096 ∧ cfg.clear < 4096 then none else some 2] }

/-- The settings of one channel (R522, R523, R525): the codes at once, a new range through the park code. -/
def State.dacSetCfg (s : State) (d : Die) (c : Fin 6) (cfg : DacCfg) : State :=
  let s := (s.wr d (DACB_CFG_PARK c.val) cfg.park).wr d (DACB_CFG_CLEAR c.val) cfg.clear
  let s := if s.dacHeld d c then s.setOut d c cfg.clear else s
  let old := s.rd d (DACB_CFG_RANGE c.val)
  if old = cfg.range then s
  else
    let s := s.updDac d c fun x =>
      { x with queue := [], direct := none, running := false, lastPhase := none,
               park := some ⟨old, cfg.range, false, s.time.now⟩ }
    (s.setOut d c cfg.park).wr d (DACB_STAT_PARKING c.val) 1

/-- Whether DAC_CH_SET is refused on a die (R522 to R524). -/
def State.dacCfgRefused (s : State) (c : Fin 6) (cfg : DacCfg) (d : Die) : Option Status :=
  if s.aboveCeiling d c cfg.park || s.aboveCeiling d c cfg.clear then some .badParam
  else if s.dacBusy d c then some .busy else none

/-- A refusal with the position of the offending TLV when it is BAD_PARAM (R353). -/
def Res.refuse (st : Status) (err : Nat) (s : State) : Res :=
  if st = .badParam then .badParam err s else .fail st s

def applyDacChSet (dies : BitVec 8) (ch : Nat) (cfg : DacCfg) (_ : Req) (_ : Session) (s : State) : Res :=
  let ds := maskDies dies
  let c := chOf ch
  if !s.anaOn ds then .fail .domainOff s
  else match ds.findSome? (s.dacCfgRefused c cfg) with
    | some st => .refuse st 2 s
    | none =>
      let moved := ds.any fun d => s.rd d (DACB_CFG_RANGE c.val) != cfg.range
      let t := s.each ds fun s d => s.dacSetCfg d c cfg
      if moved then .pending (.dacCh ds ch) t else .ok t

/-- DAC_CH_SET (R522, R523). -/
def execDacChSet (r : Req) (dies : BitVec 8) (ch : Nat) (cfg : DacCfg) (s : State) :
    Host.Outcome State Fault Refusal :=
  .next (Slostan.run r (.dacChSet r dies ch cfg) (infoDacChSet dies ch cfg) (applyDacChSet dies ch cfg) s)

/-- DAC_RANGE_SWITCH (R523 step 2). -/
def execDacRangeSwitch (d : Die) (c : Fin 6) (s : State) : Host.Outcome State Fault Refusal :=
  match (s.dac d c).park with
  | some p =>
    if !p.switched && s.past p.since (usU 10) then
      let s := s.updDac d c fun x => { x with park := some { p with switched := true, since := s.time.now } }
      .next (s.setRange d c p.newRange)
    else .next s
  | none => .next s

/-- DAC_PARK_END (R523 step 3). -/
def execDacParkEnd (d : Die) (c : Fin 6) (s : State) : Host.Outcome State Fault Refusal :=
  match (s.dac d c).park with
  | some p =>
    if p.switched && s.past p.since (usU 10) then
      let s := s.updDac d c fun x => { x with park := none }
      .next ((s.wr d (DACB_STAT_PARKING c.val) 0).endDacPend d c .ok)
    else .next s
  | none => .next s

/-! ### Writes and the queue (R406, R527) -/

def infoDacWrite (dies : BitVec 8) (ch : Nat) (codes : List Nat) : CmdInfo :=
  { code := 0x0602, priv := some .operator, cls := 6, insts := (maskDies dies).map Fin.val, dies := maskDies dies,
    bad := firstBad [maskBad dies 0, numBad ch 6 1,
      if codes.isEmpty || 32 < codes.length || codes.any (fun v => 4096 ≤ v) then some 2 else none] }

/-- Whether codes are refused on a die's channel (R406, R523). -/
def State.dacCodesRefused (s : State) (c : Fin 6) (codes : List Nat) (d : Die) : Option Status :=
  if codes.any (s.aboveCeiling d c) then some .badParam
  else if s.dacBusy d c then some .busy
  else if 1 < codes.length && 32 < (s.dac d c).queue.length + codes.length then some .busy
  else none

/-- An accepted write stops the channel's waveform and ends CLEARED (R406, R525). -/
def State.dacAccepted (s : State) (d : Die) (c : Fin 6) : State :=
  let s := s.updDac d c fun x => { x with running := false, lastPhase := none }
  (s.wr d (DACB_WAVE_SHAPE c.val) 0).wr d (DACB_STAT_CLEARED c.val) 0

/-- One code sets the output at the next update; more join the queue (R406, R527). -/
def State.dacPut (s : State) (d : Die) (c : Fin 6) (codes : List Nat) : State :=
  let s := s.dacAccepted d c
  match codes with
  | [v] => (s.updDac d c fun x => { x with queue := [], direct := some v }).wr d (DACB_OUT_CODE c.val) v
  | _ => s.updDac d c fun x => { x with queue := x.queue ++ codes }

def applyDacWrite (dies : BitVec 8) (ch : Nat) (codes : List Nat) (_ : Req) (_ : Session) (s : State) : Res :=
  let ds := maskDies dies
  let c := chOf ch
  if !s.anaOn ds then .fail .domainOff s
  else match ds.findSome? (s.dacCodesRefused c codes) with
    | some st => .refuse st 2 s
    | none => .ok (s.each ds fun s d => s.dacPut d c codes)

/-- DAC_WRITE (R406, R527). -/
def execDacWrite (r : Req) (dies : BitVec 8) (ch : Nat) (codes : List Nat) (s : State) :
    Host.Outcome State Fault Refusal :=
  .next (Slostan.run r (.dacWrite r dies ch codes) (infoDacWrite dies ch codes) (applyDacWrite dies ch codes) s)

/-- A register write of one code: it acts as the command would (R548). -/
def regDacCode (d : Die) (c : Fin 6) (code : Nat) (s : State) : Res :=
  let v := code % 4096
  if s.blockOff d blkDACB true then .fail .domainOff s
  else match s.dacCodesRefused c [v] d with
    | some st => .refuse st 1 s
    | none => .ok (s.dacPut d c [v])

/-- DAC_CODE_WRITE (R527, R548). -/
def execDacCodeWrite (r : Req) (d : Die) (c : Fin 6) (code : Nat) (s : State) :
    Host.Outcome State Fault Refusal :=
  .next (Slostan.run r (.dacCodeWrite r d c code) (regInfo d 0x10 (17 + 8 * c.val) true)
    (fun _ _ s => regDacCode d c code s) s)

/-- A register push (R527): dropped when the queue is full. -/
def regDacPush (d : Die) (c : Fin 6) (code : Nat) (s : State) : Res :=
  let v := code % 4096
  if s.blockOff d blkDACB true then .fail .domainOff s
  else if s.aboveCeiling d c v then .badParam 1 s
  else if s.dacBusy d c then .fail .busy s
  else if 32 ≤ (s.dac d c).queue.length then .ok s
  else .ok ((s.dacAccepted d c).updDac d c fun x => { x with queue := x.queue ++ [v] })

/-- DAC_QUEUE_PUSH (R527, R548). -/
def execDacQueuePush (r : Req) (d : Die) (c : Fin 6) (code : Nat) (s : State) :
    Host.Outcome State Fault Refusal :=
  .next (Slostan.run r (.dacQueuePush r d c code) (regInfo d 0x10 (18 + 8 * c.val) true)
    (fun _ _ s => regDacPush d c code s) s)

/-! ### Waveforms (R529 to R533) -/

/-- The refusals of a waveform (R529, R530). -/
def waveBad (c : Fin 6) (w : Wave) : Bool :=
  let h := w.span / 2
  decide (4 < w.shape ∨ 4095 < w.span ∨ 4095 < w.offset ∨ 2 ^ 32 ≤ w.rate ∨ 2 ^ 32 ≤ w.relPhase ∨ 65536 ≤ w.point)
  || (w.shape != 0 && decide (w.offset < h ∨ 4095 < w.offset - h + w.span))
  || (w.shape == 4 && !(c == 1 || c == 2))

/-- The highest code of a waveform. -/
def waveTop (w : Wave) : Nat := w.offset - w.span / 2 + w.span

def infoDacWaveSet (dies : BitVec 8) (ch : Nat) (w : Wave) : CmdInfo :=
  { code := 0x0603, priv := some .operator, cls := 6, insts := (maskDies dies).map Fin.val, dies := maskDies dies,
    bad := firstBad [maskBad dies 0, numBad ch 6 1, if waveBad (chOf ch) w then some 2 else none] }

/-- Whether the channel runs SINE. -/
def State.sineRuns (s : State) (d : Die) (c : Fin 6) : Bool :=
  (s.dac d c).running && s.rd d (DACB_WAVE_SHAPE c.val) == 4

/-- The other channel of the sine pair. -/
def sineMate (c : Fin 6) : Fin 6 := if c = 1 then 2 else 1

/-- Whether a waveform is refused on a die (R523, R524, R530). -/
def State.waveRefused (s : State) (c : Fin 6) (w : Wave) (d : Die) : Option Status :=
  if w.shape != 0 && s.aboveCeiling d c (waveTop w) then some .badParam
  else if s.dacBusy d c then some .busy else none

/-- A waveform is set on a channel (R530 to R532): one that runs already with the same shape and RATE goes on,
another starts at the next update, SINE on the accumulator the other channel runs, if it does. A new REL_PHASE of one that goes
on moves the phase of its last update too, so that the change itself passes no event point (R533; DESIGN CHOICE, assumption
log). -/
def State.dacWave (s : State) (d : Die) (c : Fin 6) (w : Wave) : State :=
  let same := (s.dac d c).running && s.rd d (DACB_WAVE_SHAPE c.val) == w.shape && s.rd d (DACB_RATE c.val) == w.rate
  let mate := s.sineRuns d (sineMate c)
  let moved := w.relPhase + (2 ^ 32 - s.rd d (DACB_PHASE_REL_PHASE c.val))
  let s := s.wr d (DACB_WAVE_SHAPE c.val) w.shape
  let s := (s.wr d (DACB_WAVE_SPAN c.val) w.span).wr d (DACB_WAVE_OFFSET c.val) w.offset
  let s := (s.wr d (DACB_RATE c.val) w.rate).wr d (DACB_EVT_POINT c.val) w.point
  let s := s.wr d (DACB_PHASE_REL_PHASE c.val) (if c = 1 ∨ c = 2 then w.relPhase else 0)
  let s := s.wr d (DACB_STAT_CLEARED c.val) 0
  if w.shape = 0 then s.updDac d c fun x => { x with running := false, lastPhase := none }
  else
    let s := if w.shape = 4 ∧ mate then s.wr d (DACB_RATE (sineMate c).val) w.rate else s
    if same then s.updDac d c fun x => { x with lastPhase := x.lastPhase.map fun o => (o + moved) % 2 ^ 32 }
    else
      let s := s.updDac d c fun x =>
        { x with queue := [], direct := none, running := true, acc := 0, lfsr := 0x7FFFFF#23, lastPhase := none }
      if w.shape = 4 && !mate then s.updDie d fun x => { x with ana := { x.ana with sineAcc := 0 } } else s

def applyDacWaveSet (dies : BitVec 8) (ch : Nat) (w : Wave) (_ : Req) (_ : Session) (s : State) : Res :=
  let ds := maskDies dies
  let c := chOf ch
  if !s.anaOn ds then .fail .domainOff s
  else match ds.findSome? (s.waveRefused c w) with
    | some st => .refuse st 2 s
    | none => .ok (s.each ds fun s d => s.dacWave d c w)

/-- DAC_WAVE_SET (R529 to R532). -/
def execDacWaveSet (r : Req) (dies : BitVec 8) (ch : Nat) (w : Wave) (s : State) :
    Host.Outcome State Fault Refusal :=
  .next (Slostan.run r (.dacWaveSet r dies ch w) (infoDacWaveSet dies ch w) (applyDacWaveSet dies ch w) s)

/-- One step of the noise register x^23 + x^18 + 1, in the form of R75 (R529). -/
def noiseStep (x : BitVec 23) : BitVec 23 :=
  (x <<< 1) ||| (if x.getLsbD 22 ^^ x.getLsbD 17 then 1#23 else 0#23)

/-- Terms of the sine series in units of 2^-64, from term `t` of index `k`, with the square `q` of the angle. -/
def sineTerms : Nat → Nat → Int → Int → Int
  | 0, _, _, _ => 0
  | n + 1, k, q, t => t + sineTerms n (k + 1) q (-(t * q / 2 ^ 64 / ((2 * k + 2) * (2 * k + 3) : Nat)))

/-- The sine of a quarter turn's fraction `x` / 2^30, in units of 2^-64. -/
def sineQuarter (x : Nat) : Int :=
  let a : Int := (x : Int) * 28976077832308491370 / 2 ^ 30
  sineTerms 14 0 (a * a / 2 ^ 64) a

/-- round(h × sin(2π p / 2^32)), by quadrants of the phase. -/
def sineCode (h p : Nat) : Int :=
  let x := p % 2 ^ 30
  let mag (x : Nat) : Int := ((h : Int) * sineQuarter x + 2 ^ 63) / 2 ^ 64
  match p / 2 ^ 30 % 4 with
  | 0 => mag x
  | 1 => mag (2 ^ 30 - x)
  | 2 => - mag x
  | _ => - mag (2 ^ 30 - x)

/-- The phase p' of a channel (R529). -/
def State.wavePhase (s : State) (d : Die) (c : Fin 6) : Nat :=
  ((s.die d).ana.sineAcc + s.rd d (DACB_PHASE_REL_PHASE c.val)) % 2 ^ 32

/-- The output of a running waveform at an update (R529). SINE may differ by one code from the rounded value: a
free value picks by how much. -/
def State.waveCode (s : State) (d : Die) (c : Fin 6) : Nat × State :=
  let x := s.dac d c
  let span := s.rd d (DACB_WAVE_SPAN c.val)
  let base := s.rd d (DACB_WAVE_OFFSET c.val) - span / 2
  match s.rd d (DACB_WAVE_SHAPE c.val) with
  | 1 => (base + (2 * span * min x.acc (2 ^ 32 - x.acc) + 2 ^ 31) / 2 ^ 32, s)
  | 2 => (base + span * x.acc / 2 ^ 32, s)
  | 3 => (base + x.lfsr.toNat / 2 ^ 11 * (span + 1) / 4096, s)
  | 4 =>
    let (v, s) := s.fresh
    let e : Int := (v % 3 : Nat) - 1
    let code := (s.rd d (DACB_WAVE_OFFSET c.val) : Int) + sineCode (span / 2) (s.wavePhase d c) + e
    (min 4095 (max 0 code).toNat, s)
  | _ => (s.rd d (DACB_OUT_NOW c.val), s)

/-- Whether the phase event of a sine channel is due at an update (R533): the upper bits of p' reach or pass POINT. -/
def phaseHit (last : Option Nat) (p point : Nat) : Bool :=
  point != 0xFFFF && match last with
    | none => p / 65536 == point
    | some o =>
      if o ≤ p then decide (o / 65536 < point ∧ point ≤ p / 65536)
      else decide (o / 65536 < point ∨ point ≤ p / 65536)

/-- One update of a channel: a direct code, else the waveform, else the queue (R527, R529). -/
def State.dacStep (s : State) (d : Die) (c : Fin 6) : State :=
  let x := s.dac d c
  if s.dacBusy d c then s
  else match x.direct with
    | some v => (s.updDac d c fun x => { x with direct := none }).setOut d c v
    | none =>
      if x.running then
        let (v, s) := s.waveCode d c
        let s := s.setOut d c v
        s.updDac d c fun x =>
          { x with acc := (x.acc + s.rd d (DACB_RATE c.val)) % 2 ^ 32, lfsr := noiseStep x.lfsr }
      else match x.queue with
        | v :: q => (s.updDac d c fun x => { x with queue := q }).setOut d c v
        | [] => s

/-! ### Clears (R524, R525) and short circuits (R526) -/

/-- The assertion of a clear of a whole die: CLEAR_SEEN, DAC_CLEARED, every channel cleared (R524, R547). -/
def State.dacClearDie (s : State) (d : Die) : State :=
  ((s.wr d DACB_CTRL_CLEAR_SEEN 1).dacClearAll d).raiseLane d evDAC_CLEARED

/-- A write of DACB.CTRL.SW_CLR (R524, R525). -/
def regSwClr (d : Die) (on : Bool) (s : State) : Res :=
  if s.blockOff d blkDACB true then .fail .domainOff s
  else
    let was := s.flag d DACB_CTRL_SW_CLR
    let s := s.wrB d DACB_CTRL_SW_CLR on
    .ok (if on && !was then s.dacClearDie d else s)

/-- SW_CLR (R524). -/
def execSwClr (r : Req) (d : Die) (on : Bool) (s : State) : Host.Outcome State Fault Refusal :=
  .next (Slostan.run r (.swClr r d on) (regInfo d 0x10 0 true) (fun _ _ s => regSwClr d on s) s)

/-- CLR_N_ASSERT (R524): a die whose ANA domain is unpowered has no channel to clear. -/
def execClrNAssert (s : State) : Host.Outcome State Fault Refusal :=
  .next (s.each s.popDies fun s d =>
    if s.flag d DACB_CTRL_CLR_N_LOW then s
    else
      let s := s.wr d DACB_CTRL_CLR_N_LOW 1
      if s.level d .ana = .dead then s else s.dacClearDie d)

/-- CLR_N_RELEASE (R525): the outputs stay at their clear codes. -/
def execClrNRelease (s : State) : Host.Outcome State Fault Refusal :=
  .next (s.each s.popDies fun s d => s.wr d DACB_CTRL_CLR_N_LOW 0)

/-- DAC_SHORT (R526): the output's current limit has acted for 10 µs, or, `acts` false, no longer acts. -/
def execDacShort (d : Die) (c : Fin 6) (acts : Bool) (s : State) : Host.Outcome State Fault Refusal :=
  if !s.pop d || s.level d .ana = .dead then .next s
  else if !acts then .next (s.wr d (DACB_STAT_SC_NOW c.val) 0)
  else if s.flag d (DACB_STAT_SC_NOW c.val) then .next s
  else
    let s := (s.wr d (DACB_STAT_SC_NOW c.val) 1).wr d (DACB_STAT_SC c.val) 1
    .next ((s.cnt d 176).raiseLane d evDAC_SHORT)

/-! ### Status and power (R405, R528) -/

/-- The DAC_STATUS TLV (R394). -/
def tlvDacStatus (s : State) (d : Die) (c : Fin 6) : Tlv :=
  let b (p : Bool) (n : Nat) : Nat := if p then n else 0
  ⟨0x0184, be 1 d.val ++ be 1 c.val
    ++ be 1 (b (s.flag d (DACB_STAT_SC c.val)) 1 + b (s.dacHeld d c) 2 + b (s.dacParking d c) 4)
    ++ be 1 (s.dac d c).queue.length ++ be 2 (s.rd d (DACB_OUT_NOW c.val)) ++ be 2 0⟩

def infoDacStatusGet (dies : BitVec 8) : CmdInfo :=
  { code := 0x0604, priv := some .observer, read := true, dies := maskDies dies, bad := maskBad dies 0 }

/-- DAC_STATUS_GET (R405). -/
def execDacStatusGet (r : Req) (dies : BitVec 8) (s : State) : Host.Outcome State Fault Refusal :=
  .next (Slostan.run r (.dacStatusGet r dies) (infoDacStatusGet dies) (fun _ _ s =>
    if (maskDies dies).any fun d => s.level d .ana == .dead then .fail .domainOff s
    else .okWith s ((maskDies dies).flatMap fun d => allChs.map (tlvDacStatus s d))) s)

/-- The channels of a die that enters NAP (R528): waveforms and queues stop; CH1 to CH5 hold a static code, CH0
its clear code. -/
def State.dacNap (s : State) (d : Die) : State :=
  s.each allChs fun s c =>
    if c = 0 then s.dacClear d 0
    else
      let ran := (s.dac d c).running
      let s := s.updDac d c fun x => { x with queue := [], direct := none, running := false, lastPhase := none }
      if ran then s.setOut d c (s.rd d (DACB_WAVE_OFFSET c.val)) else s

end Sys2Proof.Machine
end

