-- ==== Sys2Proof/Machine/Blocks.lean ====
section
/-! DEFINITION. The 64b/66b blocks of a client port and their 256b/257b transcoding (R35, R44, R46, R47, R57 to R59). The spec
takes both from IEEE 802.3; their bits are written here from that standard (assumption log). -/

namespace Sys2Proof.Machine.Blocks

/-- A control block of a block type and the 56 bits after it. -/
def control (type rest : Nat) : Block66 := BitVec.ofNat 66 (1 + 4 * type + 1024 * rest)

/-- The block type of a control block. -/
def typeOf (b : Block66) : Nat := b.toNat / 4 % 256

/-- Whether a block's sync header says data, or control. -/
def isData (b : Block66) : Bool := b.toNat % 4 == 2
def isControl (b : Block66) : Bool := b.toNat % 4 == 1

/-- Eight equal control characters of seven bits. -/
def eightChars (c : Nat) : Nat := (List.range 8).foldl (fun a _ => a * 128 + c) 0

/-- The idle control block (R58): block type 0x1E with eight idle characters. -/
def idle : Block66 := control 0x1E (eightChars 0)

/-- The error control block (R44, R46, R61). -/
def error : Block66 := control 0x1E (eightChars 0x1E)

/-- The Local Fault ordered set (R47, R48). -/
def localFault : Block66 := control 0x4B (2 ^ 16)

/-- What a block is for R58 and R59. -/
def kind (b : Block66) : BlockKind :=
  if b = idle then .idle
  else if !isControl b then .other
  else if b = error then .error
  else if typeOf b = 0x4B then .orderedSet
  else if [0x87, 0x99, 0xAA, 0xB4, 0xCC, 0xD2, 0xE1, 0xFF].contains (typeOf b) then .term
  else .other

/-- The second nibble of a block type from its first, which alone is sent of the first control block of a unit. -/
def highNibble (low : Nat) : Option Nat :=
  ([(0xE, 0x1), (0x8, 0x7), (0xB, 0x4), (0x7, 0x8), (0x9, 0x9), (0xA, 0xA), (0x4, 0xB), (0xC, 0xC), (0x2, 0xD), (0x1, 0xE),
    (0xF, 0xF)].find? fun e => e.1 == low).map Prod.snd

/-- A number made of fields of `w` bits, the first one lowest. -/
def joined (w : Nat) (vs : List Nat) : Nat := vs.foldr (fun v a => v % 2 ^ w + 2 ^ w * a) 0

/-- Four blocks as one unit (R57). -/
def pack (bs : List Block66) : PortUnit :=
  let pay := joined 64 (bs.map fun b => b.toNat / 4)
  match bs.findIdx? fun b => !isData b with
  | none => BitVec.ofNat 257 (1 + 2 * pay)
  | some c =>
    let flags := joined 1 (bs.map fun b => if isData b then 1 else 0)
    let cut := 2 ^ (64 * c + 4)
    BitVec.ofNat 257 (2 * flags + 32 * (pay % cut + cut * (pay / (16 * cut))))

/-- The four blocks of a unit (R57); a unit that no four blocks give yields four error blocks. -/
def unpack (u : PortUnit) : List Block66 :=
  let v := u.toNat
  let block (pay j : Nat) (data : Bool) : Block66 :=
    BitVec.ofNat 66 ((if data then 2 else 1) + 4 * (pay / 2 ^ (64 * j) % 2 ^ 64))
  if v % 2 = 1 then (List.range 4).map fun j => block (v / 2) j true
  else
    let flags := v / 2
    let body := v / 32
    match (List.range 4).find? fun j => !flags.testBit j with
    | none => List.replicate 4 error
    | some c =>
      match highNibble (body / 2 ^ (64 * c) % 16) with
      | none => List.replicate 4 error
      | some h =>
        let cut := 2 ^ (64 * c + 4)
        let pay := body % cut + cut * (h + 16 * (body / cut))
        (List.range 4).map fun j => block pay j (flags.testBit j)

/-- Units of four error, Local Fault and idle blocks (R44, R46, R47, R126). -/
def errorUnit : PortUnit := pack (List.replicate 4 error)
def faultUnit : PortUnit := pack (List.replicate 4 localFault)
def idleUnit : PortUnit := pack (List.replicate 4 idle)

/-- The 257 bits of a unit in the order of the payload (R53, R81), and the unit of such bits. -/
def unitBits (u : PortUnit) : List Bool := (List.range 257).map u.getLsbD
def unitOf (bs : List Bool) : PortUnit := BitVec.ofNat 257 (joined 1 (bs.map fun b => if b then 1 else 0))

/-- The 257-bit blocks of an alignment-marker group of a width, and the host codewords from one group to the next, as IEEE
802.3 has them (PRESUMED, assumption log). -/
def markerUnits : Width → Nat
  | .w200 => 4
  | .w400 => 8
  | .w800 => 16
  | .w1600 => 32
def markerSpacing (w : Width) : Nat := 1024 * markerUnits w

end Sys2Proof.Machine.Blocks
end

