-- ==== Sys2Proof/Machine/LineFormat.lean ====
section
/-! DEFINITION. The line format (chapter 3) and the shaping of symbols (R109 to R115), as functions on bits and
levels: marker, pilots, code, interleaving, scrambling, precoding, the overhead codeword, a frame's symbols, the
drive codes. -/

namespace Sys2Proof.Machine.LineFormat

/-! ### Symbols and frame (R72 to R74, R82) -/

/-- The precoder value u of a bit pair, left bit first (R72). -/
def symbolU : Bool → Bool → Nat
  | false, false => 0
  | false, true => 1
  | true, true => 2
  | true, false => 3

/-- The level of a value u (R72). -/
def level (u : Nat) : Int := 2 * (u : Int) - 3

/-- Symbols of a frame (R73). -/
def frameSymbols : Nat := 320 * 4128

/-- The first symbol of the pilot block and of the data block of a block group (R73). -/
def pilotStart (j : Nat) : Nat := 4128 * j
def dataStart (j : Nat) : Nat := 4128 * j + 32

/-- The codeword and codeword symbol at offset `t` of the data block of block group `g` (R82). -/
def codewordOf (g t : Nat) : Nat × Nat :=
  let m := 4096 * (g % 20) + t
  (16 * (g / 20) + m % 16, m / 16)

/-- The frame symbol that carries symbol `n` of codeword `c`: the inverse of `codewordOf` (R82). -/
def symbolPos (c n : Nat) : Nat :=
  let m := 16 * n + c % 16
  dataStart (20 * (c / 16) + m / 4096) + m % 4096

/-- The frame marker (R74). -/
def marker : BitVec 64 := 0x9E3B5A0CD72F41E6#64

/-- The level of marker symbol `i` (R74). -/
def markerLevel (i : Nat) : Int := level (symbolU (marker.getMsbD (2 * i)) (marker.getMsbD (2 * i + 1)))

/-! ### Sequences (R75 to R77, R83, R84, R121) -/

/-- Pilot seeds (R77). -/
def pilotSeed (l : Die) : BitVec 13 :=
  BitVec.ofNat 13 ([0x0ACE, 0x1B53, 0x05F9, 0x1362, 0x0D17, 0x18A4, 0x0270, 0x1F0B].getD l.val 0)

/-- Scrambler lane words (R77). -/
def laneWord (l : Die) : BitVec 31 :=
  BitVec.ofNat 31 ([0x2B6D91C4, 0x7402E8B9, 0x1E874D32, 0x4DD10A6E, 0x6198B5F3, 0x08F47C1D, 0x5A3E2687,
    0x36C7D950].getD l.val 0)

/-- Overhead seeds (R77). -/
def overheadSeed (l : Die) : BitVec 31 :=
  BitVec.ofNat 31 ([0x51F03A27, 0x0C9D66E1, 0x6A3BC90F, 0x3305F7D8, 0x47E21C6B, 0x1D6CA492, 0x7B195E04,
    0x28708BB5].getD l.val 0)

/-- One bit of the pilot sequence, and the register after it (R75). -/
def pilotBit (t : BitVec 13) : Bool := t.getLsbD 12 ^^ t.getLsbD 11 ^^ t.getLsbD 1 ^^ t.getLsbD 0
def pilotNext (t : BitVec 13) : BitVec 13 := (t <<< 1) ||| (if pilotBit t then 1#13 else 0#13)

/-- The first `n` bits of the pilot sequence from a seed (R75). -/
def pilotBits : Nat → BitVec 13 → List Bool
  | 0, _ => []
  | n + 1, t => pilotBit t :: pilotBits n (pilotNext t)

/-- The seed of the data blocks of the state PILOT (R121). -/
def pilotDataSeed (l : Die) : BitVec 13 := pilotSeed l ^^^ 0x1FFF#13

/-- One bit of the scrambler, and the register after it (R83). -/
def scrBit (s : BitVec 31) : Bool := s.getLsbD 30 ^^ s.getLsbD 27
def scrNext (s : BitVec 31) : BitVec 31 := (s <<< 1) ||| (if scrBit s then 1#31 else 0#31)

/-- Scrambling, and descrambling: the xor with the sequence (R83). -/
def scramble : BitVec 31 → List Bool → List Bool
  | _, [] => []
  | s, b :: bs => (b ^^ scrBit s) :: scramble (scrNext s) bs

/-- The register after `n` bits. -/
def scrSkip (n : Nat) (s : BitVec 31) : BitVec 31 := (List.range n).foldl (fun s _ => scrNext s) s

/-- The scrambler's value at the payload of a frame (R84). -/
def payloadSeed (l : Die) (fc : Nat) : BitVec 31 :=
  let x := BitVec.ofNat 31 fc ^^^ laneWord l
  if x = 0#31 then 0x55555555#31 else x

/-! ### The code (R78 to R80) -/

/-- An entry of the information part of the base matrix (R80). -/
def baseEntry (i j : Nat) : Nat :=
  let b := (7 * j + 3) % 64
  let e := (53 * j + 11) % 256
  (i * b + [0, 37, 91, 150, 203].getD i 0 + e) % 256

/-- An entry of the whole base matrix; none stands for −1 (R80). -/
def baseMatrix (i j : Nat) : Option Nat :=
  if j < 35 then some (baseEntry i j)
  else match j, i with
    | 35, 0 | 35, 4 => some 1
    | 35, 2 => some 0
    | 36, 0 | 36, 1 | 37, 1 | 37, 2 | 38, 2 | 38, 3 | 39, 3 | 39, 4 => some 0
    | _, _ => none

/-- shift(x, s)[r] = x[(r + s) mod 256], with bit r of a block at position r (R80). -/
def shift (x : BitVec 256) (s : Nat) : BitVec 256 := x.rotateRight (s % 256)

/-- lam[i] of the information blocks from column `j` on (R80). -/
def lamFrom (i : Nat) : Nat → List (BitVec 256) → BitVec 256
  | _, [] => 0
  | j, x :: xs => shift x (baseEntry i j) ^^^ lamFrom i (j + 1) xs

/-- The five parity blocks of 35 information blocks (R80). -/
def parity (info : List (BitVec 256)) : List (BitVec 256) :=
  let lam (i : Nat) := lamFrom i 0 info
  let p0 := lam 0 ^^^ lam 1 ^^^ lam 2 ^^^ lam 3 ^^^ lam 4
  let p1 := lam 0 ^^^ shift p0 1
  let p2 := lam 1 ^^^ p1
  let p3 := lam 2 ^^^ p0 ^^^ p2
  let p4 := lam 3 ^^^ p3
  [p0, p1, p2, p3, p4]

/-- A codeword's blocks: information, then parity (R79). -/
def encode (info : List (BitVec 256)) : List (BitVec 256) := info ++ parity info

/-- Block row `i` of H times the blocks of a word, from block column `j` on (R78). -/
def checkRow (i : Nat) : Nat → List (BitVec 256) → BitVec 256
  | _, [] => 0
  | j, x :: xs => (match baseMatrix i j with
    | some h => shift x h
    | none => 0) ^^^ checkRow i (j + 1) xs

/-- Whether a word of 40 blocks satisfies H·c = 0 (R78). -/
def isCodeword (c : List (BitVec 256)) : Bool := [0, 1, 2, 3, 4].all fun i => checkRow i 0 c == 0

/-! ### Precoding (R86) -/

/-- The precoded values of a data block from the value before it. -/
def precode : Nat → List Nat → List Nat
  | _, [] => []
  | v, u :: us => let w := (u + 4 - v % 4) % 4; w :: precode w us

/-- The receiver's inverse. -/
def unprecode : Nat → List Nat → List Nat
  | _, [] => []
  | v, w :: ws => (w + v) % 4 :: unprecode w ws

/-! ### The overhead codeword (R88 to R98) -/

/-- The bits of a field, most significant first (R89). -/
def bitsOf (n : Nat) (v : Nat) : List Bool := (BitVec.ofNat n v).toNat |> fun w =>
  (List.range n).map fun i => w.testBit (n - 1 - i)

/-- The frame header's 128 bits (R91). -/
def headerBits (h : Header) : List Bool :=
  bitsOf 4 h.hdrVer.toNat ++ bitsOf 2 h.profile.toNat ++ bitsOf 2 h.cipher.toNat ++ bitsOf 8 h.lane.toNat
    ++ bitsOf 48 h.frameCount.toNat ++ bitsOf 16 h.keyEpoch.toNat ++ bitsOf 13 h.rackCd.toNat
    ++ bitsOf 22 h.blockSeq.toNat ++ bitsOf 9 h.phase.toNat ++ [h.topping, h.shared, h.withheld, false]

/-- The FEEDBACK field's 256 bits (R96). -/
def feedbackBits (f : Feedback) : List Bool :=
  bitsOf 16 f.snr.toNat ++ bitsOf 32 f.corrBits.toNat ++ bitsOf 16 f.uncorrCw.toNat ++ bitsOf 16 f.avgIter.toNat
    ++ bitsOf 8 f.firSeq.toNat ++ ((List.range 10).flatMap fun k => bitsOf 4 ((f.firStep.getD k 0) % 16).toNat)
    ++ [f.valid, f.rxLock] ++ bitsOf 4 f.rxState.toNat ++ List.replicate 122 false

/-- The TOPPING_STATUS field's 64 bits (R97). -/
def toppingBits (t : ToppingStatus) : List Bool :=
  bitsOf 8 t.toppedMask.toNat ++ bitsOf 8 t.failedMask.toNat ++ [t.double] ++ List.replicate 15 false
    ++ bitsOf 32 t.toppedCw.toNat

/-- The TOPPING_COPY field's 2,016 bits: one entry of 288 bits for each of seven lanes (R98). -/
def copyBits (cs : List CopyEntry) : List Bool :=
  (List.range 7).flatMap fun j => match cs.find? fun c => c.lane.val == j with
    | some c => headerBits c.header ++ bitsOf 128 c.tag.toNat ++ bitsOf 32 c.crc.toNat
    | none => List.replicate 288 false

/-- One bit of the CRC-32 of R90. -/
def crcBit (c : BitVec 32) (b : Bool) : BitVec 32 :=
  if c.getLsbD 31 ^^ b then (c <<< 1) ^^^ 0x04C11DB7#32 else c <<< 1

/-- The CRC-32 of R90 over bits. -/
def crcBits (l : List Bool) : BitVec 32 := ~~~(l.foldl crcBit (BitVec.allOnes 32))

/-- The MGMT field's 1,024 bits: the segment of 128 bytes (R443). -/
def segmentBits (g : Segment) : List Bool :=
  if !g.valid then List.replicate 1024 false
  else [true, g.start, g.fin] ++ List.replicate 5 false ++ bitsOf 8 g.data.length ++ bitsOf 16 g.seq.toNat
    ++ (padTo 124 g.data).flatMap fun b => bitsOf 8 b.toNat

/-- Information bits 0 to 8,927 of codeword 0 (R88). -/
def overheadHead (oh : Overhead) : List Bool :=
  headerBits oh.header ++ bitsOf 128 oh.gcmTag.toNat ++ bitsOf 32 oh.payloadCrc.toNat ++ segmentBits oh.mgmt
    ++ feedbackBits oh.feedback ++ toppingBits oh.topping ++ copyBits oh.copies ++ List.replicate 5280 false

/-- The 8,960 information bits of codeword 0, before scrambling (R88). -/
def overheadInfo (oh : Overhead) : List Bool :=
  let head := overheadHead oh
  head ++ bitsOf 32 (crcBits head).toNat

/-- Whether information bits of codeword 0 pass OH_CRC (R88, R90). -/
def ohCrcOk (info : List Bool) : Bool := bitsOf 32 (crcBits (info.take 8928)).toNat == info.drop 8928

/-- The number whose bits are given, most significant first (R89). -/
def ofBits (bs : List Bool) : Nat := bs.foldl (fun a b => 2 * a + (if b then 1 else 0)) 0

/-- The field of `w` bits at an offset of a bit string (R89). -/
def fieldAt (bs : List Bool) (o w : Nat) : Nat := ofBits ((bs.drop o).take w)

/-- A one-bit field. -/
def flagAt (bs : List Bool) (o : Nat) : Bool := bs.getD o false

/-- The header in 128 bits (R91); the reserved bit is ignored. -/
def readHeader (bs : List Bool) : Header :=
  { hdrVer := BitVec.ofNat 4 (fieldAt bs 0 4)
    profile := BitVec.ofNat 2 (fieldAt bs 4 2)
    cipher := BitVec.ofNat 2 (fieldAt bs 6 2)
    lane := BitVec.ofNat 8 (fieldAt bs 8 8)
    frameCount := BitVec.ofNat 48 (fieldAt bs 16 48)
    keyEpoch := BitVec.ofNat 16 (fieldAt bs 64 16)
    rackCd := BitVec.ofNat 13 (fieldAt bs 80 13)
    blockSeq := BitVec.ofNat 22 (fieldAt bs 93 22)
    phase := BitVec.ofNat 9 (fieldAt bs 115 9)
    topping := flagAt bs 124
    shared := flagAt bs 125
    withheld := flagAt bs 126 }

/-- The segment in 1,024 bits (R443). -/
def readSegment (bs : List Bool) : Segment :=
  if !flagAt bs 0 then ⟨false, false, false, 0, []⟩
  else ⟨true, flagAt bs 1, flagAt bs 2, BitVec.ofNat 16 (fieldAt bs 16 16),
    (List.range (min 124 (fieldAt bs 8 8))).map fun i => BitVec.ofNat 8 (fieldAt bs (32 + 8 * i) 8)⟩

/-- FEEDBACK in 256 bits (R96). -/
def readFeedback (bs : List Bool) : Feedback :=
  { snr := BitVec.ofNat 16 (fieldAt bs 0 16)
    corrBits := BitVec.ofNat 32 (fieldAt bs 16 32)
    uncorrCw := BitVec.ofNat 16 (fieldAt bs 48 16)
    avgIter := BitVec.ofNat 16 (fieldAt bs 64 16)
    firSeq := BitVec.ofNat 8 (fieldAt bs 80 8)
    firStep := (List.range 10).map fun k =>
      let v := fieldAt bs (88 + 4 * k) 4
      if v < 8 then (v : Int) else (v : Int) - 16
    valid := flagAt bs 128
    rxLock := flagAt bs 129
    rxState := BitVec.ofNat 4 (fieldAt bs 130 4) }

/-- TOPPING_STATUS in 64 bits (R97). -/
def readTopping (bs : List Bool) : ToppingStatus :=
  ⟨BitVec.ofNat 8 (fieldAt bs 0 8), BitVec.ofNat 8 (fieldAt bs 8 8), flagAt bs 16, BitVec.ofNat 32 (fieldAt bs 32 32)⟩

/-- The entries of TOPPING_COPY that are not all zero, up to the data lanes of the part (R98, R249). -/
def readCopies (bs : List Bool) : List CopyEntry :=
  (List.range 7).filterMap fun j =>
    let e := (bs.drop (288 * j)).take 288
    if e.any id then some ⟨Fin.ofNat 8 j, readHeader (e.take 128), BitVec.ofNat 128 (fieldAt e 128 128), BitVec.ofNat 32 (fieldAt e 256 32)⟩
    else none

/-- The fields of the information bits of codeword 0 (R88). -/
def readOverhead (info : List Bool) : Overhead :=
  { header := readHeader (info.take 128)
    gcmTag := BitVec.ofNat 128 (fieldAt info 128 128)
    payloadCrc := BitVec.ofNat 32 (fieldAt info 256 32)
    mgmt := readSegment ((info.drop 288).take 1024)
    feedback := readFeedback ((info.drop 1312).take 256)
    topping := readTopping ((info.drop 1568).take 64)
    copies := readCopies ((info.drop 1632).take 2016) }

/-! ### Codewords and bits (R79, R81, R84) -/

/-- Bits as blocks of 256, bit r of a block at position r (R78, R80). -/
def blocksOf : Nat → List Bool → List (BitVec 256)
  | 0, _ => []
  | n + 1, bs => BitVec.ofNat 256 (ofBits (bs.take 256).reverse) :: blocksOf n (bs.drop 256)

/-- The bits of blocks in order. -/
def bitsOfBlocks (c : List (BitVec 256)) : List Bool := c.flatMap fun x => (List.range 256).map x.getLsbD

/-- The codeword of 8,960 information bits (R79). -/
def codeword (info : List Bool) : Codeword := encode (blocksOf 35 info)

/-- The information bits of a codeword (R79). -/
def infoOf (c : Codeword) : List Bool := bitsOfBlocks (c.take 35)

/-- Payload bit b is information bit b mod 8,960 of codeword 1 + b / 8,960 (R81): `n` codewords of payload. -/
def payloadWords : Nat → List Bool → List Codeword
  | 0, _ => []
  | n + 1, bs => codeword (bs.take 8960) :: payloadWords n (bs.drop 8960)

/-- The 256 codewords of a frame: codeword 0 with its overhead under the overhead seed, 1 to 255 with the payload under the
payload seed (R81, R84). -/
def frameWords (l : Die) (oh : Overhead) (payload : List Bool) : List Codeword :=
  codeword (scramble (overheadSeed l) (overheadInfo oh))
    :: payloadWords 255 (scramble (payloadSeed l oh.header.frameCount.toNat) payload)

/-- What a decoded codeword 0 holds (R84, R88, R99): descrambled under the lane's overhead seed and checked by OH_CRC. -/
def ohOf (l : Die) (c : Codeword) : OhResult :=
  let info := scramble (overheadSeed l) (infoOf c)
  if ohCrcOk info then .ok (readOverhead info) else .crcFail

/-- The scrambler's value at codeword `c` of a frame's payload (R81, R84). -/
def wordSeed (l : Die) (fc c : Nat) : BitVec 31 := scrSkip (8960 * (c - 1)) (payloadSeed l fc)

/-- The payload bits that codeword `c` carries, and the codeword that carries payload bits (R81, R84). -/
def wordPayload (l : Die) (fc c : Nat) (w : Codeword) : List Bool := scramble (wordSeed l fc c) (infoOf w)
def payloadWord (l : Die) (fc c : Nat) (bits : List Bool) : Codeword := codeword (scramble (wordSeed l fc c) bits)

/-- The payload of a frame from its codewords 1 to 255 (R81, R84): their information bits, descrambled. -/
def payloadOf (l : Die) (fc : Nat) (words : List Codeword) : List Bool :=
  scramble (payloadSeed l fc) (words.flatMap infoOf)

/-! ### Symbols of a frame (R72 to R77, R82, R86, R121) -/

/-- The values u of a bit string, two bits a symbol (R72). -/
def symbolsOf : List Bool → List Nat
  | a :: b :: bs => symbolU a b :: symbolsOf bs
  | _ => []

/-- The values u of pilot block `j` of lane `l` (R74, R75): the marker, or pilot bits 64 (j − 1) to 64 j − 1. -/
def pilotBlock (l : Die) (j : Nat) : List Nat :=
  if j = 0 then symbolsOf ((List.range 64).map marker.getMsbD)
  else symbolsOf ((pilotBits (64 * j) (pilotSeed l)).drop (64 * (j - 1)))

/-- The value u of symbol `n` of a codeword: bits c_2n (left) and c_2n+1 (R82). -/
def wordSymbol (c : Codeword) (n : Nat) : Nat :=
  let bit (i : Nat) : Bool := (c.getD (i / 256) 0).getLsbD (i % 256)
  symbolU (bit (2 * n)) (bit (2 * n + 1))

/-- The 4,096 values u of the data block of block group `g` (R82). -/
def dataBlock (words : List Codeword) (g : Nat) : List Nat :=
  (List.range 4096).map fun t => let (c, n) := codewordOf g t; wordSymbol (words.getD c []) n

/-- The values u of a frame's symbols as sent: pilot blocks as they are, data blocks precoded from the last symbol of the
pilot block before them where precoding is on (R73, R76, R86). -/
def frameSymbolsOf (l : Die) (prec : Bool) (words : List Codeword) : List Nat :=
  (List.range 320).flatMap fun g =>
    let p := pilotBlock l g
    let d := dataBlock words g
    p ++ (if prec then precode (p.getLastD 0) d else d)

/-- The values u of a frame sent as PILOT (R121): the second sequence runs on through the data blocks, never precoded. -/
def pilotSymbols (l : Die) : List Nat :=
  (List.range 320).flatMap fun g =>
    pilotBlock l g ++ symbolsOf ((pilotBits (8192 * (g + 1)) (pilotDataSeed l)).drop (8192 * g))

/-- A frame that turns into PILOT at the data block of block group `g` (R123). -/
def turnPilot (l : Die) (g : Nat) (us : List Nat) : List Nat :=
  us.take (dataStart g) ++ (pilotSymbols l).drop (dataStart g)

/-! ### From level to drive code (R109 to R114) -/

/-- A quotient rounded to the nearest, halves away from zero (R112, R657). -/
def roundAway (a b : Int) : Int := if 0 ≤ a then (2 * a + b) / (2 * b) else -((2 * -a + b) / (2 * b))

/-- The FIR output in 1/64 of a level (R110): `lv n` is the level of symbol n. -/
def firOut (c : List Int) (lv : Int → Int) (n : Int) : Int :=
  ((List.range 10).map fun k => c.getD k 0 * lv (n + 3 - k)).foldl (· + ·) 0

/-- A valid coefficient set (R111). -/
def firValid (c : List Int) : Bool :=
  decide ((c.map Int.natAbs).foldl (· + ·) 0 ≤ 63) && decide (0 < c.getD 3 0)

/-- The predistortion index of three values u (R112). -/
def pdIndex (a b c : Nat) : Nat := 16 * a + 4 * b + c

/-- The shaping filter's taps a and b (R113). -/
def shapeTaps : Nat → Int × Int
  | 0 => (0, 64)
  | 1 => (-4, 72)
  | _ => (-9, 82)

/-- The drive code before limiting (R113, R114). -/
def shaped (shape : Nat) (zp z zn : Int) : Int :=
  let (a, b) := shapeTaps shape
  roundAway (a * zp + b * z + a * zn) 64

/-- The DAC code and whether it was limited (R114). -/
def dacCode (v : Int) : Int × Bool := if v < -128 then (-128, true) else if 127 < v then (127, true) else (v, false)

/-- What shapes a lane's symbols (R109): the active FIR bank, the active predistortion table where PD_EN is 1, and SHAPE. -/
structure Shaping where
  fir : List Int
  pd : Option (List Int)
  shape : Nat

/-- The values u sent before and after a frame reach into its codes: those of the four symbols after it, which begin with a
marker, and those sent last. MUTE sends no levels (`none`). -/
def levelOf : Option Nat → Int
  | some u => level u
  | none => 0

/-- The pre-shaping value of symbol `n` of a stream (R110, R112). -/
def preShapeAt (g : Shaping) (us : Int → Option Nat) (n : Int) : Int :=
  let w := firOut g.fir (fun i => levelOf (us i)) n
  let pd := match g.pd with
    | some t => t.getD (pdIndex ((us (n - 1)).getD 0) ((us n).getD 0) ((us (n + 1)).getD 0)) 0
    | none => 0
  roundAway (2 * w) 3 + pd

/-- The code of symbol `n` before limiting: the stages of R109 in their order. -/
def codeAt (g : Shaping) (us : Int → Option Nat) (n : Int) : Int :=
  shaped g.shape (preShapeAt g us (n - 1)) (preShapeAt g us n) (preShapeAt g us (n + 1))

/-- The stream around a frame: `before` are the values sent last, newest first. After the frame a marker follows. -/
def streamOf (before : List (Option Nat)) (us : List Nat) : Int → Option Nat
  | .negSucc k => (before.getD k none)
  | .ofNat n => match us[n]? with
    | some u => some u
    | none => (pilotBlock 0 0)[n - us.length]?

/-- A frame's drive codes after limiting, and how many were limited (R109 to R114). -/
def driveCodes (g : Shaping) (before : List (Option Nat)) (us : List Nat) : List Int × Nat :=
  let v := (List.range us.length).map fun n => dacCode (codeAt g (streamOf before us) n)
  (v.map Prod.fst, v.countP Prod.snd)

/-- The differential peak-to-peak output in mV (R115). -/
def swingMv (code : Nat) : Nat := 300 + 40 * code

end Sys2Proof.Machine.LineFormat
end

