-- ==== Sys2Proof/Machine/FrameCipher.lean ====
section
/-! DEFINITION. A frame's payload as an AES-256-GCM message (R271, R272): its IV, its AAD, sealing, opening, and deciphering
without the tag (R299). -/

namespace Sys2Proof.Machine.FrameCipher

/-- Bits as bytes, the first bit the most significant (R271). -/
def bytesOfBits : Nat → List Bool → Bytes
  | 0, _ => []
  | n + 1, bs => BitVec.ofNat 8 (LineFormat.ofBits (bs.take 8)) :: bytesOfBits n (bs.drop 8)

/-- Bytes as bits. -/
def bitsOfBytes (b : Bytes) : List Bool := b.flatMap fun x => LineFormat.bitsOf 8 x.toNat

/-- The payload of a frame in bytes (R271). -/
abbrev payloadBytes : Nat := 285600

/-- The 96-bit IV (R272): SALT, LANE, DIR, FRAME_COUNT. -/
def iv (k : TKey) (lane : Nat) (fc : Nat) : Bytes :=
  padTo 4 k.salt ++ [BitVec.ofNat 8 lane, BitVec.ofNat 8 (k.dir % 2)] ++ be 6 fc

/-- The first counter block (R272). -/
def counterBlock (k : TKey) (lane fc : Nat) : Bytes := iv k lane fc ++ be 4 1

/-- The AAD: the frame header as 16 bytes (R271). -/
def aad (h : Header) : Bytes := bytesOfBits 16 (LineFormat.headerBits h)

/-- A payload enciphered: the ciphertext's bits and the tag (R271). -/
def encipher (k : TKey) (h : Header) (payload : List Bool) : List Bool × BitVec 128 :=
  let out := Config.gcmSeal k.key (iv k h.lane.toNat h.frameCount.toNat) (aad h) (bytesOfBits payloadBytes payload)
  (bitsOfBytes (padTo payloadBytes out), BitVec.ofNat 128 (ofBe (out.drop payloadBytes)))

/-- A payload opened under its tag: none where the tag fails (R271, R299). -/
def open_ (k : TKey) (h : Header) (tag : BitVec 128) (payload : List Bool) : Option (List Bool) :=
  (Config.gcmOpen k.key (iv k h.lane.toNat h.frameCount.toNat) (aad h)
    (bytesOfBits payloadBytes payload ++ be 16 tag.toNat)).map fun b => bitsOfBytes (padTo payloadBytes b)

/-- A payload deciphered without its tag (R299): in counter mode enciphering again gives the plaintext. -/
def decipher (k : TKey) (h : Header) (payload : List Bool) : List Bool := (encipher k h payload).1

/-! ### The bypass monitor (R306) -/

/-- The payload bits of codeword `c` leave as they came. -/
def letThrough (c : Nat) (plain out : List Bool) : List Bool :=
  out.take (8960 * (c - 1)) ++ (plain.drop (8960 * (c - 1))).take 8960 ++ out.drop (8960 * c)

/-- The first codeword of 1 to 255 whose window of 64 bits leaves as it came; `ofs` gives the draws for the windows' offsets, 0 to
8,896. -/
def equalWindow (ofs : List Nat) (plain out : List Bool) : Option Nat :=
  ((List.range 255).find? fun i =>
    let at_ := 8960 * i + ofs.getD i 0 % 8897
    (plain.drop at_).take 64 == (out.drop at_).take 64).map (· + 1)

end Sys2Proof.Machine.FrameCipher
end

