-- ==== Sys2Proof/Machine/Equaliser.lean ====
section
/-! DEFINITION. The receiver's sample path as functions on samples, in the order of R148: feed-forward equaliser with
cross-fade, nonlinear equaliser, decision feedback, slicer, soft demapper, and the adaptation of their coefficients by LMS
(R148, R158, R160, R165, R169 to R172, R197). Samples and means are in 1/4,096 of a level unit where they are integers. -/

namespace Sys2Proof.Machine.Equaliser

/-- A rational rounded to the nearest integer, halves away from zero (R657). -/
def roundQ (q : ℚ) : Int := LineFormat.roundAway q.num q.den

/-! ### The stages (R160, R165, R169, R170) -/

/-- The FFE output y(n) = Σ f_i · x(n + M − i) (R160); `f` holds the coefficients as numbers. -/
def ffe (f : List ℚ) (m : Nat) (x : Int → ℚ) (n : Int) : ℚ :=
  ((List.range 41).map fun i => f.getD i 0 * x (n + m - i)).sum

/-- The weight of the target bank at symbol `n` of a fade of `len` symbols (R165). -/
def fadeWeight (len : Nat) (n : Nat) : ℚ := (n + 1) / len

/-- The output within a fade (R165). -/
def crossFade (len n : Nat) (old new : ℚ) : ℚ := (1 - fadeWeight len n) * old + fadeWeight len n * new

/-- The six terms of the NLE (R169). -/
def nleTerms (yp y yn : ℚ) : List ℚ := [yp * yp, y * y, yn * yn, yp * y, y * yn, yp * yn]

/-- The NLE output y2(n) from y(n − 1), y(n), y(n + 1) (R169). -/
def nle (q : List ℚ) (yp y yn : ℚ) : ℚ := y + ((nleTerms yp y yn).zipWith (· * ·) q).sum

/-- The slicer input z(n) from y2(n) and the levels decided before (R170). -/
def dfe (d1 d2 y2 a1 a2 : ℚ) : ℚ := y2 - d1 * a1 - d2 * a2

/-! ### Slicer and levels (R171) -/

/-- The level means in level units, for the values u = 0 to 3. -/
def levels (means : List Int) : List ℚ :=
  (List.range 4).map fun u => (means.getD u (4096 * LineFormat.level u) : ℚ) / 4096

/-- The value decided: thresholds lie midway between the means (R171). -/
def slice (lv : List ℚ) (z : ℚ) : Nat :=
  (List.range 3).countP fun k => decide ((lv.getD k 0 + lv.getD (k + 1) 0) / 2 < z)

/-- The mean of the values tracked at a level, if there is one (R171). -/
def meanAt (ps : List (Nat × ℚ)) (u : Nat) : Option ℚ :=
  let zs := (ps.filter fun p => p.1 == u).map Prod.snd
  if zs.isEmpty then none else some (zs.sum / zs.length)

/-- The tracked means, in 1/4,096 of a level unit, after pilots: a level with no pilot keeps its mean (R171). -/
def trackMeans (old : List Int) (ps : List (Nat × ℚ)) : List Int :=
  (List.range 4).map fun u => match meanAt ps u with
    | some m => roundQ (4096 * m)
    | none => old.getD u (4096 * LineFormat.level u)

/-- The error variance of pilots about the tracked means, in level units squared (R171). -/
def variance (lv : List ℚ) (ps : List (Nat × ℚ)) : ℚ :=
  (ps.map fun p => (p.2 - lv.getD p.1 0) ^ 2).sum / ps.length

/-- σ in 1/4,096 of a level unit (R200), rounded down. -/
def sigmaOf (v : ℚ) : Nat := Nat.sqrt (v * 4096 * 4096).floor.toNat

/-- The SNR in 1/256 dB (R171, R200): 10·log10(P / σ²) for the mean power P of the means, rounded to the nearest; it is k + 1
or more when (P / σ²)^5120 is at least 10^(2k + 1). `sigma` is not 0. -/
def snrOf (means : List Int) (sigma : Nat) : Nat :=
  let p := (means.map fun m => m.natAbs ^ 2).sum
  min 65535 ((Nat.log 10 (p ^ 5120 / (4 * sigma ^ 2) ^ 5120) + 1) / 2)

/-! ### Soft demapper (R172) -/

/-- Bit `b` (0 left, 1 right) of a symbol of value u (R72). -/
def bitOf (u b : Nat) : Bool := if b = 0 then decide (2 ≤ u) else u == 1 || u == 2

/-- The least of a list of distances. -/
def least : List ℚ → ℚ
  | [] => 0
  | x :: xs => xs.foldl min x

/-- A soft value from the least squared distances to a 1 and to a 0 (R172): their difference over 2σ² in units of 0.5, within
±31; positive favours bit 0. With σ² = 0 the nearer one decides. -/
def softOf (v d1 d0 : ℚ) : Int :=
  if v = 0 then (if d0 < d1 then 31 else if d1 < d0 then -31 else 0)
  else max (-31) (min 31 (roundQ ((d1 - d0) / v)))

/-- The soft value of bit `b` of a symbol without precoding: max-log over the four levels (R172). -/
def soft (lv : List ℚ) (v : ℚ) (z : ℚ) (b : Nat) : Int :=
  let d (bit : Bool) := least (((List.range 4).filter fun u => bitOf u b == bit).map fun u => (z - lv.getD u 0) ^ 2)
  softOf v (d true) (d false)

/-- The soft value of bit `b` of u(n) with precoding: max-log over the 16 pairs of v(n − 1) and v(n), with u(n) their sum
modulo 4 (R86, R172). -/
def softPre (lv : List ℚ) (v : ℚ) (zp z : ℚ) (b : Nat) : Int :=
  let pairs := (List.range 4).flatMap fun w => (List.range 4).map fun u => (w, u)
  let d (bit : Bool) := least ((pairs.filter fun p => bitOf ((p.1 + p.2) % 4) b == bit).map fun p =>
    (zp - lv.getD p.1 0) ^ 2 + (z - lv.getD p.2 0) ^ 2)
  softOf v (d true) (d false)

/-! ### Adaptation (R162, R169, R170, R197) -/

/-- A step size (R197). -/
def stepSize (code : Nat) : ℚ := 1 / 2 ^ (6 + code)

/-- The leakage of an update (R197): code 0 turns it off. -/
def leakage (code : Nat) : ℚ := if code = 0 then 0 else 1 / 2 ^ (16 + code)

/-- The coefficients as numbers: FFE, NLE, DFE. -/
structure Coefs where
  f : List ℚ
  q : List ℚ
  d1 : ℚ
  d2 : ℚ

/-- What the path runs with: the main-cursor position, the enables, the tracked levels, the step sizes and leakage; a step of 0
stands for adaptation that is off. From symbol `hold` on a swap is accepted and has not ended, and FFE and NLE stand still. -/
structure Setup where
  main : Nat
  nleOn : Bool
  dfeOn : Bool
  lv : List ℚ
  muFfe : ℚ
  muNle : ℚ
  muDfe : ℚ
  leak : ℚ
  hold : Option Int

/-- A fade or jump that touches the samples: the symbols at which it was accepted and at which it begins, its length, the symbol
at which it was abandoned, and both banks. -/
structure Fading where
  asked : Int
  start : Int
  len : Nat
  upto : Option Int
  oldF : List ℚ
  oldM : Nat
  newF : List ℚ
  newM : Nat

/-- The first symbol after a fade. -/
def Fading.stop (g : Fading) : Int := g.upto.getD (g.start + g.len)

/-- y(n) across fades, newest first, when coefficients `f` drive the output after all of them (R160, R165, R167). -/
def output (x : Int → ℚ) (n : Int) : List Fading → List ℚ → Nat → ℚ
  | [], f, m => ffe f m x n
  | g :: gs, f, m =>
    if n < g.start then output x n gs g.oldF g.oldM
    else if n < g.stop then
      crossFade g.len (n - g.start).toNat (ffe g.oldF g.oldM x n) (ffe g.newF g.newM x n)
    else ffe f m x n

/-- One symbol through the path: its slicer input, the level decided, and the coefficients after the LMS update of the errors
about the tracked means (R148, R162, R169, R170, R197). -/
def symbol (u : Setup) (fades : List Fading) (x : Int → ℚ) (c : Coefs) (a1 a2 : ℚ) (n : Int) : ℚ × ℚ × Coefs :=
  let y (k : Int) := output x k fades c.f u.main
  let yp := y (n - 1)
  let y0 := y n
  let yn := y (n + 1)
  let y2 := if u.nleOn then nle c.q yp y0 yn else y0
  let z := if u.dfeOn then dfe c.d1 c.d2 y2 a1 a2 else y2
  let a : ℚ := LineFormat.level (slice u.lv z)
  let e := z - u.lv.getD (slice u.lv z) 0
  let held := u.hold.any (fun h => decide (h ≤ n)) || fades.any fun g => decide (g.asked ≤ n) && decide (n < g.stop)
  let f := c.f.mapIdx fun i v =>
    (if i = u.main then v else v * (1 - u.leak)) - u.muFfe * e * x (n + u.main - i)
  let q := (c.q.zip (nleTerms yp y0 yn)).map fun p => p.1 - u.muNle * e * p.2
  (z, a, ⟨if u.muFfe = 0 || held || fades.any (fun g => decide (n < g.stop)) then c.f else f,
    if u.muNle = 0 || held then c.q else q, c.d1 + u.muDfe * e * a1, c.d2 + u.muDfe * e * a2⟩)

/-- The slicer inputs of `k` symbols from symbol `n` on, and the coefficients at their end. -/
def run (u : Setup) (fades : List Fading) (x : Int → ℚ) : Nat → Int → Coefs → ℚ → ℚ → List ℚ × Coefs
  | 0, _, c, _, _ => ([], c)
  | k + 1, n, c, a1, a2 =>
    let r := symbol u fades x c a1 a2 n
    let rest := run u fades x k (n + 1) r.2.2 r.2.1 a1
    (r.1 :: rest.1, rest.2)

/-! ### Timing recovery (R158, R336) -/

/-- The bandwidth of the timing loop in kHz (R158). -/
def timingKHz : Nat → Nat
  | 0 => 500
  | 1 => 1000
  | 2 => 2000
  | _ => 4000

/-- The weights of the phase detectors on decided data symbols and on pilot symbols (R158): decisions from BLIND_EQ on, pilots
from frame lock on, four times as heavily; in STANDARD there are no pilots (R336). -/
def timingWeights (state : RxState) (locked standard : Bool) : Nat × Nat :=
  let decided := match state with
    | .blindEq | .marker | .pilotEq | .locked | .fastReacq => 1
    | .down | .signalWait | .gain | .freq => 0
  (decided, if locked && !standard then 4 * decided else 0)

/-- One update of a second-order loop (R158): phase and integrator after a phase error, with the proportional and the
integral gain. -/
def timingStep (kp ki phase integ err : ℚ) : ℚ × ℚ := (phase + kp * err + integ, integ + ki * err)

end Sys2Proof.Machine.Equaliser
end

