-- ==== Sys2Proof/Machine/Fabric.lean ====
section
/-! DEFINITION. The Jeuri fabric (R429 to R442) and the in-band channel (R443 to R447): neighbours, the tree, routes,
forwarding, segments. -/

namespace Sys2Proof.Machine

def State.updFab (s : State) (g : FabState → FabState) : State := { s with fab := g s.fab }

def State.updMedium (s : State) (m : Fin 3) (g : MediumSt → MediumSt) : State :=
  s.updFab fun f => { f with media := f.media.set m.val (g (f.media.get m)) m.isLt }

def allMedia : List (Fin 3) := [0, 1, 2]

/-- Whether a medium's carrier is up (R434). -/
def State.carrier (s : State) (m : Fin 3) : Bool :=
  match m with
  | 0 => s.portUp .a
  | 1 => s.portUp .b
  | 2 => s.rd 0 FAB_INBAND_UP_MASK != 0

/-! ### HELLO and ROUTES as sent (R433, R437, R439) -/

/-- The HELLO the part sends on a medium where it has heard a node (R433). -/
def State.ownHello (s : State) (heard : Nat) : Hello :=
  { packageId := s.nv.fuses.packageId, node := s.node, forwarder := s.forwarder, plain := false, root := s.rootOf,
    rootHops := s.rootHopsOf, uplink := ((s.uplink?).map fun n => n.hello.node).getD 0,
    heard, helloMs := s.rd 0 FAB_CFG_HELLO_INT * 100 }

/-- The lanes whose in-band channel is up (R445). -/
def State.upLanes (s : State) : List Die := allDies.filter fun l => s.bit 0 FAB_INBAND_UP_MASK l.val

/-- The HELLOs of a medium: a port's, or one on each up lane, which names the node heard on that lane's link (R433, R434, R446;
assumption log). -/
def State.ownHellos (s : State) (m : Fin 3) : List Hello :=
  if m = 2 then s.upLanes.map fun l => s.ownHello (((s.nbrOnLane l).map fun n => n.hello.node).getD 0)
  else [s.ownHello (s.fab.media.get m).heard]

/-- A new node number takes effect at the next HELLO (R429). -/
def State.takeNode (s : State) : State :=
  match s.fab.nodeNext with
  | some n => (s.wr 0 FAB_NODE n).updFab fun f => { f with nodeNext := none }
  | none => s

/-- Sends a HELLO on a medium with carrier: on the port, or on each up lane (R434; assumption log). -/
def State.sendHello (s : State) (m : Fin 3) : State :=
  if !s.carrier m then s
  else
    let s := s.takeNode
    let hs := s.ownHellos m
    let msg (h : Hello) : Bytes := s.jeuriMsg 2 0 (helloBody h m.val s.leader)
    let s := s.updMedium m fun x => { x with lastSent := hs, helloDue := false }
    match m with
    | 0 => s.each hs fun s h => s.sendPort .a (msg h)
    | 1 => s.each hs fun s h => s.sendPort .b (msg h)
    | 2 => s.each (s.upLanes.zip hs) fun s x => s.inbPush x.1 (msg x.2)

/-- The entries advertised on the link to a neighbour (R439). -/
def State.adsFor (s : State) (n : Nbr) : List RouteAd :=
  let hop := s.nbrHop n
  let own := if s.node = 0 then [] else [RouteAd.mk s.node 1]
  let leaves := (s.fab.nbrs.filter fun x => !x.hello.forwarder && x.hello.node != 0).map fun x =>
    RouteAd.mk x.hello.node (if x.same n then 16 else 2)
  let table := (s.routeEntries.filter fun e =>
      (e.origin == .neighbour || e.origin == .learned) && !leaves.any fun a => a.node == e.node).map fun e =>
    RouteAd.mk e.node (if e.hop = hop || 15 < e.hops + 1 then 16 else e.hops + 1)
  own ++ leaves ++ table

/-- What was last advertised to a neighbour. -/
def State.sentTo (s : State) (n : Nbr) : List RouteAd :=
  ((s.fab.sentRoutes.find? fun x => x.1 == n.medium && x.2.1 == n.hello.packageId).map fun x => x.2.2).getD []

/-- Sends ROUTES to a neighbour: its entries, and those gone since the last as withdrawn (R437, R439). -/
def State.sendRoutes (s : State) (n : Nbr) : State :=
  let now := s.adsFor n
  let gone := ((s.sentTo n).filter fun a => a.hops != 16 && !now.any fun b => b.node == a.node).map fun a =>
    { a with hops := 16 }
  let s := s.sendNbr n (s.jeuriMsg 3 0 (routesBody (now ++ gone)))
  s.updFab fun f =>
    { f with sentRoutes := (n.medium, n.hello.packageId, now) ::
        f.sentRoutes.filter fun x => !(x.1 == n.medium && x.2.1 == n.hello.packageId) }

/-- The neighbours whose link is ACTIVE. -/
def State.activeNbrs (s : State) : List Nbr := s.fab.nbrs.filter s.linkActive

/-- Whether ROUTES have gone to a neighbour since its link became ACTIVE. -/
def State.advertised (s : State) (n : Nbr) : Bool :=
  s.fab.sentRoutes.any fun x => x.1 == n.medium && x.2.1 == n.hello.packageId

/-- Sends ROUTES to the ACTIVE neighbours of a medium to which they changed. -/
def State.sendChanged (s : State) (m : Fin 3) : State :=
  let s := s.updMedium m fun x => { x with routesDue := false }
  s.each (s.activeNbrs.filter fun n => n.medium == m.val && s.adsFor n != s.sentTo n) fun s n => s.sendRoutes n

/-- Whether a triggered message may go now (R437): at most one of a type in 50 ms. -/
def State.holdoffOver (s : State) : Option Nat → Bool
  | some t => s.past t (msU 50)
  | none => true

/-- A triggered HELLO on a medium whose HELLO has changed (R437). -/
def State.triggerHello (s : State) (m : Fin 3) : State :=
  let x := s.fab.media.get m
  if !s.carrier m || x.lastSent == s.ownHellos m then s
  else if s.holdoffOver x.helloAt then
    (s.sendHello m).updMedium m fun y => { y with helloAt := some s.time.now }
  else s.updMedium m fun y => { y with helloDue := true }

/-- Triggered ROUTES on a medium where routes have changed (R437). -/
def State.triggerRoutes (s : State) (m : Fin 3) : State :=
  let x := s.fab.media.get m
  if !s.carrier m || !(s.activeNbrs.any fun n => n.medium == m.val && s.adsFor n != s.sentTo n) then s
  else if s.holdoffOver x.routesAt then
    (s.sendChanged m).updMedium m fun y => { y with routesAt := some s.time.now }
  else s.updMedium m fun y => { y with routesDue := true }

/-- Whether each session's controller still has a route (R441). -/
def State.trackRoutes (s : State) : State :=
  { s with sl := { s.sl with sessions := s.sl.sessions.map fun x =>
      if x.src = 0xFFFF || s.hasRoute x.src then { x with noRouteAt := none }
      else if x.noRouteAt.isSome then x
      else { x with noRouteAt := some s.time.now } } }

/-- The tree, the link states and the routes are recomputed (R435 to R439). -/
def State.treeRecompute (s : State) : State :=
  let s := s.updFab fun f =>
    { f with
        learned := f.learned.filter fun e => match s.learnedFrom e with
          | some n => s.linkActive n
          | none => false
        sentRoutes := f.sentRoutes.filter fun x => f.nbrs.any fun n =>
          n.medium == x.1 && n.hello.packageId == x.2.1 && s.linkActive n }
  let s := (s.wr 0 FAB_STAT_ROOT s.rootOf).wr 0 FAB_STAT_ROOT_HOPS s.rootHopsOf
  let s := match s.uplink? with
    | some n => (s.wr 0 FAB_STAT_UPLINK n.medium).wr 0 FAB_STAT_UP_LANE
        (if n.medium = 2 then ((s.nbrLanes n).headD 0).val else 0)
    | none => (s.wr 0 FAB_STAT_UPLINK 3).wr 0 FAB_STAT_UP_LANE 0
  let s := s.each (s.activeNbrs.filter fun n => !s.advertised n) fun s n => s.sendRoutes n
  let s := s.each allMedia fun s m => (s.triggerHello m).triggerRoutes m
  s.trackRoutes

/-- A destination that finds the table of 1,024 entries full (R438). -/
def State.tableFull (s : State) : State :=
  if s.flag 0 FAB_STAT_TABLE_FULL then s else (s.wr 0 FAB_STAT_TABLE_FULL 1).raisePkg evROUTE_TABLE_FULL noArg

/-! ### Neighbours (R434) -/

/-- A neighbour is removed, with the routes through it (R434, R439). -/
def State.dropNbr (s : State) (n : Nbr) : State :=
  (s.updFab fun f =>
    { f with nbrs := f.nbrs.filter fun x => !x.same n
             learned := f.learned.filter fun e => !(e.medium == n.medium && e.packageId == n.hello.packageId) }).raisePkg
    evJEURI_NEIGHBOUR_LOST (evArg n.medium 0xFF [])

/-- A medium has gone down: its neighbours go at once (R434). -/
def State.mediumDown (s : State) (m : Fin 3) : State :=
  let s := s.each (s.fab.nbrs.filter fun n => n.medium == m.val) fun s n => s.dropNbr n
  (s.updMedium m fun x => { x with lastSent := [], heard := 0, helloDue := false, routesDue := false }).treeRecompute

/-- Frames of Jeuri count only while the interpreter's domain runs on the die of the medium. -/
def State.fabricRuns (s : State) (d : Die) : Bool := s.pop d && s.domainOn d .ctrl && s.phase != .inReset && s.phase != .powerOff

/-- Whether a message of a medium can arrive. -/
def State.arrives (s : State) : JMedium → Bool
  | .portA => s.portUp .a && s.fabricRuns 0
  | .portB => s.portUp .b && s.fabricRuns 1
  | .link l => s.bit 0 FAB_INBAND_UP_MASK l.val && s.fabricRuns l

def JMedium.fin : JMedium → Fin 3
  | .portA => 0
  | .portB => 1
  | .link _ => 2

/-- Enters or refreshes the neighbour of a HELLO (R434, R446). -/
def State.enterNbr (s : State) (m : JMedium) (mac : BitVec 48) (h : Hello) : State :=
  let lane : BitVec 8 := match m with
    | .link l => 1#8 <<< l.val
    | _ => 0
  let isIt (n : Nbr) : Bool := n.medium == (JMedium.index m) && n.hello.packageId == h.packageId
  let old := s.fab.nbrs.find? isIt
  let full := (s.route? h.node).isNone && h.node != 0 && 1024 ≤ s.routeEntries.length
  let new : Nbr := ⟨(JMedium.index m), lane ||| ((old.map Nbr.lanes).getD 0), mac, h, s.time.now, full⟩
  let s := s.updFab fun f =>
    { f with nbrs := (f.nbrs.filter fun n => !isIt n).map (fun n =>
        if n.medium = 2 then { n with lanes := n.lanes &&& ~~~lane } else n) ++ [new] }
  let s := (if full then s.tableFull else s).followLinks
  let s := s.updMedium (JMedium.fin m) fun x => { x with heard := h.node }
  let s := if old.isNone then s.raisePkg evJEURI_NEIGHBOUR_UP (evArg (JMedium.index m) 0xFF []) else s
  let s := if (JMedium.index m) < 2 && old.isNone && 2 ≤ (s.fab.nbrs.filter fun n => n.medium == (JMedium.index m)).length then
      s.raisePkg evJEURI_MULTI_NEIGHBOUR (evArg (JMedium.index m) 0xFF [])
    else s
  let was := (old.map s.inConflict).getD false
  if s.inConflict new then
    let s := s.wr 0 FAB_NODE_CONFLICT 1
    if was then s else s.raisePkg evNODE_CONFLICT (evArg (JMedium.index m) 0xFF [])
  else s

/-- JEURI_HELLO (R433 to R438, R440, R446); `mac` is the source address of its frame on a port. A HELLO of the package itself is no
neighbour's. -/
def execJeuriHello (m : JMedium) (mac : BitVec 48) (_hops : Nat) (_sender : BitVec 16) (h : Hello) (s : State) :
    Host.Outcome State Fault Refusal :=
  if !s.arrives m || h.packageId = s.nv.fuses.packageId then .next s
  else .next (s.enterNbr m mac h).treeRecompute

/-- NEIGHBOUR_DEAD (R434): no HELLO for DEAD_MULT times the interval. -/
def execNeighbourDead (m : JMedium) (pkg : BitVec 64) (s : State) : Host.Outcome State Fault Refusal :=
  match s.fab.nbrs.find? fun n => n.medium == (JMedium.index m) && n.hello.packageId == pkg with
  | some n =>
    if s.past n.lastAt (msU (s.rd 0 FAB_CFG_DEAD_MULT * s.rd 0 FAB_CFG_HELLO_INT * 100)) then
      .next (s.dropNbr n).treeRecompute
    else .next s
  | none => .next s

/-- HELLO_INTERVAL (R429, R434): a HELLO on every medium whose carrier is up. -/
def execHelloInterval (s : State) : Host.Outcome State Fault Refusal :=
  if !s.past s.fab.lastHello (msU (s.rd 0 FAB_CFG_HELLO_INT * 100)) then .next s
  else .next (((s.each allMedia fun s m => s.sendHello m).updFab fun f => { f with lastHello := s.time.now }).treeRecompute)

/-- TRIGGER_HOLDOFF_END (R437): 50 ms after a triggered message, what changed meanwhile goes. -/
def execTriggerHoldoffEnd (m : JMedium) (routes : Bool) (s : State) : Host.Outcome State Fault Refusal :=
  let x := s.fab.media.get (JMedium.fin m)
  if routes then
    .next (if x.routesDue && s.holdoffOver x.routesAt then
      (s.updMedium (JMedium.fin m) fun y => { y with routesDue := false }).triggerRoutes (JMedium.fin m) else s)
  else
    .next (if x.helloDue && s.holdoffOver x.helloAt then
      (s.updMedium (JMedium.fin m) fun y => { y with helloDue := false }).triggerHello (JMedium.fin m) else s)

/-! ### Routes (R438, R439) -/

/-- The neighbour a message of a medium comes from: by the lane, or the one of its sender's node. -/
def State.nbrFrom (s : State) (m : JMedium) (sender : BitVec 16) : Option Nbr :=
  match m with
  | .link l => s.nbrOnLane l
  | _ => match (s.fab.nbrs.filter fun n => n.medium == (JMedium.index m)) with
    | [n] => some n
    | ns => ns.find? fun n => n.hello.node == sender.toNat / 8

/-- One received entry (R438, R439): hop count 16 withdraws, another adds or refreshes, the fewer hops standing. -/
def State.learn (s : State) (n : Nbr) (a : RouteAd) : State :=
  let mine (e : Learned) : Bool := e.node == a.node && e.medium == n.medium && e.packageId == n.hello.packageId
  let old := s.fab.learned.find? fun e => e.node == a.node
  let new : Learned := ⟨a.node, a.hops, n.medium, n.hello.packageId, s.time.now⟩
  if 16 ≤ a.hops ∨ a.hops = 0 then s.updFab fun f => { f with learned := f.learned.filter fun e => !mine e }
  else match old with
    | some e =>
      if mine e || a.hops < e.hops then
        s.updFab fun f => { f with learned := f.learned.map fun x => if x.node = a.node then new else x }
      else s
    | none =>
      if (s.route? a.node).isNone && 1024 ≤ s.routeEntries.length then s.tableFull
      else s.updFab fun f => { f with learned := f.learned ++ [new] }

/-- JEURI_ROUTES (R438, R439): taken from a neighbour whose link is ACTIVE. -/
def execJeuriRoutes (m : JMedium) (sender : BitVec 16) (ads : List RouteAd) (s : State) :
    Host.Outcome State Fault Refusal :=
  match s.arrives m, s.nbrFrom m sender with
  | true, some n => if s.linkActive n then .next (s.each ads fun s a => s.learn n a).treeRecompute else .next s
  | _, _ => .next s

/-- ROUTES_REFRESH (R439): every 5 s ROUTES on every ACTIVE link. -/
def execRoutesRefresh (s : State) : Host.Outcome State Fault Refusal :=
  if !s.past s.fab.lastRoutes (secU 5) then .next s
  else .next ((s.each s.activeNbrs fun s n => s.sendRoutes n).updFab fun f => { f with lastRoutes := s.time.now })

/-- ROUTE_AGE_OUT (R439): a LEARNED entry not refreshed for 15 s. -/
def execRouteAgeOut (node : Nat) (s : State) : Host.Outcome State Fault Refusal :=
  .next (s.updFab fun f =>
    { f with learned := f.learned.filter fun e => !(e.node == node && s.past e.at_ (secU 15)) }).treeRecompute

/-! ### Forwarding (R440) -/

/-- DEST and SRC of a packet (R347). -/
def packetDest (p : Bytes) : Nat := ofBe (sub p 4 2)
def packetSrc (p : Bytes) : Nat := ofBe (sub p 6 2)
def packetOpcode (p : Bytes) : Nat := ofBe (sub p 8 2)

/-- Whether the part itself executes a packet (R350, R440). -/
def State.ownPacket (s : State) (p : Bytes) : Bool :=
  packetDest p == 0 || (s.node != 0 && packetDest p / 8 == s.node) || (packetDest p == 0xFFF8 && packetOpcode p == 1)

/-- A packet that is not executed and goes nowhere: dropped and counted; DATA that came with HOPS 0 sets HOP_DROP (R440). -/
def State.dropPacket (s : State) (m : JMedium) (hops : Nat) : State :=
  let s := s.jeuriDropped (JMedium.die m)
  if hops = 0 then s.wr 0 FAB_STAT_HOP_DROP 1 else s

/-- The handling of a packet by its DEST (R440). `hops` are the hops it arrived with, `dec` what a forwarder takes off. A packet
sent on to a controller as a plain frame is untagged. -/
def State.forward (s : State) (m : JMedium) (hops dec : Nat) (p : Bytes) : State :=
  let dest := packetDest p
  if dest = 0 ∨ (s.node ≠ 0 ∧ dest / 8 = s.node) then s
  else if dest = 0xFFF8 then
    if hops = 0 then (if packetOpcode p = 1 then s else s.dropPacket m 0)
    else if !s.forwarder then s
    else
      let by_ := s.nbrFrom m (BitVec.ofNat 16 (packetSrc p))
      s.each (s.activeNbrs.filter fun n => match by_ with
        | some b => !b.same n
        | none => n.medium != (JMedium.index m)) fun s n => s.sendNbr n (s.jeuriMsg 1 (hops - dec) p)
  else if packetSrc p = 0xFFFF ∨ !s.forwarder ∨ hops = 0 then s.dropPacket m hops
  else match s.route? (dest / 8) with
    | some e => s.sendVia (dest / 8) e.hop (hops - dec) none p
    | none => s.dropPacket m hops

/-- JEURI_DATA (R440): forwarded or dropped by its DEST; what the part executes arrives as a request of its own. -/
def execJeuriData (m : JMedium) (hops : Nat) (p : Bytes) (s : State) : Host.Outcome State Fault Refusal :=
  if !s.arrives m then .next s
  else if p.length < 12 then .next (s.jeuriDropped (JMedium.die m))
  else .next (s.forward m hops 1 p)

/-! ### The in-band channel of a lane (R443 to R446) -/

/-- Whether a lane's in-band channel is up (R445). -/
def State.inbandUp (s : State) (l : Die) : Bool :=
  let x := s.inb l
  s.pop l && s.profile != .standard && s.domainOn l .rx && (s.rd l LRX_STAT_ACQ_STATE == 6 || s.rd l LRX_STAT_ACQ_STATE == 7) && x.farLock
    && match x.ohAt with
       | some t => decide (s.time.now < t + 64 * s.frameU)
       | none => false

/-- A lane's channel comes up or goes down as its conditions do (R434, R445, R446). -/
def State.inbandFollow (s : State) (l : Die) : State :=
  let up := s.inbandUp l
  if up = s.bit 0 FAB_INBAND_UP_MASK l.val then s
  else
    let s := s.setBit 0 FAB_INBAND_UP_MASK l.val up
    if up then
      (s.followLinks.sendHello 2).treeRecompute
    else
      let kx (m : Bytes) : Bool := (m.getD 0 0).toNat == 0x14
      let lost := (s.inb l).txq.filter fun m => !kx m
      let s := s.cntN l 152 lost.length
      let s := s.updInb l fun x =>
        { x with txq := x.txq.filter kx, txPos := if (x.txq.head?.map kx).getD false then x.txPos else 0 }
      let s := s.followLinks
      let gone := s.fab.nbrs.filter fun n => n.medium == 2 && (s.nbrLanes n).isEmpty
      let s := s.each gone fun s n => s.dropNbr n
      let s := if s.rd 0 FAB_INBAND_UP_MASK = 0 then
          s.updMedium 2 fun x =>
            { x with lastSent := [], heard := 0, helloDue := false, routesDue := false }
        else s
      s.treeRecompute

/-- A segment with nothing in it (R443). -/
def emptySegment : Segment := ⟨false, false, false, 0, []⟩

/-- The segment of the next frame: up to 124 bytes of the first waiting message (R443). -/
def State.takeSegment (s : State) (l : Die) : Segment × State :=
  let x := s.inb l
  match x.txq with
  | [] => (emptySegment, s)
  | m :: rest =>
    let data := sub m x.txPos 124
    let fin := m.length ≤ x.txPos + 124
    let seg : Segment := ⟨true, x.txPos == 0, fin, BitVec.ofNat 16 x.txSeq, data⟩
    (seg, (s.cnt l 154).updInb l fun y =>
      { y with txSeq := (y.txSeq + 1) % 65536, txq := if fin then rest else y.txq, txPos := if fin then 0 else y.txPos + 124 })

/-- A segment is lost (R444): the part-built message goes with it. -/
def State.segLost (s : State) (l : Die) : State :=
  ((s.cnt l 153).setBit 0 FAB_INBAND_SEG_LOST l.val true).updInb l fun x => { x with rxPart := none }

/-- A frame's MGMT is discarded under R99 (R444): a segment is lost, and a message being rebuilt with it. -/
def State.segDiscarded (s : State) (l : Die) : State := s.segLost l

/-- Whether a lane's messages are accepted (R445, R446): any while its channel is up, KX always. -/
def State.accepts (s : State) (l : Die) (m : Bytes) : Bool :=
  s.bit 0 FAB_INBAND_UP_MASK l.val || (m.getD 0 0).toNat == 0x14

/-- A complete message: its length and header are checked (R432, R444); a good one is handed on. -/
def State.takeMessage (s : State) (l : Die) (m : Bytes) : State :=
  let ver := (m.getD 0 0).toNat / 16
  let type := (m.getD 0 0).toNat % 16
  let len := ofBe (sub m 2 2)
  if m.length < 8 || m.length != 8 + len then s.jeuriDropped l
  else if ver != 1 || type == 0 || 4 < type || 4088 < len then s.jeuriDropped l
  else if s.accepts l m then s.emit (.inband l m) else s

/-- A segment of a decoded overhead codeword (R443, R444). -/
def State.takeRxSegment (s : State) (l : Die) (g : Segment) : State :=
  if !g.valid then s
  else
    let x := s.inb l
    let gap := match x.rxSeq with
      | some n => g.seq.toNat != (n + 1) % 65536
      | none => false
    let s := if gap || (g.start && x.rxPart.isSome) then s.segLost l else s
    let s := s.updInb l fun y => { y with rxSeq := some g.seq.toNat }
    let part := if g.start then some g.data else ((s.inb l).rxPart).map fun p => p ++ g.data
    match part with
    | none => s
    | some m =>
      if g.fin then (s.updInb l fun y => { y with rxPart := none }).takeMessage l m
      else s.updInb l fun y => { y with rxPart := some m }

/-! ### Commands of the fabric group (R411) -/

def infoNodeSet (node : Nat) : CmdInfo :=
  { code := 0x0901, priv := some .operator, cls := 9, bad := if 1 ≤ node ∧ node ≤ 8190 then none else some 0 }

/-- NODE_SET (R429): the number takes effect at the next HELLO. -/
def execNodeSet (r : Req) (node : Nat) (s : State) : Host.Outcome State Fault Refusal :=
  .next (Slostan.run r (.nodeSet r node) (infoNodeSet node)
    (fun _ _ s => .ok (s.updFab fun f => { f with nodeNext := some node })) s)

def Hop.code : Hop → Nat × Nat
  | .portA => (0, 0)
  | .portB => (1, 0)
  | .link l => (2, l.val)
  | .loc => (3, 0)

/-- The ROUTE TLV (R394). -/
def tlvRoute (node : Nat) (h : Hop) : Tlv := ⟨0x01B1, be 2 (node * 8) ++ be 1 (Hop.code h).1 ++ be 1 (Hop.code h).2⟩

def infoRouteGet : CmdInfo := { code := 0x0902, priv := some .observer, read := true }

/-- ROUTE_GET (R438): the route table. -/
def execRouteGet (r : Req) (s : State) : Host.Outcome State Fault Refusal :=
  .next (Slostan.run r (.routeGet r) infoRouteGet
    (fun _ _ s => .okWith s (s.routeEntries.map fun e => tlvRoute e.node e.hop)) s)

/-- Whether a static route is in range: no LOCAL hop, a node number of R429 (R438). -/
def routeOk (r : Nat × Hop) : Bool := decide (1 ≤ r.1 ∧ r.1 ≤ 8190) && r.2 != .loc

def infoRouteSet (rs : List (Nat × Hop)) : CmdInfo :=
  { code := 0x0903, priv := some .expert, cls := 9,
    dies := rs.flatMap fun x => match x.2 with
      | .link l => [l]
      | _ => []
    bad := firstBad [if rs.isEmpty || 64 < rs.length then some (min 64 rs.length) else none,
      (rs.findIdx? fun x => !routeOk x), rs.findIdx? fun x => 1 < (rs.filter fun y => y.1 == x.1).length] }

/-- ROUTE_SET (R438): the static routes are those of the command. -/
def applyRouteSet (rs : List (Nat × Hop)) (_ : Req) (_ : Session) (s : State) : Res :=
  let keep := s.updFab fun f => { f with statics := [] }
  let room := 1024 - keep.routeEntries.length
  let fits := rs.take room
  let s := s.updFab fun f => { f with statics := fits }
  .ok ((if room < rs.length then s.tableFull else s).treeRecompute)

def execRouteSet (r : Req) (rs : List (Nat × Hop)) (s : State) : Host.Outcome State Fault Refusal :=
  .next (Slostan.run r (.routeSet r rs) (infoRouteSet rs) (applyRouteSet rs) s)

/-- The NEIGHBOUR TLV (R442). -/
def tlvNeighbour (s : State) (n : Nbr) : Tlv :=
  let up := match s.uplink? with
    | some u => u.same n
    | none => false
  let st := if !s.twoWay n then 0 else if s.linkActive n then 1 else 2
  let b (x : Bool) (k : Nat) : Nat := if x then k else 0
  let flags := b n.hello.forwarder 1 + b n.hello.plain 2 + b up 4 + b (s.inConflict n) 8
  ⟨0x01B4, be 1 n.medium ++ be 1 (diesMask (s.nbrLanes n)).toNat ++ be 2 (n.hello.node * 8)
    ++ be 8 n.hello.packageId.toNat ++ be 1 st ++ be 1 flags ++ be 1 n.hello.rootHops ++ be 1 0
    ++ be 4 ((s.time.now - n.lastAt) / msU 1)⟩

def infoNeighbourGet : CmdInfo := { code := 0x0906, priv := some .observer, read := true }

/-- NEIGHBOUR_GET (R442). -/
def execNeighbourGet (r : Req) (s : State) : Host.Outcome State Fault Refusal :=
  .next (Slostan.run r (.neighbourGet r) infoNeighbourGet
    (fun _ _ s => .okWith s ((s.fab.nbrs.take 64).map (tlvNeighbour s))) s)

end Sys2Proof.Machine
end

