-- ==== Sys2Proof/Machine/Converters.lean ====
section
/-! DEFINITION. The monitor converters: sequencer, FIFO, triggers, native and injected conversions, calibration
(R534 to R546, R405, R407). -/

namespace Sys2Proof.Machine

/-! ### Converters -/

def State.conv (s : State) (d : Die) (n : Fin 2) : Conv := (s.die d).ana.convs.get n

def State.updConv (s : State) (d : Die) (n : Fin 2) (g : Conv → Conv) : State :=
  s.updDie d fun x => { x with ana := { x.ana with convs := x.ana.convs.set n.val (g (x.ana.convs.get n)) n.isLt } }

def convOf (n : Nat) : Fin 2 := Fin.ofNat 2 n

/-- The die's other converter. -/
def otherConv (n : Fin 2) : Fin 2 := if n = 0 then 1 else 0

/-- Modulator periods of 97.65625 ns as a time. -/
def modU (n : Nat) : Nat := n * 107374182400000

/-- The decimation ratio of a preset (R536). -/
def presetD : Nat → Nat
  | 0 => 64
  | 1 => 256
  | 2 => 1024
  | _ => 4096

/-- Modulator periods of one conversion (R537): sampling time, then 11 samples. -/
def convPeriods (ts preset : Nat) : Nat := ts + 11 * presetD preset

/-- The longest a calibration lasts (R544). -/
def calSpan : CalKind → Nat
  | .internal => msU 27
  | _ => msU 3

/-- Whether a converter holds an own injected conversion that waits, is delayed or runs. -/
def Conv.ownBusy (x : Conv) : Bool := x.heldOwn || x.ownDelayEnd.isSome || x.act == .own

/-- MADC.Mn_STAT.INJ_PEND (R549). -/
def Conv.injPend (x : Conv) : Bool := x.ownBusy || x.act == .safety

def ConvAct.isCal : ConvAct → Bool
  | .cal _ => true
  | _ => false

def ConvAct.isEntry : ConvAct → Bool
  | .entry _ => true
  | _ => false

/-- MADC.Mn_STAT.BUSY (R549): a scan or a native conversion runs, or waits for an injected one to end. -/
def Conv.busy (x : Conv) : Bool := x.act.isEntry || x.act == .native || x.back.isEntry || x.back == .native

/-- Starts an activity with its duration. -/
def State.convStart (s : State) (d : Die) (n : Fin 2) (a : ConvAct) (span : Nat) : State :=
  s.updConv d n fun x => { x with act := a, endsAt := s.time.now + span }

/-- Starts a conversion with a sampling time, a preset and a gain code; its synchronising reset zeroes the filter (R537). -/
def State.convRun (s : State) (d : Die) (n : Fin 2) (a : ConvAct) (ts preset gain : Nat) : State :=
  (s.convStart d n a (modU (convPeriods ts preset))).updConv d n fun x =>
    { x with preNow := preset, gainNow := gain, cic := .zero }

/-- Starts a regular activity from its sampling time: an entry of the scan or the native conversion (R537). -/
def State.startRegular (s : State) (d : Die) (n : Fin 2) (a : ConvAct) : State :=
  match a with
  | .entry k =>
    s.convRun d n a (s.rd d (MADC_SEQ_TS n.val k)) (s.rd d (MADC_CTRL_PRESET n.val)) (s.rd d (MADC_SEQ_GAIN n.val k))
  | .native => (s.updConv d n fun x => { x with natWait := false }).convRun d n a (s.rd d (MADC_NATIVE_TS n.val))
      (s.conv d n).preset (s.rd d (MADC_NATIVE_GAIN n.val))
  | _ => s.updConv d n fun x => { x with act := .idle }

/-- Starts an injected conversion, with a sampling time of 16 periods (R543). The safety monitor's own use the
preset QUICK. -/
def State.startInjected (s : State) (d : Die) (n : Fin 2) (safety : Bool) : State :=
  if safety then s.convRun d n .safety 16 0 0
  else s.convRun d n .own 16 (s.rd d (MADC_INJ_PRESET n.val)) (s.rd d (MADC_INJ_GAIN n.val))

/-- Whether a delay has ended. -/
def State.delayOver (s : State) : Option Nat → Bool
  | some t => decide (t ≤ s.time.now)
  | none => false

/-- A converter has become free: an own injected conversion that was held runs first, then what it interrupted, then a
native conversion that waits, a scan whose delay is over, a calibration that waits (R538, R541, R543, R545). -/
def State.convFree (s : State) (d : Die) (n : Fin 2) : State :=
  let x := s.conv d n
  if x.heldOwn then (s.updConv d n fun x => { x with heldOwn := false }).startInjected d n false
  else if x.back != .idle then (s.updConv d n fun x => { x with back := .idle }).startRegular d n x.back
  else if x.natWait then s.startRegular d n .native
  else if s.delayOver x.delayEnd then (s.updConv d n fun x => { x with delayEnd := none }).startRegular d n (.entry 0)
  else match x.calWait with
    | some k =>
      if (s.conv d (otherConv n)).act.isCal || x.ownDelayEnd.isSome then s.convStart d n .idle 0
      else (s.updConv d n fun x => { x with calWait := none }).convStart d n (.cal k) (calSpan k)
    | none => s.convStart d n .idle 0

/-- The sample that a conversion gives (R535): limited to 24 bits, OVERRANGE when it was or the modulator overloads. -/
def convSample (overload : Bool) (v : Int) : Sample :=
  let w := max (-8388607) (min 8388607 v)
  ⟨false, overload || v != w, w⟩

/-- One modulator period: the integrators take the modulator's bit, 0 or 1 (R536; PRESUMED, assumption log), modulo 2^40. -/
def Cic.clock (x : Cic) (b : Bool) : Cic :=
  let i1 := x.i1 + (if b then 1 else 0)
  let i2 := x.i2 + i1
  { x with i1 := i1, i2 := i2, i3 := x.i3 + i2 }

/-- One output sample: the combs take the last integrator, and the FIR takes theirs (R536). -/
def Cic.sample (x : Cic) : Cic :=
  let y1 := x.i3 - x.d1
  let y2 := y1 - x.d2
  { x with d1 := x.i3, d2 := y1, d3 := y2, taps := ((y2 - x.d3) :: x.taps).take 8 }

/-- The chain over `n` output samples of ratio `r` (R536, R537). -/
def Cic.run (r : Nat) : Nat → List Bool → Cic → Cic
  | 0, _, x => x
  | n + 1, bits, x => Cic.run r n (bits.drop r) ((bits.take r).foldl Cic.clock x).sample

/-- A number divided and rounded to the nearest integer, halves away from zero, as R657 rounds what R535 writes as round().
R544 writes no round() for OFS and GAIN: rounding them so too is the model's choice (DESIGN CHOICE, assumption log). -/
def roundDiv (a b : Int) : Int := LineFormat.roundAway a b

/-- The calibrated value of a raw sample: OFS counts 16 codes, GAIN 1/32,768 (R544, R549). -/
def State.calibrated (s : State) (d : Die) (n : Fin 2) (gain : Nat) (raw : Int) : Int :=
  roundDiv ((raw - 16 * s.rdInt d (MADC_CAL_OFS n.val gain)) * s.rd d (MADC_CAL_GAIN n.val gain)) 32768

/-- The filter after the bits of one conversion of a preset, and the sample they give; none where the bits are not those of 11
samples. -/
def State.sampleOf (s : State) (d : Die) (n : Fin 2) (preset gain : Nat) (overload : Bool) (bits : List Bool) :
    Option (Cic × Sample) :=
  if bits.length = 11 * presetD preset then
    let x := Cic.run (presetD preset) 11 bits .zero
    some (x, convSample overload (s.calibrated d n gain (Config.compensation preset x.taps)))
  else none

/-- The 11 samples of a conversion (R537). -/
def convSamples (r : Sample) : List Sample := List.replicate 10 ⟨true, false, 0⟩ ++ [r]

/-- The current telemetry interval's mark of an event raised once per interval (R540, R541). -/
def State.oncePerInterval (s : State) (seen : Option Nat) : Bool := seen != some s.time.ivNum

/-- A sample enters the FIFO, the oldest making room (R540). -/
def State.fifoPush (s : State) (d : Die) (n : Fin 2) (v : Sample) : State :=
  let x := s.conv d n
  if x.fifo.length < 256 then s.updConv d n fun x => { x with fifo := x.fifo ++ [v] }
  else
    let t := s.updConv d n fun x => { x with fifo := x.fifo.drop 1 ++ [v], lostIv := some s.time.ivNum }
    let t := (t.wr d (MADC_STAT_FIFO_LOST n.val) 1).cnt d 179
    if s.oncePerInterval x.lostIv then t.raiseLane d evMADC_FIFO_LOST else t

/-! ### Triggers (R541 to R543) -/

/-- A regular trigger reaches a converter (R541): it starts the delay, or counts as an overrun. -/
def State.regTrigger (s : State) (d : Die) (n : Fin 2) : State :=
  let x := s.conv d n
  if !s.domainOn d .ana then s
  else if x.delayEnd.isSome || x.busy || x.natWait || x.act.isCal then
    let t := (s.incSat d (MADC_STAT_REG_OVR n.val) 1).cnt d 177
    let t := t.updConv d n fun x => { x with ovrIv := some s.time.ivNum }
    if s.oncePerInterval x.ovrIv then t.raiseLane d evMADC_OVERRUN else t
  else s.updConv d n fun x => { x with delayEnd := some (s.time.now + modU (s.rd d (MADC_CTRL_DELAY n.val))) }

/-- An own injected conversion starts, or waits for a safety injected conversion or a calibration (R543, R545). -/
def State.ownNow (s : State) (d : Die) (n : Fin 2) : State :=
  let x := s.conv d n
  if x.act == .safety || x.act.isCal then s.updConv d n fun x => { x with heldOwn := true }
  else (s.updConv d n fun y => { y with back := if x.act = .idle then y.back else x.act }).startInjected d n false

/-- The trigger of the own injected conversion (R543, R545). -/
def State.ownTrigger (s : State) (d : Die) (n : Fin 2) : State :=
  let x := s.conv d n
  if !s.domainOn d .ana || !s.flag d (MADC_INJ_EN n.val) then s
  else if x.ownBusy then (s.incSat d (MADC_STAT_INJ_OVR n.val) 1).cnt d 178
  else
    let delay := s.rd d (MADC_INJ_DELAY n.val)
    if x.act.isCal || delay = 0 then s.ownNow d n
    else s.updConv d n fun x => { x with ownDelayEnd := some (s.time.now + modU delay) }

/-- The safety monitor's injected trigger on a converter that does not calibrate (R543). -/
def State.safetyOn (s : State) (d : Die) (n : Fin 2) : State :=
  let x := s.conv d n
  match x.act with
  | .safety => (s.incSat d (MADC_STAT_INJ_OVR n.val) 1).cnt d 178
  | .own => (s.updConv d n fun x => { x with heldOwn := true }).startInjected d n true
  | .idle => s.startInjected d n true
  | a => (s.updConv d n fun x => { x with back := a }).startInjected d n true

/-- The safety monitor's injected trigger: during a calibration it runs on the other converter (R543, R545). -/
def State.safetyTrigger (s : State) (d : Die) (n : Fin 2) : State :=
  if !s.domainOn d .ana then s
  else s.safetyOn d (if (s.conv d n).act.isCal then otherConv n else n)

/-- MADC_INJECTED_TRIGGER (R543). -/
def execMadcInjectedTrigger (d : Die) (n : Fin 2) (safety : Bool) (s : State) : Host.Outcome State Fault Refusal :=
  .next (if !s.pop d then s else if safety then s.safetyTrigger d n else s.ownTrigger d n)

/-- A trigger of a source (R541, R543) reaches a converter: an own injected one first, then the regular one. -/
def State.sourceTrigger (s : State) (src : Nat) (d : Die) (n : Fin 2) : State :=
  let s := if s.rd d (MADC_INJ_SRC n.val) = src && src != 3 then s.ownTrigger d n else s
  if s.rd d (MADC_CTRL_TRIG_SRC n.val) = src then s.regTrigger d n else s

/-- A source that reaches both converters of a die. -/
def State.dieTrigger (s : State) (src : Nat) (d : Die) : State :=
  (s.sourceTrigger src d 0).sourceTrigger src d 1

/-- The common trigger line of the package (R542). -/
def State.lineTrigger (s : State) (src : Nat) : State := s.each s.popDies fun s d => s.dieTrigger src d

/-- Fires the common line once when a COMMAND trigger was set in this interpreter step (R542). -/
def State.fireCommand (s : State) : State :=
  if s.cmdTrigger then State.lineTrigger { s with cmdTrigger := false } 3 else s

/-- DAC_UPDATE (R527, R529, R533): each channel plays its direct code, waveform or queue; then the sine
accumulator advances, and phase events fire the DAC_PHASE trigger. Updates come every 781.25 ns, eight modulator periods. -/
def execDacUpdate (d : Die) (s : State) : Host.Outcome State Fault Refusal :=
  if !(s.pop d && s.domainOn d .ana && periodDue (s.die d).ana.updAt (modU 8) s.time.now) then .next s
  else
    let s := s.updDie d fun x => { x with ana := { x.ana with updAt := some (nextDue x.ana.updAt (modU 8) s.time.now) } }
    let sines := [(1 : Fin 6), 2].filter fun c => s.sineRuns d c && !s.dacBusy d c && (s.dac d c).direct.isNone
    let hits := sines.filter fun c =>
      phaseHit (s.dac d c).lastPhase (s.wavePhase d c) (s.rd d (DACB_EVT_POINT c.val))
    let t := s.each allChs fun s c => s.dacStep d c
    let t := t.each sines fun t c => t.updDac d c fun x => { x with lastPhase := some (s.wavePhase d c) }
    let t := match sines with
      | c :: _ => t.updDie d fun x => { x with ana := { x.ana with
          sineAcc := (x.ana.sineAcc + s.rd d (DACB_RATE c.val)) % 2 ^ 32 } }
      | [] => t
    .next (t.each hits fun t _ => t.dieTrigger 1 d)

/-- MADC_TIMER (R541): PERIOD modulator periods after its last expiry, on its own grid. -/
def execMadcTimer (d : Die) (n : Fin 2) (s : State) : Host.Outcome State Fault Refusal :=
  if s.pop d && s.domainOn d .ana && s.past (s.conv d n).timerAt (modU (s.rd d (MADC_TIMER_PERIOD n.val))) then
    let t := nextDue (some (s.conv d n).timerAt) (modU (s.rd d (MADC_TIMER_PERIOD n.val))) s.time.now
    .next ((s.updConv d n fun x => { x with timerAt := t }).sourceTrigger 0 d n)
  else .next s

/-- MADC_TRIGGER_DELAY_END (R541, R543): a delay ends, and the scan or the own injected conversion starts. A scan
whose delay ends while the converter is not idle starts when it becomes free. -/
def execMadcTriggerDelayEnd (d : Die) (n : Fin 2) (s : State) : Host.Outcome State Fault Refusal :=
  if !(s.pop d && s.domainOn d .ana) then .next s
  else
    let own := s.delayOver (s.conv d n).ownDelayEnd
    let s := if own then (s.updConv d n fun x => { x with ownDelayEnd := none }).ownNow d n else s
    if s.delayOver (s.conv d n).delayEnd && (s.conv d n).act == .idle then
      .next ((s.updConv d n fun x => { x with delayEnd := none }).startRegular d n (.entry 0))
    else .next s

/-- The SYNC_IN trigger of the converters (R541, R542). -/
def State.syncTrigger (s : State) : State := s.lineTrigger 2

/-- SYNC_IN_EDGE (R516, R541, R542): the edge moves the interval boundary and fires the common trigger line. -/
def execSyncInEdge (s : State) : Host.Outcome State Fault Refusal :=
  .next (if s.started && s.sbRuns then s.syncBoundary.syncTrigger else s)

/-! ### Conversions end (R537 to R540) -/

def tlvSamples (l : List Sample) : Tlv :=
  ⟨0x018B, l.flatMap fun v => be 1 ((if v.settling then 1 else 0) + (if v.overrange then 2 else 0)) ++ beInt 3 v.value⟩

/-- The end of a conversion (R537 to R540, R543). A result of the safety monitor reaches it by SAFETY_CONVERSION. -/
def State.convDone (s : State) (d : Die) (n : Fin 2) (v : Sample) : State :=
  let x := s.conv d n
  match x.act with
  | .entry k =>
    let s := s.each (convSamples v) fun s v => s.fifoPush d n v
    if k < s.rd d (MADC_CTRL_SEQ_LEN n.val) then s.startRegular d n (.entry (k + 1)) else s.convFree d n
  | .native => (s.convFree d n).finishPend (.convert d n.val) .ok [tlvSamples (convSamples v)]
  | .own =>
    let s := (s.wr d (MADC_INJ_RES_NEW n.val) 1).wrB d (MADC_INJ_RES_OVERRANGE n.val) v.overrange
    (s.wrInt d (MADC_INJ_RES_VALUE n.val) v.value).convFree d n
  | .safety => s.convFree d n
  | .cal _ | .idle => s

/-- MADC_CONVERSION_DONE (R535 to R537): `bits` is what the modulator gave from the synchronising reset on. -/
def execMadcConversionDone (d : Die) (n : Fin 2) (overload : Bool) (bits : List Bool) (s : State) :
    Host.Outcome State Fault Refusal :=
  if s.pop d && s.domainOn d .ana && decide ((s.conv d n).endsAt ≤ s.time.now) then
    match s.sampleOf d n (s.conv d n).preNow (s.conv d n).gainNow overload bits with
    | some (c, v) => .next ((s.updConv d n fun x => { x with cic := c }).convDone d n v)
    | none => .next s
  else .next s

/-! ### Commands (R405) -/

/-- The named converters' expected time until they are free, in µs rounded up (R364). -/
def State.convWait (s : State) (d : Die) (n : Fin 2) : Nat :=
  let x := s.conv d n
  let rest (a : ConvAct) : Nat := match a with
    | .entry k => ((List.range 16).filter fun i => k < i ∧ i ≤ s.rd d (MADC_CTRL_SEQ_LEN n.val)).map (fun i =>
        modU (convPeriods (s.rd d (MADC_SEQ_TS n.val i)) (s.rd d (MADC_CTRL_PRESET n.val)))) |>.sum
    | _ => 0
  (x.endsAt - s.time.now + rest x.act + rest x.back + (usU 1 - 1)) / usU 1

/-- Whether a command pends on a converter (R364). -/
def State.convPending (s : State) (d : Die) (n : Fin 2) : Bool :=
  s.sl.pend.any fun p => match p.kind with
    | .convert e k => e == d && k == n.val
    | .calibrate ds k => ds.contains d && k == n.val
    | _ => false

def infoMadcConvert (dies : BitVec 8) (conv input : Nat) (preset : Option Nat) : CmdInfo :=
  { code := 0x0610, priv := some .operator, cls := 6, insts := (maskDies dies).map Fin.val, dies := maskDies dies,
    bad := firstBad [if (maskDies dies).length = 1 then none else some 0, numBad conv 2 1, numBad input 16 2,
      preset.bind fun p => numBad p 4 3] }

def applyMadcConvert (dies : BitVec 8) (conv input : Nat) (preset : Option Nat) (_ : Req) (_ : Session)
    (s : State) : Res :=
  let n := convOf conv
  match maskDies dies with
  | d :: _ =>
    if !s.anaOn [d] then .fail .domainOff s
    else if s.sl.pend.any (fun p => p.kind == .convert d n.val) then .fail .busy s
    else
      let x := s.conv d n
      let s := s.wr d (MADC_NATIVE_INPUT n.val) input
      let s := s.updConv d n fun x => { x with preset := preset.getD (s.rd d (MADC_CTRL_PRESET n.val)) }
      if x.busy || x.act.isCal then
        { status := .deferred, delayUs := some (s.convWait d n), pend := some (.convert d n.val)
          state := s.updConv d n fun x => { x with natWait := true } }
      else if x.act = .idle then .pending (.convert d n.val) (s.startRegular d n .native)
      else .pending (.convert d n.val) (s.updConv d n fun x => { x with back := .native })
  | [] => .badParam 0 s

/-- MADC_CONVERT (R538). -/
def execMadcConvert (r : Req) (dies : BitVec 8) (conv input : Nat) (preset : Option Nat) (s : State) :
    Host.Outcome State Fault Refusal :=
  .next (Slostan.run r (.madcConvert r dies conv input preset) (infoMadcConvert dies conv input preset)
    (applyMadcConvert dies conv input preset) s)

/-- Whether a sequencer entry is one of R539's. -/
def seqEntryOk (e : SeqEntry) : Bool := decide (e.input < 16 ∧ e.ts < 256 ∧ e.gain < 5)

def infoMadcSeqSet (dies : BitVec 8) (conv : Nat) (es : List SeqEntry) (preset : Option Nat) : CmdInfo :=
  { code := 0x0611, priv := some .operator, cls := 6, insts := (maskDies dies).map Fin.val, dies := maskDies dies,
    bad := firstBad [maskBad dies 0, numBad conv 2 1,
      if es.isEmpty || 16 < es.length then some (min 18 (es.length + 2)) else none, firstNot seqEntryOk 2 es,
      preset.bind fun p => numBad p 4 (es.length + 2)] }

/-- Writes a sequence from entry `k` on. -/
def State.writeSeq (s : State) (d : Die) (n : Fin 2) : Nat → List SeqEntry → State
  | _, [] => s
  | k, e :: es =>
    let s := (s.wr d (MADC_SEQ_INPUT n.val k) e.input).wr d (MADC_SEQ_GAIN n.val k) e.gain
    State.writeSeq (s.wr d (MADC_SEQ_TS n.val k) e.ts) d n (k + 1) es

def applyMadcSeqSet (dies : BitVec 8) (conv : Nat) (es : List SeqEntry) (preset : Option Nat) (_ : Req)
    (_ : Session) (s : State) : Res :=
  let n := convOf conv
  if !s.anaOn (maskDies dies) then .fail .domainOff s
  else .ok (s.each (maskDies dies) fun s d =>
    let s := (s.writeSeq d n 0 es).wr d (MADC_CTRL_SEQ_LEN n.val) (es.length - 1)
    match preset with
    | some p => s.wr d (MADC_CTRL_PRESET n.val) p
    | none => s)

/-- MADC_SEQ_SET (R539). -/
def execMadcSeqSet (r : Req) (dies : BitVec 8) (conv : Nat) (es : List SeqEntry) (preset : Option Nat) (s : State) :
    Host.Outcome State Fault Refusal :=
  .next (Slostan.run r (.madcSeqSet r dies conv es preset) (infoMadcSeqSet dies conv es preset)
    (applyMadcSeqSet dies conv es preset) s)

def infoMadcTriggerSet (dies : BitVec 8) (conv source delay : Nat) (period : Option Nat) : CmdInfo :=
  { code := 0x0612, priv := some .operator, cls := 6, insts := (maskDies dies).map Fin.val, dies := maskDies dies,
    bad := firstBad [maskBad dies 0, numBad conv 2 1, if source < 4 ∧ delay < 65536 then none else some 2,
      if source = 0 ∧ period.isNone then some 3 else none,
      period.bind fun p => if 64 ≤ p ∧ p < 2 ^ 32 then none else some 3] }

def applyMadcTriggerSet (dies : BitVec 8) (conv source delay : Nat) (period : Option Nat) (_ : Req) (_ : Session)
    (s : State) : Res :=
  let n := convOf conv
  if !s.anaOn (maskDies dies) then .fail .domainOff s
  else
    let s := s.each (maskDies dies) fun s d =>
      let s := (s.wr d (MADC_CTRL_TRIG_SRC n.val) source).wr d (MADC_CTRL_DELAY n.val) delay
      let s := match period with
        | some p => (s.wr d (MADC_TIMER_PERIOD n.val) p).updConv d n fun x => { x with timerAt := s.time.now }
        | none => s
      s
    .ok { s with cmdTrigger := s.cmdTrigger || source == 3 }

/-- MADC_TRIGGER_SET (R541, R542). -/
def execMadcTriggerSet (r : Req) (dies : BitVec 8) (conv source delay : Nat) (period : Option Nat) (s : State) :
    Host.Outcome State Fault Refusal :=
  .next (Slostan.run r (.madcTriggerSet r dies conv source delay period)
    (infoMadcTriggerSet dies conv source delay period) (applyMadcTriggerSet dies conv source delay period) s).fireCommand

def infoMadcCalibrate (dies : BitVec 8) (conv : Nat) : CmdInfo :=
  { code := 0x0613, priv := some .operator, cls := 6, insts := (maskDies dies).map Fin.val, dies := maskDies dies,
    bad := firstBad [maskBad dies 0, numBad conv 2 1] }

/-- Whether a calibration must wait (R407, R545). -/
def State.calMustWait (s : State) (d : Die) (n : Fin 2) : Bool :=
  let x := s.conv d n
  x.injPend || x.busy || (s.conv d (otherConv n)).act.isCal

/-- A calibration starts, or waits (R407, R545). -/
def State.calRequest (s : State) (d : Die) (n : Fin 2) (k : CalKind) : State :=
  let wait := s.calMustWait d n
  let s := s.updConv d n fun x => { x with calFailed := false, calWait := if wait then some k else none }
  if wait then s else s.convStart d n (.cal k) (calSpan k)

def applyMadcCalibrate (dies : BitVec 8) (conv : Nat) (k : CalKind) (_ : Req) (_ : Session) (s : State) : Res :=
  let n := convOf conv
  let ds := maskDies dies
  if !s.anaOn ds then .fail .domainOff s
  else if ds.any fun d => s.convPending d n then .fail .busy s
  else
    let wait := ds.any fun d => s.calMustWait d n
    let us := ds.foldl (fun a d => max a (max (s.convWait d n) (s.convWait d (otherConv n)))) 0
    let t := s.each ds fun s d => s.calRequest d n k
    if wait then { status := .deferred, delayUs := some us, pend := some (.calibrate ds n.val), state := t }
    else .pending (.calibrate ds n.val) t

/-- MADC_CALIBRATE (R407, R544, R545). -/
def execMadcCalibrate (r : Req) (dies : BitVec 8) (conv : Nat) (k : CalKind) (s : State) :
    Host.Outcome State Fault Refusal :=
  .next (Slostan.run r (.madcCalibrate r dies conv k) (infoMadcCalibrate dies conv) (applyMadcCalibrate dies conv k) s)

/-- The code near full scale that INTERNAL calibration measures (R544). -/
def calCode (g : Nat) : Nat := [922, 461, 230, 115, 58].getD g 0

/-- The offset field for a sum of 16 raw samples (R544, R549). -/
def calOfs (sum : Int) : Int := roundDiv sum 256

/-- The gain field for an expected value over a measured difference, given as a sum of 16 (R544, R549). -/
def calGain (expected diff16 : Int) : Option Int :=
  if diff16 ≤ 0 then none else some (roundDiv (expected * 16 * 32768) diff16)

def ofsFits (v : Int) : Bool := decide (-32768 ≤ v ∧ v ≤ 32767)
def gainFits (v : Int) : Bool := decide (0 ≤ v ∧ v ≤ 65535)

/-- The register values that a calibration gives: gain code, offset, gain; none when a result does not fit (R544). -/
def State.calResult (s : State) (d : Die) (n : Fin 2) (k : CalKind) (sums : List (Int × Int)) :
    Option (List (Nat × Int × Int)) :=
  match k with
  | .internal => (List.range 5).mapM fun g => do
      let (lo, hi) ← sums[g]?
      let gain ← calGain (calCode g * 2 ^ g * 8192) (hi - lo)
      if ofsFits (calOfs lo) && gainFits gain then some (g, calOfs lo, gain) else none
  | .sysZero => do
      let (z, _) ← sums[0]?
      let g := s.rd d (MADC_NATIVE_GAIN n.val)
      if ofsFits (calOfs z) then some [(g, calOfs z, s.rd d (MADC_CAL_GAIN n.val g))] else none
  | .sysFull => do
      let (m, _) ← sums[0]?
      let g := s.rd d (MADC_NATIVE_GAIN n.val)
      let ofs := s.rdInt d (MADC_CAL_OFS n.val g)
      let gain ← calGain 7864320 (m - 256 * ofs)
      if gainFits gain then some [(g, ofs, gain)] else none

/-- Saves a converter's calibration fields to MRAM (R544). -/
def State.saveCal (s : State) (d : Die) (n : Fin 2) : State :=
  let keys := (List.range 5).flatMap fun g => [(MADC_CAL_OFS n.val g).key d, (MADC_CAL_GAIN n.val g).key d]
  { s with nv := { s.nv with cal := keys.foldl (fun m k => m.set k (s.regs.get k)) s.nv.cal } }

/-- The calibration values return from MRAM at start and at a wake without bank B6 (R499, R544, R549). -/
def State.loadCal (s : State) (d : Die) : State :=
  let keys := [(0 : Nat), 1].flatMap fun n => (List.range 5).flatMap fun g =>
    [(MADC_CAL_OFS n g).key d, (MADC_CAL_GAIN n g).key d]
  { s with regs := keys.foldl (fun m k => m.set k (s.nv.cal.get k)) s.regs }

/-- The final reply of the MADC_CALIBRATE that a die's converter belongs to, once all its dies are done. -/
def State.endCal (s : State) (d : Die) (n : Fin 2) : State :=
  match s.sl.pend.find? fun p => match p.kind with
    | .calibrate ds k => ds.contains d && k == n.val
    | _ => false with
  | some p => match p.kind with
    | .calibrate ds _ =>
      if ds.any fun e => (s.conv e n).act.isCal || (s.conv e n).calWait.isSome then s
      else s.finishPend p.kind (if ds.any fun e => (s.conv e n).calFailed then .badParam else .ok) []
    | _ => s
  | none => s

/-- MADC_CALIBRATION_DONE (R544, R545): the sums of the 16 raw samples of each measurement, low and high. -/
def execMadcCalibrationDone (d : Die) (n : Fin 2) (sums : List (Int × Int)) (s : State) :
    Host.Outcome State Fault Refusal :=
  match s.pop d && s.domainOn d .ana, (s.conv d n).act with
  | true, .cal k =>
    let t : State := match s.calResult d n k sums with
      | some l => (s.each l fun s e =>
          (s.wrInt d (MADC_CAL_OFS n.val e.1) e.2.1).wrInt d (MADC_CAL_GAIN n.val e.1) e.2.2).saveCal d n
      | none =>
        ((s.wr d (MADC_STAT_CAL_FAIL n.val) 1).updConv d n fun x => { x with calFailed := true }).raiseLane d
          evMADC_CAL_FAIL
    let t := (t.updConv d n fun x => { x with act := .idle }).convFree d n
    let t := if (t.conv d (otherConv n)).calWait.isSome && (t.conv d (otherConv n)).act = .idle
      then t.convFree d (otherConv n) else t
    .next (t.endCal d n)
  | _, _ => .next s

def infoMadcRead (dies : BitVec 8) (conv : Nat) (count : Option Nat) : CmdInfo :=
  { code := 0x0614, priv := some .observer, read := true, dies := maskDies dies,
    bad := firstBad [if (maskDies dies).length = 1 then none else some 0, numBad conv 2 1,
      count.bind fun n => if 1 ≤ n ∧ n ≤ 256 then none else some 2] }

/-- MADC_READ (R405, R540). -/
def execMadcRead (r : Req) (dies : BitVec 8) (conv : Nat) (count : Option Nat) (s : State) :
    Host.Outcome State Fault Refusal :=
  .next (Slostan.run r (.madcRead r dies conv count) (infoMadcRead dies conv count) (fun _ _ s =>
    match maskDies dies with
    | d :: _ =>
      if s.level d .ana = .dead then .fail .domainOff s
      else
        let n := convOf conv
        let k := count.getD 256
        .okWith (s.updConv d n fun x => { x with fifo := x.fifo.drop k }) [tlvSamples ((s.conv d n).fifo.take k)]
    | [] => .badParam 0 s) s)

def infoMadcTestdacSet (dies : BitVec 8) (conv code : Nat) : CmdInfo :=
  { code := 0x0615, priv := some .operator, cls := 6, insts := (maskDies dies).map Fin.val, dies := maskDies dies,
    bad := firstBad [maskBad dies 0, numBad conv 2 1, if code < 1024 ∨ code = 0xFFFF then none else some 2] }

def applyMadcTestdacSet (dies : BitVec 8) (conv code : Nat) (_ : Req) (_ : Session) (s : State) : Res :=
  let n := convOf conv
  if !s.anaOn (maskDies dies) then .fail .domainOff s
  else .ok (s.each (maskDies dies) fun s d =>
    if code = 0xFFFF then s.wr d (MADC_TESTDAC_CONNECT n.val) 0
    else (s.wr d (MADC_TESTDAC_CODE n.val) code).wr d (MADC_TESTDAC_CONNECT n.val) 1)

/-- MADC_TESTDAC_SET (R546). -/
def execMadcTestdacSet (r : Req) (dies : BitVec 8) (conv code : Nat) (s : State) :
    Host.Outcome State Fault Refusal :=
  .next (Slostan.run r (.madcTestdacSet r dies conv code) (infoMadcTestdacSet dies conv code)
    (applyMadcTestdacSet dies conv code) s)

/-! ### Register steps (R540, R543, R549) -/

/-- INJ_START (R543): a write of MADC.Mn_INJ.START triggers when SRC is COMMAND. -/
def execInjStart (r : Req) (d : Die) (n : Fin 2) (s : State) : Host.Outcome State Fault Refusal :=
  .next (Slostan.run r (.injStart r d n) (regInfo d 0x11 (19 + 16 * n.val) true) (fun _ _ s =>
    regGuard d 0x11 true s (.ok (if s.rd d (MADC_INJ_SRC n.val) = 3 then s.ownTrigger d n else s))) s)

/-- A read of MADC.Mn_FIFO removes the oldest sample (R540, R549). -/
def State.readFifo (s : State) (d : Die) (n : Fin 2) : Nat × State :=
  match (s.conv d n).fifo with
  | [] => (0, s)
  | v :: q =>
    (2 ^ 26 + (if v.settling then 2 ^ 25 else 0) + (if v.overrange then 2 ^ 24 else 0) + (v.value % 2 ^ 24).toNat,
      s.updConv d n fun x => { x with fifo := q })

/-- MADC_FIFO_READ (R540). -/
def execMadcFifoRead (r : Req) (d : Die) (n : Fin 2) (s : State) : Host.Outcome State Fault Refusal :=
  .next (Slostan.run r (.madcFifoRead r d n) (regInfo d 0x11 (22 + 16 * n.val) false) (fun _ _ s =>
    regGuard d 0x11 false s (.okWith (s.readFifo d n).2 [tlvData [(s.readFifo d n).1]])) s)

/-- A read of MADC.Mn_INJ_RES clears NEW (R549). -/
def State.readInjRes (s : State) (d : Die) (n : Fin 2) : Nat × State :=
  (s.rd d (MADC_INJ_RES_NEW n.val) * 2 ^ 25 + s.rd d (MADC_INJ_RES_OVERRANGE n.val) * 2 ^ 24
      + s.rd d (MADC_INJ_RES_VALUE n.val),
    s.wr d (MADC_INJ_RES_NEW n.val) 0)

/-- INJ_RES_READ (R549). -/
def execInjResRead (r : Req) (d : Die) (n : Fin 2) (s : State) : Host.Outcome State Fault Refusal :=
  .next (Slostan.run r (.injResRead r d n) (regInfo d 0x11 (20 + 16 * n.val) false) (fun _ _ s =>
    regGuard d 0x11 false s (.okWith (s.readInjRes d n).2 [tlvData [(s.readInjRes d n).1]])) s)

/-- The converters of a die that leaves the states in which they run (R495, R496): what they did is abandoned, and
commands that wait end with DOMAIN_OFF. -/
def State.stopConvs (s : State) (d : Die) : State :=
  s.each [(0 : Fin 2), 1] fun s n =>
    let s := s.updConv d n fun x =>
      { x with act := .idle, back := .idle, delayEnd := none, ownDelayEnd := none, heldOwn := false,
               natWait := false, calWait := none }
    let s := s.finishPend (.convert d n.val) .domainOff []
    match s.sl.pend.find? fun p => match p.kind with
      | .calibrate ds k => ds.contains d && k == n.val
      | _ => false with
    | some p => s.finishPend p.kind .domainOff []
    | none => s

end Sys2Proof.Machine
end

