-- ==== Sys2Proof/Machine/EmissionLimit.lean ====
section
/-! DEFINITION. SF-L: the emission limit, arming, trips and their release, LDIS_N (R551 to R559, R409, R410,
R661). FAULT_N stands in RegAccess.lean. -/

namespace Sys2Proof.Machine

def State.safe (s : State) (d : Die) : SafeDie := (s.die d).safe

def State.updSafe (s : State) (d : Die) (g : SafeDie → SafeDie) : State :=
  s.updDie d fun x => { x with safe := g x.safe }

/-! ### LDIS_N (R552, R558) -/

/-- Whether the die is in a state in which SF-L can be armed (R552). -/
def State.ldisPower (s : State) (d : Die) : Bool :=
  (s.power d == .active || s.power d == .lineIdle || s.power d == .doze)
    && !(s.flag d PWR_STATE_TRANS && 3 ≤ s.rd d PWR_STATE_TARGET)

/-- The arming conditions: the first four of R552. -/
def State.armCond (s : State) (d : Die) : Bool :=
  s.ldisPower d && s.flag d SAFE_LIMIT_VALID && (s.safe d).testedA && (s.safe d).testedB && (s.safe d).below

/-- Whether LDIS_N is to be driven high (R552, R568, R625). -/
def State.ldisWant (s : State) (d : Die) : Bool :=
  s.flag d SAFE_STAT_ARMED && !s.flag d SAFE_STAT_TRIPPED && !s.flag d SAFE_CTRL_FORCE_LDIS && !(s.safe d).underTest
    && s.phase != .shuttingDown && s.phase != .off

/-- Drives LDIS_N as R552 says, and reads the ball back (R558). -/
def State.ldisFollow (s : State) (d : Die) : State :=
  let want := s.ldisWant d
  let was := (s.safe d).ldisHigh
  let s := (s.updSafe d fun x => { x with ldisHigh := want }).wrB d SAFE_STAT_LDIS_PIN (want || (s.safe d).stuck)
  if want = was then s else s.emit (.ldis d want)

/-- Arms SF-L when its conditions hold, disarms it when they fail, and drives LDIS_N; arming ends the hold of CH0 that
began when ANA was powered (R506, R552). -/
def State.armFollow (s : State) (d : Die) : State :=
  let arm := s.armCond d
  ((s.updSafe d fun x => { x with armHold := x.armHold && !arm }).wrB d SAFE_STAT_ARMED arm).ldisFollow d

/-- SF_L_ARMED (R552): every condition holds, and LDIS_N is driven high. -/
def execSfLArmed (d : Die) (s : State) : Host.Outcome State Fault Refusal :=
  .next (if s.pop d && s.armCond d then s.armFollow d else s)

/-- The safety monitor's clear of CH0 lasts while SF-L is tripped or a ball is, or was seen, stuck (R524, R558). -/
def State.safetyClrFollow (s : State) (d : Die) : State :=
  let want := s.flag d SAFE_STAT_TRIPPED || s.flag d SAFE_STAT_LDIS_STUCK || (s.safe d).stuck
  let was := (s.die d).ana.safetyClr
  let s := s.updDie d fun x => { x with ana := { x.ana with safetyClr := want } }
  if want && !was then s.dacClear d 0 else s

/-! ### Trips (R556) -/

/-- A trip latches (R556): the first cause stays, LDIS_N goes low, CH0 is cleared, LASER_TRIP is raised,
during a full self-test at its end (R568). -/
def State.trip (s : State) (d : Die) (cause : Nat) : State :=
  if s.flag d SAFE_STAT_TRIPPED then s
  else
    let s := (s.wr d SAFE_STAT_TRIPPED 1).wr d SAFE_STAT_TRIP_CAUSE cause
    let s := (s.ldisFollow d).safetyClrFollow d
    let s := s.sbPush d 0 2 (.safety true)
    let s := s.cnt d 184
    if (s.safe d).underTest then s.updSafe d fun x => { x with tripHeld := true }
    else s.raise d evLASER_TRIP (evArg d.val cause [])

/-- Whether the safety monitor of a die has its analogue domain (R550). -/
def State.monitorRuns (s : State) (d : Die) : Bool := s.pop d && s.domainOn d .ana

/-- A trip comparator's threshold (R553): the limit, off by a value the spec leaves open within ±(1 % + 2 mV). -/
def tripThreshold (limit : Nat) (d : Die) (cmpB : Bool) : Int :=
  let tol : Int := (limit / 100 + 13981 : Nat)
  limit + max (-tol) (min tol (Config.tripOffset d.val limit cmpB))

/-- EMISSION_TRIP (R553): for 2 µs a comparator's input has not fallen below `level`, in converter codes at gain 1; it trips
where that lies above the threshold, which a valid limit gives. -/
def execEmissionTrip (d : Die) (cmpB : Bool) (level : Int) (s : State) : Host.Outcome State Fault Refusal :=
  .next (if s.monitorRuns d && s.flag d SAFE_LIMIT_VALID && decide (tripThreshold (s.rd d SAFE_LIMIT) d cmpB < level)
    then s.trip d 1 else s)

/-- Two conversions of a pair differ by more than 2 % of full scale (R556). -/
def pairDiffers (a b : Int) : Bool := decide (8388608 < 50 * (a - b).natAbs)

/-- What a safety conversion does to the M0 and M1 pairs (R556): the third disagreeing pair in a row trips. -/
def State.checkPair (s : State) (d : Die) (n : Fin 2) (v : Int) : State :=
  if n = 0 then s.updSafe d fun x => { x with m0 := some v }
  else match (s.safe d).m0 with
    | none => s
    | some a =>
      let bad := pairDiffers a v
      let k := if bad then (s.safe d).disagree + 1 else 0
      let s := s.updSafe d fun x => { x with m0 := none, disagree := k }
      if 3 ≤ k then s.trip d 3 else s

/-- The result of a safety conversion (R554, R556, R575). -/
def State.safetyResult (s : State) (d : Die) (turn n : Fin 2) (w : Int) : State :=
    let s := ((s.wr d SAFE_LAST_VALID 1).wr d SAFE_LAST_CONV n.val).wrInt d SAFE_LAST_VALUE w
    let limit : Int := s.rd d SAFE_LIMIT
    let valid := s.flag d SAFE_LIMIT_VALID
    let s := s.updSafe d fun x =>
      { x with nextConv := otherConv turn, lastConvAt := s.time.now, convAt := some (nextDue x.convAt (msU 1) s.time.now), below := x.below || (valid && decide (w < limit)) }
    let s := s.checkPair d n w
    if valid && decide (limit * 101 < w * 100) then s.trip d 2 else s

/-- SAFETY_CONVERSION (R554): every 1 ms, preset QUICK at gain 1, on M0 and M1 in turn, on the other one while one calibrates
(R545); `bits` is what the modulator gave. -/
def execSafetyConversion (d : Die) (bits : List Bool) (s : State) : Host.Outcome State Fault Refusal :=
  if !(s.monitorRuns d && periodDue (s.safe d).convAt (msU 1) s.time.now) then .next s
  else
    let turn := (s.safe d).nextConv
    let n := if (s.conv d turn).act.isCal then otherConv turn else turn
    match s.sampleOf d n 0 0 false bits with
    | some (_, v) => .next (s.safetyResult d turn n v.value)
    | none => .next s

/-- SAFETY_CONVERSION_MISSING (R556). -/
def execSafetyConversionMissing (d : Die) (s : State) : Host.Outcome State Fault Refusal :=
  .next (if s.monitorRuns d && s.past (s.safe d).lastConvAt (msU 5) then s.trip d 6 else s)

/-- A comparator's test outcome (R552, R555, R575). -/
def State.cmpResult (s : State) (d : Die) (b pass : Bool) : State :=
  if b then (s.wrB d SAFE_STAT_CMPB_OK pass).updSafe d fun x => { x with testedB := x.testedB || pass }
  else (s.wrB d SAFE_STAT_CMPA_OK pass).updSafe d fun x => { x with testedA := x.testedA || pass }

/-- When the next comparator test is due: every 64 ms, and at once until both have passed since ANA was powered (R552, R555). -/
def State.cmpDue (s : State) (d : Die) : Bool :=
  !(s.safe d).testedA || !(s.safe d).testedB || periodDue (s.safe d).cmpAt (msU 64) s.time.now

/-- COMPARATOR_TEST (R555): CMPA and CMPB in turn; whether the comparator tripped 5 % above its threshold, and 5 % below. A failed
test trips. -/
def execComparatorTest (d : Die) (atHigh atLow : Bool) (s : State) : Host.Outcome State Fault Refusal :=
  if !(s.monitorRuns d && s.cmpDue d) then .next s
  else
    let b := (s.safe d).nextCmpB
    let pass := atHigh && !atLow
    let s := (s.cmpResult d b pass).updSafe d fun x =>
      { x with nextCmpB := !b, cmpAt := some (nextDue x.cmpAt (msU 64) s.time.now) }
    .next (if pass then s else s.trip d 4)

/-- SAFE_MON_FAULT (R559). -/
def execSafeMonFault (d : Die) (s : State) : Host.Outcome State Fault Refusal :=
  if s.pop d && s.power d != .off then
    .next (((s.wr d SAFE_STAT_MON_FAULT 1).trip d 5).raiseLane d evSAFE_MON_FAULT)
  else .next s

/-- LDIS_STUCK (R558): the ball, driven low, has read high for 10 µs, or, `high` false, reads low again. -/
def execLdisStuck (d : Die) (high : Bool) (s : State) : Host.Outcome State Fault Refusal :=
  if !s.pop d || s.power d == .off then .next s
  else if high then
    if (s.safe d).ldisHigh || (s.safe d).stuck then .next s
    else
      let s := (s.updSafe d fun x => { x with stuck := true }).wr d SAFE_STAT_LDIS_STUCK 1
      let s := (s.wr d SAFE_STAT_LDIS_PIN 1).safetyClrFollow d
      .next (s.raiseLane d evLDIS_STUCK)
  else
    let s := s.updSafe d fun x => { x with stuck := false }
    .next ((s.wrB d SAFE_STAT_LDIS_PIN (s.safe d).ldisHigh).safetyClrFollow d)

/-! ### Commands (R409) -/

/-- The multiplexer input of an EMISSION_LIMIT (R551). -/
def emissionInput (n : Nat) : Nat := if n = 0xFF then 12 else n

def emissionOk (e : EmissionLimit) : Bool :=
  decide (e.lane < 8 ∧ (e.input = 0xFF ∨ e.input < 12) ∧ 1 ≤ e.code ∧ e.code ≤ 8388607)

def infoSafetyLimitSet (ls : List EmissionLimit) : CmdInfo :=
  { code := 0x0801, priv := some .custodian, cls := 7, sec := true, dies := ls.flatMap fun e => oneDie e.lane,
    bad := firstBad [if ls.isEmpty || 8 < ls.length then some (min 8 ls.length) else none, firstNot emissionOk 0 ls,
      firstRepeat EmissionLimit.lane 0 [] ls] }

/-- The SAFE.LIMIT register follows the safety record (R575). -/
def State.loadLimit (s : State) (d : Die) : State :=
  match s.nv.safety.limits.get d with
  | some (i, v) => ((s.wr d SAFE_LIMIT_VALID 1).wr d SAFE_LIMIT_INPUT i).wr d SAFE_LIMIT v
  | none => s.wr d SAFE_LIMIT_VALID 0

/-- A lane's new limit (R551): stored and in force; an emission known to exceed it trips the lane, and one that
is not known to lie below it has to be converted again before SF-L is armed. -/
def State.setLimit (s : State) (d : Die) (input code : Nat) : State :=
  let same := s.flag d SAFE_LIMIT_VALID && s.rd d SAFE_LIMIT_INPUT == input
  let last := s.rdInt d SAFE_LAST_VALUE
  let known := same && s.flag d SAFE_LAST_VALID
  let s := { s with nv := { s.nv with safety := { s.nv.safety with
    limits := s.nv.safety.limits.set d.val (some (input, code)) d.isLt } } }
  let s := (s.loadLimit d).updSafe d fun x => { x with below := x.below && known && decide (last < code) }
  let s := if s.armCond d then s else s.armFollow d
  if known && decide ((code : Int) < last) && s.monitorRuns d then s.trip d 1 else s

def applySafetyLimitSet (ls : List EmissionLimit) (_ : Req) (_ : Session) (s : State) : Res :=
  if ls.any fun e => (oneDie e.lane).any fun d => s.level d .ctrl == .dead then .fail .domainOff s
  else .ok (s.each ls fun s e => s.each (oneDie e.lane) fun s d => s.setLimit d (emissionInput e.input) e.code.toNat)

/-- SAFETY_LIMIT_SET (R551). -/
def execSafetyLimitSet (r : Req) (ls : List EmissionLimit) (s : State) : Host.Outcome State Fault Refusal :=
  .next (Slostan.run r (.safetyLimitSet r ls) (infoSafetyLimitSet ls) (applySafetyLimitSet ls) s)

/-- The SAFETY_STATUS TLV of a die (R394). -/
def tlvSafetyStatus (s : State) (d : Die) : Tlv :=
  let b (p : Bool) (n : Nat) : Nat := if p then n else 0
  ⟨0x01A1, be 1 d.val ++ be 1 (b (s.flag d SAFE_STAT_TRIPPED) 1 + b (s.flag d CIPH_FLAGS_SF_C) 2
    + b (s.flag d SAFE_STAT_SFD_ALARM) 4 + b (s.flag d SAFE_STAT_LOCKSTEP_SEEN) 8) ++ be 2 0⟩

def infoSafetyStatusGet : CmdInfo := { code := 0x0802, priv := some .observer, read := true }

/-- SAFETY_STATUS_GET (R409). -/
def execSafetyStatusGet (r : Req) (s : State) : Host.Outcome State Fault Refusal :=
  .next (Slostan.run r (.safetyStatusGet r) infoSafetyStatusGet
    (fun _ _ s => .okWith s (s.popDies.map (tlvSafetyStatus s))) s)

def infoSafetyReset (lane : Nat) : CmdInfo :=
  { code := 0x0803, priv := some .custodian, cls := 7, sec := true, dies := oneDie lane, bad := numBad lane 8 0 }

/-- The new test that a release after CMP_TEST or MONITOR runs at once (R557): its outcome. -/
def State.retest (s : State) (d : Die) (pass : Bool) : State :=
  match s.rd d SAFE_STAT_TRIP_CAUSE with
  | 4 =>
    let a := !s.flag d SAFE_STAT_CMPA_OK
    let b := !s.flag d SAFE_STAT_CMPB_OK
    let s := if a then s.cmpResult d false pass else s
    if b then s.cmpResult d true pass else s
  | 5 => if pass then s.wr d SAFE_STAT_MON_FAULT 0 else s
  | _ => s

/-- SAFETY_RESET of a lane (R410, R557). -/
def applySafetyReset (lane : Nat) (pass : Bool) (_ : Req) (_ : Session) (s : State) : Res :=
  match toDie? lane with
  | none => .badParam 0 s
  | some d =>
    if s.level d .ctrl = .dead then .fail .domainOff s
    else if !s.flag d SAFE_STAT_TRIPPED then .ok s
    else if s.flag d SAFE_LIMIT_VALID && s.flag d SAFE_LAST_VALID
        && decide ((s.rd d SAFE_LIMIT : Int) < s.rdInt d SAFE_LAST_VALUE) then
      .fail .busy s
    else
      let s := s.retest d pass
      let cause := s.rd d SAFE_STAT_TRIP_CAUSE
      if (cause = 4 ∨ cause = 5) ∧ !pass then .fail .busy s
      else
        let s := (s.wr d SAFE_STAT_TRIPPED 0).wr d SAFE_STAT_TRIP_CAUSE 0
        let s := s.updSafe d fun x => { x with disagree := 0, m0 := none, lastConvAt := s.time.now }
        .ok (((s.safetyClrFollow d).armFollow d).sbPush d 0 2 (.safety false))

/-- SAFETY_RESET (R410, R557). -/
def execSafetyReset (r : Req) (lane : Nat) (retest : Bool) (s : State) : Host.Outcome State Fault Refusal :=
  .next (Slostan.run r (.safetyReset r lane retest) (infoSafetyReset lane) (applySafetyReset lane retest) s)

/-- A die that enters NAP or a deeper state (R496, R552, R661): LDIS_N low, CH0 at its clear code, SF-L disarmed
until a conversion below the limit. -/
def State.safeSleep (s : State) (d : Die) : State :=
  ((s.updSafe d fun x => { x with below := false, m0 := none }).wr d SAFE_STAT_ARMED 0).ldisFollow d

/-- ANA is newly powered (R506, R552, R661). -/
def State.safePowered (s : State) (d : Die) : State :=
  ((s.dacClear d 0).updSafe d fun x =>
    { x with
      armHold := true, testedA := false, testedB := false, below := false, nextCmpB := false, nextConv := 0
      m0 := none, disagree := 0, lastConvAt := s.time.now, convAt := none, cmpAt := none }).armFollow d

/-- The monitor after a wake from NAP: its converters run again (R552, R661). -/
def State.safeWoken (s : State) (d : Die) : State :=
  (s.updSafe d fun x => { x with lastConvAt := s.time.now, convAt := none }).armFollow d

/-! ### SF-D (R562, R563) -/

/-- An SF-D catch on a lane (R562, R563). -/
def State.sfdCatch (s : State) (l : Die) : State :=
  let s := (s.cnt l 119).raiseLane l evSFD_CATCH
  let recent := (s.safe l).catches.filter fun t => s.time.now < t + secU 1
  let s := s.updSafe l fun x => { x with catches := (recent ++ [s.time.now]).drop ((recent.length + 1) - 3) }
  if 2 ≤ recent.length || s.flag l DEC_POOL_STAT_CHK_FAIL then
    (s.wr l SAFE_STAT_SFD_ALARM 1).raiseLane l evSF_D_ALARM
  else s

end Sys2Proof.Machine
end

