-- ==== Sys2Proof/Machine/Transmitter.lean ====
section
/-! DEFINITION. The line transmitter: banks and swaps, launch delay, spectral mask, adaptation (R109 to R147) and the
commands that set them. Frames are sent in Frames.lean. -/

namespace Sys2Proof.Machine

def State.tx (s : State) (l : Die) : TxLane := (s.die l).tx

def State.updTx (s : State) (l : Die) (g : TxLane → TxLane) : State :=
  s.updDie l fun x => { x with tx := g x.tx }

/-- Notes that a cause which ends now has required a state of a lane within the running frame (R124). -/
def State.holdTx (s : State) (l : Die) (on : Bool) (st : TxState) : State :=
  if on && !(s.tx l).held.contains st then s.updTx l fun x => { x with held := st :: x.held } else s

/-- The state that LTX.CTRL.FORCE requires (R122); 0b00 requires none. -/
def forcedState : Nat → TxState
  | 0 => .live
  | 1 => .withheld
  | 2 => .pilot
  | _ => .mute

/-- LTX.CTRL.FORCE takes a value; what it required until now counts for the running frame (R124). -/
def State.setForce (s : State) (l : Die) (v : Nat) : State :=
  let old := s.rd l LTX_CTRL_FORCE
  (s.holdTx l (old != 0) (if s.profile = .standard then .mute else forcedState old)).wr l LTX_CTRL_FORCE v

/-- Whether every named lane's transmit domain takes commands (R495, R660). -/
def State.txOn (s : State) (ls : List Die) : Bool := ls.all fun l => s.domainOn l .tx

/-- The command row of an expert opcode that names one lane (R417). -/
def laneInfo (code lane : Nat) (rt ns : Bool) (bad : Option Nat) : CmdInfo :=
  { code, priv := some .expert, cls := 5, insts := [lane], dies := oneDie lane, rt, ns,
    bad := firstBad [numBad lane 8 0, bad] }

/-! ### FIR banks and predistortion tables (R111, R116 to R120) -/

/-- The coefficients of a FIR bank. -/
def State.firBank (s : State) (l : Die) (b : Nat) : List Int := (List.range 10).map fun i => s.rdInt l (LTX_FIR b i)

/-- The entries of a predistortion table. -/
def State.pdTable (s : State) (l : Die) (b : Nat) : List Int := (List.range 64).map fun i => s.rdInt l (LTX_PD b i)

/-- A bank written while a restore waits for the lane's next frame stands in what waits too (R608). -/
def State.noteFir (s : State) (l : Die) (b : Nat) : State :=
  let c := s.firBank l b
  s.updTx l fun x => { x with load := x.load.map fun t => t.setFir b c }

/-- As `noteFir`, for a predistortion table. -/
def State.notePd (s : State) (l : Die) (b : Nat) : State :=
  let c := s.pdTable l b
  s.updTx l fun x => { x with load := x.load.map fun t => t.setPd b c }

/-- Writes a FIR bank; taps beyond the list are 0 (R417). -/
def State.setFirBank (s : State) (l : Die) (b : Nat) (c : List Int) : State :=
  (s.each (List.range 10) fun s i => s.wrInt l (LTX_FIR b i) (c.getD i 0)).noteFir l b

/-- Writes a predistortion table; entries beyond the list are 0 (R417). -/
def State.setPdTable (s : State) (l : Die) (b : Nat) (c : List Int) : State :=
  (s.each (List.range 64) fun s i => s.wrInt l (LTX_PD b i) (c.getD i 0)).notePd l b

/-- Notes what a command or a register write leaves in the banks, the tables and the selections (R602). -/
def State.keepTx (s : State) (l : Die) (g : TxLoad → TxLoad) : State := s.updTx l fun x => { x with kept := g x.kept }

/-- Whether every coefficient fits an 8-bit field (R417). -/
def fits8 (c : List Int) : Bool := c.all fun v => decide (-128 ≤ v ∧ v ≤ 127)

def infoTxBankLoad (lane bank : Nat) (c : List Int) : CmdInfo :=
  laneInfo 0x4120 lane true false (firstBad [numBad bank 2 1,
    if c.isEmpty || 10 < c.length || !fits8 c || !LineFormat.firValid c then some 2 else none])

/-- Whether adaptation holds the FIR of a lane (R118); EN has no effect in STANDARD (R335). -/
def State.adaptBusy (s : State) (l : Die) : Bool := s.flag l LTX_ADAPT_CTRL_EN && !s.standard

/-- Writes an inactive FIR bank, or refuses (R116, R118). -/
def State.loadFir (s : State) (l : Die) (bank : Nat) (c : List Int) : Res :=
  if s.adaptBusy l then .fail .busy s
  else if s.rd l LTX_CTRL_FIR_ACTIVE = bank then .fail .bankBusy s
  else .ok ((s.setFirBank l bank c).keepTx l fun t => t.setFir bank c)

/-- Requests a FIR swap (R117, R118). -/
def State.requestFirSwap (s : State) (l : Die) : Res :=
  if s.adaptBusy l || (s.tx l).firSwap.isSome then .fail .busy s
  else
    let act := s.rd l LTX_CTRL_FIR_ACTIVE
    .ok ((s.updTx l fun x => { x with firSwap := some .user }).keepTx l fun t => { t with firAct := 1 - act })

/-- Requests a predistortion swap (R117). -/
def State.requestPdSwap (s : State) (l : Die) : Res :=
  if (s.tx l).pdSwap then .fail .busy s
  else
    let act := s.rd l LTX_CTRL_PD_ACTIVE
    .ok ((s.updTx l fun x => { x with pdSwap := true }).keepTx l fun t => { t with pdAct := 1 - act })

/-- Goes on with a further part of a command when the parts so far gave OK; a refusal leaves the state as it was. -/
def Res.andThen (q : Res) (s : State) (k : State → Res) : Res :=
  if q.status = .ok then
    let p := k q.state
    if p.status = .ok then p else { p with state := s }
  else { q with state := s }

def applyTxBankLoad (lane bank : Nat) (c : List Int) (swap : Bool) (_ : Req) (_ : Session) (s : State) : Res :=
  match toDie? lane with
  | none => .badParam 0 s
  | some l =>
    if !s.txOn [l] then .fail .domainOff s
    else (s.loadFir l bank c).andThen s fun s => if swap then s.requestFirSwap l else .ok s

/-- TX_BANK_LOAD (R111, R116 to R118, R417). -/
def execTxBankLoad (r : Req) (lane bank : Nat) (c : List Int) (swap : Bool) (s : State) :
    Host.Outcome State Fault Refusal :=
  .next (Slostan.run r (.txBankLoad r lane bank c swap) (infoTxBankLoad lane bank c)
    (applyTxBankLoad lane bank c swap) s)

def infoTxPdLoad (lane bank : Nat) (c : List Int) : CmdInfo :=
  laneInfo 0x4122 lane true false (firstBad [numBad bank 2 1,
    if c.isEmpty || 64 < c.length || !fits8 c then some 2 else none])

def applyTxPdLoad (lane bank : Nat) (c : List Int) (swap : Bool) (_ : Req) (_ : Session) (s : State) : Res :=
  match toDie? lane with
  | none => .badParam 0 s
  | some l =>
    if !s.txOn [l] then .fail .domainOff s
    else if s.rd l LTX_CTRL_PD_ACTIVE = bank then .fail .bankBusy s
    else (Res.ok ((s.setPdTable l bank c).keepTx l fun t => t.setPd bank c)).andThen s fun s => if swap then s.requestPdSwap l else .ok s

/-- TX_PD_LOAD (R116 to R118, R417). -/
def execTxPdLoad (r : Req) (lane bank : Nat) (c : List Int) (swap : Bool) (s : State) :
    Host.Outcome State Fault Refusal :=
  .next (Slostan.run r (.txPdLoad r lane bank c swap) (infoTxPdLoad lane bank c) (applyTxPdLoad lane bank c swap) s)

/-- FIR_SWAP (R117, R118). -/
def execFirSwap (r : Req) (l : Die) (s : State) : Host.Outcome State Fault Refusal :=
  .next (Slostan.run r (.firSwap r l) (regInfo l 0x07 0 true)
    (fun _ _ s => regGuard l 0x07 true s (s.requestFirSwap l)) s)

/-- PD_SWAP (R117). -/
def execPdSwap (r : Req) (l : Die) (s : State) : Host.Outcome State Fault Refusal :=
  .next (Slostan.run r (.pdSwap r l) (regInfo l 0x07 0 true)
    (fun _ _ s => regGuard l 0x07 true s (s.requestPdSwap l)) s)

/-- The FIR swap at a frame boundary (R117, R119, R134, R135). -/
def State.doFirSwap (s : State) (l : Die) : State :=
  let act := s.rd l LTX_CTRL_FIR_ACTIVE
  match (s.tx l).firSwap with
  | none => s
  | some k =>
    let s := match k with
      | .adapt c =>
        let s := ((s.setFirBank l (1 - act) c).wr l LTX_ADAPT_STAT_PENDING 0).cnt l 36
        s.updTx l fun x => { x with sinceAdapt := some 0 }
      | .revert | .user => s.updTx l fun x => { x with sinceAdapt := none }
    (s.updTx l fun x => { x with firSwap := none, sinceSwap := some 0 }).wr l LTX_CTRL_FIR_ACTIVE (1 - act)

/-- What a restore left for the lane's next frame takes effect (R608); swaps that waited are for other contents. -/
def State.doTxLoad (s : State) (l : Die) : State :=
  match (s.tx l).load with
  | none => s
  | some t =>
    let s := s.updTx l fun x => { x with load := none, firSwap := none, pdSwap := false, sinceSwap := none, sinceAdapt := none }
    let s := (s.setFirBank l 0 t.fir0).setFirBank l 1 t.fir1
    let s := (s.setPdTable l 0 t.pd0).setPdTable l 1 t.pd1
    ((s.wr l LTX_CTRL_FIR_ACTIVE t.firAct).wr l LTX_CTRL_PD_ACTIVE t.pdAct).wr l LTX_ADAPT_STAT_PENDING 0

/-- The predistortion swap at a frame boundary (R117). -/
def State.doPdSwap (s : State) (l : Die) : State :=
  if (s.tx l).pdSwap then
    (s.updTx l fun x => { x with pdSwap := false }).wr l LTX_CTRL_PD_ACTIVE (1 - s.rd l LTX_CTRL_PD_ACTIVE)
  else s

/-! ### Launch delay (R128 to R130) -/

/-- The target and the current delay in 1/64 symbol. -/
def State.delayTarget (s : State) (l : Die) : Nat := s.rd l LTX_DELAY_INT * 64 + s.rd l LTX_DELAY_FRAC
def State.delayNow (s : State) (l : Die) : Nat := s.rd l LTX_DELAY_NOW_INT * 64 + s.rd l LTX_DELAY_NOW_FRAC

/-- A write of LTX.DELAY: a new target replaces the old one (R129, R130, R141). -/
def State.setDelay (s : State) (l : Die) (w : Word) : State :=
  let v := w.toNat
  let s := (s.wr l LTX_DELAY_INT (v / 2 ^ 16)).wr l LTX_DELAY_SLEW (v / 2 ^ 10)
  let s := (s.wr l LTX_DELAY_MODE (v / 2 ^ 9)).wr l LTX_DELAY_FRAC v
  s.wrB l LTX_DELAY_BUSY (!s.flag l LTX_DELAY_MODE && s.delayTarget l != s.delayNow l)

/-- LAUNCH_DELAY_WRITE (R129, R138). -/
def execLaunchDelayWrite (r : Req) (l : Die) (w : Word) (s : State) : Host.Outcome State Fault Refusal :=
  .next (Slostan.run r (.launchDelayWrite r l w) { regInfo l 0x07 3 true with priv := some .operator }
    (fun _ _ s => regGuard l 0x07 true s (.ok (s.setDelay l w))) s)

/-- One frame's move of the launch delay (R129, R130). -/
def State.stepDelay (s : State) (l : Die) : State :=
  let goal := s.delayTarget l
  let now := s.delayNow l
  let step := 2 ^ s.rd l LTX_DELAY_SLEW
  let new := if s.flag l LTX_DELAY_MODE then goal
    else if now < goal then min goal (now + step) else max goal (now - step)
  let s := (s.wr l LTX_DELAY_NOW_INT (new / 64)).wr l LTX_DELAY_NOW_FRAC new
  s.wrB l LTX_DELAY_BUSY (new != goal)

/-! ### LINE_TX_SET, TX_ADAPT_SET, TX_MASK_SET -/

def infoLineTxSet (lanes : BitVec 8) (force swing shape : Option Nat) (adaptEn : Option Nat) : CmdInfo :=
  { code := 0x0105, priv := some .operator, cls := 5, insts := (maskDies lanes).map Fin.val, dies := maskDies lanes,
    bad := firstBad [maskBad lanes 0, force.bind fun v => numBad v 4 1, swing.bind fun v => numBad v 16 2,
      shape.bind fun v => numBad v 3 3, adaptEn.bind fun v => numBad v 2 5] }

/-- Writes a field when the command carries it. -/
def State.wrOpt (s : State) (d : Die) (f : Fld) : Option Nat → State
  | some v => s.wr d f v
  | none => s

def applyLineTxSet (lanes : BitVec 8) (force swing shape : Option Nat) (delay : Option Word) (adaptEn : Option Nat)
    (_ : Req) (_ : Session) (s : State) : Res :=
  let ls := maskDies lanes
  if !s.txOn ls then .fail .domainOff s
  else .ok (s.each ls fun s l =>
    let s := match force with
      | some v => s.setForce l v
      | none => s
    let s := (s.wrOpt l LTX_DAC_CTRL_SWING swing).wrOpt l LTX_DAC_CTRL_SHAPE shape
    let s := s.wrOpt l LTX_ADAPT_CTRL_EN adaptEn
    match delay with
    | some w => s.setDelay l w
    | none => s)

/-- LINE_TX_SET (R138). -/
def execLineTxSet (r : Req) (lanes : BitVec 8) (force swing shape : Option Nat) (delay : Option Word)
    (adaptEn : Option Nat) (s : State) : Host.Outcome State Fault Refusal :=
  .next (Slostan.run r (.lineTxSet r lanes force swing shape delay adaptEn)
    (infoLineTxSet lanes force swing shape adaptEn) (applyLineTxSet lanes force swing shape delay adaptEn) s)

def infoTxAdaptSet (lane : Nat) (w : Word) : CmdInfo :=
  laneInfo 0x4121 lane false true (if w.toNat / 256 % 256 < 64 then some 1 else none)

/-- LTX.ADAPT_CTRL but for EN (R142). -/
def State.setTxAdapt (s : State) (l : Die) (w : Word) : State :=
  let v := w.toNat
  let s := (s.wr l LTX_ADAPT_CTRL_TAP_MASK (v / 2 ^ 16)).wr l LTX_ADAPT_CTRL_MIN_GAP (v / 2 ^ 8)
  (s.wr l LTX_ADAPT_CTRL_GAIN (v / 2 ^ 6)).wr l LTX_ADAPT_CTRL_MAIN_MIN v

def applyTxAdaptSet (lane : Nat) (w : Word) (_ : Req) (_ : Session) (s : State) : Res :=
  match toDie? lane with
  | none => .badParam 0 s
  | some l => if !s.txOn [l] then .fail .domainOff s else .ok (s.setTxAdapt l w)

/-- TX_ADAPT_SET (R142). -/
def execTxAdaptSet (r : Req) (lane : Nat) (w : Word) (s : State) : Host.Outcome State Fault Refusal :=
  .next (Slostan.run r (.txAdaptSet r lane w) (infoTxAdaptSet lane w) (applyTxAdaptSet lane w) s)

def infoTxMaskSet (lane : Nat) (lims : List Nat) (action : Nat) : CmdInfo :=
  laneInfo 0x4123 lane false false
    (if lims.length = 8 && lims.all (fun v => decide (v < 256)) && decide (action < 3) then none else some 1)

def applyTxMaskSet (lane : Nat) (lims : List Nat) (action : Nat) (_ : Req) (_ : Session) (s : State) : Res :=
  match toDie? lane with
  | none => .badParam 0 s
  | some l =>
    if !s.txOn [l] then .fail .domainOff s
    else .ok ((s.each (List.range 8) fun s b => s.wr l (LTX_MASK_LIM b) (lims.getD b 0)).wr l LTX_MASK_CTRL_ACTION action)

/-- TX_MASK_SET (R133). -/
def execTxMaskSet (r : Req) (lane : Nat) (lims : List Nat) (action : Nat) (s : State) :
    Host.Outcome State Fault Refusal :=
  .next (Slostan.run r (.txMaskSet r lane lims action) (infoTxMaskSet lane lims action)
    (applyTxMaskSet lane lims action) s)

/-! ### Spectral mask (R131 to R133) -/

/-- Adaptation is held for 4,096 frames (R133, R135). -/
def State.holdAdapt (s : State) (l : Die) : State :=
  (s.updTx l fun x => { x with holdLeft := 4096 }).wr l LTX_ADAPT_STAT_HOLD 1

/-- A swap back falls due at the next boundary; an adaptation swap that waits is discarded and counts as rejected
(R119). -/
def State.revertFir (s : State) (l : Die) : State :=
  match (s.tx l).firSwap with
  | some (.adapt _) =>
    ((s.updTx l fun x => { x with firSwap := some .revert }).wr l LTX_ADAPT_STAT_PENDING 0).cnt l 37
  | some _ => s
  | none => s.updTx l fun x => { x with firSwap := some .revert }

/-- The action MUTE (R133): cause MASK becomes active, and every episode that acts so raises TX_MASK_MUTE. -/
def State.maskMute (s : State) (l : Die) : State :=
  (s.updTx l fun x => { x with maskMute := true }).raiseLane l evTX_MASK_MUTE

/-- REL of a band of power `p` in a total of `t` (R132): −40·log10(p / t) rounded and limited to 0 to 255. It is k + 1 or
more when 40·log10(t / p) is k + 1/2 or more, that is when t^80 is at least p^80 times 10^(2k + 1). -/
def relOf (p t : Nat) : Nat := (List.range 255).countP fun k => decide (p ^ 80 * 10 ^ (2 * k + 1) ≤ t ^ 80)

/-- The eight results of a measurement (R132). With no power in any band the spec states no result: free values. -/
def State.maskRels (s : State) (ps : List Nat) : List Nat × State :=
  let ps := (List.range 8).map fun b => ps.getD b 0
  if ps.sum = 0 then
    (List.range 8).foldl (fun a _ => let (v, s) := a.2.fresh; (a.1 ++ [v % 256], s)) ([], s)
  else (ps.map fun p => relOf p ps.sum, s)

/-- The bands in violation (R132). -/
def State.violBands (s : State) (l : Die) (rel : List Nat) : BitVec 8 :=
  diesMask (allDies.filter fun b =>
    s.rd l (LTX_MASK_LIM b.val) != 0 && decide (rel.getD b.val 0 < s.rd l (LTX_MASK_LIM b.val)))

/-- The start of a violation episode (R133). R335 lets banks be swapped by command only in STANDARD, and R133 names no
exception for STANDARD: the model lets a REVERT swap there too (DESIGN CHOICE, assumption log). -/
def State.maskEpisode (s : State) (l : Die) (bands : BitVec 8) : State :=
  let s := ((s.wr l LTX_STAT_MASK_VIOL 1).cnt l 38).raise l evTX_MASK_VIOL (evArg l.val bands.toNat [])
  match s.rd l LTX_MASK_CTRL_ACTION with
  | 1 => ((s.revertFir l).holdAdapt l).updTx l fun x => { x with maskReverted := true }
  | 2 => s.maskMute l
  | _ => s

/-- What a measurement's bands in violation lead to (R133). -/
def State.maskFollow (s : State) (l : Die) (bands : BitVec 8) : State :=
  if bands = 0#8 then
    let clean := (s.tx l).cleanRun + 1
    let clears := (s.tx l).maskMute && decide (2 ≤ clean)
    (s.holdTx l clears .mute).updTx l fun x =>
      { x with violRun := 0, cleanRun := clean, maskReverted := false, maskMute := x.maskMute && !clears }
  else
    let run := (s.tx l).violRun + 1
    let s := s.updTx l fun x => { x with violRun := run, cleanRun := 0 }
    if run = 2 then s.maskEpisode l bands
    else if run = 4 && (s.tx l).maskReverted then s.maskMute l else s

/-- MASK_MEASUREMENT (R131 to R133): the powers estimated in the eight bands over the data block of block group 160 of 64
frames. There is one result every 64 frames. -/
def execMaskMeasurement (l : Die) (powers : List Nat) (s : State) : Host.Outcome State Fault Refusal :=
  if !(s.pop l && s.domainOn l .tx && decide (64 ≤ (s.tx l).maskFrames)) then .next s
  else
    let (rel, s) := (s.updTx l fun x => { x with maskFrames := 0 }).maskRels powers
    let bands := s.violBands l rel
    let s := s.each (List.range 8) fun s b => s.wr l (LTX_MASK_REL b) (rel.getD b 0)
    .next ((s.wr l LTX_MASK_CTRL_VIOL_BANDS bands.toNat).maskFollow l bands)

/-! ### Adaptation from feedback (R134 to R136) -/

/-- A suggested set (R134): a step divided by 2^gain toward zero, on the taps the mask names. -/
def suggested (bank : List Int) (mask gain : Nat) (step : List Int) : List Int :=
  (List.range 10).map fun k =>
    bank.getD k 0 + (if mask.testBit k then (step.getD k 0).tdiv (2 ^ gain) else 0)

/-- The swap back after RX_LOCK 0 within MIN_GAP frames of an adaptation swap (R135). A swap that waits for the same
boundary gives way to it (R117, R119). -/
def State.fbRevert (s : State) (l : Die) (fb : Feedback) : State :=
  match (s.tx l).sinceAdapt with
  | some n =>
    if !fb.rxLock && decide (n ≤ s.rd l LTX_ADAPT_CTRL_MIN_GAP) then
      let s := ((s.revertFir l).updTx l fun x => { x with sinceAdapt := none }).holdAdapt l
      ((s.wr l LTX_STAT_FIR_REVERT 1).cnt l 39).raiseLane l evTX_FIR_REVERT
    else s
  | none => s

/-- An overhead codeword's FEEDBACK drives adaptation (R134 to R136). -/
def State.feedbackAdapt (s : State) (l : Die) (fb : Feedback) : State :=
  let s := if fb.valid && fb.rxLock then
      (s.updTx l fun x => { x with sinceFb := 0 }).wr l LTX_ADAPT_STAT_NO_FEEDBACK 0
    else s
  let s := s.fbRevert l fb
  let x := s.tx l
  let early := match x.sinceSwap with
    | some n => decide (n < s.rd l LTX_ADAPT_CTRL_MIN_GAP)
    | none => false
  if !s.flag l LTX_ADAPT_CTRL_EN || s.flag l LTX_ADAPT_STAT_HOLD || x.firSwap.isSome then s
  else if !fb.valid || !fb.rxLock || fb.firSeq.toNat == s.rd l LTX_ADAPT_STAT_LAST_SEQ || early then s
  else
    let s := s.wr l LTX_ADAPT_STAT_LAST_SEQ fb.firSeq.toNat
    let new := suggested (s.firBank l (s.rd l LTX_CTRL_FIR_ACTIVE)) (s.rd l LTX_ADAPT_CTRL_TAP_MASK)
      (s.rd l LTX_ADAPT_CTRL_GAIN) fb.firStep
    if 63 < (new.map Int.natAbs).foldl (· + ·) 0 || new.getD 3 0 < s.rd l LTX_ADAPT_CTRL_MAIN_MIN then s.cnt l 37
    else (s.updTx l fun x => { x with firSwap := some (.adapt new) }).wr l LTX_ADAPT_STAT_PENDING 1

/-- ADAPT_HOLD_END (R133, R135). -/
def execAdaptHoldEnd (l : Die) (s : State) : Host.Outcome State Fault Refusal :=
  .next (if s.pop l && (s.tx l).holdLeft = 0 then s.wr l LTX_ADAPT_STAT_HOLD 0 else s)

/-- NO_FEEDBACK_TIMEOUT (R136). -/
def execNoFeedbackTimeout (l : Die) (s : State) : Host.Outcome State Fault Refusal :=
  .next (if s.pop l && 1024 ≤ (s.tx l).sinceFb then s.wr l LTX_ADAPT_STAT_NO_FEEDBACK 1 else s)

/-- The per-frame counts of the transmitter (R131, R134 to R136). The spec does not say whose frames the 1,024 without
feedback and the 4,096 of a hold are: the model counts the boundaries of the lane's own running transmitter, so that both
stand still while it does not run (DESIGN CHOICE, assumption log). -/
def State.txFrameCounts (s : State) (l : Die) : State :=
  s.updTx l fun x =>
    { x with
      holdLeft := x.holdLeft - 1
      sinceFb := x.sinceFb + 1
      sinceSwap := x.sinceSwap.map (· + 1)
      sinceAdapt := x.sinceAdapt.map (· + 1)
      maskFrames := x.maskFrames + 1 }

end Sys2Proof.Machine
end

