-- ==== Sys2Proof/Machine/Pool.lean ====
section
/-! DEFINITION. The decoder pool: engines, fences, the syndrome checker, slices, and the delivery of codewords (R221 to
R240). -/

namespace Sys2Proof.Machine

def State.pool (s : State) (l : Die) : PoolSt := (s.die l).pool

/-- Whether frame lock holds; in STANDARD, inner FEC lock (R208, R337). -/
def State.flocked (s : State) (l : Die) : Bool := s.flag l DEC_MARK_STAT_FLOCK

/-! ### Engines in service and the cap (R224) -/

/-- Whether an engine is in service: neither fenced nor permanent. -/
def State.engineOn (s : State) (l : Die) (e : Fin 8) : Bool :=
  !s.bit l DEC_POOL_STAT_FENCED e.val && !s.bit l DEC_POOL_STAT_PERM e.val

/-- The engines in service, lowest first. -/
def State.enginesOn (s : State) (l : Die) : List (Fin 8) := allDies.filter (s.engineOn l)

/-- The cap that the engines in service and POOL_CTRL.CAP give (R224). -/
def State.capDue (s : State) (l : Die) : Nat := min (s.rd l DEC_POOL_CTRL_CAP) (2 * (s.enginesOn l).length)

/-- CAP_EFF takes its due value (R224): a fall that leaves it below CAP is flagged and raised. -/
def State.applyCap (s : State) (l : Die) : State :=
  let old := s.rd l DEC_POOL_STAT_CAP_EFF
  let new := s.capDue l
  let s := s.wr l DEC_POOL_STAT_CAP_EFF new
  if new < old && new < s.rd l DEC_POOL_CTRL_CAP then
    (s.wr l DEC_POOL_STAT_CAP_REDUCED 1).raiseLane l evDEC_CAP_REDUCED
  else s

/-! ### Frames and delivery (R223, R226, R234) -/

/-- The core cycle now, in the package timebase (R214). -/
def State.coreNow (s : State) : Nat := s.coreCycle s.time.now

/-- Package time of a core cycle in nanoseconds, and a span of core cycles in 1/64 ns (R591). -/
def State.cycleNs (s : State) (c : Nat) : Nat := ((s.frameU * c / 8256 : Nat) + s.time.offset).toNat / nsU % 2 ^ 64
def State.cycleOfs (s : State) (a b : Nat) : Nat := (b - a) * s.frameU * 64 / (8256 * nsU) % 2 ^ 32

/-- The core cycle of a codeword's last symbol in a frame that begins at one (R82, R589). -/
def lastSymbolAt (start c : Nat) : Nat := start + LineFormat.symbolPos c 5119 / 160

/-- `n` fresh free values. -/
def State.freshN (s : State) : Nat → List Nat × State
  | 0 => ([], s)
  | n + 1 =>
    let (v, s) := s.fresh
    let (vs, s) := State.freshN s n
    (v :: vs, s)

/-- The frame being received. -/
def State.curFrame? (s : State) (l : Die) : Option RxFrame := (s.pool l).frames.find? fun f => f.idx == (s.pool l).idx

def State.frame? (s : State) (l : Die) (i : Nat) : Option RxFrame := (s.pool l).frames.find? fun f => f.idx == i

def State.updFrame (s : State) (l : Die) (i : Nat) (g : RxFrame → RxFrame) : State :=
  s.updPool l fun p => { p with frames := p.frames.map fun f => if f.idx = i then g f else f }

/-- Whether a frame is known to be withheld: it counts in no measure of the pool (R102, R226). -/
def RxFrame.withheld (f : RxFrame) : Bool :=
  match f.header with
  | some h => h.withheld
  | none => false

/-- Adds to a counter of the pool for a frame (R226). While the frame is being received and its header is not known, it waits:
whether the frame is withheld, and so counts nothing (R102), is not yet known. -/
def State.cntFrame (s : State) (l : Die) (i k n : Nat) : State :=
  match s.frame? l i with
  | none => s.cntN l k n
  | some f =>
    if f.header.isNone && i == (s.pool l).idx then s.updFrame l i fun f => { f with owed := f.owed ++ [(k, n)] }
    else if f.withheld then s
    else s.cntN l k n

/-- What waited for a frame's header is counted, or dropped if the frame is withheld. -/
def State.countOwed (s : State) (l : Die) (i : Nat) : State :=
  match s.frame? l i with
  | none => s
  | some f =>
    let s := s.updFrame l i fun f => { f with owed := [] }
    if f.withheld then s else s.each f.owed fun s e => s.cntN l e.1 e.2

/-- The measures of a frame for FEEDBACK, with its index (R96, R226). -/
def RxFrame.measure (f : RxFrame) : Nat × Nat × Nat × Nat × Nat :=
  if f.withheld then (f.idx, 0, 0, 0, 0)
  else (f.idx, f.corr, (List.range 256).countP fun k => f.failed.getLsbD k, f.iters, f.attempts)

/-- The measures of a frame that has ended follow its last codewords (R96, R226). -/
def State.remeasure (s : State) (l : Die) (i : Nat) : State :=
  match s.frame? l i with
  | none => s
  | some f => s.updPool l fun p => { p with stats := p.stats.map fun m => if m.1 = i then f.measure else m }

/-- A codeword's place in the order of delivery (R223). -/
def CwJob.place (j : CwJob) : Nat := 256 * j.frame + j.cw

/-- The place of the first codeword not delivered yet (R223). -/
def State.nextPlace (s : State) (l : Die) : Nat :=
  match (s.pool l).frames.find? fun f => decide (f.delivered < 256) with
  | some f => 256 * f.idx + f.delivered
  | none => 256 * ((s.pool l).idx + 1)

/-- Whether the reorder buffer of 32 entries takes a result (R223). Its entries are allotted by number: one for each of the 32
places from the next codeword to be delivered on, so that this one always has its entry (DESIGN CHOICE, assumption log). -/
def State.hasRoom (s : State) (l : Die) (j : CwJob) : Bool := decide (j.place < s.nextPlace l + 32)

/-- Codewords done without a gap from codeword `n` on, at most `k`. -/
def doneRun (done : BitVec 256) : Nat → Nat → Nat
  | 0, _ => 0
  | k + 1, n => if done.getLsbD n then doneRun done k (n + 1) + 1 else 0

/-- Delivers the finished codewords of frame `i` that no earlier one of it holds back. -/
def State.deliverFrame (s : State) (l : Die) (i : Nat) : State :=
  match s.frame? l i with
  | none => s
  | some f =>
    let n := doneRun f.done (256 - f.delivered) f.delivered
    let s := s.updFrame l i fun f => { f with delivered := f.delivered + n }
    s.each (List.range n) fun s k =>
      let cw := f.delivered + k
      s.emit (.codeword l cw (!f.failed.getLsbD cw))

/-- Delivers, frame by frame, the finished codewords that no earlier one holds back (R223). -/
def State.deliverFrom (l : Die) : List Nat → State → State
  | [], s => s
  | i :: is, s =>
    let s := s.deliverFrame l i
    if ((s.frame? l i).map RxFrame.delivered).getD 256 < 256 then s else State.deliverFrom l is s

def State.deliverReady (s : State) (l : Die) : State := State.deliverFrom l ((s.pool l).frames.map RxFrame.idx) s

/-- A codeword is done: it takes its place in the order of delivery (R223, R226). -/
def State.markDone (s : State) (l : Die) (j : CwJob) : State :=
  (s.updFrame l j.frame fun f =>
    { f with done := f.done ||| (1#256 <<< j.cw), ends := f.ends.set j.cw (s.coreNow + 1) }).deliverReady l

/-- The engine that a resumed codeword goes back to counts its time from what it had before (R227, R229). -/
def Engine.resume (y : Engine) (now : Nat) : Engine :=
  { y with
    stalled := false
    job := y.saved
    saved := none
    begun := now - y.savedSpan
    savedSpan := 0 }

/-- Engines whose finished result the reorder buffer now takes (R223, R586). -/
def State.unstall (s : State) (l : Die) : State :=
  s.each allDies fun s e =>
    let x := s.engine l e
    match x.stalled, x.job with
    | true, some j =>
      if s.hasRoom l j then
        ((s.charge l e slotSTALLED).updEngine l e fun y => y.resume s.coreNow).markDone l j
      else s
    | _, _ => s

/-- A codeword's final outcome, kept with its frame (R226, R234). -/
def State.noteOutcome (s : State) (l : Die) (j : CwJob) (good : Bool) (corrected : Nat) : State :=
  let s := s.updFrame l j.frame fun f =>
    { f with
        failed := if good then f.failed else f.failed ||| (1#256 <<< j.cw)
        corr := if good then f.corr + corrected else f.corr }
  let s := s.remeasure l j.frame
  if good then (s.cntFrame l j.frame 72 1).cntFrame l j.frame 73 corrected else s.cntFrame l j.frame 74 1

/-- A codeword that no engine holds fails, and is delivered in its turn. Its mark takes no entry of the reorder buffer. -/
def State.failCw (s : State) (l : Die) (j : CwJob) : State := ((s.noteOutcome l j false 0).markDone l j).unstall l

/-! ### Giving codewords to engines (R222, R229) -/

/-- Codewords that the pool's input buffer keeps (R222). -/
def State.buffered (s : State) (l : Die) : Nat :=
  let p := s.pool l
  p.queue.length + p.redo.length
    + (p.engines.toList.map fun x => (if x.job.isSome && !x.stalled then 1 else 0) + (if x.saved.isSome then 1 else 0)).sum

/-- The lowest-numbered free engine in service (R222). -/
def State.freeEngine (s : State) (l : Die) : Option (Fin 8) :=
  (s.enginesOn l).find? fun e => (s.engine l e).job.isNone

/-- An engine begins a codeword; the cap is the one in force then, 12 for a re-decode (R221, R224, R229). -/
def State.startDecode (s : State) (l : Die) (e : Fin 8) (j : CwJob) : State :=
  s.updEngine l e fun x =>
    { x with job := some j, begun := s.coreNow, cap := if j.redo then 12 else s.rd l DEC_POOL_STAT_CAP_EFF }

/-- Gives the waiting codewords, in order, to free engines (R222); with no engine in service every one fails (R224). -/
def State.dispatch : Nat → State → Die → State
  | 0, s, _ => s
  | n + 1, s, l =>
    match (s.pool l).queue with
    | [] => s
    | j :: rest =>
      if (s.enginesOn l).isEmpty then
        State.dispatch n ((s.updPool l fun p => { p with queue := rest }).failCw l j) l
      else match s.freeEngine l with
        | none => s
        | some e =>
          State.dispatch n (((((s.updPool l fun p => { p with queue := rest }).charge l e slotSTARVED)).startDecode l e j).updFrame
            l j.frame fun f => { f with starts := f.starts.set j.cw (s.coreNow + 1) }) l

/-- Starts the re-decodes that wait (R229): on the engine in service that reaches an iteration boundary first, which the
spec's data does not name (a free value); it suspends its own codeword. -/
def State.startRedo (s : State) (l : Die) : State :=
  match (s.pool l).redo with
  | [] => s
  | j :: rest =>
    match (s.enginesOn l).filter fun e => (s.engine l e).saved.isNone && !(s.engine l e).stalled with
    | [] =>
      if (s.enginesOn l).isEmpty then (s.updPool l fun p => { p with redo := rest }).failCw l j else s
    | es =>
      let (v, s) := s.fresh
      let e := es.getD (v % es.length) 0
      let s := s.updPool l fun p => { p with redo := rest }
      let x := s.engine l e
      let cyc := if x.job.isSome then s.uncharged l e else 0
      let s := if x.job.isSome then s else s.charge l e slotSTARVED
      let s := s.updEngine l e fun x =>
        { x with saved := x.job, savedCap := x.cap, savedCyc := x.savedCyc + cyc, savedSpan := s.coreNow - x.begun, since := s.time.now }
      s.startDecode l e { j with redo := true }

/-- Starts waiting re-decodes, then gives out waiting codewords. -/
def State.runPool (s : State) (l : Die) : State := State.dispatch 256 ((List.range 8).foldl (fun s _ => s.startRedo l) s) l

/-! ### Fences (R227 to R233) -/

/-- Causes of a fence (R227). -/
inductive FenceCause where
  | check | memory | watchdog | manual
  deriving DecidableEq, Repr

def FenceCause.code : FenceCause → Nat
  | .check => 0
  | .memory => 1
  | .watchdog => 2
  | .manual => 3

/-- IN_SERVICE follows the fences; with no engine in service the pool is empty (R224). Outside frame lock there is no
frame boundary to wait for, and CAP_EFF follows at once. -/
def State.serviceChanged (s : State) (l : Die) : State :=
  let was := s.rd l DEC_POOL_STAT_IN_SERVICE
  let n := (s.enginesOn l).length
  let s := s.wr l DEC_POOL_STAT_IN_SERVICE n
  let s := if n = 0 && was != 0 then s.raiseLane l evDEC_POOL_EMPTY else s
  if s.flocked l then s else s.applyCap l

/-- The codewords a fenced engine held are decoded again, once each (R229). -/
def State.interrupted (s : State) (l : Die) (js : List CwJob) : State :=
  s.each js fun s j =>
    if j.redo then s.failCw l j
    else
      let s := s.cntFrame l j.frame 76 1
      s.updPool l fun p => { p with redo := p.redo ++ [j] }

/-- Takes an engine in service out of it (R228); what it held waits for its re-decode (R229). A finished result that the
reorder buffer could not take yet is kept and handed on at once, past the buffer's room, since the spec has a re-decode only
for a codeword that is being decoded (DESIGN CHOICE, assumption log). -/
def State.takeOut (s : State) (l : Die) (e : Fin 8) (cause : FenceCause) : State :=
  if !s.engineOn l e then s
  else
    let x := s.engine l e
    let s := s.charge l e (if x.stalled then slotSTALLED else if x.job.isSome then slotWASTED else slotSTARVED)
    let s := s.cntN l slotWASTED x.savedCyc
    let s := s.updEngine l e fun y =>
      { y with job := none, saved := none, savedCyc := 0, savedSpan := 0, stalled := false, slicing := false, clean := 0,
               failed := 0, returning := false, sliceDue := if s.flocked l then none else some s.time.now }
    let s := ((s.setBit l DEC_POOL_STAT_FENCED e.val true).incSat l DEC_FENCE_INFO_FENCE_COUNT 1).cnt l 78
    let s := (s.wr l DEC_FENCE_INFO_LAST_ENG e.val).wr l DEC_FENCE_INFO_LAST_CAUSE cause.code
    let n := (allDies.filter fun k => s.bit l DEC_POOL_STAT_FENCED k.val).length
    let s := s.raise l evDEC_ENGINE_FENCED (evArg l.val n [BitVec.ofNat 8 e.val, BitVec.ofNat 8 cause.code])
    let s := s.serviceChanged l
    let s := if x.stalled then
        match x.job with
        | some j => s.markDone l j
        | none => s
      else s.interrupted l x.job.toList
    s.interrupted l x.saved.toList

/-- Fences engines in service, all of them before any re-decode is given out (R228, R229). -/
def State.fenceAll (s : State) (l : Die) (es : List (Fin 8)) (cause : FenceCause) : State :=
  (s.each es fun s e => s.takeOut l e cause).runPool l

/-- Fences an engine in service (R228). -/
def State.fence (s : State) (l : Die) (e : Fin 8) (cause : FenceCause) : State := s.fenceAll l [e] cause

/-- The checker has failed a test or a second result (R230, R231). -/
def State.checkerFail (s : State) (l : Die) : State :=
  (s.wr l DEC_POOL_STAT_CHK_FAIL 1).raiseLane l evDEC_CHECKER_FAIL

/-- An engine's codeword leaves it with its outcome (R221 to R223, R586). -/
def State.leaveEngine (s : State) (l : Die) (e : Fin 8) (j : CwJob) (good : Bool) (corrected : Nat) : State :=
  let s := s.charge l e (if good then slotRETIRED else slotWASTED)
  let s := s.noteOutcome l j good corrected
  if s.hasRoom l j then
    let x := s.engine l e
    let s := s.cntN l (if good then slotRETIRED else slotWASTED) (if x.saved.isSome then 0 else x.savedCyc)
    let s := s.updEngine l e fun y =>
      { y.resume s.coreNow with cap := y.savedCap, savedCyc := if y.saved.isSome then y.savedCyc else 0 }
    (s.markDone l j).unstall l
  else s.updEngine l e fun y => { y with stalled := true }

/-- The bits of a result that differ from the hard decisions of its soft values (R205, R226). -/
def correctedBits (soft : List Int) (result : Codeword) : Nat :=
  ((LineFormat.bitsOfBlocks result).zip soft).countP fun p => p.1 != decide (p.2 < 0)

/-- A result is kept with its frame (R214, R223). -/
def State.keepWord (s : State) (l : Die) (j : CwJob) (c : Codeword) : State :=
  s.updFrame l j.frame fun f => { f with words := (j.cw, c) :: f.words.filter fun e => e.1 != j.cw }

/-- What an attempt of `n` iterations adds to its frame's measures (R226, R591). -/
def State.noteAttempt (s : State) (l : Die) (j : CwJob) (n : Nat) : State :=
  ((s.cntFrame l j.frame 75 n).updFrame l j.frame fun f =>
    { f with
      iters := f.iters + n
      attempts := f.attempts + 1
      its := f.its.set j.cw (f.its.get j.cw + n)
      redone := if j.redo then f.redone ||| (1#256 <<< j.cw) else f.redone }).remeasure l j.frame

/-- Whether an engine can have ended so (R221, R229): after at least one iteration and no more than its cap, and without
convergence at the cap only. -/
def Engine.mayEnd (x : Engine) (converged : Bool) (n : Nat) : Bool :=
  decide (1 ≤ n ∧ n ≤ x.cap) && (converged || n == x.cap)

/-- In STANDARD a lane's dedicated decoder ends an inner codeword, which is corrected or not (R339, R578). -/
def State.innerDone (s : State) (l : Die) (good : Bool) (corrected : Nat) : State :=
  if !(s.pop l && s.domainOn l .rx && s.flocked l) then s
  else if good then (s.cnt l 72).cntN l 73 corrected
  else s.cnt l 74

/-- DECODE_DONE (R221, R223, R227 to R231): an engine converges or reaches its cap, with these 40 blocks as its hard
decisions; the checker recomputes the checks of a result reported as converged. `checkerBad` is a checker that is faulty and
gives the wrong verdict. In STANDARD it is an inner codeword of the lane that ends, and `iterations` are its corrected bits (R339;
DESIGN CHOICE, assumption log). -/
def execDecodeDone (l : Die) (e : Fin 8) (converged : Bool) (iterations : Nat) (result : Codeword) (checkerBad : Bool)
    (s : State) : Host.Outcome State Fault Refusal :=
  let x := s.engine l e
  if s.standard then .next (s.innerDone l converged iterations)
  else match s.pop l && s.engineOn l e && !x.stalled && x.mayEnd converged iterations, x.job with
  | true, some j =>
    let (bad, s) := s.takeInject l 1 0
    let s := s.noteAttempt l j iterations
    if !converged || bad then .next ((s.leaveEngine l e j false 0).runPool l)
    else if (LineFormat.isCodeword result != checkerBad) || s.flag l DEC_POOL_STAT_CHK_FAIL then
      .next (((s.keepWord l j result).leaveEngine l e j true (correctedBits j.soft result)).runPool l)
    else if j.redo then .next (((s.checkerFail l).leaveEngine l e j false 0).runPool l)
    else .next (s.fence l e .check)
  | _, _ => .next s

/-- Whether an engine has had its codeword for longer than R227 allows. -/
def State.engineOverdue (s : State) (l : Die) (e : Fin 8) : Bool :=
  let x := s.engine l e
  x.job.isSome && !x.stalled && decide (x.begun + 16 * x.cap + 32 < s.coreNow)

/-- ENGINE_WATCHDOG (R227): an engine has not finished its codeword within 16 × CAP_EFF + 32 core cycles. -/
def execEngineWatchdog (l : Die) (e : Fin 8) (s : State) : Host.Outcome State Fault Refusal :=
  .next (if s.pop l && s.engineOverdue l e then s.fence l e .watchdog else s)

/-- The 16 codewords of a group enter the queue with their soft values, those of codeword k first in `softs`; one that finds
the buffer of 64 full fails as an overrun (R222). -/
def State.queueGroup (s : State) (l : Die) (group : Nat) (softs : List (List Int)) : State :=
  let s := s.each (List.range 16) fun s k =>
    let j : CwJob := ⟨(s.pool l).idx, group * 16 + k, false, softs.getD k []⟩
    let s := s.updFrame l j.frame fun f => { f with queued := f.queued ||| (1#256 <<< j.cw) }
    if 64 ≤ s.buffered l then (s.cntFrame l j.frame 77 1).failCw l j
    else s.updPool l fun p => { p with queue := p.queue ++ [j] }
  s.runPool l

/-- CHECKER_SELF_TEST (R231): the verdicts on the stored correct and the stored corrupted codeword. -/
def execCheckerSelfTest (l : Die) (acceptsGood acceptsBad : Bool) (s : State) : Host.Outcome State Fault Refusal :=
  .next (if s.pop l && (!acceptsGood || acceptsBad) then s.checkerFail l else s)

/-- Whether an engine's next slice may start (R232, R233): fenced, not permanent, not held by its MAN_FENCE bit, at the first
frame boundary after the fence and then every 64 frames. -/
def State.sliceDue (s : State) (l : Die) (e : Fin 8) : Bool :=
  s.bit l DEC_POOL_STAT_FENCED e.val && !s.bit l DEC_POOL_STAT_PERM e.val && !s.bit l DEC_POOL_CTRL_MAN_FENCE e.val
    && !(s.engine l e).returning && !(s.engine l e).slicing
    && match (s.engine l e).sliceDue with
       | some t => decide (t ≤ s.time.now)
       | none => false

/-- ENGINE_SLICE_START (R232, R233): a slice starts on a fenced engine that gets slices. -/
def execEngineSliceStart (l : Die) (e : Fin 8) (s : State) : Host.Outcome State Fault Refusal :=
  .next (if s.pop l && s.sliceDue l e then
    s.updEngine l e fun x => { x with slicing := true, sliceDue := some (s.time.now + 64 * s.frameU) }
  else s)

/-- Counts a slice passed or failed (R571, R576, R578). -/
def State.countSlice (s : State) (d : Die) (pass : Bool) : State :=
  if pass then (s.cnt d 182).incSat d BIST_SLICE_PASSED 1 else (s.cnt d 183).incSat d BIST_SLICE_FAILED 1

/-- An engine returns to service (R232). -/
def State.unfence (s : State) (l : Die) (e : Fin 8) : State :=
  let s := s.charge l e slotSTARVED
  let s := (s.setBit l DEC_POOL_STAT_FENCED e.val false).updEngine l e fun x =>
    { x with returning := false, clean := 0, failed := 0, slicing := false }
  ((s.raise l evDEC_ENGINE_UNFENCED (evArg l.val 0xFF [])).serviceChanged l).runPool l

/-- ENGINE_SLICE_DONE (R232): three clean passes return the engine at the next frame boundary, sixteen failed ones make
it permanent. -/
def execEngineSliceDone (l : Die) (e : Fin 8) (pass : Bool) (s : State) : Host.Outcome State Fault Refusal :=
  if !(s.pop l && (s.engine l e).slicing) then .next s
  else
    let s := (s.countSlice l pass).updEngine l e fun x =>
      { x with slicing := false, clean := if pass then x.clean + 1 else 0, failed := if pass then 0 else x.failed + 1 }
    let x := s.engine l e
    if 3 ≤ x.clean then
      if s.flocked l then .next (s.updEngine l e fun x => { x with returning := true }) else .next (s.unfence l e)
    else if 16 ≤ x.failed then
      let s := (s.setBit l DEC_POOL_STAT_PERM e.val true).updDie l fun d =>
        { d with units := { d.units with perm := d.units.perm ||| (1#8 <<< e.val) } }
      .next (s.raise l evDEC_ENGINE_PERMANENT (evArg l.val 0xFF []))
    else .next s

/-! ### Frame boundaries (R209, R224, R226, R232) -/

/-- The cleartext policy; an N part behaves as CLEAR (R303). -/
def State.policyCode (s : State) (d : Die) : Nat := if Part.cipher s.part then s.rd d CIPH_CFG_POLICY else 2

/-- A new frame of the lane, which begins at a core cycle; RX_PRECODE and the cleartext policy act on it as they stand then (R87,
R304). -/
def newFrame (i arrival : Nat) (precode : Bool) (policy : Nat) : RxFrame :=
  { idx := i, header := none, own := false, ohSeen := false, tag := 0, crc := 0, laneBad := false, seqBad := false, arrival,
    done := 0, failed := 0, queued := 0, owed := [], rebuilt := 0, delivered := 0, corr := 0, iters := 0, attempts := 0, redone := 0,
    its := [], words := [], precode, policy, seqExt := 0, starts := [], ends := [] }

/-- Codewords of a frame that have failed without having been queued are done. -/
def State.failRest (s : State) (l : Die) (i : Nat) : State :=
  match s.frame? l i with
  | none => s
  | some f =>
    let rest := (List.range 256).filter fun c => !f.queued.getLsbD c
    s.each rest fun s c =>
      (s.updFrame l i fun f => { f with queued := f.queued ||| (1#256 <<< c) }).failCw l ⟨i, c, false, []⟩

/-- What falls due for the engines at a frame boundary: they return, CAP_EFF changes, slices of engines fenced since fall due
(R224, R232). -/
def State.poolService (s : State) (l : Die) : State :=
  let s := s.each (allDies.filter fun e => (s.engine l e).returning) fun s e => s.unfence l e
  let s := s.applyCap l
  s.each allDies fun s e =>
    if (s.engine l e).sliceDue.isNone then s.updEngine l e fun x => { x with sliceDue := some s.time.now } else s

/-- What falls due in the pool at a frame boundary: the last frame is measured, codewords of it that never came fail, the engines
are seen to, the next frame begins with the stamp of its symbol 0 (R87, R214, R226). The delay line keeps the last four frames. In
STANDARD the pool carries no frames (R339). -/
def State.poolBoundary (s : State) (l : Die) : State :=
  if s.standard then (s.poolService l).updPool l fun p => { p with lastTags := s.tel.tagNext }
  else
  let i := (s.pool l).idx
  let s := (s.failRest l i).countOwed l i
  let m := ((s.curFrame? l).map RxFrame.measure).toList
  let s := s.updPool l fun p => { p with stats := (m ++ p.stats).take 64, lastTags := s.tel.tagNext }
  (s.poolService l).updPool l fun p =>
    { p with
      idx := p.idx + 1
      frames := (p.frames ++ [newFrame (p.idx + 1) s.coreNow (s.flag l LFR_CFG_RX_PRECODE) (s.policyCode l)]).drop (p.frames.length + 1 - 4) }

/-- Frame lock: the locking frame begins, with no header known (R208, R212). -/
def State.poolLock (s : State) (l : Die) : State :=
  (s.updPool l fun p => { p with header := none }).poolBoundary l

/-- The pool of a lane lets go of everything it holds. -/
def State.clearPool (s : State) (l : Die) : State :=
  let s := s.each allDies fun s e =>
    let x := s.engine l e
    ((s.charge l e (if x.stalled then slotSTALLED else if x.job.isSome then slotWASTED else slotSTARVED)).cntN l slotWASTED
      x.savedCyc).updEngine l e fun y => { y with job := none, saved := none, savedCyc := 0, savedSpan := 0, stalled := false }
  s.updPool l fun p => { p with queue := [], redo := [], frames := [], header := none }

/-- Loss of frame lock (R211): every codeword of the frame in which it is lost fails; those of earlier frames are decoded
normally. -/
def State.poolLost (s : State) (l : Die) : State :=
  let p := s.pool l
  let mine (j : CwJob) : Bool := j.frame == p.idx
  let s := s.each allDies fun s e =>
    let x := s.engine l e
    let s := if x.job.any mine then
        (s.charge l e (if x.stalled then slotSTALLED else slotWASTED)).updEngine l e fun y =>
          { y.resume s.coreNow with cap := y.savedCap }
      else s
    s.updEngine l e fun y =>
      if y.saved.any mine then { y with saved := none, savedCyc := 0, savedSpan := 0 }
      else if y.job.any mine then { y with job := none }
      else y
  let s := s.updPool l fun p =>
    { p with queue := p.queue.filter fun j => !mine j, redo := p.redo.filter fun j => !mine j, header := none }
  let left := (List.range 256).filter fun c => !((s.curFrame? l).map fun f => f.done.getLsbD c).getD true
  let s := s.each left fun s c => s.failCw l ⟨p.idx, c, false, []⟩
  let s := s.updFrame l p.idx fun f =>
    { f with failed := BitVec.allOnes 256, queued := BitVec.allOnes 256, header := none, own := false }
  (s.remeasure l p.idx).runPool l

/-! ### DEC_POOL_SET and MAN_FENCE (R233, R238) -/

/-- Whether a MAN_FENCE value is refused (R233): it sets bits and would leave no engine in service. -/
def State.manRefused (s : State) (l : Die) (m : BitVec 8) : Bool :=
  (allDies.any fun e => m.getLsbD e.val && !s.bit l DEC_POOL_CTRL_MAN_FENCE e.val)
    && !(allDies.any fun e => s.engineOn l e && !m.getLsbD e.val)

/-- A MAN_FENCE value takes effect (R227, R233). -/
def State.setManFence (s : State) (l : Die) (m : BitVec 8) : State :=
  let new := allDies.filter fun e => m.getLsbD e.val && !s.bit l DEC_POOL_CTRL_MAN_FENCE e.val
  let s := s.wr l DEC_POOL_CTRL_MAN_FENCE m.toNat
  let on := new.filter (s.engineOn l)
  let s := s.each (new.filter fun e => !s.engineOn l e) fun s e =>
    s.updEngine l e fun x => { x with slicing := false, returning := false }
  s.fenceAll l on .manual

/-- DEC.POOL_CTRL takes a CAP and a MAN_FENCE value (R224, R233, R238). -/
def State.setPoolCtrl (s : State) (l : Die) (cap : Option Nat) (m : BitVec 8) (bad : Nat) : Res :=
  if (match cap with
    | some c => c < 2 || 16 < c
    | none => false) || s.manRefused l m then .badParam bad s
  else
    let s := (s.wrOpt l DEC_POOL_CTRL_CAP cap).setManFence l m
    .ok (if s.flocked l then s else s.applyCap l)

def infoDecPoolSet (lane cap manFence : Nat) : CmdInfo :=
  laneInfo 0x4140 lane false false
    (if (cap = 0xFF || (2 ≤ cap && cap ≤ 16)) && manFence < 256 then none else some 1)

/-- Whether every named lane's receive domain takes commands (R495, R660). -/
def State.rxOn (s : State) (ls : List Die) : Bool := ls.all fun l => s.domainOn l .rx

def applyDecPoolSet (lane cap manFence : Nat) (_ : Req) (_ : Session) (s : State) : Res :=
  match toDie? lane with
  | none => .badParam 0 s
  | some l =>
    if !s.rxOn [l] then .fail .domainOff s
    else s.setPoolCtrl l (if cap = 0xFF then none else some cap) (BitVec.ofNat 8 manFence) 1

/-- DEC_POOL_SET (R233, R238). -/
def execDecPoolSet (r : Req) (lane cap manFence : Nat) (s : State) : Host.Outcome State Fault Refusal :=
  .next (Slostan.run r (.decPoolSet r lane cap manFence) (infoDecPoolSet lane cap manFence)
    (applyDecPoolSet lane cap manFence) s)

/-- MAN_FENCE_WRITE (R233, R238): a register write of DEC.POOL_CTRL.MAN_FENCE. -/
def execManFenceWrite (r : Req) (l : Die) (m : BitVec 8) (s : State) : Host.Outcome State Fault Refusal :=
  .next (Slostan.run r (.manFenceWrite r l m) (regInfo l 0x0A 2 true)
    (fun _ _ s => regGuard l 0x0A true s (s.setPoolCtrl l none m 1)) s)

end Sys2Proof.Machine
end

