-- ==== Sys2Proof/Machine/Protect.lean ====
section
/-! DEFINITION. Roles of the lanes in ASSURED, the topping trees in the fabric, and protection (R244 to R246, R252, R253,
R266). -/

namespace Sys2Proof.Machine

def State.assured (s : State) : Bool := s.profile == .assured

/-- The topping lane (R244): the highest-numbered populated lane. -/
def State.topLane (s : State) : Die := Fin.ofNat 8 (Part.dies s.part - 1)

/-- Whether a lane is the topping lane now. -/
def State.isTop (s : State) (l : Die) : Bool := s.assured && l == s.topLane

/-- The data lanes of ASSURED (R244). -/
def State.dataLanes (s : State) : List Die := s.popDies.filter fun l => l != s.topLane

/-- The owner of the ASSURED group (R213): its lowest healthy die. -/
def State.assuredOwner (s : State) : Die := ((s.popDies.find? s.healthy)).getD 0

def State.dsk (s : State) (l : Die) : DskSt := (s.die l).dsk
def State.updDsk (s : State) (l : Die) (g : DskSt → DskSt) : State := s.updDie l fun x => { x with dsk := g x.dsk }
def State.top (s : State) (l : Die) : TopSt := (s.die l).top
def State.updTop (s : State) (l : Die) (g : TopSt → TopSt) : State := s.updDie l fun x => { x with top := g x.top }

/-! ### Trees (R252, R253) -/

/-- Dies the trees join: healthy, in the fabric. -/
def State.inTree (s : State) (d : Die) : Bool := s.pop d && s.healthy d && !(s.die d).safe.underTest

/-- The neighbours of a die over links that are up, by rising port number. -/
def State.neighbours (s : State) (d : Die) : List Die :=
  [0, 1, 2].filterMap fun k => if s.linkUp d k then (s.peer d k).filter s.inTree else none

/-- The dies and links that the trees in force join (R252, R253): as they stood when the trees last changed. -/
def State.treeLinks (s : State) (d : Die) : List Die :=
  ((s.topPkg.links.find? fun e => e.1 == d).map Prod.snd).getD []
def State.treeHas (s : State) (d : Die) : Bool := s.topPkg.links.any fun e => e.1 == d

/-- Distances to a root after `n` rounds: the dies known so far with their hops. -/
def State.reach (s : State) : Nat → List (Die × Nat) → List (Die × Nat)
  | 0, m => m
  | n + 1, m =>
    let new := (s.popDies.filter s.treeHas).filterMap fun d =>
      if m.any fun e => e.1 == d then none
      else ((m.filter fun e => (s.treeLinks d).contains e.1).map Prod.snd).min?.map fun h => (d, h + 1)
    State.reach s n (m ++ new)

/-- Hops from a die to a root through healthy dies; none where no path leads. -/
def State.hopsTo (s : State) (r d : Die) : Option Nat :=
  if s.treeHas r then ((s.reach 7 [(r, 0)]).find? fun e => e.1 == d).map Prod.snd else none

/-- The die to which a die sends in the tree of a root (R252): of the neighbours nearest to the root, the one across the
highest-numbered port. -/
def State.parent (s : State) (r d : Die) : Option Die :=
  match s.hopsTo r d with
  | some (n + 1) => ((s.treeLinks d).filter fun e => s.hopsTo r e == some n).getLast?
  | _ => none

/-- The xor of two bit strings; an empty one stands for zeros. -/
def xorBits : List Bool → List Bool → List Bool
  | [], b => b
  | a, [] => a
  | x :: a, y :: b => (x ^^ y) :: xorBits a b

/-- Whether what a die sends to its parent in the tree of a root arrives there now (R252, R253): both dies and their link are
there. -/
def State.linkLive (s : State) (a b : Die) : Bool := s.inTree a && (s.neighbours a).contains b

/-- Whether a die's contribution reaches a root, at most `n` hops away (R252, R253). -/
def State.comesTo (s : State) (root : Die) : Nat → Die → Bool
  | 0, d => d == root && s.inTree d
  | n + 1, d => (d == root && s.inTree d) || match s.parent root d with
    | some e => s.linkLive d e && s.comesTo root n e
    | none => false

/-- What a die sends on in the tree of a root (R252): its own codeword xor what its children in the tree send to it. -/
def State.treeSum (s : State) (root : Die) (own : Die → List Bool) : Nat → Die → List Bool
  | 0, d => own d
  | n + 1, d =>
    (allDies.filter fun e => s.parent root e == some d && s.linkLive e d).foldl
      (fun a e => xorBits a (s.treeSum root own n e)) (own d)

/-- The trees follow the dies and links that are there, and TOP.CFG of every die shows them (R244, R253, R266, R267). -/
def State.showTrees (s : State) : State :=
  let s := { s with topPkg := { s.topPkg with links := (s.popDies.filter s.inTree).map fun d => (d, s.neighbours d) } }
  s.each s.popDies fun s d =>
    if !s.assured then
      ((((s.wr d TOP_CFG_GROUP_MASK 0).wr d TOP_CFG_ROLE 0).wr d TOP_CFG_TOP_LANE 0).wr d TOP_CFG_PARENT_VALID 0).wr d
        TOP_CFG_TX_PARENT 0
    else
      let s := ((s.wr d TOP_CFG_GROUP_MASK (diesMask s.popDies).toNat).wr d TOP_CFG_ROLE (if d = s.topLane then 2 else 1)).wr d
        TOP_CFG_TOP_LANE s.topLane.val
      match s.parent s.topLane d with
      | some e => (s.wr d TOP_CFG_PARENT_VALID 1).wr d TOP_CFG_TX_PARENT e.val
      | none => (s.wr d TOP_CFG_PARENT_VALID 0).wr d TOP_CFG_TX_PARENT 0

/-! ### Protection (R245, R246) -/

/-- Whether a lane's header is refused while HDR_VERSION or PROFILE_MISMATCH lasts (R100). -/
def State.refused (s : State) (l : Die) : Bool := (s.die l).ciph.condHdr || (s.die l).ciph.condProfile

/-- Whether a lane is out of the group for R246: not frame-locked, its header refused, or excluded. -/
def State.laneOut (s : State) (l : Die) : Bool :=
  !s.flocked l || s.refused l || s.flag l DEC_DSK_STAT_EXCLUDED

/-- The contributing set in use (R256), as the lowest healthy die shows it. -/
def State.inclMask (s : State) : BitVec 8 := BitVec.ofNat 8 (s.rd s.assuredOwner TOP_STAT_INCL_MASK)

/-- Whether no protection against a further loss is there (R246). -/
def State.unprotected (s : State) : Bool :=
  s.assured && (!s.healthy s.topLane || s.popDies.any s.laneOut || s.dataLanes.any (fun l => !s.inclMask.getLsbD l.val)
    || s.popDies.any fun d => !s.flag d TOP_CTRL_RX_EN)

/-- UNPROT rises at once (R246); TOP_UNPROTECTED is raised once for the part, under the owner's index. -/
def State.unprotRise (s : State) : State :=
  if s.unprotected && !s.flag s.assuredOwner TOP_STAT_UNPROT then
    let s := s.each s.popDies fun s d => s.wr d TOP_STAT_UNPROT 1
    s.raiseLane s.assuredOwner evTOP_UNPROTECTED
  else s

/-- A die is declared unhealthy; in ASSURED this can end the protection (R245, R246, R472). -/
def State.dieUnhealthy (s : State) (d : Die) (code : Nat) : State := (s.markUnhealthy d code).unprotRise

/-- UNPROT falls at a frame boundary (R246). -/
def State.unprotFall (s : State) : State :=
  if s.unprotected then s else s.each s.popDies fun s d => s.wr d TOP_STAT_UNPROT 0

/-- D2D_LINK_DOWN (R458, R459, R472): after three failed replays, or on loss of training. -/
def execD2dLinkDown (d : Die) (port : Fin 3) (trainingLost : Bool) (s : State) : Host.Outcome State Fault Refusal :=
  if s.pop d && s.linkUp d port.val && (trainingLost || 4 ≤ (s.die d).sb.d2dFails.getD port.val 0) then
    let s := s.each (s.linkEnds d port.val) fun s e =>
      let s := (s.setBit e D2D_PORT_STAT_UP port.val false).setBit e D2D_PORT_STAT_DOWN_SEEN port.val true
      let s := s.updDie e fun x => { x with sb := { x.sb with
        d2dFails := x.sb.d2dFails.set port.val 0
        d2dWait := x.sb.d2dWait.set port.val (0, 0)
        d2dRetrain := x.sb.d2dRetrain.set port.val s.time.now } }
      (s.cnt e 169).raise e evD2D_LINK_DOWN (evArg port.val 0xFF [])
    let s := { s with sb := { s.sb with pendRoutes := true } }
    .next (s.each (s.linkEnds d port.val) fun s e => if s.anyLinkUp e then s else s.dieUnhealthy e 3)
  else .next s

/-- The trees of every die change at a frame boundary (R253, R459). -/
def State.changeTrees (s : State) : State :=
  let s := { s with sb := { s.sb with pendRoutes := false } }
  if !s.assured then s
  else
    let s := s.showTrees
    let s := s.each (s.popDies.filter s.healthy) fun s d => s.wr d TOP_STAT_REROUTED 1
    (s.raiseLane s.assuredOwner evTOP_REROUTE).unprotRise

/-- TREE_CHANGE (R253, R459): at the frame boundary after the health of a die or a fabric link has changed. -/
def execTreeChange (s : State) : Host.Outcome State Fault Refusal :=
  if s.sb.pendRoutes then .next s.changeTrees else .next s

/-- Whether a flow between two dies has a route (R456, R459): their link, or one of the two-hop routes between dies that no
link joins. -/
def State.routed (s : State) (a b : Die) : Bool :=
  if (s.portOn a b).isSome then (s.neighbours a).contains b
  else (s.neighbours a).any fun m => (s.neighbours m).contains b

/-- Unit `i` of a GENERAL flow crosses the fabric (R454, R456): over the link that joins the two dies, or over their two-hop
routes in turn. -/
def State.flowSend (s : State) (a b : Die) (i : Nat) : State :=
  if (s.portOn a b).isSome then s.d2dSend a b false 1
  else
    let ms := (s.neighbours a).filter fun m => (s.neighbours m).contains b
    match ms[i % ms.length]? with
    | some m => (s.d2dSend a m false 1).d2dSend m b false 1
    | none => s

/-- Whether every flow of a port has a route (R459). -/
def State.portRouted (s : State) (ds : List Die) : Bool :=
  ds.all fun a => ds.all fun b => a == b || s.routed a b

end Sys2Proof.Machine
end

