-- ==== Sys2Proof/Machine/Receiver.lean ====
section
/-! DEFINITION. The line receiver: loss of signal, capture steps, acquisition, frame lock, path memory, coefficient banks
and cross-fades, the ADC's spare (R148 to R212). -/

namespace Sys2Proof.Machine

/-! ### Acquisition states (R173) -/

/-- Codes of the acquisition states (R173). -/
def RxState.code : RxState → Nat
  | .down => 0
  | .signalWait => 1
  | .gain => 2
  | .freq => 3
  | .blindEq => 4
  | .marker => 5
  | .pilotEq => 6
  | .locked => 7
  | .fastReacq => 8

/-- The acquisition state of a code. -/
def RxState.ofCode : Nat → RxState
  | 1 => .signalWait
  | 2 => .gain
  | 3 => .freq
  | 4 => .blindEq
  | 5 => .marker
  | 6 => .pilotEq
  | 7 => .locked
  | 8 => .fastReacq
  | _ => .down

def State.rx (s : State) (l : Die) : RxLane := (s.die l).rx

def State.updRx (s : State) (l : Die) (g : RxLane → RxLane) : State := s.updDie l fun x => { x with rx := g x.rx }

/-- The receiver's acquisition state (LRX.STAT.ACQ_STATE). -/
def State.rxState (s : State) (l : Die) : RxState := RxState.ofCode (s.rd l LRX_STAT_ACQ_STATE)

/-- Whether the receiver is in one of some states, its domain running. -/
def State.rxIn (s : State) (l : Die) (l' : List RxState) : Bool :=
  s.pop l && s.domainOn l .rx && l'.contains (s.rxState l)

/-- Whether the receiver delivers (R177). -/
def State.rxDelivers (s : State) (l : Die) : Bool := s.rxState l == .pilotEq || s.rxState l == .locked

/-! ### Banks and cross-fades (R160 to R168) -/

/-- The coefficients of a bank. -/
def State.cb (s : State) (l : Die) (b : Nat) : List Int := (List.range 41).map fun i => s.rdInt l (LRX_CB_F b i)

/-- Writes a bank; taps beyond the list are 0 (R417). -/
def State.setCb (s : State) (l : Die) (b : Nat) (c : List Int) (m : Nat) : State :=
  let s := (s.each (List.range 41) fun s i => s.wrInt l (LRX_CB_F b i) (c.getD i 0)).wr l (LRX_CB_M b) m
  if b = s.rd l LRX_FADE_STAT_ACTIVE then s.updRx l fun x => { x with fineF := [] } else s

/-- Whether a set is valid (R161). -/
def rxSetValid (c : List Int) (m : Nat) : Bool := decide (m ≤ 40) && decide (0 < c.getD m 0)

/-- Whether a bank is valid (R161). -/
def State.cbValid (s : State) (l : Die) (b : Nat) : Bool := rxSetValid (s.cb l b) (s.rd l (LRX_CB_M b))

/-- The active bank. -/
def State.cbActive (s : State) (l : Die) : Nat := s.rd l LRX_FADE_STAT_ACTIVE

/-- Whether writes to a bank complete with BANK_BUSY: the active bank, the target of a fade or jump, a queued bank (R162,
R166). -/
def State.cbBusy (s : State) (l : Die) (b : Nat) : Bool :=
  b == s.cbActive l
    || (match (s.rx l).fade with
        | some f => f.tgt == b
        | none => false)
    || (s.rx l).queued == some b

/-- Shows the fade in LRX.FADE_STAT (R196). -/
def State.showFade (s : State) (l : Die) : State :=
  let x := s.rx l
  let s := match x.fade with
    | some f =>
      if f.jump then (s.wr l LRX_FADE_STAT_FADING 0).wr l LRX_FADE_STAT_TGT 0
      else (s.wr l LRX_FADE_STAT_FADING 1).wr l LRX_FADE_STAT_TGT f.tgt
    | none => (s.wr l LRX_FADE_STAT_FADING 0).wr l LRX_FADE_STAT_TGT 0
  let q := match x.fade, x.queued with
    | some f, none => if f.jump then some f.tgt else none
    | _, q => q
  (s.wrB l LRX_FADE_STAT_QUEUED q.isSome).wr l LRX_FADE_STAT_Q_BANK (q.getD 0)

/-- A fade or jump begins: what the output owes to it is kept for the samples of its interleaver group (R165, R167). -/
def State.beginFade (s : State) (l : Die) (f : Fade) : State :=
  let b := s.cbActive l
  s.updRx l fun x =>
    { x with fades := ⟨f.asked, s.time.now, none, f.len, s.cb l b, s.rd l (LRX_CB_M b), s.cb l f.tgt, s.rd l (LRX_CB_M f.tgt)⟩ :: x.fades }

/-- A running fade is abandoned: its source alone drives the output from now on (R167). -/
def abandonFade (now : Nat) : List FadeRun → List FadeRun
  | f :: fs => { f with upto := some now } :: fs
  | [] => []

/-- Abandons fade, jump and queued request, counting each as superseded (R168). -/
def State.dropSwaps (s : State) (l : Die) : State :=
  let x := s.rx l
  let n := (if x.fade.isSome then 1 else 0) + (if x.queued.isSome then 1 else 0)
  ((s.cntN l 57 n).updRx l fun x => { x with fade := none, queued := none, fades := [] }).showFade l

/-- A fade accepted: its length is that of LEN now (R165, R166). -/
def State.acceptFade (s : State) (l : Die) (b : Nat) : State :=
  s.updRx l fun x => { x with fade := some ⟨b, false, false, s.time.now, 0, 2 ^ (6 + s.rd l LRX_FADE_CTRL_LEN)⟩ }

/-- A swap request (R164, R167). `bad` is the position of the TLV that names the bank. -/
def State.requestSwap (s : State) (l : Die) (b bad : Nat) : Res :=
  if !s.cbValid l b then .badParam bad s
  else if !s.rxDelivers l then .fail .busy s
  else
    let x := s.rx l
    let s := match x.fade with
      | none => if b = s.cbActive l then s else s.acceptFade l b
      | some f =>
        if f.jump then (s.cnt l 57).updRx l fun x => { x with fade := some { f with tgt := b } }
        else if s.rd l LRX_FADE_CTRL_POLICY = 0 then
          (s.cntN l 57 (if x.queued.isSome then 1 else 0)).updRx l fun x => { x with queued := some b }
        else
          (s.cntN l 57 (if x.queued.isSome then 1 else 0)).updRx l fun x =>
            { x with
              queued := none
              fade := some ⟨b, true, false, s.time.now, 0, 0⟩
              fades := if f.begun then abandonFade s.time.now x.fades else x.fades }
    .ok (s.showFade l)

/-- FADE_START (R165, R167): at a block-group boundary an accepted fade begins, or a jump takes effect. -/
def execFadeStart (l : Die) (s : State) : Host.Outcome State Fault Refusal :=
  match s.pop l, (s.rx l).fade with
  | true, some f =>
    if f.jump then
      .next (((((s.beginFade l f).wr l LRX_FADE_STAT_ACTIVE f.tgt).cnt l 56).updRx l fun x =>
        { x with fade := none, fineF := [] }).showFade l)
    else if f.begun then .next s
    else .next ((s.beginFade l f).updRx l fun x => { x with fade := some { f with begun := true, since := s.time.now } })
  | _, _ => .next s

/-- FADE_END (R165, R167): the target becomes active, and a queued request begins its own fade. -/
def execFadeEnd (l : Die) (s : State) : Host.Outcome State Fault Refusal :=
  match s.pop l, (s.rx l).fade with
  | true, some f =>
    if f.begun && s.past f.since (s.symbolsU f.len) then
      let q := (s.rx l).queued
      let s := ((s.wr l LRX_FADE_STAT_ACTIVE f.tgt).cnt l 55).updRx l fun x =>
        { x with fade := none, queued := none, fineF := [] }
      let s := match q with
        | some b => if b = f.tgt then s else s.acceptFade l b
        | none => s
      .next (s.showFade l)
    else .next s
  | _, _ => .next s

/-- The symbols of the running fade completed (LRX.FADE_STAT.PROGRESS, R196). -/
def State.fadeProgress (s : State) (l : Die) : Nat :=
  match (s.rx l).fade with
  | some f => if f.begun then min f.len ((s.time.now - f.since) * 1320960 / s.frameU) else 0
  | none => 0

/-! ### Path memory (R178 to R185) -/

/-- Whether entry e is valid. -/
def State.entryValid (s : State) (l : Die) (e : Fin 8) : Bool := s.bit l LRX_PATH_STAT_VALID e.val

/-- Whether fast reacquisition can start (R173). -/
def State.fastPossible (s : State) (l : Die) : Bool :=
  s.flag l LRX_CTRL_FAST_EN && s.rd l LRX_PATH_STAT_VALID != 0

/-- The present values of the receiver as a snapshot (R178). -/
def State.rxValues (s : State) (l : Die) : RxSet :=
  let b := s.cbActive l
  { coefs := s.cb l b, main := s.rd l (LRX_CB_M b), nle := (List.range 6).map fun i => s.rdInt l (LRX_NLE_Q i),
    d1 := s.rdInt l LRX_DFE_D1, d2 := s.rdInt l LRX_DFE_D2, means := (s.rx l).means, sigma := s.rd l LRX_SNR_SIGMA,
    gain := s.rd l LRX_FRONT_GAIN, freq := s.rdInt l LRX_TIMING_FREQ_OFS }

/-- Writes the NLE coefficients and the DFE values. -/
def State.setNle (s : State) (l : Die) (q : List Int) : State :=
  (s.each (List.range 6) fun s i => s.wrInt l (LRX_NLE_Q i) (q.getD i 0)).updRx l fun x => { x with fineQ := [] }

def State.setDfe (s : State) (l : Die) (d1 d2 : Int) : State := 
  ((s.wrInt l LRX_DFE_D1 d1).wrInt l LRX_DFE_D2 d2).updRx l fun x => { x with fineD := [] }

/-- Loads a snapshot into the receiver (R181). -/
def State.loadValues (s : State) (l : Die) (v : RxSet) : State :=
  let s := ((s.setCb l (s.cbActive l) v.coefs v.main).setNle l v.nle).setDfe l v.d1 v.d2
  let s := (s.wr l LRX_FRONT_GAIN v.gain).wrInt l LRX_TIMING_FREQ_OFS v.freq
  (s.wr l LRX_SNR_SIGMA v.sigma).updRx l fun x => { x with means := v.means }

/-- The next path-memory try of FAST_REACQ begins: the entry is loaded and the search starts afresh (R181, R206). -/
def State.nextTry (s : State) (l : Die) (left : List (Fin 8)) : State :=
  let latch (x : RxLane) : RxLane :=
    { x with tol := s.rd l DEC_MARK_CTRL_TOL, lockN := s.rd l DEC_MARK_CTRL_LOCK_N, cands := [] }
  match left with
  | [] => s.updRx l fun x => { x with try_ := some ⟨[], none, s.time.now⟩ }
  | e :: rest =>
    let s := match (s.rx l).entries.get e with
      | some v => s.loadValues l v
      | none => s
    s.updRx l fun x => { latch x with try_ := some ⟨rest, some e, s.time.now⟩ }

/-- The tries of a fast reacquisition (R181, R184): valid entries by last use, at most MAX_TRIES. -/
def State.tryList (s : State) (l : Die) : List (Fin 8) :=
  let v := (s.rx l).order.filter (s.entryValid l)
  let v := match (s.rx l).prefer with
    | some e => if s.entryValid l e then e :: v.filter (fun x => x != e) else v
    | none => v
  v.take (s.rd l LRX_PATH_CTRL_MAX_TRIES)

/-- What entering a state does in the receiver (R168, R173). -/
def State.rxEnterState (s : State) (l : Die) (st : RxState) : State :=
  let s := (s.wr l LRX_STAT_ACQ_STATE (RxState.code st)).wrB l LRX_STAT_RX_LOCK (st == .pilotEq || st == .locked)
  let s := s.updRx l fun x => { x with since := s.time.now, goodOh := 0, try_ := none, cands := [] }
  let s := if s.profile = .standard then
      s.wrB l LFR_STD_STAT_PRBS_HOST (s.bit l HOST_PORT_CFG_USED 0 && st != .pilotEq && st != .locked)
    else s
  match st with
  | .signalWait => (s.dropSwaps l).wr l LRX_FRONT_GAIN 0x78
  | .gain => (s.dropSwaps l).updRx l fun x => { x with needEntry := true, prefer := none, cold := false }
  | .fastReacq => (s.dropSwaps l).nextTry l (s.tryList l)
  | .marker => s.updRx l fun x =>
      { x with tol := s.rd l DEC_MARK_CTRL_TOL, lockN := s.rd l DEC_MARK_CTRL_LOCK_N }
  | .pilotEq => s.updRx l fun x => { x with prefer := none, capture := none, pilots := [], fades := [] }
  | .locked => s.updRx l fun x => { x with lockedFrames := 0, sinceRefresh := 0, sinceSuggest := 0 }
  | _ => s

/-- The receiver enters a state, and the lane's in-band channel follows (R173, R445). -/
def State.rxEnter (s : State) (l : Die) (st : RxState) : State := (s.rxEnterState l st).inbandFollow l

/-- Where the receiver goes to find the signal again (R17, R173). -/
def State.rxReacquire (s : State) (l : Die) : State :=
  s.rxEnter l (if s.fastPossible l && !(s.rx l).cold then .fastReacq else .gain)

/-- Frame lock is lost (R211); in STANDARD inner FEC lock falls (R337, R343). -/
def State.frameLockLost (s : State) (l : Die) : State :=
  if !s.flocked l then s
  else
    let s := ((s.wr l DEC_MARK_STAT_FLOCK 0).wr l DEC_MARK_STAT_LOCK_LOST 1).cnt l 67
    let s := if s.standard then (s.wr l LFR_STD_STAT_INNER_LOCK 0).wr l LFR_STD_STAT_LOCK_LOST 1 else s
    (((s.capTrigger l 2).raiseLane l evFRAME_LOCK_LOST).poolLost l).unprotRise

/-- The receiver goes to DOWN (R154, R173, R211). -/
def State.rxDown (s : State) (l : Die) : State := ((s.frameLockLost l).rxEnter l .down).wr l LRX_STAT_LOS 1

/-- The receiver leaves DOWN (R154, R173). -/
def State.rxUp (s : State) (l : Die) : State :=
  if s.rxState l = .down then (s.updRx l fun x => { x with rotAt := s.time.now }).rxEnter l .signalWait else s

/-- A loss of frame lock in PILOT_EQ or LOCKED (R157, R173, R175): within 32 frames of a capture step the receiver enters
FAST_REACQ at once. -/
def State.lockBroken (s : State) (l : Die) : State :=
  let c := (s.rx l).capture
  let s := (s.frameLockLost l).updRx l fun x => { x with capture := none }
  match c with
  | some n =>
    if n ≤ 32 then
      (((s.wr l LRX_STAT_CAPTURE 1).cnt l 49).raiseLane l evRX_CAPTURE).rxEnter l .fastReacq
    else s.rxReacquire l
  | none => s.rxReacquire l

/-! ### Events of the receiver -/

/-- LOS_DECLARE (R154, R174, R211): the power estimates of 8 block groups in a row, in 0.25 dB below full scale, all lie more
than LOS_THR dB below it. -/
def execLosDeclare (l : Die) (powers : List Nat) (s : State) : Host.Outcome State Fault Refusal :=
  if !(s.pop l && s.domainOn l .rx) || s.rxState l = .down || s.flag l LRX_STAT_LOS || powers.length != 8
      || !powers.all (fun p => decide (4 * s.rd l LRX_FRONT_LOS_THR < p)) then .next s
  else
    let s := (((s.wr l LRX_FRONT_POWER (min 255 (powers.getLastD 0))).wr l LRX_STAT_LOS 1).wr l LRX_STAT_LOS_SEEN 1).cnt l 48
    .next ((((s.capTrigger l 1).raiseLane l evRX_LOS).frameLockLost l).rxEnter l .signalWait)

/-- LOS_CLEAR (R154, R173, R174, R184): the estimates of 64 block groups in a row all lie at least 2 dB above the threshold. -/
def execLosClear (l : Die) (powers : List Nat) (s : State) : Host.Outcome State Fault Refusal :=
  if !(s.rxIn l [.signalWait] && s.flag l LRX_STAT_LOS) || powers.length != 64
      || !powers.all (fun p => decide (p + 8 ≤ 4 * s.rd l LRX_FRONT_LOS_THR)) then .next s
  else .next (((s.wr l LRX_FRONT_POWER (min 255 (powers.getLastD 0))).wr l LRX_STAT_LOS 0).rxReacquire l)

/-- Whether the mean power of two block groups exceeds that of the 16 before them by at least a number of dB (R155); the powers
are linear, and the comparison is raised to the tenth power. -/
def isCapture (thr : Nat) (before after : List Nat) : Bool :=
  before.length == 16 && after.length == 2 && decide (before.sum < 8 * after.sum)
    && decide (before.sum ^ 10 * 10 ^ thr ≤ (8 * after.sum) ^ 10)

/-- CAPTURE_STEP (R155 to R157): ignored in SIGNAL_WAIT and DOWN. -/
def execCaptureStep (l : Die) (before after : List Nat) (power : Nat) (s : State) : Host.Outcome State Fault Refusal :=
  if !(s.pop l && s.domainOn l .rx && isCapture (s.rd l LRX_FRONT_CAP_THR) before after) then .next s
  else
    let s := if s.rxState l = .down then s else s.wr l LRX_FRONT_POWER (min 255 power)
    let noted := ((s.wr l LRX_STAT_CAPTURE 1).cnt l 49).raiseLane l evRX_CAPTURE
    match s.rxState l with
    | .gain | .freq | .blindEq | .marker => .next (noted.rxEnter l .gain)
    | .fastReacq => .next (noted.rxEnter l .fastReacq)
    | .pilotEq | .locked => .next (s.updRx l fun x => { x with capture := some 0 })
    | .down | .signalWait => .next s

/-- CAPTURE_STEP_FORGET (R157): frame lock was kept for 32 frames after the step. -/
def execCaptureStepForget (l : Die) (s : State) : Host.Outcome State Fault Refusal :=
  match s.pop l, (s.rx l).capture with
  | true, some n => if 32 ≤ n then .next (s.updRx l fun x => { x with capture := none }) else .next s
  | _, _ => .next s

/-- GAIN_SETTLED (R173): the front-end gain in 0.25 dB steps, 0 to 120. -/
def execGainSettled (l : Die) (gain : Nat) (s : State) : Host.Outcome State Fault Refusal :=
  if s.rxIn l [.gain] then .next ((s.wr l LRX_FRONT_GAIN (min 120 gain)).rxEnter l .freq) else .next s

/-- FREQ_FOUND (R159, R173): the offset in 1/64 ppm; the loop holds offsets up to 300 ppm. -/
def execFreqFound (l : Die) (freq : Int) (s : State) : Host.Outcome State Fault Refusal :=
  if s.rxIn l [.freq] && decide (freq.natAbs ≤ 300 * 64) then
    .next ((s.wrInt l LRX_TIMING_FREQ_OFS freq).rxEnter l .blindEq)
  else .next s

/-- BLIND_EQ_CONVERGED (R168, R173): the training leaves its coefficients in the active bank, where FFE_AD is on. -/
def execBlindEqConverged (l : Die) (coefs : List Int) (s : State) : Host.Outcome State Fault Refusal :=
  if s.rxIn l [.blindEq] then
    let b := s.cbActive l
    let s := if s.flag l LRX_CTRL_FFE_AD then s.setCb l b coefs (s.rd l (LRX_CB_M b)) else s
    .next (s.rxEnter l .marker)
  else .next s

/-- Time limits of the acquisition states in microseconds (R173); none where the table gives none. -/
def RxState.limitUs : RxState → Option Nat
  | .gain => some 50
  | .freq => some 6000
  | .blindEq => some 8000
  | .marker => some 2000
  | .pilotEq => some 3000
  | _ => none

/-- ACQ_TIMEOUT (R175): a state reaches its time limit, and the receiver returns to GAIN. -/
def execAcqTimeout (l : Die) (s : State) : Host.Outcome State Fault Refusal :=
  match s.pop l && s.domainOn l .rx, RxState.limitUs (s.rxState l) with
  | true, some us =>
    if s.past (s.rx l).since (usU us) then
      let s := ((s.wr l LRX_STAT_ACQ_TIMEOUT 1).cnt l 50).raiseLane l evACQ_TIMEOUT
      .next ((s.frameLockLost l).rxEnter l .gain)
    else .next s
  | _, _ => .next s

/-! ### Frame lock (R205 to R211) -/

/-- Whether the receiver searches for the marker. -/
def State.searching (s : State) (l : Die) : Bool :=
  s.rxIn l [.marker] || (s.rxIn l [.fastReacq] && match (s.rx l).try_ with
    | some t => t.cur.isSome
    | none => false)

/-- The bits in which two words differ. -/
def bitErrs (a b : BitVec 64) : Nat := (List.range 64).countP fun i => (a ^^^ b).getLsbD i

/-- The first 64 bits of a lane's pilot sequence, p_0 in bit 63 (R75). -/
def pilotWord (l : Die) : BitVec 64 := BitVec.ofNat 64 (LineFormat.ofBits (LineFormat.pilotBits 64 (LineFormat.pilotSeed l)))

/-- The pilot lane of 64 bits where pilot block 1 should stand (R205, R207): of the seeds within TOL the one with the fewest bit
errors, the lowest lane among equals. -/
def pilotLaneOf (tol : Nat) (pilots : BitVec 64) : Option Die :=
  (allDies.filter fun j => decide (bitErrs pilots (pilotWord j) ≤ tol)).foldl (fun best j => match best with
    | some b => if bitErrs pilots (pilotWord j) < bitErrs pilots (pilotWord b) then some j else some b
    | none => some j) none

/-- The pilot lane of a position that is a marker candidate (R205). -/
def candidateLane (tol : Nat) (window pilots : BitVec 64) : Option Die :=
  if bitErrs window LineFormat.marker ≤ tol then pilotLaneOf tol pilots else none

/-- Candidates whose next match should have come before a position fail; once one has matched in LOCK_N frames the others are
dropped (R206). -/
def candsAt (lockN pos : Nat) (cs : List MarkCand) : List MarkCand :=
  match cs.find? fun c => decide (lockN ≤ c.matched) with
  | some c => [c]
  | none => cs.filter fun c => decide (pos ≤ c.pos + 1320960)

/-- MARKER_CANDIDATE (R205 to R207): the 64 bits at symbol `pos` and those 4,128 symbols later; at most four candidates are
followed. -/
def execMarkerCandidate (l : Die) (pos : Nat) (window pilots : BitVec 64) (s : State) : Host.Outcome State Fault Refusal :=
  if !s.searching l || s.standard then .next s
  else
    let x := s.rx l
    let cs := candsAt x.lockN pos x.cands
    match candidateLane x.tol window pilots with
    | some j =>
      if cs.length < 4 ∧ ¬ cs.any (fun c => c.pos == pos || c.pos + 1320960 == pos || decide (x.lockN ≤ c.matched)) then
        .next (s.updRx l fun x => { x with cands := cs ++ [⟨pos, j.val, 1⟩] })
      else .next (s.updRx l fun x => { x with cands := cs })
    | none => .next (s.updRx l fun x => { x with cands := cs })

/-- MARKER_CONFIRMATION (R206, R207): what stands exactly one frame after a candidate's last match confirms it or drops it. -/
def execMarkerConfirmation (l : Die) (pos : Nat) (window pilots : BitVec 64) (s : State) : Host.Outcome State Fault Refusal :=
  if !s.searching l || s.standard then .next s
  else
    let x := s.rx l
    let cs := candsAt x.lockN pos x.cands
    let due (c : MarkCand) : Bool := c.pos + 1320960 == pos && decide (c.matched < x.lockN)
    match candidateLane x.tol window pilots with
    | some j => .next (s.updRx l fun x =>
        { x with cands := cs.map fun c => if due c then ⟨pos, j.val, c.matched + 1⟩ else c })
    | none => .next (s.updRx l fun x => { x with cands := cs.filter fun c => !due c })

/-- Frame lock is declared (R207, R208), and the receiver enters PILOT_EQ; a try of FAST_REACQ has succeeded (R180). -/
def State.declareLock (s : State) (l : Die) (pos pilotLane : Nat) : State :=
  let hit := match (s.rx l).try_ with
    | some t => t.cur
    | none => none
  let s := match hit with
    | some e =>
      let s := ((s.cnt l 51).wr l LRX_PATH_STAT_HIT_VALID 1).wr l LRX_PATH_STAT_LAST_HIT e.val
      ((s.wr l LRX_PATH_STAT_CUR_VALID 1).wr l LRX_PATH_STAT_CURRENT e.val).updRx l fun x =>
        { x with needEntry := false, order := e :: x.order.filter fun y => y != e }
    | none => s
  let s := ((s.wr l DEC_MARK_STAT_FLOCK 1).wr l DEC_MARK_STAT_MISS_RUN 0).wr l DEC_MARK_STAT_PILOT_LANE pilotLane
  let s := if s.standard then s.wr l LFR_STD_STAT_INNER_LOCK 1 else s
  let s := ((s.raiseLane l evFRAME_LOCK).rxEnter l .pilotEq).updRx l fun x => { x with pos := pos }
  s.poolLock l

/-- FRAME_LOCK (R206 to R208): at the position of the first candidate to match in LOCK_N frames; in STANDARD inner FEC lock is found (R337). -/
def execFrameLock (l : Die) (pos : Nat) (s : State) : Host.Outcome State Fault Refusal :=
  if !s.searching l then .next s
  else if s.standard then .next (s.declareLock l pos l.val)
  else match (s.rx l).cands.find? fun c => decide ((s.rx l).lockN ≤ c.matched) with
    | some c => if c.pos = pos then .next (s.declareLock l pos c.pilotLane) else .next s
    | none => .next s

/-- The slip search (R210): the nearest position within SLIP_WIN that holds the marker, the earlier one of two. -/
def slipTo (win tol : Nat) (hits : List (Int × Nat)) : Option Int :=
  (hits.filter fun h => decide (h.1 ≠ 0) && decide (h.1.natAbs ≤ win) && decide (h.2 ≤ tol)).foldl (fun best h =>
    match best with
    | none => some h.1
    | some b => if h.1.natAbs < b.natAbs ∨ (h.1.natAbs = b.natAbs ∧ h.1 < b) then some h.1 else best) none

/-- The counts of a frame in which lock is held (R157, R179, R186; in STANDARD R337). -/
def State.rxFrameCounts (s : State) (l : Die) : State :=
  let s := s.updRx l fun x =>
    { x with capture := x.capture.map (· + 1), lockedFrames := x.lockedFrames + 1, sinceRefresh := x.sinceRefresh + 1,
             sinceSuggest := x.sinceSuggest + 1 }
  if s.standard then
    let s := s.updRx l fun x => { x with goodOh := x.goodOh + 1 }
    if s.rxState l == .pilotEq && 64 ≤ (s.rx l).goodOh then s.rxEnter l .locked else s
  else s

/-- In STANDARD the tagged inner codewords of the period that ends have passed ADC_IN, EQ_OUT and HOST_TX (R341, R588 to R591). Where
in a period an inner codeword lies, and what its decoder did, the spec does not say: free values. -/
def State.stdTags (s : State) (l : Die) : State :=
  let n := (s.time.now - (s.tx l).upAt) / s.frameU - 1
  let (k, seed) := (s.pool l).lastTags
  s.each (taggedCodewords k seed n) fun s cw =>
    let (v, s) := s.freshN 4
    let o (i : Nat) : Nat := v.getD i 0
    let none_ := 0xFFFFFFFF
    s.addTag l ⟨true, l, if s.time.extrap then 1 else 0, n, cw, o 0 % 256, o 1, [0, o 2, none_, none_, none_, none_, o 3]⟩

/-- MARKER_CHECK (R209 to R211): the frame's check at the predicted position, from the 64 bits there and those at offsets
around it. In STANDARD it is the period's check of inner FEC lock, which bits other than 0 lose (R337). -/
def execMarkerCheck (l : Die) (window : BitVec 64) (near : List (Int × BitVec 64)) (s : State) :
    Host.Outcome State Fault Refusal :=
  if !(s.pop l && s.domainOn l .rx && s.flocked l) then .next s
  else if s.standard then
    .next (if window = 0 then ((s.stdTags l).rxFrameCounts l).poolBoundary l else s.lockBroken l)
  else
    let errs := bitErrs window LineFormat.marker
    let hits := near.map fun h => (h.1, bitErrs h.2 LineFormat.marker)
    let s := s.updRx l fun x => { x with pos := x.pos + 1320960 }
    let tol := s.rd l DEC_MARK_CTRL_TOL
    let s := s.wr l DEC_MARK_STAT_LAST_ERRS (min 64 errs)
    if errs ≤ tol then .next (((s.wr l DEC_MARK_STAT_MISS_RUN 0).rxFrameCounts l).poolBoundary l)
    else match slipTo (s.rd l DEC_MARK_CTRL_SLIP_WIN) tol hits with
      | some off =>
        let s := (((s.wr l DEC_MARK_STAT_MISS_RUN 0).wr l DEC_MARK_STAT_SLIP 1).cnt l 66).raiseLane l evFRAME_SLIP
        let s := s.updRx l fun x => { x with pos := ((x.pos : Int) + off).toNat }
        .next ((s.rxFrameCounts l).poolBoundary l)
      | none =>
        let run := s.rd l DEC_MARK_STAT_MISS_RUN + 1
        let s := (s.wr l DEC_MARK_STAT_MISS_RUN run).cnt l 65
        if s.rd l DEC_MARK_CTRL_LOSS_N ≤ run then .next ((s.poolBoundary l).lockBroken l)
        else .next ((s.rxFrameCounts l).poolBoundary l)

/-- FAST_REACQ_TRY_END (R181): a try of TRY_FRAMES frames ended without frame lock. -/
def execFastReacqTryEnd (l : Die) (s : State) : Host.Outcome State Fault Refusal :=
  match s.rxIn l [.fastReacq], (s.rx l).try_ with
  | true, some t =>
    if t.cur.isSome && !s.past t.since ((s.rd l LRX_PATH_CTRL_TRY_FRAMES + 1) * 8 * s.frameU) then .next s
    else if t.left.isEmpty then
      .next ((((s.wr l LRX_STAT_FAST_FAIL 1).cnt l 52).raiseLane l evFAST_REACQ_FAIL).rxEnter l .gain)
    else .next (s.nextTry l t.left)
  | _, _ => .next s

/-- A new path-memory entry (R180): a free one, else the least recently used that is not pinned. -/
def State.pickEntry (s : State) (l : Die) : Option (Fin 8) :=
  match allDies.find? fun e => !s.entryValid l e with
  | some e => some e
  | none => (s.rx l).order.reverse.find? fun e => !s.bit l LRX_PATH_CTRL_PIN e.val

/-- What the loops outside the sample path have reached: the gain of the AGC and the integrator of the timing loop. -/
def State.adopt (s : State) (l : Die) (gain : Nat) (freq : Int) : State :=
  (s.wr l LRX_FRONT_GAIN (min 120 gain)).wrInt l LRX_TIMING_FREQ_OFS freq

/-- PATH_MEMORY_REFRESH (R178 to R180): every 1,024 frames in LOCKED. -/
def execPathMemoryRefresh (l : Die) (gain : Nat) (freq : Int) (s : State) : Host.Outcome State Fault Refusal :=
  if !(s.rxIn l [.locked] && decide (1024 ≤ (s.rx l).sinceRefresh)) then .next s
  else
    let s := (s.adopt l gain freq).updRx l fun x => { x with sinceRefresh := 0 }
    let put (s : State) (e : Fin 8) : State :=
      let new := s.rxValues l
      s.updRx l fun x =>
        { x with entries := x.entries.set e.val (some new) e.isLt, order := e :: x.order.filter fun y => y != e }
    if (s.rx l).needEntry then
      let s := s.updRx l fun x => { x with needEntry := false }
      match s.pickEntry l with
      | none => .next ((s.cnt l 53).wr l LRX_PATH_STAT_CUR_VALID 0)
      | some e =>
        .next (put (((s.setBit l LRX_PATH_STAT_VALID e.val true).wr l LRX_PATH_STAT_CUR_VALID 1).wr l
          LRX_PATH_STAT_CURRENT e.val) e)
    else match s.flag l LRX_PATH_STAT_CUR_VALID, toDie? (s.rd l LRX_PATH_STAT_CURRENT) with
      | true, some e => .next (put s e)
      | _, _ => .next s

/-- Invalidates the entries of a mask (R185); the current entry may be among them. -/
def State.clearEntries (s : State) (l : Die) (m : BitVec 8) : State :=
  s.each (maskDies m) fun s e =>
    let cur := s.flag l LRX_PATH_STAT_CUR_VALID && s.rd l LRX_PATH_STAT_CURRENT == e.val
    let s := (s.setBit l LRX_PATH_STAT_VALID e.val false).updRx l fun x =>
      { x with entries := x.entries.set e.val none e.isLt, order := x.order.filter fun y => y != e }
    if cur then (s.wr l LRX_PATH_STAT_CUR_VALID 0).updRx l fun x => { x with needEntry := true } else s

/-- LRX.PATH_CTRL is set, or refused (R185, R201). -/
def State.setPath (s : State) (l : Die) (pin clear maxTries tryFrames bad : Nat) : Res :=
  if maxTries < 1 ∨ 8 < maxTries then .badParam bad s
  else if clear ≠ 0 ∧ s.rxState l = .fastReacq then .fail .busy s
  else
    let s := ((s.wr l LRX_PATH_CTRL_PIN pin).wr l LRX_PATH_CTRL_MAX_TRIES maxTries).wr l LRX_PATH_CTRL_TRY_FRAMES tryFrames
    .ok (s.clearEntries l (BitVec.ofNat 8 clear))

/-! ### Suggestions to the far end (R186) -/

/-- A step of a suggestion (R186): 16·f[m+k−3]/f[m], rounded half away from zero (R657), within ±7. -/
def suggestStep (f : List Int) (m k : Nat) : Int :=
  let fm := f.getD m 0
  if k = 3 ∨ m + k < 3 ∨ 40 < m + k - 3 ∨ fm = 0 then 0
  else
    let n := 16 * f.getD (m + k - 3) 0
    let n := if fm < 0 then -n else n
    let d : Int := fm.natAbs
    let q := if 0 ≤ n then (2 * n + d) / (2 * d) else -((-2 * n + d) / (2 * d))
    max (-7) (min 7 q)

/-- FIR_SUGGESTION (R186, R335): every 256 frames in LOCKED, from the active bank as adaptation has left it. -/
def execFirSuggestion (l : Die) (s : State) : Host.Outcome State Fault Refusal :=
  if !(s.rxIn l [.locked] && s.flag l LRX_CTRL_FB_SUGGEST && !s.standard && decide (256 ≤ (s.rx l).lockedFrames)
      && decide (256 ≤ (s.rx l).sinceSuggest)) then .next s
  else
    let b := s.cbActive l
    let steps := (List.range 10).map fun k => suggestStep (s.cb l b) (s.rd l (LRX_CB_M b)) k
    .next (s.updRx l fun x =>
      if steps.any (fun v => v != 0) then
        { x with sinceSuggest := 0, firSeq := (x.firSeq + 1) % 256, firStep := steps }
      else { x with sinceSuggest := 0 })

/-! ### The ADC's spare (R149 to R153) -/

/-- The sub-converter after `i` that is not retired (R149). -/
def nextSub (retired i : Nat) : Nat := if (i + 1) % 65 = retired then (i + 2) % 65 else (i + 1) % 65

/-- A sub-converter is retired, or, with no spare left, the ADC is degraded (R151 to R153). -/
def State.retireSub (s : State) (l : Die) (i : Nat) : State :=
  if s.flag l LRX_ADC_NO_SPARE then
    if i = s.rd l LRX_ADC_RETIRED then s else (s.wr l LRX_ADC_DEGRADED 1).raiseLane l evADC_DEGRADED
  else
    let s := (((s.wr l LRX_STAT_ADC_RETIRED 1).wr l LRX_ADC_RETIRED i).wr l LRX_ADC_SPARE 0x7F).wr l LRX_ADC_NO_SPARE 1
    (s.updDie l fun x => { x with units := { x.units with adc := some i } }).raiseLane l evADC_SUB_RETIRED

/-- The length of a rotation period: 64, 256, 1,024 or 4,096 frames (R149, R194). -/
def State.rotPeriod (s : State) (l : Die) : Nat := 64 * 4 ^ s.rd l LRX_ADC_ROT_PERIOD * s.frameU

/-- ADC_SPARE_HANDOVER (R149, R151): at a pilot block after the rotation period has ended, with the calibration or slice of the
spare passed or failed; a second failure in a row retires it. -/
def execAdcSpareHandover (l : Die) (calOk : Bool) (s : State) : Host.Outcome State Fault Refusal :=
  if !(s.pop l && s.domainOn l .rx && s.rxState l != .down && s.flag l LRX_ADC_ROT_EN && !s.flag l LRX_ADC_NO_SPARE
      && s.past (s.rx l).rotAt (s.rotPeriod l)) then
    .next s
  else
    let s := s.updRx l fun x => { x with rotAt := s.time.now }
    let spare := s.rd l LRX_ADC_SPARE
    let s := if (s.rx l).adcFails = 0 then s.countSlice l calOk else s
    if calOk then
      .next (((s.wr l LRX_ADC_SPARE (nextSub 0x7F spare)).cnt l 54).updRx l fun x => { x with adcFails := 0 })
    else if 1 ≤ (s.rx l).adcFails then .next ((s.retireSub l spare).updRx l fun x => { x with adcFails := 0 })
    else .next (s.updRx l fun x => { x with adcFails := x.adcFails + 1 })

/-- ADC_SUB_RETIRED (R151, R152): a sub-converter meets a retirement condition. -/
def execAdcSubRetired (l : Die) (i : Nat) (s : State) : Host.Outcome State Fault Refusal :=
  .next (if s.pop l && s.domainOn l .rx && decide (i < 65) then s.retireSub l i else s)

/-! ### The sample path (R148, R158 to R172) -/

/-- The coefficients the path runs with, as numbers (R160, R169, R170): those of bank `b`, the NLE's and the DFE's. -/
def State.coefs (s : State) (l : Die) (b : Nat) : Equaliser.Coefs :=
  let x := s.rx l
  let num (v : Int) (fine : List ℚ) (i unit : Nat) : ℚ := (v + fine.getD i 0) / unit
  { f := (s.cb l b).mapIdx fun i v => num v (if b = s.cbActive l then x.fineF else []) i 512
    q := (List.range 6).map fun i => num (s.rdInt l (LRX_NLE_Q i)) x.fineQ i 1024
    d1 := num (s.rdInt l LRX_DFE_D1) x.fineD 0 256
    d2 := num (s.rdInt l LRX_DFE_D2) x.fineD 1 512 }

/-- The nearest value of a signed field of `w` bits. -/
def toField (w : Nat) (v : ℚ) : Int := max (-(2 ^ (w - 1) : Int)) (min (2 ^ (w - 1) - 1) (Equaliser.roundQ v))

/-- The adapted coefficients go into the active bank and the NLE and DFE registers, rounded to these; what they are beyond
them is kept (R162, R169, R170). -/
def State.putCoefs (s : State) (l : Die) (c : Equaliser.Coefs) : State :=
  let b := s.cbActive l
  let fs := c.f.map fun v => 512 * v
  let qs := c.q.map fun v => 1024 * v
  let ds := [256 * c.d1, 512 * c.d2]
  let s := s.each (List.range 41) fun s i => s.wrInt l (LRX_CB_F b i) (toField 12 (fs.getD i 0))
  let s := s.each (List.range 6) fun s i => s.wrInt l (LRX_NLE_Q i) (toField 10 (qs.getD i 0))
  let s := (s.wrInt l LRX_DFE_D1 (toField 8 (ds.getD 0 0))).wrInt l LRX_DFE_D2 (toField 8 (ds.getD 1 0))
  s.updRx l fun x =>
    { x with
      fineF := fs.map fun v => v - toField 12 v
      fineQ := qs.map fun v => v - toField 10 v
      fineD := ds.map fun v => v - toField 8 v }

/-- The symbols of an interleaver group (R73). -/
def groupSymbols : Nat := 20 * 4128

/-- The symbol of the interleaver group that ends now in which a time lies; symbols before it are negative. -/
def State.symbolAt (s : State) (t : Nat) : Int := groupSymbols - ((s.time.now - t) * 1320960 / s.frameU : Nat)

/-- A fade or jump as the samples see it. -/
def State.fading (s : State) (f : FadeRun) : Equaliser.Fading :=
  let num (c : List Int) : List ℚ := c.map fun v => (v : ℚ) / 512
  { asked := s.symbolAt f.asked, start := s.symbolAt f.since, len := f.len, upto := f.upto.map s.symbolAt,
    oldF := num f.oldF, oldM := f.oldM, newF := num f.newF, newM := f.newM }

/-- The tracked level means, nominal until a pilot has been seen (R171). -/
def State.levelMeans (s : State) (l : Die) : List Int :=
  (List.range 4).map fun u => (s.rx l).means.getD u (4096 * LineFormat.level u)

/-- What the sample path of a lane runs with (R148, R162, R169 to R171, R173, R197): the FFE adapts in PILOT_EQ and LOCKED, the
NLE in LOCKED only. -/
def State.pathSetup (s : State) (l : Die) (b : Nat) : Equaliser.Setup :=
  let locked := s.rxState l == .locked
  { main := s.rd l (LRX_CB_M b)
    nleOn := s.flag l LRX_CTRL_NLE_EN
    dfeOn := s.flag l LRX_CTRL_DFE_EN
    lv := Equaliser.levels (s.levelMeans l)
    muFfe := if s.flag l LRX_CTRL_FFE_AD then
        Equaliser.stepSize (s.rd l (if locked then LRX_ADAPT_CTRL_MU_FFE else LRX_ADAPT_CTRL_MU_FFE_ACQ))
      else 0
    muNle := if s.flag l LRX_CTRL_NLE_AD && locked then Equaliser.stepSize (s.rd l LRX_ADAPT_CTRL_MU_NLE) else 0
    muDfe := if s.flag l LRX_CTRL_DFE_AD then Equaliser.stepSize (s.rd l LRX_ADAPT_CTRL_MU_DFE) else 0
    leak := Equaliser.leakage (s.rd l LRX_ADAPT_CTRL_LEAK)
    hold := (s.rx l).fade.map fun f => s.symbolAt f.asked }

/-- The timing loop (R158, R336): its bandwidth in kHz, and the weights of its detectors on decisions and on pilots. -/
def State.timingLoop (s : State) (l : Die) : Nat × Nat × Nat :=
  (Equaliser.timingKHz (s.rd l LRX_TIMING_BW), Equaliser.timingWeights (s.rxState l) (s.flocked l) s.standard)

/-- Level tracking after the pilots of an interleaver group (R171, R200, R207): means and error over the pilots of the last 64
block groups. With no error the logarithm of R171 has no value, and LRX.SNR.SNR is a free value. -/
def State.trackLevels (s : State) (l : Die) (z : Int → ℚ) (group : Nat) : State :=
  let lane : Die := Fin.ofNat 8 (s.rd l DEC_MARK_STAT_PILOT_LANE)
  let new := (List.range 20).map fun g => (LineFormat.pilotBlock lane (20 * group + g)).mapIdx fun i u =>
    (u, z (4128 * g + i))
  let ps := (new.reverse ++ (s.rx l).pilots).take 64
  let means := Equaliser.trackMeans (s.levelMeans l) ps.flatten
  let sigma := min 65535 (Equaliser.sigmaOf (Equaliser.variance (Equaliser.levels means) ps.flatten))
  let s := (s.updRx l fun x => { x with pilots := ps, means }).wr l LRX_SNR_SIGMA sigma
  if sigma = 0 then let (v, s) := s.fresh; s.wr l LRX_SNR v
  else s.wr l LRX_SNR (Equaliser.snrOf means sigma)

/-- The soft values of codeword `k` of a group, two a symbol (R82, R172); with precoding over pairs of symbols. -/
def softsOf (lv : List ℚ) (v : ℚ) (pre : Bool) (z : Int → ℚ) (k : Nat) : List Int :=
  (List.range 5120).flatMap fun n =>
    let m := 16 * n + k
    let i : Int := 4128 * (m / 4096) + 32 + m % 4096
    if pre then [Equaliser.softPre lv v (z (i - 1)) (z i) 0, Equaliser.softPre lv v (z (i - 1)) (z i) 1]
    else [Equaliser.soft lv v (z i) 0, Equaliser.soft lv v (z i) 1]

/-- INTERLEAVER_GROUP_QUEUE (R148 to R172, R177, R222): the samples of an interleaver group, 1/4,096 of a level unit each, from
48 symbols before its first to 48 after its last, pass through the path; its 16 codewords enter the decoder pool. -/
def execInterleaverGroupQueue (l : Die) (group : Nat) (samples : List Int) (s : State) : Host.Outcome State Fault Refusal :=
  if !(s.pop l && s.flocked l && s.rxDelivers l && s.domainOn l .dataPath && decide (group < 16) && !s.standard) then .next s
  else
    let b := match (s.rx l).fade with
      | some f => if f.begun then f.tgt else s.cbActive l
      | none => s.cbActive l
    let x (n : Int) : ℚ := (samples.getD (n + 48).toNat 0 : ℚ) / 4096
    let u := s.pathSetup l b
    let r := Equaliser.run u ((s.rx l).fades.map s.fading) x (groupSymbols + 6) (-6) (s.coefs l b) 0 0
    let z (n : Int) : ℚ := r.1.getD (n + 6).toNat 0
    let pre := ((s.curFrame? l).map RxFrame.precode).getD false
    let softs := (List.range 16).map (softsOf u.lv ((s.rd l LRX_SNR_SIGMA / 4096 : ℚ) ^ 2) pre z)
    let s := if (s.rx l).fade.any Fade.begun then s.putCoefs l { r.2 with f := (s.coefs l (s.cbActive l)).f } else s.putCoefs l r.2
    let s := s.updRx l fun x => { x with fades := if x.fade.any Fade.begun then x.fades.take 1 else [] }
    .next ((s.trackLevels l z group).queueGroup l group softs)

end Sys2Proof.Machine
end

