-- ==== Sys2Proof/Machine/ReceiverSet.lean ====
section
/-! DEFINITION. The commands that serve the receiver and frame lock (R185 to R203, R236, R396, R417, R418). -/

namespace Sys2Proof.Machine

/-- Whether every coefficient fits a 12-bit field. -/
def fits12 (c : List Int) : Bool := c.all fun v => decide (-2048 ≤ v ∧ v ≤ 2047)

/-- Check 9 of the FADE TLV: LEN 0 to 7 and POLICY 0 or 1, each 0xFF unchanged (R417). -/
def fadeBad (f : Option (Nat × Nat)) (i : Nat) : Option Nat :=
  match f with
  | some (len, pol) => if (len < 8 || len = 0xFF) && (pol < 2 || pol = 0xFF) then none else some i
  | none => none

/-- The FADE TLV sets LEN and POLICY. -/
def State.setFade (s : State) (l : Die) : Option (Nat × Nat) → State
  | some (len, pol) =>
    let s := if len = 0xFF then s else s.wr l LRX_FADE_CTRL_LEN len
    if pol = 0xFF then s else s.wr l LRX_FADE_CTRL_POLICY pol
  | none => s

/-- A swap request after its FADE TLV; a refused request changes nothing. -/
def State.fadeAndSwap (s : State) (l : Die) (fade : Option (Nat × Nat)) (bank bad : Nat) : Res :=
  (Res.ok (s.setFade l fade)).andThen s fun s => s.requestSwap l bank bad

def infoRxBankLoad (lane bank main : Nat) (c : List Int) (fade : Option (Nat × Nat)) : CmdInfo :=
  laneInfo 0x4130 lane true false (firstBad [numBad bank 4 1, numBad main 41 2,
    if c.isEmpty || 41 < c.length || !fits12 c || !rxSetValid c main then some 3 else none, fadeBad fade 5])

def applyRxBankLoad (lane bank main : Nat) (c : List Int) (swap : Bool) (fade : Option (Nat × Nat))
    (_ : Req) (_ : Session) (s : State) : Res :=
  match toDie? lane with
  | none => .badParam 0 s
  | some l =>
    if !s.rxOn [l] then .fail .domainOff s
    else if s.cbBusy l bank then .fail .bankBusy s
    else
      let s := s.setCb l bank c main
      if swap then s.fadeAndSwap l fade bank 1 else .ok (s.setFade l fade)

/-- RX_BANK_LOAD (R162, R163, R166, R188): a swap that fails leaves the loaded bank written. -/
def execRxBankLoad (r : Req) (lane bank main : Nat) (c : List Int) (swap : Bool) (fade : Option (Nat × Nat))
    (s : State) : Host.Outcome State Fault Refusal :=
  .next (Slostan.run r (.rxBankLoad r lane bank main c swap fade) (infoRxBankLoad lane bank main c fade)
    (applyRxBankLoad lane bank main c swap fade) s)

def infoRxBankSwap (lane bank : Nat) (fade : Option (Nat × Nat)) : CmdInfo :=
  laneInfo 0x4131 lane true false (firstBad [numBad bank 4 1, fadeBad fade 2])

def applyRxBankSwap (lane bank : Nat) (fade : Option (Nat × Nat)) (_ : Req) (_ : Session) (s : State) : Res :=
  match toDie? lane with
  | none => .badParam 0 s
  | some l => if !s.rxOn [l] then .fail .domainOff s else s.fadeAndSwap l fade bank 1

/-- RX_BANK_SWAP (R164 to R167). -/
def execRxBankSwap (r : Req) (lane bank : Nat) (fade : Option (Nat × Nat)) (s : State) :
    Host.Outcome State Fault Refusal :=
  .next (Slostan.run r (.rxBankSwap r lane bank fade) (infoRxBankSwap lane bank fade)
    (applyRxBankSwap lane bank fade) s)

/-- A write of LRX.FADE_CTRL (R164, R195). -/
def State.writeFadeCtrl (s : State) (l : Die) (w : Word) : Res :=
  let v := w.toNat
  let t := ((s.wr l LRX_FADE_CTRL_POLICY (v / 2 ^ 6)).wr l LRX_FADE_CTRL_REQ_BANK (v / 2 ^ 4)).wr l LRX_FADE_CTRL_LEN v
  if v.testBit 7 then (Res.ok t).andThen s fun t => t.requestSwap l (v / 2 ^ 4 % 4) 1 else .ok t

/-- FADE_REQ (R164, R195). -/
def execFadeReq (r : Req) (l : Die) (w : Word) (s : State) : Host.Outcome State Fault Refusal :=
  .next (Slostan.run r (.fadeReq r l w) (regInfo l 0x08 5 true)
    (fun _ _ s => regGuard l 0x08 true s (s.writeFadeCtrl l w)) s)

def infoRxAdaptSet (lane : Nat) (enables : Option Nat) (nle : Option (List Int)) : CmdInfo :=
  laneInfo 0x4132 lane false false (firstBad [enables.bind fun v => numBad v 32 2,
    nle.bind fun q => if q.length = 6 && q.all (fun v => decide (-512 ≤ v ∧ v ≤ 511)) then none else some 4])

/-- LRX.ADAPT_CTRL (R197). -/
def State.setRxAdapt (s : State) (l : Die) (w : Word) : State :=
  let v := w.toNat
  let s := ((s.wr l LRX_ADAPT_CTRL_MU_FFE (v / 2 ^ 20)).wr l LRX_ADAPT_CTRL_MU_FFE_ACQ (v / 2 ^ 16))
  ((s.wr l LRX_ADAPT_CTRL_MU_NLE (v / 2 ^ 12)).wr l LRX_ADAPT_CTRL_MU_DFE (v / 2 ^ 8)).wr l LRX_ADAPT_CTRL_LEAK (v / 2 ^ 4)

/-- RX_ENABLES: LRX.CTRL [6:2] in [4:0] (R394). -/
def State.setRxEnables (s : State) (l : Die) (v : Nat) : State :=
  let s := ((s.wr l LRX_CTRL_FFE_AD v).wr l LRX_CTRL_NLE_EN (v / 2)).wr l LRX_CTRL_NLE_AD (v / 4)
  (s.wr l LRX_CTRL_DFE_EN (v / 8)).wr l LRX_CTRL_DFE_AD (v / 16)

def applyRxAdaptSet (lane : Nat) (adapt : Option Word) (enables : Option Nat) (dfe : Option (Int × Int))
    (nle : Option (List Int)) (_ : Req) (_ : Session) (s0 : State) : Res :=
  match toDie? lane with
  | none => .badParam 0 s0
  | some l =>
    if !s0.rxOn [l] then .fail .domainOff s0
    else
      let s := match enables with
        | some v => s0.setRxEnables l v
        | none => s0
      if (dfe.isSome && s.flag l LRX_CTRL_DFE_AD) || (nle.isSome && s.flag l LRX_CTRL_NLE_AD) then .fail .busy s0
      else
        let s := match adapt with
          | some w => s.setRxAdapt l w
          | none => s
        let s := match dfe with
          | some (d1, d2) => s.setDfe l d1 d2
          | none => s
        let s := match nle with
          | some q => s.setNle l q
          | none => s
        .ok (s.updRx l fun x => { x with dfeSet := dfe.getD x.dfeSet, nleSet := nle.getD x.nleSet })

/-- RX_ADAPT_SET (R170, R197 to R199): the enables act first; values whose adaptation stays on give BUSY. -/
def execRxAdaptSet (r : Req) (lane : Nat) (adapt : Option Word) (enables : Option Nat) (dfe : Option (Int × Int))
    (nle : Option (List Int)) (s : State) : Host.Outcome State Fault Refusal :=
  .next (Slostan.run r (.rxAdaptSet r lane adapt enables dfe nle) (infoRxAdaptSet lane enables nle)
    (applyRxAdaptSet lane adapt enables dfe nle) s)

def infoRxPathSet (lane pin clear maxTries tryFrames : Nat) : CmdInfo :=
  laneInfo 0x4133 lane false false
    (if pin < 256 && clear < 256 && 1 ≤ maxTries && maxTries ≤ 8 && tryFrames < 4 then none else some 1)

def applyRxPathSet (lane pin clear maxTries tryFrames : Nat) (_ : Req) (_ : Session) (s : State) : Res :=
  match toDie? lane with
  | none => .badParam 0 s
  | some l => if !s.rxOn [l] then .fail .domainOff s else s.setPath l pin clear maxTries tryFrames 1

/-- RX_PATH_SET (R185, R201). -/
def execRxPathSet (r : Req) (lane pin clear maxTries tryFrames : Nat) (s : State) : Host.Outcome State Fault Refusal :=
  .next (Slostan.run r (.rxPathSet r lane pin clear maxTries tryFrames) (infoRxPathSet lane pin clear maxTries tryFrames)
    (applyRxPathSet lane pin clear maxTries tryFrames) s)

/-- PATH_CLEAR (R185, R201): a write of LRX.PATH_CTRL. -/
def execPathClear (r : Req) (l : Die) (w : Word) (s : State) : Host.Outcome State Fault Refusal :=
  let v := w.toNat
  .next (Slostan.run r (.pathClear r l w) (regInfo l 0x08 13 true) (fun _ _ s =>
    regGuard l 0x08 true s (s.setPath l (v / 2 ^ 24) (v / 2 ^ 16 % 256) (v / 16 % 16) (v % 4) 1)) s)

/-- MAIN and COEFFS, and DFE and NLE, as TLVs (R394, R418). -/
def tlvBank (main : Nat) (c : List Int) : List Tlv := [⟨0x01E2, be 1 main⟩, ⟨0x01E1, c.flatMap (beInt 2)⟩]

def tlvNleDfe (d1 d2 : Int) (q : List Int) : List Tlv := [⟨0x01E9, beInt 1 d1 ++ beInt 1 d2⟩, ⟨0x01EA, q.flatMap (beInt 2)⟩]

def infoRxBankRead (lane kind index : Nat) : CmdInfo :=
  { code := 0x4134, priv := some .observer, read := true, dies := oneDie lane,
    bad := firstBad [numBad lane 8 0,
      if (kind = 0 && index < 4) || (kind = 1 && index < 8) || kind = 2 then none else some 1] }

def applyRxBankRead (lane kind index : Nat) (_ : Req) (_ : Session) (s : State) : Res :=
  match toDie? lane with
  | none => .badParam 0 s
  | some l =>
    if s.level l .rx = .dead then .fail .domainOff s
    else if kind = 0 then .okWith s (tlvBank (s.rd l (LRX_CB_M index)) (s.cb l index))
    else if kind = 1 then
      match (s.rx l).entries.get (Fin.ofNat 8 index) with
      | some v => .okWith s (tlvBank v.main v.coefs ++ tlvNleDfe v.d1 v.d2 v.nle)
      | none => .badParam 1 s
    else .okWith s (tlvNleDfe (s.rdInt l LRX_DFE_D1) (s.rdInt l LRX_DFE_D2)
      ((List.range 6).map fun i => s.rdInt l (LRX_NLE_Q i)))

/-- RX_BANK_READ (R418). -/
def execRxBankRead (r : Req) (lane kind index : Nat) (s : State) : Host.Outcome State Fault Refusal :=
  .next (Slostan.run r (.rxBankRead r lane kind index) (infoRxBankRead lane kind index)
    (applyRxBankRead lane kind index) s)

/-- Whether a value of RX_BASIC is in range, or 0xFF for unchanged. -/
def basicOk (v lo hi : Nat) : Bool := v == 0xFF || (decide (lo ≤ v) && decide (v ≤ hi))

def infoLineRxSet (lanes : BitVec 8) (capThr losThr bw fastEn fbSuggest : Nat) : CmdInfo :=
  { code := 0x0107, priv := some .operator, cls := 5, insts := (maskDies lanes).map Fin.val, dies := maskDies lanes,
    bad := firstBad [maskBad lanes 0,
      if basicOk capThr 1 9 && basicOk losThr 10 30 && basicOk bw 0 3 && basicOk fastEn 0 1 && basicOk fbSuggest 0 1
      then none else some 1] }

/-- Writes a field unless the value is 0xFF. -/
def State.wrFF (s : State) (d : Die) (f : Fld) (v : Nat) : State := if v = 0xFF then s else s.wr d f v

def applyLineRxSet (lanes : BitVec 8) (capThr losThr bw fastEn fbSuggest : Nat) (_ : Req) (_ : Session) (s : State) :
    Res :=
  let ls := maskDies lanes
  if !s.rxOn ls then .fail .domainOff s
  else .ok (s.each ls fun s l =>
    let s := ((s.wrFF l LRX_FRONT_CAP_THR capThr).wrFF l LRX_FRONT_LOS_THR losThr).wrFF l LRX_TIMING_BW bw
    (s.wrFF l LRX_CTRL_FAST_EN fastEn).wrFF l LRX_CTRL_FB_SUGGEST fbSuggest)

/-- LINE_RX_SET (R189, R192). -/
def execLineRxSet (r : Req) (lanes : BitVec 8) (capThr losThr bw fastEn fbSuggest : Nat) (s : State) :
    Host.Outcome State Fault Refusal :=
  .next (Slostan.run r (.lineRxSet r lanes capThr losThr bw fastEn fbSuggest)
    (infoLineRxSet lanes capThr losThr bw fastEn fbSuggest) (applyLineRxSet lanes capThr losThr bw fastEn fbSuggest) s)

/-- Whether the values of DEC.MARK_CTRL are in range (R236). -/
def markCtrlOk (tol lockN lossN slipWin : Nat) : Bool :=
  decide (tol ≤ 12 ∧ 2 ≤ lockN ∧ lockN ≤ 7 ∧ 2 ≤ lossN ∧ lossN ≤ 15 ∧ slipWin ≤ 8)

def infoFrameLockSet (lane tol lockN lossN slipWin : Nat) : CmdInfo :=
  laneInfo 0x4141 lane false true (if markCtrlOk tol lockN lossN slipWin then none else some 1)

/-- DEC.MARK_CTRL takes its values; a search under way keeps those it began with. -/
def State.setMarkCtrl (s : State) (l : Die) (tol lockN lossN slipWin : Nat) : State :=
  ((s.wr l DEC_MARK_CTRL_TOL tol).wr l DEC_MARK_CTRL_LOCK_N lockN).wr l DEC_MARK_CTRL_LOSS_N lossN |>.wr l
    DEC_MARK_CTRL_SLIP_WIN slipWin

def applyFrameLockSet (lane tol lockN lossN slipWin : Nat) (_ : Req) (_ : Session) (s : State) : Res :=
  match toDie? lane with
  | none => .badParam 0 s
  | some l => if !s.rxOn [l] then .fail .domainOff s else .ok (s.setMarkCtrl l tol lockN lossN slipWin)

/-- FRAME_LOCK_SET (R236). -/
def execFrameLockSet (r : Req) (lane tol lockN lossN slipWin : Nat) (s : State) : Host.Outcome State Fault Refusal :=
  .next (Slostan.run r (.frameLockSet r lane tol lockN lossN slipWin) (infoFrameLockSet lane tol lockN lossN slipWin)
    (applyFrameLockSet lane tol lockN lossN slipWin) s)

end Sys2Proof.Machine
end

