-- ==== Sys2Proof/Machine/KeysHeld.lean ====
section
/-! DEFINITION. The keys of the link cipher that every die holds: policy and mode, pipelines, the keys in use and their life (R275,
R290, R291, R294, R296, R298, R303, R309, R311, R312). -/

namespace Sys2Proof.Machine

/-! ### Policy, mode and pipelines (R275, R303, R312) -/

/-- Whether the cipher runs at all: FULL or ASSURED, policy not CLEAR (R303, R341). -/
def State.cipherOn (s : State) : Bool := !s.standard && s.policyCode 0 != 2

/-- The agreement mode (KEY_MODE_SET). -/
def State.keyMode (s : State) : KeyMode := if s.rd 0 CIPH_CFG_MODE = 2 then .psk else .hybrid

def KeyMode.code : KeyMode → Nat
  | .hybrid => 1
  | .psk => 2

def State.ciph (s : State) (l : Die) : CiphLane := (s.die l).ciph
def State.updCiph (s : State) (l : Die) (g : CiphLane → CiphLane) : State := s.updDie l fun x => { x with ciph := g x.ciph }
def State.keys (s : State) (d : Die) : KeySt := (s.die d).keys
def State.updKeys (s : State) (d : Die) (g : KeySt → KeySt) : State := s.updDie d fun x => { x with keys := g x.keys }
def State.updKx (s : State) (g : KxSt → KxSt) : State := { s with kx := g s.kx }

/-- Pipelines of a direction that are neither retired nor fenced. -/
def State.pipesOk (s : State) (l : Die) (rx : Bool) : BitVec 4 :=
  if rx then ~~~((s.die l).units.rxPipes ||| (s.ciph l).rxFenced) else ~~~((s.die l).units.txPipes ||| (s.ciph l).txFenced)

/-- Whether three pipelines remain in a direction (R275). -/
def State.threePipes (s : State) (l : Die) (rx : Bool) : Bool :=
  decide (3 ≤ (List.range 4).countP fun i => (s.pipesOk l rx).getLsbD i)

/-- CIPH.PIPE shows the pipelines not retired. -/
def State.showPipes (s : State) (l : Die) : State :=
  (s.wr l CIPH_PIPE_TX_OK (~~~(s.die l).units.txPipes).toNat).wr l CIPH_PIPE_RX_OK (~~~(s.die l).units.rxPipes).toNat

/-! ### Keys in use (R290, R291, R294, R298) -/

/-- Dies whose key managers keep keys: not in DORMANT or OFF. -/
def State.keyDies (s : State) : List Die := s.popDies.filter fun d => s.power d != .dormant && s.power d != .off

/-- The die whose key manager answers for the part: one that holds keys, the leader if it does (R311). -/
def State.keyHome (s : State) : Die :=
  let holds (d : Die) : Bool := (s.keys d).txCur.isSome || !(s.keys d).rx.isEmpty
  if holds s.leader then s.leader else (s.popDies.find? holds).getD s.leader

/-- The transmit key a lane uses. -/
def State.laneKey (s : State) (l : Die) : Option TKey :=
  if (s.ciph l).onNext then (s.keys l).txNext else (s.keys l).txCur

/-- How long a key has been installed; after extrapolation the uncertainty counts as time passed (R291, R309). -/
def State.keyAge (s : State) (k : TKey) : Nat :=
  s.time.now - k.at_ + (if s.time.extrap then s.time.uncert * nsU else 0)

/-- Whether TIME_LIMIT has passed for a key (R291). -/
def State.keyOld (s : State) (k : TKey) : Bool := decide (secU (60 * s.rd 0 CIPH_LIFE_TIME_LIMIT) ≤ s.keyAge k)

/-- The frame life of a key on a lane (R291). -/
def State.frameLife (s : State) : Nat := 2 ^ s.rd 0 CIPH_LIFE_FRAME_LOG2

/-- Whether the current transmit key has reached a limit (R291, R298): on the busiest lane that uses it. -/
def State.keySpent (s : State) (k : TKey) : Bool :=
  s.keyOld k || s.popDies.any fun l => !(s.ciph l).onNext && decide (s.frameLife ≤ s.rd l CIPH_TX_USED_USED)

/-- Whether a lane has a usable transmit key (R122, R275, R296, R298). -/
def State.keyUsable (s : State) (l : Die) : Bool :=
  s.threePipes l false && !(s.ciph l).barred && match s.laneKey l with
    | some k => !(if (s.ciph l).onNext then s.keyOld k else s.keySpent k)
    | none => false

/-- The epoch after one (R290). -/
def epochAfter (e : Nat) : Nat := if e = 0xFFFF then 1 else e + 1

/-- The next epoch of the transmit direction (R290). -/
def State.nextEpoch (s : State) : Nat :=
  match (s.keys s.keyHome).txCur with
  | some k => epochAfter k.epoch
  | none => 1

end Sys2Proof.Machine
end

