-- ==== Sys2Proof/Machine/PortPlan.lean ====
section
/-! DEFINITION. Port plans: the widths, the host lanes, dies and line lanes that a port takes, and what a plan may hold
(R20, R36 to R41, R49, R63, R64, R328, R329). -/

namespace Sys2Proof.Machine

/-- Width codes (R64). -/
def Width.code : Width → Nat
  | .w200 => 1
  | .w400 => 2
  | .w800 => 3
  | .w1600 => 4

/-- Host lanes of a port. -/
def Width.lanes : Width → Nat
  | .w200 => 1
  | .w400 => 2
  | .w800 => 4
  | .w1600 => 8

/-- Distance of a port's host lanes: in STANDARD only even host lanes carry a port (R20, R328). -/
def laneStep (prof : Profile) : Nat := if prof = .standard then 2 else 1

/-- The host lanes a port takes under a profile, by number. -/
def Port.lanes (prof : Profile) (p : Port) : List Nat :=
  (List.range (Width.lanes p.width)).map fun k => p.first.val + k * laneStep prof

/-- Whether a port takes a host lane. -/
def Port.has (prof : Profile) (p : Port) (h : HostLane) : Bool := (Port.lanes prof p).contains h.val

/-- The base die of a port: its lowest-position die. -/
def Port.base (p : Port) : Die := HostLane.die p.first

/-- Dies of a port (R49, R328). -/
def Port.span (prof : Profile) (p : Port) : Nat := max 1 (Width.lanes p.width * laneStep prof / 2)

/-- The dies, and so the line lanes, of a port, lowest first. -/
def Port.dies (prof : Profile) (p : Port) : List Die :=
  allDies.filter fun d => decide ((Port.base p).val ≤ d.val ∧ d.val < (Port.base p).val + Port.span prof p)

/-- Whether a port takes a host lane on an unpopulated die (R38). -/
def Port.unpopulated (s : State) (prof : Profile) (p : Port) : Bool :=
  (Port.lanes prof p).any fun h => decide (2 * Part.dies s.part ≤ h ∧ h < 16)

/-- Whether a port starts at a host lane that R38 or R328 lists for a profile. -/
def Port.listed (s : State) (prof : Profile) (p : Port) : Bool :=
  decide (p.first.val % (Width.lanes p.width * laneStep prof) = 0)
    && decide ((Port.base p).val + Port.span prof p ≤ Part.dies s.part - (if prof = .assured then 1 else 0))

/-- Whether two ports claim the same host lane under a profile (R39). -/
def portsClash (prof : Profile) (p q : Port) : Bool := (Port.lanes prof p).any fun h => (Port.lanes prof q).contains h

/-- The position of the first PORT TLV that a plan cannot hold, counted from `i`: its port is not one of R38 or R328, or
claims a host lane of a port before it (R39), or is a seventeenth. -/
def planBadFrom (s : State) (prof : Profile) : Nat → List Port → List Port → Option Nat
  | _, _, [] => none
  | i, seen, p :: ps =>
    if !Port.listed s prof p || 16 ≤ seen.length || seen.any (portsClash prof p) then some i
    else planBadFrom s prof (i + 1) (p :: seen) ps

/-- What check 9 finds wrong with a plan (R38, R39); its PORT TLVs begin at position `i`. -/
def planBad (s : State) (prof : Profile) (i : Nat) (ps : List Port) : Option Nat := planBadFrom s prof i [] ps

/-- The port of the running plan that takes a host lane. -/
def State.portOf (s : State) (h : HostLane) : Option Port := s.plan.find? fun p => Port.has s.profile p h

/-- The ports of a die, the one on the lower host lane first. -/
def State.portsOn (s : State) (d : Die) : List Port :=
  (s.plan.filter fun p => (Port.dies s.profile p).contains d && p.first.val % 2 == 0)
    ++ (s.plan.filter fun p => (Port.dies s.profile p).contains d && p.first.val % 2 == 1)

/-- Whether the ports are rate-matched (R56). -/
def State.rateMatched (s : State) : Bool := s.assured || (s.profile == .full && s.clockMode == .decoupled)

/-- Whether a line lane carries a client port. -/
def State.carries (s : State) (l : Die) : Bool := !(s.portsOn l).isEmpty

end Sys2Proof.Machine
end

