-- ==== Sys2Proof/Machine/Causes.lean ====
section
/-! DEFINITION. Transmitter states and squelch causes (R121, R122, R126, R250, R287, R298, R303, R334). -/

namespace Sys2Proof.Machine

/-! ### Causes (R122, R126, R250, R287, R298, R303, R334) -/

def TxState.code : TxState → Nat
  | .mute => 0
  | .pilot => 1
  | .withheld => 2
  | .live => 3

def TxState.ofCode : Nat → TxState
  | 0 => .mute
  | 1 => .pilot
  | 2 => .withheld
  | _ => .live

def Cause.code : Cause → Nat
  | .notUp => 1
  | .power => 2
  | .linePll => 3
  | .mask => 4
  | .forced => 5
  | .safetyC => 6
  | .agreeFail => 7
  | .noKey => 8
  | .noPort => 9

/-- Every cause, by rising code. -/
def allCauses : List Cause :=
  [.notUp, .power, .linePll, .mask, .forced, .safetyC, .agreeFail, .noKey, .noPort]

/-- Whether a lane is in ACTIVE and not leaving it (R122, R127). -/
def State.stayingActive (s : State) (l : Die) : Bool :=
  s.active l && !(s.flag l PWR_STATE_TRANS && s.rd l PWR_STATE_TARGET != 0)

/-- Whether a cause is active on a lane. -/
def State.causeOn (s : State) (l : Die) : Cause → Bool
  | .notUp => !(s.tx l).up || s.phase == .stopping || s.phase == .shuttingDown
  | .power => !s.stayingActive l
  | .linePll => !s.flag l CLK_PLL_STAT_LINE_LOCK
  | .mask => (s.tx l).maskMute
  | .forced => s.rd l LTX_CTRL_FORCE != 0
  | .safetyC => !s.isTop l && !s.standard && s.flag l CIPH_FLAGS_SF_C
  | .agreeFail =>
    !s.isTop l && s.cipherOn && s.policyCode l == 0 && !s.keyUsable l && s.kx.failed && s.kx.due.isSome && s.kx.tx.isNone
      && s.kx.rx.isNone
  | .noKey => !s.isTop l && s.cipherOn && s.policyCode l == 0 && !s.keyUsable l
  | .noPort => !s.assured && !s.carries l

/-- The state that an active cause requires (R122); in STANDARD every one requires MUTE (R334). -/
def State.causeState (s : State) (l : Die) (c : Cause) : TxState :=
  if s.standard then .mute
  else match c with
    | .notUp | .power | .linePll | .mask => .mute
    | .forced => match s.rd l LTX_CTRL_FORCE with
      | 1 => .withheld
      | 2 => .pilot
      | _ => .mute
    | .safetyC | .agreeFail => .pilot
    | .noKey | .noPort => .withheld

/-- The active causes of a lane, by rising code. -/
def State.txCauses (s : State) (l : Die) : List Cause := allCauses.filter (s.causeOn l)

def TxState.stricter (a b : TxState) : TxState := if TxState.code a ≤ TxState.code b then a else b

/-- The most restrictive state that any active cause requires, or LIVE (R122). -/
def State.txWant (s : State) (l : Die) : TxState := ((s.txCauses l).map (s.causeState l)).foldl TxState.stricter .live

/-- The cause that SQ_CAUSE shows (R122). -/
def State.txCause (s : State) (l : Die) : Nat :=
  match (s.txCauses l).find? fun c => s.causeState l c == s.txWant l with
  | some c => Cause.code c
  | none => 0

/-- Whether the transmitter runs: its frames are formed, whatever its state (R94). -/
def State.txRuns (s : State) (l : Die) : Bool :=
  !s.causeOn l .notUp && !s.causeOn l .power && !s.causeOn l .linePll

/-- Notes, before a change that may end causes, what states they have required within the running frames (R124). -/
def State.noteCauses (s : State) : State :=
  s.each s.popDies fun s l => s.each ((s.txCauses l).map (s.causeState l)) fun s st => s.holdTx l true st

end Sys2Proof.Machine
end

