-- ==== Sys2Proof/Machine/Keys.lean ====
section
/-! DEFINITION. Keys of the link cipher: installing and zeroising them, agreement over the in-band channel, epochs and racking
(R275 to R298, R301, R302, R304, R308 to R312). -/

namespace Sys2Proof.Machine

/-! ### Keys shown, installed and zeroised (R290 to R296, R309) -/

/-- CIPH.TX_STAT and CIPH.RX_STAT follow the keys held and the attempt that runs. -/
def State.showKeys (s : State) : State :=
  s.each s.popDies fun s l =>
    let k := s.keys l
    let s := (s.wrB l CIPH_TX_STAT_NEXT_VALID k.txNext.isSome).wrB l CIPH_TX_STAT_KEY_VALID (s.keyUsable l)
    let s := s.wrB l CIPH_TX_STAT_AGREEING s.kx.tx.isSome
    (s.wrB l CIPH_RX_STAT_NEXT_VALID (2 ≤ k.rx.length)).wrB l CIPH_RX_STAT_KEY_VALID (!k.rx.isEmpty)

/-- A lane begins with another epoch. -/
def State.freshEpoch (s : State) (l : Die) (next : Bool) : State :=
  (s.updCiph l fun c => { c with onNext := next, announced := false, cd := 0, highFc := none, barred := false }).wr l
    CIPH_TX_USED_USED 0

/-- Installs a transmit key (R283 step 5, R293): as the next one while one is in use that has not expired, else at once. -/
def State.installTx (s : State) (k : TKey) : State :=
  let s := s.noteCauses
  let inUse := match (s.keys s.keyHome).txCur with
    | some c => !s.keySpent c && !s.kx.expired
    | none => false
  if inUse then s.each s.keyDies fun s d => s.updKeys d fun x => { x with txNext := some k }
  else
    let s := s.each s.keyDies fun s d => s.updKeys d fun x => { x with txCur := some k, txNext := none }
    (s.each allDies fun s l => s.freshEpoch l false).updKx fun x => { x with expired := false, resync := false }

/-- Installs a receive key (R294). -/
def State.installRx (s : State) (k : TKey) : State :=
  s.each s.keyDies fun s d =>
    s.updKeys d fun x => { x with rx := (k :: x.rx.filter fun y => y.epoch != k.epoch).take 2 }

/-- What an attempt holds that is secret goes (R276, R309). -/
def Attempt.wiped (a : Attempt) : Attempt := { a with secret := none, key := none, kci := [], kcr := [] }

/-- The leader's key manager loses its part of the attempts that run: they cannot complete any more (R309). -/
def State.wipeAttempts (s : State) : State :=
  s.updKx fun x => { x with tx := x.tx.map Attempt.wiped, rx := x.rx.map Attempt.wiped }

/-- Attempts that run end without a record, and none waits (R309). -/
def State.dropAttempts (s : State) : State :=
  s.updKx fun x =>
    { x with tx := none, rx := none, due := none, failed := false, resync := false, outbox := [], newer := none, expired := false }

/-- Zeroises the session keys of a die (R309). -/
def State.zeroiseDie (s : State) (d : Die) : State := s.updKeys d fun _ => ⟨none, none, []⟩

/-- Every running attempt and every session key goes (R304, R309, R341). -/
def State.zeroiseAll (s : State) : State :=
  let s := s.each allDies fun s d => ((s.zeroiseDie d).freshEpoch d false)
  s.dropAttempts.showKeys

/-- Once every running lane uses the next key it is the current one, and the old one is zeroised (R293, R294). -/
def State.promote (s : State) : State :=
  let s := s.noteCauses
  let running := s.popDies.filter fun l => (s.tx l).running
  match (s.keys s.keyHome).txNext with
  | none => s
  | some k =>
    if running.all fun l => (s.ciph l).onNext then
      let s := s.each s.popDies fun s d => s.updKeys d fun x =>
        { x with txCur := if x.txNext.isSome then x.txNext else x.txCur, txNext := none }
      let s := s.each allDies fun s l =>
        if (s.ciph l).onNext then s.updCiph l fun c => { c with onNext := false } else s.freshEpoch l false
      let s := s.updKx fun x => { x with resync := false, expired := false }
      ((s.cntPkg 1552).raisePkg evRACK_DONE (evArg 0 0xFF (be 2 k.epoch))).showKeys
    else s

/-! ### Records out (R279 to R283, R446) -/

/-- The lanes whose own transmitter sends WITHHELD or LIVE frames (R446). -/
def State.kxLanes (s : State) : List Die :=
  s.popDies.filter fun l => (s.tx l).running && 2 ≤ s.rd l LTX_STAT_TX_STATE

/-- Sends a record on an up lane, else on the lowest lane that sends WITHHELD or LIVE frames; with none it waits
(R446). -/
def State.kxSend (s : State) (raw : Bytes) : State :=
  let m := s.jeuriMsg 4 0 raw
  let ls := s.kxLanes
  match s.leastLane (ls.filter fun l => s.bit 0 FAB_INBAND_UP_MASK l.val), ls with
  | some l, _ => s.inbPush l m
  | none, l :: _ => s.inbPush l m
  | none, [] => s.updKx fun x => { x with outbox := x.outbox ++ [raw] }

/-- Records that waited go once a lane can carry them. -/
def State.kxFlush (s : State) : State :=
  if s.kxLanes.isEmpty then s
  else
    let l := s.kx.outbox
    s.updKx (fun x => { x with outbox := [] }) |>.each l fun s raw => s.kxSend raw

/-- The header of a record (R280). -/
def kxHead (type : Nat) (mode : KeyMode) (session : BitVec 32) (epoch len : Nat) : Bytes :=
  be 1 1 ++ be 1 type ++ be 1 (KeyMode.code mode) ++ be 1 0 ++ be 4 session.toNat ++ be 2 epoch ++ be 2 len

def KxReason.code : KxReason → Nat
  | .none => 0
  | .timeout => 1
  | .certInvalid => 2
  | .sigFail => 3
  | .macFail => 4
  | .modeMismatch => 5
  | .nonceEqual => 6
  | .peerAbort => 7
  | .leaderChange => 8
  | .noCredential => 9
  | .superseded => 10

/-- Sends ABORT for an attempt (R285). -/
def State.kxAbortSend (s : State) (mode : KeyMode) (session : BitVec 32) (epoch : Nat) (r : KxReason) : State :=
  s.kxSend (kxHead 5 mode session epoch 1 ++ be 1 (KxReason.code r))

/-! ### Derivation and proofs (R277, R278, R283) -/

def asciiBytes (t : String) : Bytes := t.toList.map fun c => BitVec.ofNat 8 c.toNat

/-- info(label) of R277. -/
def kxInfo (label : String) (dir epoch : Nat) : Bytes := asciiBytes label ++ [0#8] ++ be 1 dir ++ be 2 epoch

/-- Traffic key, kci and kcr of an attempt (R277). -/
def kxDerive (th ikm : Bytes) (dir epoch now : Nat) : TKey × Bytes × Bytes :=
  let prk := Config.hkdfExtract (Config.sha384 th) ikm
  let okm := Config.hkdfExpand prk (kxInfo "koilo4 traffic" dir epoch) 36
  (⟨epoch, okm.take 32, okm.drop 32, dir, now⟩, Config.hkdfExpand prk (kxInfo "koilo4 confirm i" dir epoch) 48,
    Config.hkdfExpand prk (kxInfo "koilo4 confirm r" dir epoch) 48)

/-- The direction bit (R278). -/
def dirBit (ni nr : Bytes) : Nat := if ofBe ni < ofBe nr then 0 else 1

/-- Whether the credentials of the mode are there, and the lifecycle lets agreement run (R312). -/
def State.kxCredential (s : State) (mode : KeyMode) : Bool :=
  s.nv.fuses.lifecycle != 0 && s.nv.fuses.lifecycle != 3 && match mode with
    | .hybrid => s.nv.fuses.ownerKey.isSome && s.nv.ownerCert.isSome
    | .psk => s.nv.psk.isSome

/-- Whether a certificate is accepted (R284). -/
def State.kxCertOk (s : State) (cert : Bytes) : Bool :=
  match s.nv.fuses.ownerKey with
  | some k => Config.certVerify cert k && Config.certKey cert != s.nv.identityPub
  | none => false

/-! ### Ends of attempts (R285 to R289) -/

/-- A failure is recorded (R286, R288, R598). -/
def State.kxFailed (s : State) (initiator : Bool) (epoch : Nat) (r : KxReason) : State :=
  let s := if initiator then (s.incSat 0 KEY_AGREE_TX_ATTEMPTS 1).wr 0 KEY_AGREE_TX_LAST_REASON (KxReason.code r)
    else (s.incSat 0 KEY_AGREE_RX_ATTEMPTS 1).wr 0 KEY_AGREE_RX_LAST_REASON (KxReason.code r)
  (s.cntPkg 1551).raisePkg evKEY_AGREE_FAIL (evArg (if initiator then 0 else 1) (KxReason.code r) (be 2 epoch))

/-- Unsent records of an attempt do not go. -/
def State.dropOutbox (s : State) (session : BitVec 32) : State :=
  s.updKx fun x => { x with outbox := x.outbox.filter fun m => sub m 4 4 != be 4 session.toNat }

/-- The initiator's attempt ends in failure; the wait before the next doubles, but for a replaced one and a leader
change (R286, R289, R302). -/
def State.kxEndTx (s : State) (r : KxReason) : State :=
  match s.kx.tx with
  | none => s
  | some a =>
    let s := (s.dropOutbox a.session).updKx fun x => { x with tx := none }
    let s := if r = .superseded ∨ r = .leaderChange then s
      else s.updKx fun x =>
        { x with failed := true, due := some (s.time.now + secU x.wait), wait := min 64 (2 * x.wait) }
    (s.kxFailed true a.epoch r).showKeys

/-- The responder's attempt ends in failure. -/
def State.kxEndRx (s : State) (r : KxReason) : State :=
  match s.kx.rx with
  | none => s
  | some a => ((s.dropOutbox a.session).updKx fun x => { x with rx := none }).kxFailed false a.epoch r

/-! ### The initiator (R283, R286, R292) -/

/-- Starts an attempt as initiator (R283 step 1, R312); without its credential it fails at once. -/
def State.kxStart (s : State) : State :=
  if !s.cipherOn || s.kx.tx.isSome then s
  else
    let s := s.noteCauses
    let n := s.free
    let s := { s with free := n + 2 }
    let mode := s.keyMode
    let epoch := s.nextEpoch
    let session := BitVec.ofNat 32 (ofBe (Config.random n 4))
    let nonce := Config.random (n + 1) 32
    let own := s.nv.ownerCert.getD []
    let body := match mode with
      | .hybrid => nonce ++ Config.ecdhPublic n ++ Config.kemPublic n ++ be 2 own.length ++ own
      | .psk => nonce
    let hello := kxHead 1 mode session epoch body.length ++ body
    let a : Attempt :=
      { session, epoch, mode, start := s.time.now, secret := some n, nonce, hello, response := [], confirm := [], peer := [],
        key := none, kci := [], kcr := [] }
    let s := s.updKx fun x => { x with tx := some a, due := none, failed := false }
    if !s.kxCredential mode then s.kxEndTx .noCredential else (s.kxSend hello).showKeys

/-- Whether the direction needs an attempt now: some lane sends, none is under way or waited for, and there is no usable
key to send with, or a lane is barred from its epoch (R289, R292, R296, R311). -/
def State.kxNeed (s : State) : Bool :=
  s.cipherOn && s.kx.tx.isNone && s.kx.due.isNone && (s.keys s.keyHome).txNext.isNone
    && s.popDies.any fun l => (s.tx l).up && ((s.keys s.keyHome).txCur.isNone || (s.ciph l).barred || s.kx.expired)

/-- Starts the attempt that is needed. -/
def State.kxKick (s : State) : State := if s.kxNeed then s.kxStart else s

/-- Whether three-quarters of a limit of the current key are used (R292, R314). -/
def State.keyThreshold (s : State) : Bool :=
  match (s.keys s.keyHome).txCur with
  | none => false
  | some k =>
    decide (3 * secU (60 * s.rd 0 CIPH_LIFE_TIME_LIMIT) ≤ 4 * s.keyAge k)
      || s.popDies.any fun l => decide (3 * s.frameLife ≤ 4 * s.rd l CIPH_TX_USED_USED)

/-- Starts the agreement for the next epoch at three-quarters of a limit (R292). -/
def State.kxLife (s : State) : State :=
  if s.cipherOn && s.keyThreshold && (s.keys s.keyHome).txNext.isNone && s.kx.due.isNone then s.kxStart else s

/-- KEY_LIFE_THRESHOLD (R292). -/
def execKeyLifeThreshold (s : State) : Host.Outcome State Fault Refusal := .next s.kxLife

/-- KEY_AGREE_TIMEOUT (R286). -/
def execKeyAgreeTimeout (initiator : Bool) (s : State) : Host.Outcome State Fault Refusal :=
  match if initiator then s.kx.tx else s.kx.rx with
  | some a =>
    if s.past a.start (secU 2) then .next (if initiator then s.kxEndTx .timeout else s.kxEndRx .timeout) else .next s
  | none => .next s

/-- KEY_AGREE_BACKOFF_END (R286, R287). -/
def execKeyAgreeBackoffEnd (s : State) : Host.Outcome State Fault Refusal :=
  match s.kx.due with
  | some t => if t ≤ s.time.now then .next ((s.updKx fun x => { x with due := none }).kxStart) else .next s
  | none => .next s

/-! ### Records in (R280 to R288) -/

/-- Whether a record can arrive by a lane: its receiver decodes overhead codewords, and the leader's key manager takes it (R279,
R446). -/
def State.kxArrives (s : State) (l : Die) : Bool := s.pop l && s.phase == .ready && s.leads && s.rxDelivers l && !s.standard

/-- A record whose header is refused, or that meets no attempt, is dropped and counted (R281, R285). -/
def State.kxDropped (s : State) (l : Die) : State := s.cnt l 155

/-- Whether a record's header is in order (R281). -/
def KxRec.headOk (c : KxRec) : Bool := c.ver == 1 && c.lenOk

/-- The first check a HELLO or RESPONSE fails before its proofs (R278, R284, R288); a RESPONSE is held to the mode of its attempt
(R312). -/
def State.kxRefuse (s : State) (mode : KeyMode) (c : KxRec) (nonce : Bytes) : Option KxReason :=
  if c.mode ≠ KeyMode.code mode then some .modeMismatch
  else if !s.kxCredential mode then some .noCredential
  else if c.nonce = nonce then some .nonceEqual
  else if mode == .hybrid && !s.kxCertOk c.cert then some .certInvalid
  else none

/-- The responder's answer to a HELLO (R277, R283 step 2). -/
def State.kxRespond (s : State) (c : KxRec) : State :=
  let s := s.noteCauses
  let n := s.free
  let s := { s with free := n + 2 }
  let mode := s.keyMode
  let nonce := Config.random (n + 1) 32
  let a : Attempt :=
    { session := c.session, epoch := c.epoch, mode, start := s.time.now, secret := some n, nonce, hello := c.raw, response := [],
      confirm := [], peer := Config.certKey c.cert, key := none, kci := [], kcr := [] }
  match s.kxRefuse mode c nonce with
  | some r =>
    let s := s.updKx fun x => { x with rx := some a }
    (s.kxAbortSend mode c.session c.epoch r).kxEndRx r
  | none =>
    let s := s.updKx fun x => { x with wait := 1 }
    let own := s.nv.ownerCert.getD []
    let (ct, kem) := Config.kemEncaps n c.kem
    let body := match mode with
      | .hybrid => nonce ++ Config.ecdhPublic n ++ ct ++ be 2 own.length ++ own
      | .psk => nonce
    let len := body.length + (if mode = .hybrid then 144 else 48)
    let head := kxHead 2 mode c.session c.epoch len ++ body
    let th := c.raw ++ head
    let ikm := match mode with
      | .hybrid => kem ++ Config.ecdhShared n c.point
      | .psk => s.nv.psk.getD []
    let (key, kci, kcr) := kxDerive th ikm (dirBit c.nonce nonce) c.epoch s.time.now
    let sig := match mode with
      | .hybrid => Config.identitySign th
      | .psk => []
    let response := head ++ sig ++ Config.hmac384 kcr (th ++ sig)
    let s := s.updKx fun x => { x with rx := some { a with response, key := some key, kci, kcr } }
    let s := s.kxSend response
    if s.kx.due.isSome then (s.updKx fun x => { x with due := none }).kxStart else s

/-- KX_HELLO (R283 step 2, R285, R286). -/
def execKxHello (l : Die) (c : KxRec) (s : State) : Host.Outcome State Fault Refusal :=
  if !s.kxArrives l then .next s
  else if !KxRec.headOk c || !s.cipherOn then .next (s.kxDropped l)
  else .next ((s.kxEndRx .superseded).kxRespond c)

/-- The initiator's handling of RESPONSE (R283 step 3). -/
def State.kxAnswer (s : State) (a : Attempt) (c : KxRec) : State :=
  let refuse (r : KxReason) : State := (s.kxAbortSend a.mode a.session a.epoch r).kxEndTx r
  match s.kxRefuse a.mode c a.nonce with
  | some r => refuse r
  | none =>
    let tail := if a.mode = .hybrid then 144 else 48
    let th := a.hello ++ c.raw.take (c.raw.length - tail)
    let ikm := match a.mode with
      | .hybrid => match a.secret with
        | some n => Config.kemDecaps n c.kem ++ Config.ecdhShared n c.point
        | none => []
      | .psk => s.nv.psk.getD []
    let (key, kci, kcr) := kxDerive th ikm (dirBit a.nonce c.nonce) a.epoch s.time.now
    let peer := Config.certKey c.cert
    if a.mode == .hybrid && !Config.ecdsaVerify peer th c.sig then refuse .sigFail
    else if a.secret.isNone || c.mac != Config.hmac384 kcr (th ++ c.sig) then refuse .macFail
    else
      let sig := match a.mode with
        | .hybrid => Config.identitySign (a.hello ++ c.raw)
        | .psk => []
      let head := kxHead 3 a.mode a.session a.epoch (sig.length + 48)
      let confirm := head ++ sig ++ Config.hmac384 kci (a.hello ++ c.raw ++ head ++ sig)
      (s.updKx fun x => { x with tx := some { a with response := c.raw, confirm, peer, key := some key, kci, kcr } }).kxSend
        confirm

/-- KX_RESPONSE (R283 step 3). -/
def execKxResponse (l : Die) (c : KxRec) (s : State) : Host.Outcome State Fault Refusal :=
  if !s.kxArrives l then .next s
  else match KxRec.headOk c, s.kx.tx with
    | true, some a =>
      if a.session = c.session ∧ a.response = [] then .next (s.kxAnswer a c) else .next (s.kxDropped l)
    | _, _ => .next (s.kxDropped l)

/-- The responder's handling of CONFIRM: the receive key is installed (R283 step 4). -/
def State.kxInstallRx (s : State) (a : Attempt) (c : KxRec) : State :=
  let refuse (r : KxReason) : State := (s.kxAbortSend a.mode a.session a.epoch r).kxEndRx r
  let tr := a.hello ++ a.response
  let head := c.raw.take 12
  if c.mode ≠ KeyMode.code a.mode then refuse .modeMismatch
  else if a.mode == .hybrid && !Config.ecdsaVerify a.peer tr c.sig then refuse .sigFail
  else if c.mac != Config.hmac384 a.kci (tr ++ head ++ c.sig) then refuse .macFail
  else match a.key with
    | none => refuse .macFail
    | some k =>
      let s := (s.installRx { k with at_ := s.time.now }).updKx fun x => { x with rx := none, newer := none }
      let s := (s.wr 0 KEY_AGREE_RX_ATTEMPTS 0).wr 0 KEY_AGREE_RX_LAST_REASON 0
      let s := (s.cntPkg 1550).raisePkg evKEY_AGREED (evArg 1 0xFF (be 2 a.epoch))
      let ah := kxHead 4 a.mode a.session a.epoch 48
      (s.kxSend (ah ++ Config.hmac384 a.kcr (tr ++ c.raw ++ ah))).showKeys

/-- KX_CONFIRM (R283 step 4). -/
def execKxConfirm (l : Die) (c : KxRec) (s : State) : Host.Outcome State Fault Refusal :=
  if !s.kxArrives l then .next s
  else match KxRec.headOk c, s.kx.rx with
    | true, some a => if a.session = c.session then .next (s.kxInstallRx a c) else .next (s.kxDropped l)
    | _, _ => .next (s.kxDropped l)

/-- The initiator's handling of ACK: the transmit key is installed (R283 step 5, R286). -/
def State.kxInstallTx (s : State) (a : Attempt) (c : KxRec) : State :=
  let refuse (r : KxReason) : State := (s.kxAbortSend a.mode a.session a.epoch r).kxEndTx r
  if c.mode ≠ KeyMode.code a.mode then refuse .modeMismatch
  else if c.mac != Config.hmac384 a.kcr (a.hello ++ a.response ++ a.confirm ++ c.raw.take 12) then refuse .macFail
  else match a.key with
    | none => refuse .macFail
    | some k =>
      let s := (s.updKx fun x => { x with tx := none, wait := 1, due := none, failed := false }).installTx
        { k with at_ := s.time.now }
      let s := (s.wr 0 KEY_AGREE_TX_ATTEMPTS 0).wr 0 KEY_AGREE_TX_LAST_REASON 0
      ((s.cntPkg 1550).raisePkg evKEY_AGREED (evArg 0 0xFF (be 2 a.epoch))).showKeys

/-- KX_ACK (R283 step 5). -/
def execKxAck (l : Die) (c : KxRec) (s : State) : Host.Outcome State Fault Refusal :=
  if !s.kxArrives l then .next s
  else match KxRec.headOk c, s.kx.tx with
    | true, some a =>
      if a.session = c.session ∧ a.confirm ≠ [] then .next (s.kxInstallTx a c) else .next (s.kxDropped l)
    | _, _ => .next (s.kxDropped l)

/-- KX_ABORT (R285, R288). -/
def execKxAbort (l : Die) (c : KxRec) (s : State) : Host.Outcome State Fault Refusal :=
  if !s.kxArrives l then .next s
  else
    let isIt : Option Attempt → Bool := fun o => KxRec.headOk c && match o with
      | some a => a.session == c.session
      | none => false
    if isIt s.kx.tx then .next (s.kxEndTx .peerAbort)
    else if isIt s.kx.rx then .next (s.kxEndRx .peerAbort)
    else .next (s.kxDropped l)

/-- What a RESYNC_REQ does at the sender of its direction (R302): a lane already on the next key keeps it. -/
def State.kxResync (s : State) : State :=
  let s := (s.noteCauses.kxEndTx .superseded).cntPkg 1554
  let s := if s.popDies.any fun l => (s.ciph l).onNext then
      s.each s.popDies (fun s l => if (s.ciph l).onNext then s else s.freshEpoch l true) |>.promote
    else s
  let s := s.each s.popDies fun s d =>
    (s.updKeys d fun x => { x with txNext := none }).updCiph d fun c => { c with announced := false, cd := 0 }
  ((s.updKx fun x => { x with actedAt := some s.time.now, resync := true, due := none }).kxStart).showKeys

/-- KX_RESYNC_REQ (R302): acted on at most once in any 10 s. -/
def execKxResyncReq (l : Die) (c : KxRec) (s : State) : Host.Outcome State Fault Refusal :=
  if !s.kxArrives l then .next s
  else if !KxRec.headOk c || !s.cipherOn then .next (s.kxDropped l)
  else match s.kx.actedAt with
    | some t => .next (if s.past t (secU 10) then s.kxResync else s)
    | none => .next s.kxResync

/-- A new leader ends every attempt and starts those it needs (R289): the one that ran or was due, or one that is needed now. -/
def State.kxLeaderChange (s : State) : State :=
  let s := s.noteCauses
  let wanted := s.kx.tx.isSome || s.kx.due.isSome
  let s := ((s.kxEndTx .leaderChange).kxEndRx .leaderChange).updKx fun x => { x with due := none, failed := false }
  if wanted then s.kxStart else s.kxKick

/-! ### RESYNC_REQ out (R301) -/

/-- FAIL_RUN has reached its threshold (R301). The reason byte, SESSION and EPOCH of the record are not stated (free
values). -/
def State.resyncSend (s : State) (l : Die) : State :=
  let s := (s.wr l CIPH_RX_STAT_FAIL_RUN 0).wr l CIPH_FLAGS_RESYNC_SENT 1
  let s := s.raiseLane l evKEY_RESYNC
  let soon := match s.kx.sentAt with
    | some t => !s.past t (secU 10)
    | none => false
  if soon then s
  else
    let (v, s) := s.fresh
    let last := s.rd l CIPH_RX_STAT_EPOCH
    let rec_ := kxHead 6 s.keyMode (BitVec.ofNat 32 v) (v / 2 ^ 32 % 65536) 3 ++ be 2 last ++ be 1 (v / 2 ^ 48)
    ((s.updKx fun x => { x with sentAt := some s.time.now }).cntPkg 1553).kxSend rec_

/-! ### Receive keys (R294) -/

/-- A frame has authenticated under an epoch: the older receive key goes once every running lane has (R294). -/
def State.noteAuth (s : State) (l : Die) (epoch : Nat) : State :=
  match (s.keys l).rx with
  | k :: _ :: _ =>
    if k.epoch ≠ epoch then s
    else
      let (since, m) := match s.kx.newer with
        | some (e, t, m) => if e = epoch then (t, m) else (s.time.now, 0#8)
        | none => (s.time.now, 0#8)
      let m := m ||| (1#8 <<< l.val)
      let all := s.popDies.all fun x => m.getLsbD x.val || !s.rxDelivers x
        || (s.profile == .assured && x.val + 1 == Part.dies s.part)
      if all then
        ((s.each allDies fun s d => s.updKeys d fun x => { x with rx := x.rx.take 1 }).updKx fun x =>
          { x with newer := none }).showKeys
      else s.updKx fun x => { x with newer := some (epoch, since, m) }
  | _ => s

/-- RX_OLD_KEY_ZEROISE (R294): 4,096 frames after the first frame under the newer epoch. -/
def execRxOldKeyZeroise (_l : Die) (s : State) : Host.Outcome State Fault Refusal :=
  match s.kx.newer with
  | some (_, t, _) =>
    if s.past t (4096 * s.frameU) then
      .next ((s.each allDies fun s d => s.updKeys d fun x => { x with rx := x.rx.take 1 }).updKx fun x =>
        { x with newer := none }).showKeys
    else .next s
  | none => .next s

/-! ### Self-checks of the pipelines (R275, R308, R561) -/

/-- Sets the record of retired pipelines of a lane. -/
def State.retirePipe (s : State) (l : Die) (rx : Bool) (p : Fin 4) : State :=
  let b : BitVec 4 := 1#4 <<< p.val
  let s := s.updDie l fun x => { x with units :=
    if rx then { x.units with rxPipes := x.units.rxPipes ||| b } else { x.units with txPipes := x.units.txPipes ||| b } }
  (s.updCiph l fun c => if rx then { c with rxFenced := c.rxFenced &&& ~~~b, rxSpare := p }
    else { c with txFenced := c.txFenced &&& ~~~b, txSpare := p }).showPipes l

/-- Fewer than three pipelines have come to remain in a direction (R275). -/
def State.pipeFail (s : State) (l : Die) (rx was : Bool) : State :=
  if was && !s.threePipes l rx then (((s.wr l CIPH_FLAGS_PIPE_FAIL 1).raiseLane l evCIPHER_PIPE_FAIL)).showKeys else s

/-- Fences a pipeline (R561). -/
def State.fencePipe (s : State) (l : Die) (rx : Bool) (p : Fin 4) : State :=
  if !(s.pipesOk l rx).getLsbD p.val then s
  else
    let was := s.threePipes l rx
    let b : BitVec 4 := 1#4 <<< p.val
    let s := s.updCiph l fun c =>
      if rx then
        { c with rxFenced := c.rxFenced ||| b, rxSlices := c.rxSlices.set p.val (0, 0), rxSliceAt := c.rxSliceAt.set p.val none,
                 rxSpare := p }
      else
        { c with txFenced := c.txFenced ||| b, txSlices := c.txSlices.set p.val (0, 0), txSliceAt := c.txSliceAt.set p.val none,
                 txSpare := p }
    (((s.cnt l 121).raiseLane l evCIPHER_PIPE_FENCED)).pipeFail l rx was

/-- The spare of a direction while all four pipelines work: the one that last left service or came back to it (R275, R561); after
reset the last (DESIGN CHOICE, assumption log). -/
def State.sparePipe (s : State) (l : Die) (rx : Bool) : Option (Fin 4) :=
  if s.pipesOk l rx = 0xF#4 then some (if rx then (s.ciph l).rxSpare else (s.ciph l).txSpare) else none

/-- Whether the cipher of a lane is clocked and powered. -/
def State.ciphRuns (s : State) (l : Die) : Bool := s.pop l && Part.cipher s.part && s.domainOn l .dataPath

/-- The pipelines in service of a direction that its spare has found to differ are fenced (R561). -/
def State.checkPipes (s : State) (l : Die) (rx : Bool) (bad : BitVec 4) : State :=
  match s.sparePipe l rx with
  | some q => s.each [0, 1, 2, 3] fun s p => if bad.getLsbD p.val && p != q then s.fencePipe l rx p else s
  | none => s

/-- CIPHER_PIPE_CHECK (R561): the pipelines whose re-enciphered codeword differed; once in every frame, in a direction that has its
spare. -/
def execCipherPipeCheck (l : Die) (txBad rxBad : BitVec 4) (s : State) : Host.Outcome State Fault Refusal :=
  if !s.ciphRuns l || s.standard || !periodDue (s.ciph l).checkAt s.frameU s.time.now then .next s
  else
    let s := s.updCiph l fun c => { c with checkAt := some (nextDue c.checkAt s.frameU s.time.now) }
    .next ((s.checkPipes l false txBad).checkPipes l true rxBad)

/-- Whether a slice of a pipeline is due (R308, R561, R571): at once for a transmit pipeline that has not passed one since an SF-C
trip, every 64 frames for a fenced one, every 1,024 frames for the spare; none for one in service. -/
def State.pipeSliceDue (s : State) (l : Die) (rx : Bool) (p : Fin 4) : Bool :=
  let c := s.ciph l
  let last := (if rx then c.rxSliceAt else c.txSliceAt).getD p.val none
  (!rx && s.flag l CIPH_FLAGS_SF_C && !c.sfPass.getLsbD p.val)
    || ((if rx then c.rxFenced else c.txFenced).getLsbD p.val && periodDue last (64 * s.frameU) s.time.now)
    || (s.sparePipe l rx == some p && periodDue last (1024 * s.frameU) s.time.now)

/-- CIPHER_SLICE_DONE (R275, R308, R561, R571). -/
def execCipherSliceDone (l : Die) (rx : Bool) (p : Fin 4) (pass : Bool) (s : State) : Host.Outcome State Fault Refusal :=
  if !s.ciphRuns l then .next s
  else
    let c := s.ciph l
    let fenced := (if rx then c.rxFenced else c.txFenced).getLsbD p.val
    let retired := (if rx then (s.die l).units.rxPipes else (s.die l).units.txPipes).getLsbD p.val
    if retired || !s.pipeSliceDue l rx p then .next s
    else
      let at_ := some s.time.now
      let s := (s.updCiph l fun c => if rx then { c with rxSliceAt := c.rxSliceAt.set p.val at_ }
        else { c with txSliceAt := c.txSliceAt.set p.val at_ }).countSlice l pass
      let was := s.threePipes l rx
      if !rx && s.flag l CIPH_FLAGS_SF_C && !c.sfPass.getLsbD p.val then
        if pass then .next (s.updCiph l fun c => { c with sfPass := c.sfPass ||| (1#4 <<< p.val) })
        else .next ((s.retirePipe l rx p).pipeFail l rx was)
      else if !fenced then .next (if pass then s else s.fencePipe l rx p)
      else
        let (clean, failed) := (if rx then c.rxSlices else c.txSlices).getD p.val (0, 0)
        let now := if pass then (clean + 1, 0) else (0, failed + 1)
        let s := s.updCiph l fun c =>
          if rx then { c with rxSlices := c.rxSlices.set p.val now } else { c with txSlices := c.txSlices.set p.val now }
        if 3 ≤ now.1 then
          let b : BitVec 4 := 1#4 <<< p.val
          .next ((s.noteCauses.updCiph l fun c =>
            if rx then { c with rxFenced := c.rxFenced &&& ~~~b, rxSpare := p }
            else { c with txFenced := c.txFenced &&& ~~~b, txSpare := p }).showKeys)
        else if 16 ≤ now.2 then .next ((s.retirePipe l rx p).pipeFail l rx was)
        else .next s

/-! ### Epochs on a lane (R92, R293, R296) -/

/-- RACK_CD at an announcement (R293). -/
def State.rackStart (s : State) (l : Die) : Nat :=
  let left := s.frameLife - s.rd l CIPH_TX_USED_USED
  if s.kx.resync then 64 else if left < 4096 then max 64 left else 4096

/-- The step of a running lane's epoch at a frame boundary (R92, R293): announce, count down, change over. `gcm` is whether
the lane's last frame was a GCM frame of its epoch; a lane that was not needs no announcement. A countdown that has been
announced runs on whatever the frames are. -/
def State.rackStep (s : State) (l : Die) (gcm : Bool) : State :=
  let c := s.ciph l
  if (s.keys l).txNext.isNone || c.onNext then s.updCiph l fun c => { c with cd := 0 }
  else if c.announced then
    if c.cd ≤ 1 then (s.freshEpoch l true).promote else s.updCiph l fun c => { c with cd := c.cd - 1 }
  else if !gcm then (s.freshEpoch l true).promote
  else
    let n := s.rackStart l
    s.updCiph l fun c => { c with announced := true, cd := n }

/-- RACK_CHANGEOVER (R293, R294): the countdown of a lane has ended, and its next frame goes under the new epoch. -/
def execRackChangeover (l : Die) (s : State) : Host.Outcome State Fault Refusal :=
  let c := s.ciph l
  .next (if s.pop l && c.announced && c.cd = 1 && !c.onNext && (s.keys l).txNext.isSome then
    ((s.freshEpoch l true).promote).showKeys else s)

end Sys2Proof.Machine
end

