-- ==== Sys2Proof/Machine/Power.lean ====
section
/-! DEFINITION. The power manager: the choice of each die's state, entries and wakes, wake sources, the thermal hold, and the
commands of the power group (R492 to R506, R661, R663). -/

namespace Sys2Proof.Machine

def State.pwr (s : State) (d : Die) : PwrDie := (s.die d).pwr
def State.updPwr (s : State) (d : Die) (g : PwrDie → PwrDie) : State := s.updDie d fun x => { x with pwr := g x.pwr }

/-! ### Management ports as they go down (R423, R434) -/

def MPort.fin : MPort → Fin 2
  | .a => 0
  | .b => 1

def State.updPort (s : State) (p : MPort) (g : PortSt → PortSt) : State :=
  { s with fab := { s.fab with ports := s.fab.ports.set (MPort.fin p).val (g (s.fab.ports.get (MPort.fin p))) (MPort.fin p).isLt } }

def State.mport (s : State) (p : MPort) : PortSt := s.fab.ports.get (MPort.fin p)

/-- The medium of a port. -/
def MPort.medium : MPort → Fin 3
  | .a => 0
  | .b => 1

/-- A port leaves UP: the time counts for R372, and its neighbours go. -/
def State.portLeavesUp (s : State) (p : MPort) : State :=
  if s.portUp p then
    let t := some s.time.now
    let s := s.updFab fun f => match p with
      | .a => { f with downA := t }
      | .b => { f with downB := t }
    let s := s.wr (MPort.die p) MGMT_STAT_STATE 0
    s.mediumDown (MPort.medium p)
  else s

/-- The transmit preset as written comes into force (R451). -/
def State.takePreset (s : State) (p : MPort) : State :=
  let d := MPort.die p
  s.updPort p fun x =>
    { x with preset := s.rd d MGMT_TX_PRESET_POST * 1024 + s.rd d MGMT_TX_PRESET_MAIN * 32 + s.rd d MGMT_TX_PRESET_PRE }

/-- A port goes to one of its states other than UP (R423); the preset comes into force in FIXED_FALLBACK and in mode FIXED
(R451). -/
def State.portTo (s : State) (p : MPort) (code : Nat) : State :=
  let d := MPort.die p
  let s := s.portLeavesUp p
  let s := [MGMT_STAT_BLOCK_LOCK, MGMT_STAT_FEC_LOCK, MGMT_STAT_LPI_RX, MGMT_STAT_LPI_TX, MGMT_STAT_ON_PRESET].foldl
    (fun s f => s.wr d f 0) s
  let s := if code = 3 || s.flag d MGMT_CTRL_MODE then s.takePreset p else s
  (s.wr d MGMT_STAT_STATE code).updPort p fun x => { x with since := s.time.now, trained := false }

/-! ### The choice of states (R494, R499, R500) -/

/-- The group of a die (PWR.POLICY.GROUP): its populated dies. -/
def State.group (s : State) (d : Die) : List Die := (maskDies (BitVec.ofNat 8 (s.rd d PWR_POLICY_GROUP))).filter s.pop

/-- Wake times in µs (R492). -/
def wakeUs : PowerState → Nat
  | .doze => 4
  | .nap => 150
  | .dormant => 7000
  | _ => 0

/-- Whether a die would keep a bank in DORMANT (R499). -/
def State.keeps (s : State) (d : Die) (b : Nat) : Bool :=
  if b = 4 then s.flag d KEY_POLICY_RETAIN
  else if 5 ≤ b then (s.rd d PWR_RETAIN_MASK_HI).testBit (b - 5) else (s.rd d PWR_RETAIN_MASK_LO).testBit b

/-- Whether a die holds a usable key for each direction (R494). -/
def State.keysUsable (s : State) (d : Die) : Bool :=
  (match (s.keys d).txCur with
    | some k => !s.keySpent k
    | none => false)
  && (match (s.keys d).rx with
    | k :: _ => !s.keyOld k
    | [] => false)

/-- keys_ok of R500 for one die: its own keys, retained, or those of an ACTIVE die outside its group. -/
def State.keysOkAt (s : State) (d : Die) (st : PowerState) : Bool :=
  s.policyCode 0 != 0 || s.standard
    || ((st != .dormant || s.keeps d 4) && s.keysUsable d)
    || s.popDies.any fun e => !(s.group d).contains e && s.active e && !s.flag e PWR_STATE_TRANS && s.keysUsable e

/-- The line term of R494 in µs; none where no bound holds. -/
def State.lineTermUs (s : State) (g : List Die) (st : PowerState) : Option Nat :=
  if g.any fun d => s.flag d LRX_CTRL_FAST_EN && 2 ≤ s.rd d LRX_PATH_CTRL_TRY_FRAMES then none
  else if g.all fun d => s.flag d LRX_CTRL_FAST_EN && (st != .dormant || (s.keeps d 0 && s.keeps d 1)) then some 400
  else some 20200

/-- bank_penalty of R500 in µs: the longest of the group's dies. -/
def State.bankPenalty (s : State) (g : List Die) (st : PowerState) : Nat :=
  if st != .dormant then 0
  else (g.map fun d => (if s.keeps d 2 then 0 else 3000) + (if s.keeps d 5 then 0 else 2000)
    + (if s.keeps d 6 then 0 else 1000)).foldl max 0

/-- The wake time of a group from a state in µs (R500); none where no bound holds. -/
def State.wakeTime (s : State) (g : List Die) (lineTraffic : Bool) (st : PowerState) : Option Nat :=
  if lineTraffic then
    (s.lineTermUs g st).map fun t =>
      wakeUs st + t + (if g.all fun d => s.keysOkAt d st then 0 else 2000000) + s.bankPenalty g st
  else some (wakeUs st + s.bankPenalty g st)

/-- The deepest state that a budget admits (R500). -/
def State.bestState (s : State) (g : List Die) (lineTraffic : Bool) (budget : Nat) : PowerState :=
  if budget = 0 then .active
  else [PowerState.lineIdle, .doze, .nap, .dormant].foldl (fun best st =>
    if budget = 0xFFFFFFFF then st
    else match s.wakeTime g lineTraffic st with
      | some t => if t ≤ budget then st else best
      | none => best) .active

def PowerState.shallower (a b : PowerState) : PowerState := if PowerState.code a ≤ PowerState.code b then a else b
def PowerState.deeper (a b : PowerState) : PowerState := if PowerState.code a ≤ PowerState.code b then b else a

/-- A die's state as its group's budget has it (R402, R500). -/
def State.budgetState (s : State) (d : Die) : PowerState :=
  if s.rd d PWR_POLICY_GROUP = 0 then .active
  else s.bestState (s.group d) (s.flag d PWR_POLICY_LINE_TRAFFIC) (s.rd d PWR_BUDGET)

/-- Whether R497 holds a die at NAP at most: the leader, P0 or P1 with its port UP, and the dies that MRX woke until their
port comes up (R503). -/
def State.napAtMost (s : State) (d : Die) : Bool :=
  d == s.leader || (d == 0 && s.portUp .a) || (d == 1 && s.portUp .b) || (s.pwr d).mrxHold

/-- The state R500 chooses for a die. -/
def State.chosen (s : State) (d : Die) : PowerState :=
  let st := s.budgetState d
  let awake := s.popDies.any fun e => s.budgetState e != .dormant || (s.pwr e).mrxHold
  let st := if awake && s.napAtMost d then PowerState.shallower st .nap else st
  if (s.pwr d).thermalHold then PowerState.deeper st .nap else st

/-! ### Entries and wakes (R496, R502, R506) -/

/-- The state a die is in or moves to. -/
def State.heading (s : State) (d : Die) : PowerState :=
  if s.flag d PWR_STATE_TRANS then PowerState.ofCode (s.rd d PWR_STATE_TARGET) else s.power d

/-- A die begins to move deeper (R127, R495, R496): its receiver stops; before NAP or DORMANT its laser is disabled. -/
def State.enterDeeper (s : State) (d : Die) (st : PowerState) : State :=
  let was := s.power d
  let s := if s.active d && (s.pwr d).leftActive.isNone then s.updPwr d fun x => { x with leftActive := some s.time.now } else s
  let s := (s.wr d PWR_STATE_TARGET (PowerState.code st)).wr d PWR_STATE_TRANS 1
  let s := s.updPwr d fun x => { x with waking := false, since := s.time.now }
  let s := if s.rxState d = .down then s
    else if st = .lineIdle then (s.frameLockLost d).rxEnter d .signalWait |>.wr d LRX_STAT_LOS 1
    else s.rxDown d
  if 3 ≤ PowerState.code st && PowerState.code was < 3 then s.safeSleep d else s

/-- A die begins to wake, or reverses an entry (R496, R503); POWER_WAKE of a die that wakes from DORMANT is raised when its
CTRL domain has been restored. -/
def State.beginWake (s : State) (d : Die) (st : PowerState) (src : Nat) : State :=
  let s := ((s.wr d PWR_STATE_TARGET (PowerState.code st)).wr d PWR_STATE_TRANS 1).wr d PWR_STATE_WAKE_SRC src
  let s := s.updPwr d fun x => { x with waking := true, since := s.time.now }
  if s.power d = .dormant then s else s.raise d evPOWER_WAKE (evArg d.val src [])

/-- A die takes the state chosen for it (R502). -/
def State.take (s : State) (d : Die) (st : PowerState) (src : Nat) : State :=
  if st = s.heading d || s.power d = .off then s
  else if s.flag d PWR_STATE_TRANS && (s.pwr d).waking then s.updPwr d fun x => { x with evalPending := true }
  else if PowerState.code (s.power d) < PowerState.code st then s.enterDeeper d st
  else s.beginWake d st src

/-- The evaluation of R500: every populated die takes the state chosen for it. `src` is the source that its wakes show. -/
def State.powerEval (s : State) (src : Nat) : State :=
  if s.phase != .ready then s
  else
    let c := s.popDies.map fun d => (d, s.chosen d)
    s.each c fun s p => s.take p.1 p.2 src

/-! ### Entry done (R492, R495, R496, R499, R506, R514) -/

/-- The fabric ports of a die that stops them go down at both ends (R495). -/
def State.fabricOff (s : State) (d : Die) : State :=
  let s := s.each [0, 1, 2] fun s k =>
    s.each (if s.linkUp d k then s.linkEnds d k else []) fun s e => s.setBit e D2D_PORT_STAT_UP k false
  { s with sb := { s.sb with pendRoutes := true } }

/-- The management port of a die that stops it (R495). -/
def State.portStops (s : State) (d : Die) : State :=
  match d.val with
  | 0 => s.portTo .a 0
  | 1 => s.portTo .b 0
  | _ => s

/-- What a die does as it enters DORMANT (R309, R495, R499, R506). -/
def State.dormantDie (s : State) (d : Die) : State :=
  let m := (List.range 8).foldl (fun m b => if s.keeps d b then m + 2 ^ b else m) 0
  let s := if s.keeps d 4 then s else
    let s := s.zeroiseDie d
    (if d = s.leader then s.dropAttempts else s).showKeys
  let s := s.updPwr d fun x => { x with retained := m, anaPowered := false, coolSince := none, tjAt := none }
  let s := s.dacClearAll d
  (((s.portStops d).wr d SAFE_STAT_ARMED 0).ldisFollow d).emit (.floats d)

/-- Whether a PLL runs in a power state (R508). -/
def pllRuns (d : Die) : Pll → PowerState → Bool
  | .line, st => st == .active
  | .host, st => decide (PowerState.code st ≤ 2)
  | .mgmt, st => decide (d.val < 2 ∧ PowerState.code st ≤ 3)
  | .sys, st => decide (PowerState.code st ≤ 3)

/-- The lock bit of a PLL (R520). -/
def pllFld : Pll → Fld
  | .line => CLK_PLL_STAT_LINE_LOCK
  | .host => CLK_PLL_STAT_HOST_LOCK
  | .mgmt => CLK_PLL_STAT_MGMT_LOCK
  | .sys => CLK_PLL_STAT_SYS_LOCK

def allPlls : List Pll := [.line, .host, .mgmt, .sys]

/-- The host lane whose recovered clock the line PLL of a die follows; none: REFCLK (R21 to R24, R42, R330). Of a port's host
lanes the first gives its clock, and a lane that carries no port in FULL runs from REFCLK (DESIGN CHOICE, assumption log). -/
def State.lineSource (s : State) (d : Die) : Option HostLane :=
  if s.standard then some (Fin.ofNat 16 (2 * d.val))
  else if s.rateMatched then none
  else (s.portsOn d).head?.map Port.first

/-- Whether a PLL has its reference: REFCLK, or the recovered clock that a line PLL follows (R21, R22, R330, R508). -/
def State.pllHasRef (s : State) (d : Die) : Pll → Bool
  | .line => match s.lineSource d with
    | none => s.time.refclk
    | some h => s.flag (HostLane.die h) (HOST_LANE_STAT_CDR_LOCK (h.val % 2))
  | _ => s.time.refclk

/-- A PLL loses its lock: UNLOCK_SEEN (R520). -/
def State.pllUnlock (s : State) (d : Die) (p : Pll) : State :=
  if s.flag d (pllFld p) then (s.wr d (pllFld p) 0).wr d CLK_PLL_STAT_UNLOCK_SEEN 1 else s

/-- The line PLLs whose source a new plan or profile has replaced are no longer locked to it (R122); `old` is the state before. -/
def State.relockLines (s old : State) : State :=
  s.each s.popDies fun s d => if s.lineSource d == old.lineSource d then s else s.pllUnlock d .line

/-- The PLLs that do not run in a state stop, without a loss of lock. -/
def State.pllsStop (s : State) (d : Die) (st : PowerState) : State :=
  s.each allPlls fun s p => if pllRuns d p st then s else s.wr d (pllFld p) 0

/-- Whether the PLLs that a wake needs have locked; the line PLL holds its lane in MUTE until it locks (R122, R508). -/
def State.pllsReady (s : State) (d : Die) (st : PowerState) : Bool :=
  [Pll.host, .mgmt, .sys].all fun p => !pllRuns d p st || s.flag d (pllFld p)

/-- A die has completed its entry into a deeper state. -/
def State.entryDone (s : State) (d : Die) (st : PowerState) : State :=
  let was := s.power d
  let s := if was = .active then (s.chargeAll d).chargeCipher d else s
  let s := s.updTx d fun x => { x with running := false }
  let s := s.wr d LTX_STAT_TX_STATE 0
  let s := ((s.wr d PWR_STATE_CUR (PowerState.code st)).wr d PWR_STATE_TRANS 0).pllsStop d st
  let s := if was = .active then s.promote else s
  let deep (a : PowerState) : Bool := PowerState.code was < PowerState.code a && PowerState.code a ≤ PowerState.code st
  let s := if deep .nap then ((s.dacNap d).stopConvs d).fabricOff d else s
  let s := if deep .dormant then s.dormantDie d else s
  (s.updExtrap).updPwr d fun x => { x with evalPending := false }

/-- DIE_STATE_ENTRY_DONE (R492): the transmitter has reached MUTE (R127), and the domains of R495 stop. -/
def execDieStateEntryDone (d : Die) (s : State) : Host.Outcome State Fault Refusal :=
  if s.pop d && s.flag d PWR_STATE_TRANS && !(s.pwr d).waking
      && !((s.tx d).running && s.rd d LTX_STAT_TX_STATE != 0) then
    .next (s.entryDone d (PowerState.ofCode (s.rd d PWR_STATE_TARGET)))
  else .next s

/-! ### Wake done (R183, R184, R309, R311, R493, R499, R506, R517, R528, R585, R661) -/

/-- The fabric ports of a die come up where the neighbour's run (R493). -/
def State.fabricOn (s : State) (d : Die) : State :=
  let s := s.each [0, 1, 2] fun s k =>
    match s.peer d k with
    | some e =>
      if s.domainOn e .fabric && !s.linkUp d k then s.each (s.linkEnds d k) fun s x => s.setBit x D2D_PORT_STAT_UP k true else s
    | none => s
  { s with sb := { s.sb with pendRoutes := true } }

/-- The transmit state of a lane as the restored vintage has it (R499): FIR banks, predistortion tables, launch delay. -/
def State.txFromVintage (s : State) (d : Die) : State :=
  let s := s.each [0, 1] fun s b =>
    (s.setFirBank d b [0, 0, 0, 48]).setPdTable d b []
  let s := s.keepTx d fun t => { TxLoad.reset with firAct := t.firAct, pdAct := t.pdAct }
  let s := (s.wr d LTX_DELAY_INT 0).wr d LTX_DELAY_FRAC 0
  s.nv.restored.foldl (fun s c =>
    match c with
    | .txBankLoad _ l b co _ => if l = d.val then (s.setFirBank d b co).keepTx d fun t => t.setFir b co else s
    | .txPdLoad _ l b co _ => if l = d.val then (s.setPdTable d b co).keepTx d fun t => t.setPd b co else s
    | .lineTxSet _ ls _ _ _ (some w) _ => if ls.getLsbD d.val then s.setDelay d w else s
    | _ => s) s

/-- The banks a die has not retained take the values R499 gives. -/
def State.banksLost (s : State) (d : Die) : State :=
  let kept (b : Nat) : Bool := (s.pwr d).retained.testBit b
  let s := if kept 0 then s else
    let s := (s.clearEntries d 0xFF#8)
    let s := s.each [0, 1, 2, 3] fun s b => s.setCb d b ((List.range 41).map fun i => if i = 10 then 512 else 0) 10
    (s.setNle d []).setDfe d 0 0
  let s := if kept 1 then s else s.txFromVintage d
  let s := if kept 3 then s else
    (s.clearCounters d).updDie d fun x => { x with log := [], pwr := { x.pwr with restarted := true } }
  let s := if kept 6 then s else s.loadCal d
  if kept 7 then s else s.updDie d fun x => { x with tags := [] }

/-- Retained keys past their TIME_LIMIT go at wake (R309). -/
def State.dropOldKeys (s : State) (d : Die) : State :=
  let ok : TKey → Bool := fun k => !s.keyOld k
  (s.updKeys d fun x => ⟨x.txCur.filter ok, x.txNext.filter ok, x.rx.filter ok⟩).showKeys

/-- A die without keys fetches those of another die (R311). -/
def State.fetchKeys (s : State) (d : Die) : State :=
  let k := s.keys d
  if k.txCur.isNone && k.rx.isEmpty && s.keyHome != d then
    (s.updKeys d fun _ => s.keys s.keyHome).showKeys.kxKick
  else s.kxKick

/-- What a wake from DORMANT restores. -/
def State.dormantWoken (s : State) (d : Die) : State :=
  let wasAll := s.popDies.all fun e => s.power e == .dormant
  let s := if wasAll then s.endExtrap else s
  let s := (s.banksLost d).dropOldKeys d
  let s := ((s.updPwr d fun x => { x with anaPowered := true }).emit (.ldis d false)).safePowered d
  let s := if wasAll then { s with dies := s.dies.map fun x => { x with sb := { x.sb with lastHb := s.time.now } } } else s
  s.raise d evPOWER_WAKE (evArg d.val (s.rd d PWR_STATE_WAKE_SRC) [])

/-- A wake of a die ends in its state `st`. -/
def State.wakeEnds (s : State) (d : Die) (st : PowerState) : State :=
  let was := s.power d
  let boundary := was = .dormant && s.popDies.all fun e => s.power e == .dormant
  let s := if was = .dormant && st != .dormant then s.dormantWoken d else s
  let s := ((s.wr d PWR_STATE_CUR (PowerState.code st)).wr d PWR_STATE_TRANS 0).updExtrap
  let s := s.updPwr d fun x => { x with waking := false }
  let s := if 3 ≤ PowerState.code was && PowerState.code st < 3 then (s.fabricOn d).safeWoken d
    else if PowerState.code st < 3 then s.armFollow d else s
  let s := if st = .active then
      (if was = .active then s else s.restartCharge d).updPwr d fun x => { x with leftActive := none }
    else s
  let s := if PowerState.code st ≤ 1 && (s.tx d).up && s.rxState d = .down then s.rxUp d else s
  let s := if was = .lineIdle then s.updRx d fun x =>
      { x with prefer := if s.flag d LRX_PATH_STAT_CUR_VALID then toDie? (s.rd d LRX_PATH_STAT_CURRENT) else none }
    else s
  let s := if st = .active then s.fetchKeys d else s
  if boundary then s.takeBoundary s.time.now else s

/-- WAKE_DONE (R493, R502, R508): its PLLs have locked; a waking die is in the state it woke to; a change that waited takes effect. -/
def execWakeDone (d : Die) (s : State) : Host.Outcome State Fault Refusal :=
  if s.pop d && s.flag d PWR_STATE_TRANS && (s.pwr d).waking && s.pllsReady d (PowerState.ofCode (s.rd d PWR_STATE_TARGET)) then
    let again := (s.pwr d).evalPending
    let s := (s.wakeEnds d (PowerState.ofCode (s.rd d PWR_STATE_TARGET))).updPwr d fun x => { x with evalPending := false }
    .next (if again then s.powerEval 1 else s)
  else .next s

/-! ### Wake sources (R503 to R505) -/

def WakeSrc.code : WakeSrc → Nat
  | .none => 0
  | .policy => 1
  | .cmp0 => 2
  | .cmp1 => 3
  | .timer => 4
  | .hrx => 5
  | .mrx => 6
  | .keyExpiry => 7

/-- Whether a die's host lanes belong to a planned port (R503). -/
def State.hasPort (s : State) (d : Die) : Bool := s.carries d

/-- Whether the conditions of a wake source hold on a die (R503); a comparator fires at its trip, by WAKE_CMP_TRIP (R504). -/
def State.srcFires (s : State) (d : Die) : WakeSrc → Bool
  | .timer => s.flag d PWR_WAKE_EN_TIMER && s.rd d PWR_WAKE_TIMER_PERIODS != 0 && match (s.pwr d).leftActive with
      | some t => s.past t (s.rd d PWR_WAKE_TIMER_PERIODS * s.slowPeriod)
      | none => false
  | .hrx => s.flag d PWR_WAKE_EN_HRX && s.hasPort d
  | .mrx => d.val < 2 && s.flag d PWR_WAKE_EN_MRX && s.rd d MGMT_STAT_STATE == 0
  | _ => false

/-- The effective budget of a group becomes 0 (R503). -/
def State.zeroBudget (s : State) (d : Die) : State := s.each (s.group d) fun s e => s.wr e PWR_BUDGET 0

/-- A wake by a source (R503): the group returns to ACTIVE; MRX wakes its die and the leader to NAP. -/
def State.wakeBy (s : State) (d : Die) (src : WakeSrc) : State :=
  if s.power d = .off || (s.active d && !s.flag d PWR_STATE_TRANS) then s
  else match src with
    | .mrx =>
      ((s.updPwr d fun x => { x with mrxHold := true }).updPwr s.leader fun x => { x with mrxHold := true }).powerEval 6
    | _ => (s.zeroBudget d).powerEval (WakeSrc.code src)

/-- WAKE_SOURCE (R503): the timer, HRX or MRX fires. -/
def execWakeSource (d : Die) (src : WakeSrc) (s : State) : Host.Outcome State Fault Refusal :=
  .next (if s.pop d && s.srcFires d src then s.wakeBy d src else s)

/-- Whether a comparator is armed, and the state with that changed. -/
def State.cmpArmed (s : State) (d : Die) (n : Fin 2) : Bool := if n = 0 then (s.pwr d).armed0 else (s.pwr d).armed1
def State.setArmed (s : State) (d : Die) (n : Fin 2) (b : Bool) : State :=
  s.updPwr d fun x => if n = 0 then { x with armed0 := b } else { x with armed1 := b }

/-- WAKE_CMP_TRIP (R504): `level` is the input in 1/1,024 of 1.2 V; in ACTIVE only TRIPPED is set. -/
def execWakeCmpTrip (d : Die) (n : Fin 2) (level : Nat) (s : State) : Host.Outcome State Fault Refusal :=
  if s.pop d && s.power d != .off && s.cmpArmed d n && decide (s.rd d (PWR_WAKE_CMP_THR n.val) * 16 < level) then
    let s := ((s.wr d (PWR_WAKE_CMP_TRIPPED n.val) 1).wr d (PWR_WAKE_CMP_ABOVE n.val) 1).setArmed d n false
    let en := if n = 0 then s.flag d PWR_WAKE_EN_CMP0 else s.flag d PWR_WAKE_EN_CMP1
    .next (if en then s.wakeBy d (if n = 0 then .cmp0 else .cmp1) else s)
  else .next s

/-- WAKE_CMP_REARM (R504). -/
def execWakeCmpRearm (d : Die) (n : Fin 2) (level : Nat) (s : State) : Host.Outcome State Fault Refusal :=
  if s.pop d && s.power d != .off
      && decide (level < (s.rd d (PWR_WAKE_CMP_THR n.val) - s.rd d (PWR_WAKE_CMP_HYST n.val)) * 16) then
    .next ((s.wr d (PWR_WAKE_CMP_ABOVE n.val) 0).setArmed d n true)
  else .next s

/-! ### Thermal hold (R498) -/

/-- The junction temperature that a calibrated value of input 13 stands for, in 1/16 °C / 8,388,608: input 13 presents
0.600 V + 2.000 mV/°C × (Tj − 25 °C), and 8,388,608 stands for 1.2 V (R535, R645). -/
def junction (v : Int) : Int := 9600 * v - 4400 * 8388608

/-- Whether a die's junction temperature is converted: while its converters run, and in NAP during the hold (R498). -/
def State.thermalRuns (s : State) (d : Die) : Bool :=
  s.pop d && (s.domainOn d .ana || s.power d == .nap && (s.pwr d).thermalHold)

/-- What the part does at a conversion of the junction temperature (R498); DIE.TEMP.TJ is rounded to 1/16 °C. -/
def State.thermalResult (s : State) (d : Die) (v : Int) : State :=
  let s := (s.updPwr d fun x => { x with tjAt := some (nextDue x.tjAt (msU 8) s.time.now) }).wrInt d DIE_TEMP_TJ
    (max (-32768) (min 32767 (roundDiv (junction v) 8388608)))
  if 155 * 16 * 8388608 < junction v then
    let s := s.updPwr d fun x => { x with coolSince := none }
    if (s.pwr d).thermalHold then s
    else
      let s := (s.updPwr d fun x => { x with thermalHold := true }).wr d PWR_STATE_CAUSE 2
      (s.raise d evTHERMAL_LIMIT (evArg d.val 0xFF [])).powerEval 1
  else if !(s.pwr d).thermalHold then s
  else if 140 * 16 * 8388608 ≤ junction v then s.updPwr d fun x => { x with coolSince := none }
  else match (s.pwr d).coolSince with
    | none => s.updPwr d fun x => { x with coolSince := some s.time.now }
    | some t =>
      if s.past t (secU 1) then
        ((s.updPwr d fun x => { x with thermalHold := false, coolSince := none }).wr d PWR_STATE_CAUSE 0).powerEval 1
      else s

/-- THERMAL_CONVERSION (R498, R554): every 8 ms, on M0 or, while it calibrates, on M1; `bits` is what the modulator gave. The
preset QUICK and gain 1 are those of the monitor's other conversions (DEDUCED). -/
def execThermalConversion (d : Die) (bits : List Bool) (s : State) : Host.Outcome State Fault Refusal :=
  if !(s.thermalRuns d && periodDue (s.pwr d).tjAt (msU 8) s.time.now) then .next s
  else
    match s.sampleOf d (if (s.conv d 0).act.isCal then 1 else 0) 0 0 false bits with
    | some (_, v) => .next (s.thermalResult d v.value)
    | none => .next s

/-! ### POWER_POLICY_SET, POWER_STATE_GET, WAKE_CMP_SET (R402, R501, R663) -/

/-- Whether groups overlap (R402). -/
def groupsOverlap : List WakeBudget → Bool
  | [] => false
  | g :: gs => gs.any (fun h => g.dies &&& h.dies != 0#8) || groupsOverlap gs

/-- Whether a policy splits a port's dies, or names some of them and leaves others out (R501). -/
def splitsPort (prof : Profile) (plan : List Port) (gs : List WakeBudget) : Bool :=
  plan.any fun p =>
    let m := diesMask (Port.dies prof p)
    gs.any fun g => g.dies &&& m != 0#8 && g.dies &&& m != m

def infoPowerPolicySet (s : State) (gs : List WakeBudget) : CmdInfo :=
  { code := 0x0401, priv := some .operator, cls := 2, dies := gs.flatMap fun g => maskDies g.dies,
    bad := if groupsOverlap gs || splitsPort s.profile s.plan gs then some 0 else none }

/-- The policy as registers (R519). -/
def State.setPolicy (s : State) (gs : List WakeBudget) : State :=
  let s := { s with policy := gs }
  s.each s.popDies fun s d =>
    let s := s.updPwr d fun x => { x with mrxHold := false }
    match gs.find? fun g => g.dies.getLsbD d.val with
    | some g => ((s.wr d PWR_POLICY_GROUP g.dies.toNat).wrB d PWR_POLICY_LINE_TRAFFIC g.lineTraffic).wr d PWR_BUDGET g.budget
    | none => ((s.wr d PWR_POLICY_GROUP 0).wr d PWR_POLICY_LINE_TRAFFIC 0).wr d PWR_BUDGET 0

def applyPowerPolicySet (gs : List WakeBudget) (_ : Req) (_ : Session) (s : State) : Res := .ok ((s.setPolicy gs).powerEval 1)

/-- POWER_POLICY_SET (R402, R500 to R503). -/
def execPowerPolicySet (r : Req) (gs : List WakeBudget) (s : State) : Host.Outcome State Fault Refusal :=
  .next (Slostan.run r (.powerPolicySet r gs) (infoPowerPolicySet s gs) (applyPowerPolicySet gs) s)

/-- The DIE_POWER TLV (R394). -/
def tlvDiePower (s : State) (d : Die) : Tlv :=
  ⟨0x0161, be 1 d.val ++ be 1 (s.rd d PWR_STATE_CUR) ++ be 1 (s.rd d PWR_STATE_CAUSE) ++ be 1 0⟩

def infoPowerStateGet : CmdInfo := { code := 0x0402, priv := some .observer, read := true }

/-- POWER_STATE_GET (R401). -/
def execPowerStateGet (r : Req) (s : State) : Host.Outcome State Fault Refusal :=
  .next (Slostan.run r (.powerStateGet r) infoPowerStateGet (fun _ _ s => .okWith s (s.popDies.map (tlvDiePower s))) s)

/-- Whether a comparator setting is in range (R504, R394). -/
def WakeCmp.ok (c : WakeCmp) : Bool := decide (c.ainSel < 12 ∧ c.thr < 64 ∧ c.hyst < 64 ∧ c.hyst ≤ c.thr)

def infoWakeCmpSet (dies : BitVec 8) (cs : List WakeCmp) : CmdInfo :=
  { code := 0x0403, priv := some .operator, cls := 2, dies := maskDies dies,
    bad := firstBad [maskBad dies 0, firstNot WakeCmp.ok 1 cs] }

/-- Writes one comparator of a die. -/
def State.setCmp (s : State) (d : Die) (c : WakeCmp) : State :=
  let n := if c.ain then 1 else 0
  let s := (s.wr d (PWR_WAKE_CMP_THR n) c.thr).wr d (PWR_WAKE_CMP_HYST n) c.hyst
  if c.ain then s.wr d (PWR_WAKE_CMP_AIN_SEL 1) c.ainSel else s

def applyWakeCmpSet (dies : BitVec 8) (cs : List WakeCmp) (en : Option Bool) (_ : Req) (_ : Session) (s : State) : Res :=
  let on0 := cs.isEmpty || cs.any fun c => !c.ain
  let on1 := cs.isEmpty || cs.any fun c => c.ain
  .ok (s.each (maskDies dies) fun s d =>
    let s := s.each cs fun s c => s.setCmp d c
    match en with
    | none => s
    | some b =>
      let s := if on0 then s.wrB d PWR_WAKE_EN_CMP0 b else s
      if on1 then s.wrB d PWR_WAKE_EN_CMP1 b else s)

/-- WAKE_CMP_SET (R504, R663). -/
def execWakeCmpSet (r : Req) (dies : BitVec 8) (cs : List WakeCmp) (en : Option Bool) (s : State) :
    Host.Outcome State Fault Refusal :=
  .next (Slostan.run r (.wakeCmpSet r dies cs en) (infoWakeCmpSet dies cs) (applyWakeCmpSet dies cs en) s)

/-! ### A die under test, a part that shuts down (R567, R568, R625) -/

/-- Laser disabled, DAC channels at their clear codes, converters stopped (R506, R568, R625). -/
def State.stopDie (s : State) (d : Die) : State := ((s.ldisFollow d).dacClearAll d).stopConvs d

/-- A die comes under test (R567, R568): absent from the fabric, LDIS_N low, its DAC channels at their clear codes. -/
def State.beginTest (s : State) (d : Die) : State :=
  ((((s.updSafe d fun x => { x with underTest := true }).wr d BIST_STAT_RUNNING 1).stopDie d)).fabricOff d

/-- Steps 2 to 4 of a shut-down (R625), once every transmitter has reached MUTE: lasers disabled and DAC channels cleared,
requests other than PING answered with BUSY, the self-test begun unless SHUTDOWN left it out. -/
def State.shutFollow (s : State) : State :=
  if s.phase = .stopping ∧ s.popDies.all fun l => s.rd l LTX_STAT_TX_STATE == 0 then
    let s := State.each { s with phase := .shuttingDown } s.popDies fun s d => s.stopDie d
    if s.sl.pend.any fun p => p.kind == .shutdown true then s.each s.popDies fun s d => s.beginTest d else s
  else s

end Sys2Proof.Machine
end

