-- ==== Sys2Proof/Machine/KeyCommands.lean ====
section
/-! DEFINITION. The commands of the cipher group, and keys that reach their limits (R297, R298, R303, R304, R308 to R314,
R404). -/

namespace Sys2Proof.Machine

/-- The command row of the cipher group (R404): class 4, C parts only. -/
def keyInfo (code : Nat) (priv : Privilege) (sec : Bool) (bad : Option Nat) : CmdInfo :=
  { code, priv := some priv, cls := 4, cip := true, sec, bad }

def CipherPolicy.code : CipherPolicy → Nat
  | .gcmRequired => 0
  | .gcmPreferred => 1
  | .clear => 2

/-- The policy of every die (R303); CLEAR zeroises every session key (R304, R309), another one starts what agreement the
part needs. -/
def State.setPolicyOnly (s : State) (p : CipherPolicy) : State :=
  let s := s.noteCauses.each s.popDies fun s d => s.wr d CIPH_CFG_POLICY (CipherPolicy.code p)
  if p = .clear then s.zeroiseAll else s.kxKick

/-- As `setPolicyOnly`, and each die's power state is chosen anew (R500). -/
def State.setPolicyCode (s : State) (p : CipherPolicy) : State := (s.setPolicyOnly p).powerEval 1

def applyCipherPolicySet (p : CipherPolicy) (_ : Req) (_ : Session) (s : State) : Res :=
  if !s.nv.fuses.permit && p != .gcmRequired then .fail .notPermitted s else .ok (s.setPolicyCode p)

/-- CIPHER_POLICY_SET (R304). -/
def execCipherPolicySet (r : Req) (p : CipherPolicy) (s : State) : Host.Outcome State Fault Refusal :=
  .next (Slostan.run r (.cipherPolicySet r p) (keyInfo 0x0501 .custodian true none) (applyCipherPolicySet p) s)

def applyKeyModeSet (m : KeyMode) (_ : Req) (_ : Session) (s : State) : Res :=
  .ok (s.each s.popDies fun s d => s.wr d CIPH_CFG_MODE (KeyMode.code m))

/-- KEY_MODE_SET (R312): for attempts that start afterwards. -/
def execKeyModeSet (r : Req) (m : KeyMode) (s : State) : Host.Outcome State Fault Refusal :=
  .next (Slostan.run r (.keyModeSet r m) (keyInfo 0x0502 .custodian true none) (applyKeyModeSet m) s)

/-- The PSK in MRAM, and KEY.CRED.PSK_PRESENT. -/
def State.setPsk (s : State) (k : Option Bytes) : State :=
  ({ s with nv := { s.nv with psk := k } }).wrB 0 KEY_CRED_PSK_PRESENT k.isSome

/-- KEY_PSK_SET (R404): an all-zero key is refused. -/
def execKeyPskSet (r : Req) (psk : Bytes) (s : State) : Host.Outcome State Fault Refusal :=
  .next (Slostan.run r (.keyPskSet r psk)
    (keyInfo 0x0503 .custodian true (if psk.all fun b => b == 0#8 then some 0 else none))
    (fun _ _ s => .ok (s.setPsk (some (padTo 32 psk)))) s)

/-- Check 9 of KEY_LIFE_SET (R314, R404): at least one TLV, in range. -/
def keyLifeBad (fl tl : Option Nat) : Option Nat :=
  if fl.isNone && tl.isNone then some 0
  else firstBad [fl.bind fun v => if 20 ≤ v ∧ v ≤ 31 then none else some 0,
    tl.bind fun v => if 1 ≤ v ∧ v ≤ 1440 then none else some fl.toList.length]

def applyKeyLifeSet (fl tl : Option Nat) (_ : Req) (_ : Session) (s : State) : Res :=
  let s := s.noteCauses.each s.popDies fun s d => (s.wrOpt d CIPH_LIFE_FRAME_LOG2 fl).wrOpt d CIPH_LIFE_TIME_LIMIT tl
  .ok (if s.cipherOn && s.keyThreshold && (s.keys s.keyHome).txNext.isNone then s.kxStart else s).showKeys

/-- KEY_LIFE_SET (R291, R314): agreement starts at once where three-quarters of a new limit are used. -/
def execKeyLifeSet (r : Req) (fl tl : Option Nat) (s : State) : Host.Outcome State Fault Refusal :=
  .next (Slostan.run r (.keyLifeSet r fl tl) (keyInfo 0x0504 .custodian true (keyLifeBad fl tl)) (applyKeyLifeSet fl tl) s)

/-- KEY.POLICY.RETAIN, and its mirror in PWR.RETAIN (R309, R499). -/
def State.setRetain (s : State) (d : Die) (b : Bool) : State :=
  (s.wrB d KEY_POLICY_RETAIN b).wrB d PWR_RETAIN_MASK_B4 b

/-- KEY_RETAIN_SET (R309, R499, R500). -/
def execKeyRetainSet (r : Req) (en : Bool) (s : State) : Host.Outcome State Fault Refusal :=
  .next (Slostan.run r (.keyRetainSet r en) (keyInfo 0x0505 .custodian true none)
    (fun _ _ s => .ok ((s.each s.popDies fun s d => s.setRetain d en).powerEval 1)) s)

def applyKeyZeroise (psk : Option Bool) (_ : Req) (_ : Session) (s : State) : Res :=
  let s := if psk = some true then s.setPsk none else s
  .ok s.zeroiseAll.kxKick

/-- KEY_ZEROISE (R309, R404): every session key, and the PSK with ENABLE 1; agreement starts again where lanes run. -/
def execKeyZeroise (r : Req) (psk : Option Bool) (s : State) : Host.Outcome State Fault Refusal :=
  .next (Slostan.run r (.keyZeroise r psk) (keyInfo 0x0506 .custodian true none) (applyKeyZeroise psk) s)

def applyKeyAgreeStart (_ : Req) (_ : Session) (s : State) : Res :=
  if s.policyCode 0 = 2 then .fail .notPermitted s
  else if s.kx.tx.isSome then .fail .busy s
  else .ok ((s.updKx fun x => { x with wait := 1 }).kxStart)

/-- KEY_AGREE_START (R286, R404): under CLEAR no agreement runs (R303). -/
def execKeyAgreeStart (r : Req) (s : State) : Host.Outcome State Fault Refusal :=
  .next (Slostan.run r (.keyAgreeStart r) { keyInfo 0x0507 .operator false none with ns := true } applyKeyAgreeStart s)

def applyKeyRack (_ : Req) (_ : Session) (s : State) : Res :=
  if s.policyCode 0 = 2 then .fail .notPermitted s
  else if s.kx.tx.isSome || (s.keys s.keyHome).txNext.isSome then .fail .busy s
  else .ok s.kxStart

/-- KEY_RACK (R292, R297). -/
def execKeyRack (r : Req) (s : State) : Host.Outcome State Fault Refusal :=
  .next (Slostan.run r (.keyRack r) { keyInfo 0x0508 .operator false none with ns := true, rt := true } applyKeyRack s)

/-- Whether every transmit pipeline in service of a lane has passed its slice since the trip (R308). -/
def State.sfSlicesPassed (s : State) (l : Die) : Bool :=
  ~~~(s.die l).units.txPipes &&& ~~~(s.ciph l).sfPass == 0#4

def applyCipherSfClear (lane : Nat) (_ : Req) (_ : Session) (s : State) : Res :=
  match toDie? lane with
  | none => .badParam 0 s
  | some l =>
    if !s.domainOn l .dataPath then .fail .domainOff s
    else if !s.flag l CIPH_FLAGS_SF_C then .ok s
    else if !s.sfSlicesPassed l then .fail .busy s
    else .ok (s.noteCauses.wr l CIPH_FLAGS_SF_C 0)

/-- CIPHER_SF_CLEAR (R308). -/
def execCipherSfClear (r : Req) (lane : Nat) (s : State) : Host.Outcome State Fault Refusal :=
  .next (Slostan.run r (.cipherSfClear r lane)
    { keyInfo 0x0509 .custodian true (numBad lane 8 0) with ns := true, dies := oneDie lane } (applyCipherSfClear lane) s)

/-- Seconds to the next initiator attempt (KEY.AGREE_TX.NEXT_DUE, R322). -/
def State.nextDue (s : State) : Nat :=
  match s.kx.tx, s.kx.due with
  | none, some t => min 255 ((t - s.time.now + secU 1 - 1) / secU 1)
  | _, _ => 0

/-- The CIPHER_LANE TLV (R394). -/
def tlvCipherLane (s : State) (l : Die) : Tlv :=
  let word (blk w : Nat) : Bytes := be 4 (if s.blockOff l blk false then 0 else s.wordOf l blk w)
  ⟨0x0176, be 1 l.val ++ [0#8, 0#8, 0#8] ++ word 0x0C 1 ++ word 0x0C 2 ++ word 0x0C 3 ++ word 0x0C 5 ++ word 0x0C 6
    ++ be 4 (s.wordOf 0 0x0D 2 + s.nextDue) ++ be 4 (s.wordOf 0 0x0D 3)⟩

def infoCipherStatusGet (lanes : BitVec 8) : CmdInfo :=
  { code := 0x050A, priv := some .observer, cip := true, read := true, dies := maskDies lanes, bad := maskBad lanes 0 }

/-- CIPHER_STATUS_GET (R404). -/
def execCipherStatusGet (r : Req) (lanes : BitVec 8) (s : State) : Host.Outcome State Fault Refusal :=
  .next (Slostan.run r (.cipherStatusGet r lanes) (infoCipherStatusGet lanes)
    (fun _ _ s => .okWith s ((maskDies lanes).map (tlvCipherLane s))) s)

/-! ### Keys at their limits (R298, R310) -/

/-- The transmit key in use has reached a limit without a successor (R298); dies outside ACTIVE zeroise it (R310). -/
def State.keyLimit (s : State) : State :=
  let s := s.updKx fun x => { x with expired := true }
  let s := s.each s.popDies fun s l => s.wr l CIPH_FLAGS_EXPIRED 1
  let s := if s.policyCode 0 = 0 then s.raisePkg evKEY_EXPIRED noArg else s.raisePkg evCIPHER_DOWNGRADE noArg
  let asleep := s.popDies.filter fun d => !s.active d
  let s := (s.each asleep fun s d => s.updKeys d fun x => { x with txCur := none }).showKeys.kxKick
  if asleep.isEmpty then s else s.powerEval 7

/-- Keys that wait or receive and reach TIME_LIMIT while their die is outside ACTIVE go too (R310). -/
def State.sleepLimit (s : State) : State :=
  let old (d : Die) : Bool := !s.active d && ((s.keys d).txNext.toList ++ (s.keys d).rx).any s.keyOld
  let ds := s.popDies.filter old
  if ds.isEmpty then s
  else
    let ok : TKey → Bool := fun k => !s.keyOld k
    ((s.each ds fun s d => s.updKeys d fun x => { x with txNext := x.txNext.filter ok, rx := x.rx.filter ok }).showKeys).powerEval 7

/-- KEY_EXPIRED (R298, R310). -/
def execKeyExpired (s : State) : Host.Outcome State Fault Refusal :=
  let s := match (s.keys s.keyHome).txCur with
    | some k =>
      if s.cipherOn && s.keySpent k && (s.keys s.keyHome).txNext.isNone && !s.kx.expired then s.keyLimit else s
    | none => s
  .next s.sleepLimit

/-- The uncertainty that the extrapolated period under way has added so far, in time units (R310, R514). -/
def State.runningUncert (s : State) : Nat :=
  match s.time.periodStart with
  | some t =>
    let span := s.time.now - t
    (if s.time.periodRc then span * 500 else span * 50) / 1000000 + 61040 * nsU
  | none => 0

/-- Whether a retained key of a die has reached its TIME_LIMIT, the uncertainty counted as time passed (R310). -/
def State.retainedOld (s : State) (d : Die) : Bool :=
  let k := s.keys d
  (k.txCur.toList ++ k.txNext.toList ++ k.rx).any fun k =>
    decide (secU (60 * s.rd 0 CIPH_LIFE_TIME_LIMIT) ≤ s.keyAge k + s.runningUncert)

/-- RETAINED_KEY_EXPIRY (R310): bank B4 is zeroised, and the group wakes where its budget no longer admits DORMANT. -/
def execRetainedKeyExpiry (d : Die) (s : State) : Host.Outcome State Fault Refusal :=
  if s.pop d && s.power d == .dormant && s.retainedOld d then .next ((s.zeroiseDie d).showKeys.powerEval 7) else .next s

end Sys2Proof.Machine
end

