-- ==== Sys2Proof/Machine/Deskew.lean ====
section
/-! DEFINITION. Alignment groups and their release schedule (R213 to R220). Instants and slacks are in core cycles of the
package timebase. -/

namespace Sys2Proof.Machine

/-! ### Groups (R56, R213) -/

/-- The alignment group of a lane, lowest lane first; none for a lane of no group (R213). -/
def State.alignGroup (s : State) (l : Die) : List Die :=
  match s.profile with
  | .assured => s.popDies
  | .full => (s.portsOn l).headD ⟨0, .w200⟩ |> fun p => if s.carries l then Port.dies .full p else []
  | .standard => []

/-- The owner of a lane's group (R213). -/
def State.groupOwner (s : State) (l : Die) : Die := if s.assured then s.assuredOwner else (s.alignGroup l).headD l

/-- The lane at which a group's schedule is kept. -/
def State.groupKey (s : State) (l : Die) : Die := (s.alignGroup l).headD l

/-- The groups, each by the lane that keeps its schedule. -/
def State.groupKeys (s : State) : List Die := s.popDies.filter fun l => !(s.alignGroup l).isEmpty && s.groupKey l == l

/-- GUARD of a lane's group as it stands in the owner (R217, R235). -/
def State.guardSet (s : State) (l : Die) : Nat := s.rd (s.groupOwner l) DEC_DSK_CTRL_GUARD

/-- GUARD as it acts for a lane, since the last alignment, slew or LINE_REALIGN of its group (R220). -/
def State.guardOf (s : State) (l : Die) : Nat := (s.dsk (s.groupKey l)).guard

/-- A change of GUARD takes effect (R220). -/
def State.takeGuard (s : State) (l : Die) : State :=
  let g := s.guardSet l
  s.updDsk (s.groupKey l) fun x => { x with guard := g }

/-- Whether a group is aligned. -/
def State.aligned (s : State) (l : Die) : Bool := s.flag (s.groupKey l) DEC_DSK_STAT_ALIGNED

/-- Whether a lane is frame-locked with a known header (R217). -/
def State.headerKnown (s : State) (l : Die) : Bool := s.flocked l && (s.pool l).header.isSome

/-- The frame of a count in a lane's delay line. -/
def State.frameOf (s : State) (l : Die) (fc : Nat) : Option RxFrame :=
  (s.pool l).frames.find? fun f => match f.header with
    | some h => h.frameCount.toNat == fc
    | none => false

/-- Count and arrival stamp of a lane's last frame with a header. -/
def State.lastStamp (s : State) (l : Die) : Option (Nat × Nat) :=
  ((s.pool l).frames.reverse.find? fun f => f.header.isSome).bind fun f => f.header.map fun h =>
    (h.frameCount.toNat, f.arrival)

/-- A lane's stamp carried to frame `fc` at one frame period of 8,256 core cycles a frame. -/
def State.stampAt (s : State) (l : Die) (fc : Nat) : Option Int :=
  (s.lastStamp l).map fun p => (p.2 : Int) + 8256 * ((fc : Int) - p.1)

/-- The deepest slack that a delay line holds (R216). -/
abbrev lineDepth : Int := 6144

/-! ### Alignment (R217) -/

/-- DESKEW_RANGE (R217 to R219): flagged in the owner, raised under its index for a lane. -/
def State.deskewRange (s : State) (l : Die) : State :=
  let o := s.groupOwner l
  (s.wr o DEC_DSK_STAT_RANGE 1).raise o evDESKEW_RANGE (evArg l.val 0xFF [])

/-- A group loses its alignment: its stream is unavailable, a slew ends. -/
def State.unalign (s : State) (l : Die) : State :=
  let k := s.groupKey l
  let s := s.updDsk k fun x => { x with slew := 0, retryAt := none, blocked := false }
  let s := s.each (s.alignGroup l) fun s d =>
    ((s.wr d DEC_DSK_STAT_ALIGNED 0).wr d DEC_DSK_STAT_EXCLUDED 0).updDie d fun x =>
      { x with
        dsk := { x.dsk with late := 0, early := 0, readmit := false }
        rxOut := ⟨false, [], true, none⟩ }
  s.finishPend (.realign k) .ok []

/-- Aligns a group where it can be: the latest lane gets a slack of GUARD (R217). -/
def State.tryAlign (s : State) (l : Die) : State :=
  let g := s.alignGroup l
  let k := s.groupKey l
  let known := g.filter s.headerKnown
  if known.isEmpty || known.length + (if s.assured then 1 else 0) < g.length then s.updDsk k fun x => { x with retryAt := none }
  else
    let fc := (known.filterMap fun d => (s.lastStamp d).map Prod.fst).foldl max 0
    let at_ := known.filterMap fun d => s.stampAt d fc
    let latest := at_.foldl max (at_.headD 0)
    let s := s.takeGuard l
    let t := latest + s.guardOf l
    if at_.any fun a => decide (lineDepth < t - a) then
      (s.deskewRange k).updDsk k fun x => { x with retryAt := some (s.time.now + 64 * s.frameU) }
    else
      let s := s.each g fun s d =>
        ((s.wr d DEC_DSK_STAT_ALIGNED 1).wr d DEC_DSK_STAT_EXCLUDED 0).updDsk d fun x =>
          { x with late := 0, early := 0, readmit := false }
      s.updDsk k fun x =>
        { x with next := fc, t := t - 8256, refA := none, retryAt := none, slew := 0, blocked := false }

/-- A frame with a header has come in on a lane of a group that is not aligned (R217). -/
def State.alignFollow (s : State) (l : Die) : State :=
  if (s.alignGroup l).isEmpty || s.aligned l || (s.dsk (s.groupKey l)).retryAt.isSome then s else s.tryAlign l

/-- DESKEW_ALIGN_RETRY (R217). -/
def execDeskewAlignRetry (owner : Die) (s : State) : Host.Outcome State Fault Refusal :=
  match s.groupKeys.find? fun k => s.groupOwner k == owner with
  | none => .next s
  | some k =>
    match s.aligned k, (s.dsk k).retryAt with
    | false, some t => if t ≤ s.time.now then .next (s.tryAlign k) else .next s
    | _, _ => .next s

/-! ### The schedule (R215, R216) -/

/-- The reference lane of a group (R215). -/
def State.refLane (s : State) (l : Die) : Option Die :=
  if s.assured then s.popDies.find? s.flocked else (s.alignGroup l).head?

/-- The instant at which a group releases its next frame, and the state with the schedule moved on to it (R215). -/
def State.releaseNext (s : State) (k : Die) : Int × State :=
  let x := s.dsk k
  let stamp : Option (Die × Nat) := (s.refLane k).bind fun r => (s.frameOf r x.next).map fun f => (r, f.arrival)
  let period : Int := match x.refA, stamp with
    | some (r, a), some (r', a') => if r = r' then (a' : Int) - a else 8256
    | _, _ => 8256
  let t := x.t + period
  (t, s.updDsk k fun x => { x with next := (x.next + 1) % 2 ^ 48, t := t, refA := stamp })

/-! ### Late frames, exclusion, slew (R218, R219) -/

/-- A lane is excluded (R218). -/
def State.exclude (s : State) (l : Die) : State :=
  ((s.wr l DEC_DSK_STAT_EXCLUDED 1).raiseLane l evDESKEW_EXCLUDED).unprotRise

/-- Whether a die owns a group that slews (R219): SLEWING as DEC.DSK_STAT shows it. -/
def State.slewing (s : State) (d : Die) : Bool := s.groupKeys.any fun k => s.groupOwner k == d && (s.dsk k).slew != 0

/-- Starts a slew by `need`, unless one of the `others` would leave its delay line (R219, R220). A slew that stays refused
raises DESKEW_RANGE once until the group is aligned again, for whichever excluded lane comes first: the spec does not say how
often (DESIGN CHOICE, assumption log). -/
def State.startSlew (s : State) (l : Die) (others : List Die) (need : Int) : State :=
  let k := s.groupKey l
  if (s.dsk k).slew ≠ 0 then s
  else
    if others.any fun d => decide (lineDepth < s.rdInt d DEC_DSK_STAT_SLACK + need) then
      if (s.dsk k).blocked then s else (s.deskewRange l).updDsk k fun x => { x with blocked := true }
    else s.updDsk k fun x => { x with slew := need, slewAt := s.time.now }

/-- What an excluded lane's slack leads to (R219); a slew that starts takes GUARD as it stands then (R220). -/
def State.excludedSlack (s : State) (l : Die) (slack : Int) : State :=
  if !s.headerKnown l then s
  else
    let s := if slack < s.guardOf l ∧ (s.dsk (s.groupKey l)).slew = 0 then s.takeGuard l else s
    if slack < s.guardOf l then
      s.startSlew l ((s.alignGroup l).filter fun d => !s.flag d DEC_DSK_STAT_EXCLUDED) (s.guardOf l - slack)
    else if slack ≤ lineDepth then s.updDsk l fun x => { x with readmit := true }
    else s

/-- A lane's part in the release of frame `fc` at `t` (R216, R218, R219): whether its frame is used, and the state after. -/
def State.laneRelease (s : State) (l : Die) (fc : Nat) (t : Int) : Bool × State :=
  let s := if (s.dsk l).readmit then
      (s.wr l DEC_DSK_STAT_EXCLUDED 0).updDsk l fun x => { x with readmit := false, late := 0, early := 0 }
    else s
  let slack := (s.frameOf l fc).map fun f => t - f.arrival
  let s := match slack with
    | some v => s.wrInt l DEC_DSK_STAT_SLACK (max (-8192) (min 8191 v))
    | none => s
  if s.flag l DEC_DSK_STAT_EXCLUDED then
    (false, match slack with
      | some v => s.excludedSlack l v
      | none => s)
  else
    let late := match slack with
      | some v => decide (v < 0)
      | none => true
    let early := match slack with
      | some v => decide (lineDepth < v)
      | none => false
    if late then
      let s := ((s.wr (s.groupOwner l) DEC_DSK_STAT_LATE 1).cnt l 79).updDsk l fun x => { x with late := x.late + 1, early := 0 }
      let s := if s.rateMatched then s.exclude l else s
      (false, if s.rateMatched then
        match slack with
        | some v => s.excludedSlack l v
        | none => s
      else s)
    else if early then
      let s := (s.deskewRange l).updDsk l fun x => { x with early := x.early + 1, late := 0 }
      (false, if s.rateMatched then s.exclude l else s)
    else (true, s.updDsk l fun x => { x with late := 0, early := 0 })

/-- The lanes' parts in a release, in lane order: the lanes whose frames are used, and the state after. -/
def State.lanesRelease (s : State) (fc : Nat) (t : Int) : List Die → List Die × State
  | [] => ([], s)
  | l :: ls =>
    let (ok, s) := s.laneRelease l fc t
    let (used, s) := State.lanesRelease s fc t ls
    (if ok then l :: used else used, s)

/-- Whether a group must be realigned (R218): not rate-matched, with two late, or two early, frames in a row on a lane. -/
def State.mustRealign (s : State) (k : Die) : Bool :=
  !s.rateMatched && (s.alignGroup k).any fun d => decide (2 ≤ (s.dsk d).late ∨ 2 ≤ (s.dsk d).early)

/-- The end of a slew (R219, R220): an excluded lane whose slack has reached GUARD is readmitted at the next frame. -/
def State.slewEnd (s : State) (k : Die) : State :=
  let s := s.updDsk k fun x => { x with slew := 0 }
  let last := ((s.dsk k).next + (2 ^ 48 - 1)) % 2 ^ 48
  let back := (s.alignGroup k).filter fun l => s.flag l DEC_DSK_STAT_EXCLUDED && s.headerKnown l
    && match s.stampAt l last with
       | some a => decide (s.guardOf l ≤ (s.dsk k).t - a ∧ (s.dsk k).t - a ≤ lineDepth)
       | none => false
  (s.each back fun s l => s.updDsk l fun x => { x with readmit := true }).finishPend (.realign k) .ok []

/-- One step of a slew: one core cycle (R219, R220). A slew for a lane that has gone ends. -/
def State.slewStep (s : State) (k : Die) : State :=
  let n := (s.dsk k).slew
  let wanted := (s.pend? (.realign k)).isSome
    || (s.alignGroup k).any fun l => s.flag l DEC_DSK_STAT_EXCLUDED && s.headerKnown l
  if !wanted then s.slewEnd k
  else
    let d : Int := if 0 < n then 1 else -1
    let s := s.updDsk k fun x => { x with t := x.t + d, slew := n - d, slewAt := s.time.now }
    if n - d = 0 then s.slewEnd k else s

/-- DESKEW_SLEW_STEP (R219): every 8 frames during a slew. -/
def execDeskewSlewStep (owner : Die) (s : State) : Host.Outcome State Fault Refusal :=
  match s.groupKeys.find? fun k => s.groupOwner k == owner with
  | none => .next s
  | some k =>
    if (s.dsk k).slew ≠ 0 ∧ s.past (s.dsk k).slewAt (8 * s.frameU) then .next (s.slewStep k) else .next s

/-! ### LINE_REALIGN and DESKEW_SET (R220, R241, R342) -/

def infoLineRealign (lane : Nat) : CmdInfo :=
  { code := 0x0108, priv := some .operator, cls := 5, insts := [lane], dies := oneDie lane, rt := true, ns := true,
    bad := numBad lane 8 0 }

/-- The slack of the latest lane of a group that is not excluded. -/
def State.leastSlack (s : State) (l : Die) : Option Int :=
  (((s.alignGroup l).filter fun d => !s.flag d DEC_DSK_STAT_EXCLUDED).map fun d => s.rdInt d DEC_DSK_STAT_SLACK).min?

def applyLineRealign (lane : Nat) (_ : Req) (_ : Session) (s : State) : Res :=
  match toDie? lane with
  | none => .badParam 0 s
  | some l =>
    let k := s.groupKey l
    if (s.alignGroup l).isEmpty then .fail .notPermitted s
    else if !s.rxOn [l] then .fail .domainOff s
    else if (s.dsk k).slew ≠ 0 then .fail .busy s
    else if !s.aligned l then .ok s
    else if !s.rateMatched then .ok ((s.unalign l).tryAlign l)
    else match s.leastSlack l with
      | none => .ok s
      | some v =>
        let s := s.takeGuard l
        let need : Int := (s.guardOf l : Int) - v
        if need = 0 then .ok s
        else
          let t := s.startSlew l ((s.alignGroup l).filter fun d => !s.flag d DEC_DSK_STAT_EXCLUDED) need
          if (t.dsk k).slew = 0 then .ok t else .pending (.realign k) t

/-- LINE_REALIGN (R220). -/
def execLineRealign (r : Req) (lane : Nat) (s : State) : Host.Outcome State Fault Refusal :=
  .next (Slostan.run r (.lineRealign r lane) (infoLineRealign lane) (applyLineRealign lane) s)

def infoDeskewSet (lane guard : Nat) : CmdInfo := laneInfo 0x4142 lane false true (numBad guard 1024 1)

def applyDeskewSet (lane guard : Nat) (_ : Req) (_ : Session) (s : State) : Res :=
  match toDie? lane with
  | none => .badParam 0 s
  | some l => if !s.rxOn [l] then .fail .domainOff s else .ok (s.wr (s.groupOwner l) DEC_DSK_CTRL_GUARD guard)

/-- DESKEW_SET (R220, R241). -/
def execDeskewSet (r : Req) (lane guard : Nat) (s : State) : Host.Outcome State Fault Refusal :=
  .next (Slostan.run r (.deskewSet r lane guard) (infoDeskewSet lane guard) (applyDeskewSet lane guard) s)

/-! ### TOPPING_SET (R257, R265, R268) -/

def infoToppingSet (rxEn copyHold : Nat) : CmdInfo :=
  { code := 0x4150, priv := some .expert, cls := 5, ns := true,
    bad := if rxEn < 2 && copyHold ≤ 64 then none else some 0 }

/-- TOP.CTRL of every populated die. -/
def State.setTopping (s : State) (rxEn copyHold : Nat) : State :=
  (s.each s.popDies fun s d => (s.wr d TOP_CTRL_RX_EN rxEn).wr d TOP_CTRL_COPY_HOLD copyHold).unprotRise

def applyToppingSet (rxEn copyHold : Nat) (_ : Req) (_ : Session) (s : State) : Res :=
  if s.popDies.all fun d => s.domainOn d .dataPath then .ok (s.setTopping rxEn copyHold) else .fail .domainOff s

/-- TOPPING_SET (R265): RX_EN and COPY_HOLD of every die. -/
def execToppingSet (r : Req) (rxEn copyHold : Nat) (s : State) : Host.Outcome State Fault Refusal :=
  .next (Slostan.run r (.toppingSet r rxEn copyHold)
    { infoToppingSet rxEn copyHold with insts := s.popDies.map Fin.val } (applyToppingSet rxEn copyHold) s)

end Sys2Proof.Machine
end

