-- ==== Sys2Proof/Machine/HostPorts.lean ====
section
/-! DEFINITION. The host side of a port: host codewords, the rate-matching FIFOs, Local Fault, host lanes lost and regained
(R29, R41 to R48, R52, R55 to R61, R66, R69, R70, R340, R502). -/

namespace Sys2Proof.Machine

/-! ### Ports and their queues -/

/-- The queues kept at a host lane. -/
def State.portQ (s : State) (h : HostLane) : PortQ :=
  (s.die (HostLane.die h)).host.get (Fin.ofNat 2 h.val)

def State.updPortQ (s : State) (h : HostLane) (g : PortQ → PortQ) : State :=
  let i : Fin 2 := Fin.ofNat 2 h.val
  s.updDie (HostLane.die h) fun x => { x with host := x.host.set i.val (g (x.host.get i)) i.isLt }

/-- 0 or 1: the place of a port among the ports of its base die (R69). -/
def portNo (h : HostLane) : Nat := h.val % 2

/-- The port of the plan with a first host lane. -/
def State.portAt (s : State) (h : HostLane) : Option Port := s.plan.find? fun p => p.first == h

/-- The dies of a port of the running plan. -/
def State.portDies (s : State) (p : Port) : List Die := Port.dies s.profile p

/-- Host lanes of a port of the running plan. -/
def State.portLanes (s : State) (p : Port) : List HostLane :=
  (Port.lanes s.profile p).filterMap fun n => if h : n < 16 then some ⟨n, h⟩ else none

/-- Blocks that the line carries for a port in a span (R51, R52, R85): four in each 257 payload bits of its lanes; a 200GbE
port has every second unit of its lane. -/
def State.blocksIn (s : State) (p : Port) (span : Nat) : Nat :=
  let lanes := (s.portDies p).length
  span * (2284800 * 4 * lanes) / (s.frameU * 257 * (if p.width = .w200 then 2 else 1))

/-- Whether every lane of a port has alignment at its host inputs (R47). -/
def State.hostOk (s : State) (p : Port) : Bool :=
  (s.portLanes p).all fun h => s.flag (HostLane.die h) (HOST_LANE_STAT_ALIGN_OK (portNo h))

/-- Whether a die's two host lanes carry 200GbE ports that must run from one clock (R42). -/
def State.paired (s : State) (d : Die) : Bool :=
  s.profile == .full && s.clockMode == .locked
    && decide (2 ≤ (s.plan.filter fun p => p.width == .w200 && Port.base p == d).length)

/-- Whether Local Fault replaces a port's stream towards the line (R42, R47). -/
def State.faultToLine (s : State) (p : Port) : Bool :=
  !s.hostOk p || (s.paired (Port.base p) && (s.portQ p.first).pairBad)

/-! ### Deletion and insertion (R58, R59) -/

/-- Whether R58 lets a block be deleted that comes directly after another. -/
def deletable (came : Option Block66) (b : Block66) : Bool :=
  match Blocks.kind b with
  | .idle => true
  | .orderedSet => came == some b
  | _ => false

/-- The block that R59 inserts directly after one: an idle block, or a copy of an ordered set. -/
def insertedAfter (b : Block66) : Option Block66 :=
  match Blocks.kind b with
  | .idle | .term => some Blocks.idle
  | .orderedSet => some b
  | _ => none

/-- Counts a rate-matching counter of a port at its base die (R578). -/
def State.cntRm (s : State) (h : HostLane) (k n : Nat) : State := s.cntN (HostLane.die h) (8 + 8 * portNo h + k) n

/-! ### Numbering of units (R49, R51, R53) -/

/-- How far a lane's sequence moves from one of its units to the next (R51, R52): by the lanes of its port; the two 200GbE
ports of a lane take its units in turn. -/
def State.unitStride (s : State) (l : Die) : Nat :=
  match s.portsOn l with
  | p :: _ => if p.width = .w200 then 1 else (s.portDies p).length
  | [] => 1

/-- Most units that a frame begins (R53). -/
abbrev frameUnitMax : Nat := 8891

/-- The unit at which a port's count starts: the spec does not say which number the first codeword after a start takes, so
that it is a multiple of 80 far enough on for the lanes that run to reach it two frames later (DESIGN CHOICE, assumption
log). -/
def State.firstUnit (s : State) (p : Port) : Nat :=
  let x := (((s.portDies p).filter fun d => (s.tx d).running).map fun d => (s.tx d).seq).foldl max 0
  let u := x + 2 * frameUnitMax * (if p.width = .w200 then 1 else (s.portDies p).length)
  80 * ((if p.width = .w200 then u / 2 else u) / 80 + 1)

/-- The number that unit `u` of a port has on its line lane (R51, R52). -/
def laneSeq (p : Port) (u : Nat) : Nat := if p.width = .w200 then 2 * u + portNo p.first else u

/-- A unit goes from the die that forms it to the die of its line lane, where it waits for the lane's frames: pass 2 (R50, R51).
A lane that sends no frames takes none; a die without a route gets none (R459). -/
def State.dealUnit (s : State) (p : Port) (src : Die) (u : Nat) (v : PortUnit) : State :=
  let ds := s.portDies p
  let d := ds.getD (u % max 1 ds.length) (Port.base p)
  if !(s.tx d).running || !(src == d || s.routed src d) then s
  else (s.flowSend src d u).updPortQ (Fin.ofNat 16 (2 * d.val + portNo p.first)) fun q =>
    { q with units := q.units ++ [(laneSeq p u, v)] }

/-! ### The rate-matching FIFO, host to line (R57 to R61) -/

/-- A block reaches the host-to-line FIFO (R58, R59, R61). -/
def State.acceptToLine (s : State) (h : HostLane) (b : Block66) : State :=
  let d := HostLane.die h
  let q := s.portQ h
  let s := s.updPortQ h fun q => { q with came := some b }
  if s.rd d HOST_RM_CTRL_HI_MARK < q.fifo.length && deletable q.came b then s.cntRm h 0 1
  else if 128 ≤ q.fifo.length then
    ((s.cntRm h 4 1).wr d (HOST_RM_STAT_OVER_H2L (portNo h)) 1).updPortQ h fun q => { q with err := true, came := none }
  else
    let b := if q.err then Blocks.error else b
    let more := if q.fifo.length + 1 < s.rd d HOST_RM_CTRL_LO_MARK then (insertedAfter b).toList else []
    let s := s.cntRm h 1 more.length
    s.updPortQ h fun q => { q with fifo := q.fifo ++ b :: more, last := (b :: more).getLast?, err := false }

/-- The next block of a rate-matched port towards the line: four make a unit, which the line-lane die transcodes (R57). -/
def State.blockToLine (s : State) (p : Port) (b : Block66) : State :=
  let q := s.portQ p.first
  let part := q.part ++ [b]
  let n := q.outNext
  let s := s.updPortQ p.first fun q => { q with outNext := n + 1, part := if n % 4 = 3 then [] else part }
  if n % 4 = 3 then s.dealUnit p (Port.base p) (n / 4) (Blocks.pack part) else s

/-- The line takes `n` blocks; where none is there, error blocks go (R61). -/
def State.drainToLine (s : State) (p : Port) (n : Nat) : State :=
  let h := p.first
  let bs := (s.portQ h).fifo.take n
  let short := n - bs.length
  let s := s.updPortQ h fun q => { q with fifo := q.fifo.drop n, taken := q.taken + n }
  let s := s.each (bs ++ List.replicate short Blocks.error) fun s b => s.blockToLine p b
  if short = 0 then s else (s.cntRm h 5 short).wr (HostLane.die h) (HOST_RM_STAT_UNDER_H2L (portNo h)) 1

/-- Blocks due to the line since the account last moved. -/
def State.dueToLine (s : State) (p : Port) : Nat :=
  let q := s.portQ p.first
  if q.runs then s.blocksIn p (s.time.now - q.since) - q.taken else 0

/-- The account moves on to now. -/
def State.drainNow (s : State) (p : Port) : State :=
  let n := s.dueToLine p
  if n = 0 then s else s.drainToLine p n

/-- Blocks `i` and later of a codeword of `m` blocks reach the FIFO, the `n` departures due spread evenly among them. -/
def State.acceptSpread (s : State) (p : Port) (n m : Nat) : Nat → List Block66 → State
  | _, [] => s
  | i, b :: bs =>
    let out := n * (i + 1) / m - n * i / m
    let s := s.acceptToLine p.first b
    State.acceptSpread (if out = 0 then s else s.drainToLine p out) p n m (i + 1) bs

/-- The blocks of a host codeword enter the rate-matching FIFO; the account starts with the first ones. -/
def State.matchToLine (s : State) (p : Port) (bs : List Block66) : State :=
  if (s.portQ p.first).runs then s.acceptSpread p (s.dueToLine p) bs.length 0 bs
  else
    let first := 4 * s.firstUnit p
    let s := s.updPortQ p.first fun q =>
      { q with
        runs := true, fifo := [], came := none, last := none, err := false, since := s.time.now, taken := 0, outNext := first
        part := [] }
    s.acceptSpread p 0 1 0 bs

/-! ### Host codewords (R43, R44, R49 to R51, R57) -/

/-- The die that decodes or encodes host codeword `n` of a port (R49). -/
def State.codewordDie (s : State) (p : Port) (n : Nat) : Die :=
  let ds := s.portDies p
  ds.getD (n % max 1 ds.length) (Port.base p)

/-- Blocks received on a host lane go back to its HTX under loopback HOST (R416). -/
def State.hostLoops (s : State) (h : HostLane) : Bool := s.rd (HostLane.die h) PATG_CFG_LOOPBACK == 1

/-- A port's codewords are numbered from an alignment-marker group on (R49): until one has come they belong to no number. -/
def State.startCount (s : State) (p : Port) (units : List PortUnit) : State :=
  if (s.portQ p.first).counting || !(Config.markerUnit p.width (units.headD 0)) then s
  else
    let n := s.firstUnit p / 20
    s.updPortQ p.first fun q => { q with counting := true, countedAt := n, cwNum := n }

/-- How many of codeword `n`'s 20 units, from the first on, belong to an alignment-marker group. -/
def PortQ.markersIn (q : PortQ) (w : Width) (n : Nat) : Nat :=
  min 20 (Blocks.markerUnits w - 20 * ((n - q.countedAt) % Blocks.markerSpacing w))

/-- A decoded codeword's units go towards the line: as they are (R51), or as blocks through the rate matching, without their
alignment markers (R57). -/
def State.unitsToLine (s : State) (p : Port) (d : Die) (n : Nat) (units : List PortUnit) : State :=
  if s.rateMatched then
    s.matchToLine p ((units.drop ((s.portQ p.first).markersIn p.width n)).flatMap Blocks.unpack)
  else s.each (units.mapIdx fun j u => (j, u)) fun s e => s.dealUnit p d (20 * n + e.1) e.2

/-- HOST_CODEWORD_RECEIVE (R43, R44, R49 to R51, R57, R70): a host codeword of the port with this first host lane. `corrected`
are its corrected symbols, `units` its 20 blocks of 257 bits, alignment markers among them. -/
def execHostCodewordReceive (h : HostLane) (uncorr : Bool) (corrected : Nat) (units : List PortUnit) (s : State) :
    Host.Outcome State Fault Refusal :=
  let s := if s.hostLoops h && s.domainOn (HostLane.die h) .host then
      s.each units fun s u => s.emit (.hostBlock h (.looped u))
    else s
  match s.portAt h with
  | none => .next s
  | some p =>
    let s := if s.standard || s.phase != .ready || !s.hostOk p || units.length != 20 then s else s.startCount p units
    let q := s.portQ h
    let d := s.codewordDie p q.cwNum
    if s.standard || s.phase != .ready || !s.hostOk p || units.length != 20 || !q.counting || !s.domainOn d .host then .next s
    else
      let n := portNo h
      let (bad, s) := s.takeInject (HostLane.die h) 3 n
      let corrected := if bad then corrected + 1 else corrected
      let s := (s.cnt d (4 * n)).updPortQ h fun q => { q with cwNum := q.cwNum + 1 }
      let s := if uncorr then (s.cnt d (4 * n + 2)).wr d (HFEC_STAT_UNCORR_SEEN n) 1
        else (s.cntN d (4 * n + 1) corrected).updPortQ (Fin.ofNat 16 (2 * d.val + n)) fun q =>
          { q with symbols := q.symbols + corrected }
      let units := if uncorr then List.replicate 20 Blocks.errorUnit else units
      .next (s.unitsToLine p d q.cwNum units)

/-! ### Host lanes lost and regained (R41, R42, R47, R66, R340, R343) -/

/-- A status bit of a host lane falls, with its flag (R66). -/
def State.fall (s : State) (d : Die) (bit lost : Fld) : State :=
  if s.flag d bit then (s.wr d bit 0).wr d lost 1 else s

/-- In STANDARD the line lane of a host lane follows its alignment-marker lock (R340, R343). -/
def State.stdHost (s : State) (h : HostLane) (locked : Bool) : State :=
  let d := HostLane.die h
  if !s.standard || portNo h = 1 then s
  else if locked then (s.wr d LFR_STD_STAT_AM_LOCK 1).wr d LFR_STD_STAT_PRBS_TX 0
  else
    let s := if s.flag d LFR_STD_STAT_AM_LOCK then s.wr d LFR_STD_STAT_HOST_LOST 1 else s
    (s.wr d LFR_STD_STAT_AM_LOCK 0).wr d LFR_STD_STAT_PRBS_TX 1

/-- HOST_LANE_LOSS (R47, R66, R340): what the lane has lost; alignment is the port's. A lane of no port is ignored (R41). -/
def execHostLaneLoss (h : HostLane) (sig cdr am align : Bool) (s : State) : Host.Outcome State Fault Refusal :=
  match s.portOf h with
  | none => .next s
  | some p =>
    let d := HostLane.die h
    let n := portNo h
    if !s.domainOn d .host then .next s
    else
      let s := if sig then s.fall d (HOST_LANE_STAT_SIG_DET n) (HOST_LANE_STAT_SIG_LOST n) else s
      let s := if cdr then s.fall d (HOST_LANE_STAT_CDR_LOCK n) (HOST_LANE_STAT_CDR_LOST n) else s
      let s := if am then s.fall d (HOST_LANE_STAT_AM_LOCK n) (HOST_LANE_STAT_AM_LOST n) else s
      let s := if sig || cdr || am then s.stdHost h false else s
      let s := if sig || cdr || am || align then
          s.each (s.portLanes p) fun s g =>
            s.fall (HostLane.die g) (HOST_LANE_STAT_ALIGN_OK (portNo g)) (HOST_LANE_STAT_ALIGN_LOST (portNo g))
        else s
      .next (s.updPortQ p.first fun q =>
        if sig || cdr || am || align then { q with runs := false, counting := false, fifo := [], part := [] } else q)

/-- HOST_LANE_RECOVER (R47, R66, R340): the lane is locked again; the port is aligned when all its lanes are. -/
def execHostLaneRecover (h : HostLane) (s : State) : Host.Outcome State Fault Refusal :=
  match s.portOf h with
  | none => .next s
  | some p =>
    let d := HostLane.die h
    let n := portNo h
    if !s.domainOn d .host then .next s
    else
      let s := ((s.wr d (HOST_LANE_STAT_SIG_DET n) 1).wr d (HOST_LANE_STAT_CDR_LOCK n) 1).wr d (HOST_LANE_STAT_AM_LOCK n) 1
      let s := s.stdHost h true
      .next (if (s.portLanes p).all fun g => s.flag (HostLane.die g) (HOST_LANE_STAT_AM_LOCK (portNo g)) then
        s.each (s.portLanes p) fun s g => s.wr (HostLane.die g) (HOST_LANE_STAT_ALIGN_OK (portNo g)) 1
      else s)

/-- HOST_PAIR_OFFSET (R42): the offset has exceeded 20 ppm for 1 ms, or stayed within it for 1 ms. -/
def execHostPairOffset (d : Die) (exceeds : Bool) (s : State) : Host.Outcome State Fault Refusal :=
  let h : HostLane := ⟨2 * d.val + 1, by have := d.isLt; omega⟩
  if !(s.pop d && s.paired d && (s.portQ h).pairBad != exceeds) then .next s
  else
    let s := s.updPortQ h fun q => { q with pairBad := exceeds }
    .next (if exceeds then s.raiseLane d evHOST_PAIR_OFFSET else s)

/-! ### Line to host (R45, R46, R48, R50, R54 to R61) -/

/-- A block reaches the line-to-host FIFO (R58, R59, R61). -/
def State.acceptToHost (s : State) (h : HostLane) (b : Block66) : State :=
  let d := HostLane.die h
  let q := s.portQ h
  let s := s.updPortQ h fun q => { q with backCame := some b }
  if s.rd d HOST_RM_CTRL_HI_MARK < q.back.length && deletable q.backCame b then s.cntRm h 2 1
  else if 128 ≤ q.back.length then
    ((s.cntRm h 6 1).wr d (HOST_RM_STAT_OVER_L2H (portNo h)) 1).updPortQ h fun q => { q with backErr := true, backCame := none }
  else
    let b := if q.backErr then Blocks.error else b
    let more := if q.back.length + 1 < s.rd d HOST_RM_CTRL_LO_MARK then (insertedAfter b).toList else []
    let s := s.cntRm h 3 more.length
    s.updPortQ h fun q => { q with back := q.back ++ b :: more, backLast := (b :: more).getLast?, backErr := false }

/-- Blocks of a port that the line has delivered by now and that wait to enter the FIFO. -/
def State.dueToHost (s : State) (p : Port) : Nat :=
  let q := s.portQ p.first
  min q.wait.length (s.blocksIn p (s.time.now - q.waitSince) - q.waitTaken)

/-- Moves them. -/
def State.arriveNow (s : State) (p : Port) : State :=
  let n := s.dueToHost p
  let now := (s.portQ p.first).wait.take n
  let s := s.updPortQ p.first fun q => { q with wait := q.wait.drop n, waitTaken := q.waitTaken + n }
  s.each now fun s b => s.acceptToHost p.first b

/-- Whether a port's stream from the line is available (R48, R102, R217, R218, R459): every lane delivers payload, over dies
that are healthy and reach each other. -/
def State.portAvail (s : State) (p : Port) : Bool :=
  let ds := s.portDies p
  if s.standard then ds.all s.rxDelivers
  else ds.all (fun l => (s.die l).rxOut.avail && s.healthy l
      && (s.assured || (s.flocked l && s.flag l DEC_DSK_STAT_ALIGNED && !(s.rateMatched && s.flag l DEC_DSK_STAT_EXCLUDED))))
    && s.portRouted ds

/-- Drops what waits towards the host. -/
def State.dropToHost (s : State) (h : HostLane) : State :=
  s.updPortQ h fun q =>
    { q with
      wait := [], waitTaken := 0, back := [], backCame := none, backLast := none, backErr := false, backUnits := [], anchor := none }

/-- Units of a port that its lanes have released go towards the host in block-sequence order (R54); on a rate-matched port
their line-lane dies reverse the transcoding (R57). -/
def State.sendToHost (s : State) (p : Port) (us : List (Nat × PortUnit)) : State :=
  if s.rateMatched then
    s.updPortQ p.first fun q =>
      { q with
        wait := q.wait ++ us.flatMap fun e => Blocks.unpack e.2
        waitSince := if q.wait.isEmpty then s.time.now else q.waitSince
        waitTaken := if q.wait.isEmpty then 0 else q.waitTaken }
  else s.updPortQ p.first fun q => { q with backUnits := q.backUnits ++ us }

/-- The next unit of a port that is not rate-matched (R45, R54): the first unit of an alignment-marker group anchors the host
codewords, 20 units each, and the die of R49 encodes it. Before a group has come the units belong to no codeword, and Local
Fault goes (DESIGN CHOICE, assumption log). -/
def State.unitToHost (s : State) (p : Port) : State :=
  let h := p.first
  match (s.portQ h).backUnits with
  | [] => s
  | (u, v) :: us =>
    let anchor := if Config.markerUnit p.width v then some u else (s.portQ h).anchor
    let s := s.updPortQ h fun q => { q with backUnits := us, anchor }
    match anchor with
    | some a =>
      let n := (u - a) / 20
      s.emit (.hostBlock h (.unit n ((u - a) % 20) (s.codewordDie p n) v))
    | none => s.emit (.hostBlock h .localFault)

/-- Whether a place of the stream that a rate-matched port sends to its host begins a block of an alignment-marker group, at
the spacing of IEEE 802.3 (R57). -/
def markerPlace (w : Width) (b : Nat) : Bool :=
  b % 4 == 0 && decide (b / 4 % (20 * Blocks.markerSpacing w) < Blocks.markerUnits w)

/-- The next block of a rate-matched port (R45, R57, R61): a regenerated alignment marker, which takes the space of four
blocks, or a block from the FIFO. -/
def State.blockToHost (s : State) (p : Port) : State :=
  let h := p.first
  let s := s.arriveNow p
  let q := s.portQ h
  let b := q.hostNext
  let n := b / 80
  let d := s.codewordDie p n
  if markerPlace p.width b then
    (s.updPortQ h fun q => { q with hostNext := b + 4 }).emit (.hostBlock h (.marker n (b / 4 % 20) d))
  else
    let s := s.updPortQ h fun q => { q with hostNext := b + 1, back := q.back.drop 1 }
    match q.back with
    | [] =>
      let s := (s.cntRm h 7 1).wr (HostLane.die h) (HOST_RM_STAT_UNDER_L2H (portNo h)) 1
      s.emit (.hostBlock h (.block n (b % 80) d Blocks.error))
    | v :: _ => s.emit (.hostBlock h (.block n (b % 80) d v))

/-- HOST_TX_BLOCK_DUE (R29, R45, R46, R48, R55, R57, R61, R340, R502): what the port with this first host lane sends next. A
port with a die declared unhealthy sends nothing in any profile: the spec leaves open what such a die's data path does while it
still runs (R659; DESIGN CHOICE, assumption log). -/
def execHostTxBlockDue (h : HostLane) (s : State) : Host.Outcome State Fault Refusal :=
  match s.portAt h with
  | none => .next s
  | some p =>
    let ds := s.portDies p
    if !s.dataRuns || !ds.all (fun d => s.domainOn d .host && s.healthy d && !(s.die d).safe.underTest) then .next s
    else if s.hostLoops h then .next s
    else if s.phase = .stopping ∨ s.phase = .shuttingDown then .next ((s.dropToHost h).emit (.hostBlock h .localFault))
    else if s.standard then
      .next (s.each ds fun s d => s.emit (.hostBlock h (if s.flag d LFR_STD_STAT_PRBS_HOST then .prbs d else .through d)))
    else if !ds.all s.active || !s.portAvail p then .next ((s.dropToHost h).emit (.hostBlock h .localFault))
    else .next (if s.rateMatched then s.blockToHost p else s.unitToHost p)

end Sys2Proof.Machine
end

