-- ==== Sys2Proof/Machine/Release.lean ====
section
/-! DEFINITION. Received frames: the overhead codeword, release from the delay lines, topping, authentication, and the units
towards the host (R46, R48, R53, R54, R84, R96 to R102, R173, R212, R234, R255 to R261, R294, R295, R299 to R305, R562,
R588 to R591, R662). -/

namespace Sys2Proof.Machine

/-! ### Headers predicted (R53, R92, R99, R295) -/

/-- Payload bits of a frame (R81). -/
abbrev payloadBits : Nat := 2284800

/-- Units that begin in a frame of a phase (R53). -/
def unitsBegun (phase : Nat) : Nat := (payloadBits - 1 - phase) / 257 + 1

/-- The phase of the frame after one (R53). -/
def phaseAfter (phase : Nat) : Nat := phase + 257 * unitsBegun phase - payloadBits

/-- RACK_CD as a receiver reads it (R92). -/
def rackOf (h : Header) : Nat := if 4096 < h.rackCd.toNat then 0 else h.rackCd.toNat

/-- The header expected after one (R53, R99, R295). -/
def State.advance (s : State) (l : Die) (h : Header) : Header :=
  let p := h.phase.toNat
  { h with
    frameCount := h.frameCount + 1
    keyEpoch := if rackOf h = 1 then BitVec.ofNat 16 (epochAfter h.keyEpoch.toNat) else h.keyEpoch
    rackCd := BitVec.ofNat 13 (rackOf h - 1)
    blockSeq := if h.topping then h.blockSeq else h.blockSeq + BitVec.ofNat 22 (s.unitStride l * unitsBegun p)
    phase := if h.topping then h.phase else BitVec.ofNat 9 (phaseAfter p) }

/-! ### The overhead codeword (R99, R100, R212) -/

/-- A condition of R662 on a lane: flagged in every frame, raised at its first one. -/
def State.headerCond (s : State) (l : Die) (flag : Fld) (ev : Nat) (was now : Bool) : State :=
  if now then s.condition l flag ev was else s

/-- Whether the CIPHER of a frame that carries payload is CLEAR where the policy that acts on it refuses it, or GCM under CLEAR
(R304, R305). -/
def RxFrame.clearRefused (f : RxFrame) (h : Header) : Bool := !h.withheld && h.cipher == 0#2 && f.policy == 0
def RxFrame.gcmRefused (f : RxFrame) (h : Header) : Bool := !h.withheld && h.cipher == 1#2 && f.policy == 2

/-- The checks of a header and the conditions of R662 (R100, R305). -/
def State.checkHeader (s : State) (l : Die) (f : RxFrame) (h : Header) : State :=
  let c := s.ciph l
  let ver := h.hdrVer != 1#4 || decide (2 ≤ h.profile.toNat ∨ 2 ≤ h.cipher.toNat)
  let prof := h.profile.toNat != Profile.code s.profile || h.topping != s.isTop l
  let lane := h.lane.toNat != l.val
  let clear := f.clearRefused h
  let mism := f.gcmRefused h
  let s := s.updCiph l fun c =>
    { c with condHdr := ver, condProfile := prof, condLane := lane, condClear := clear, condMismatch := mism }
  let s := s.headerCond l LFR_OH_STAT_VER_MISMATCH evHDR_VERSION c.condHdr ver
  let s := s.headerCond l LFR_OH_STAT_PROFILE_MISMATCH evPROFILE_MISMATCH c.condProfile prof
  let s := s.headerCond l LFR_OH_STAT_LANE_MISMATCH evLANE_ID_MISMATCH c.condLane lane
  let s := s.headerCond l CIPH_FLAGS_CLEAR_REFUSED evCLEAR_REFUSED c.condClear clear
  let s := s.headerCond l CIPH_FLAGS_MISMATCH evCIPHER_MISMATCH c.condMismatch mism
  let s := if ver || prof || lane then s.cnt l 70 else s
  if h.withheld then s else s.wrB l CIPH_RX_STAT_LAST_CLEAR (h.cipher == 0#2)

/-- Whether a header's block sequence or phase differs from the prediction on a lane that carries a port (R54). -/
def State.slipped (s : State) (l : Die) (h : Header) : Bool :=
  match (s.pool l).header with
  | some last =>
    let want := s.advance l last
    s.carries l && !h.topping && (h.blockSeq != want.blockSeq || h.phase != want.phase)
  | none => false

/-- SEQ_SLIP (R54, R70). -/
def State.seqSlip (s : State) (l : Die) : State :=
  let s := (s.cnt l 71).raiseLane l evSEQ_SLIP
  s.each (s.portsOn l) fun s p => s.wr l (HFEC_STAT_SLIP_SEEN (if p.width = .w200 then portNo p.first else 0)) 1

/-- The number nearest to an estimate that agrees with BLOCK_SEQ in its 22 bits (R54). -/
def seqNear (est : Int) (b : Nat) : Nat :=
  let k := (est - b + 2 ^ 21) / 2 ^ 22
  ((b : Int) + 2 ^ 22 * max k 0).toNat

/-- The extended sequence of a lane's first header (R54): that of another lane of its port, carried to this frame, tells how
often the field has wrapped; with none known the count begins at 2^22 (the model's own number). -/
def State.firstSeq (s : State) (l : Die) (h : Header) : Nat :=
  let known := ((s.portsOn l).flatMap s.portDies).filterMap fun d =>
    if d = l then none else (s.pool d).header.map fun g => (g, (s.pool d).seqExt)
  match known with
  | (g, e) :: _ =>
    let frames : Int := (h.frameCount.toNat : Int) - g.frameCount.toNat
    seqNear (e + frames * (payloadBits * s.unitStride l) / 257) h.blockSeq.toNat
  | [] => 2 ^ 22 + h.blockSeq.toNat

/-- The extended sequence of a lane's next header (R54): the prediction, or the value nearest to it. -/
def State.nextSeqExt (s : State) (l : Die) (h : Header) : Nat :=
  match (s.pool l).header with
  | some last => seqNear ((s.pool l).seqExt + s.unitStride l * unitsBegun last.phase.toNat) h.blockSeq.toNat
  | none => s.firstSeq l h

/-- A frame's header is known: what waited for it is counted (R54, R102). -/
def State.takeHeader (s : State) (l : Die) (i : Nat) (h : Header) (g : RxFrame → RxFrame) : State :=
  let e := s.nextSeqExt l h
  let s := s.updPool l fun p => { p with header := some h, seqExt := e }
  (s.updFrame l i fun f => g { f with header := some h, seqExt := e, ohSeen := true }).countOwed l i

/-- The overhead codeword of a frame is lost (R99): its header is predicted from the last one. -/
def State.ohLost (s : State) (l : Die) (i : Nat) (crc : Bool) : State :=
  let s := ((s.cnt l 68).wr l (if crc then LFR_OH_STAT_OH_CRC_FAIL else LFR_OH_STAT_OH_DEC_FAIL) 1).raiseLane l evOH_LOST
  let s := if crc then s.cnt l 69 else s
  let s := (s.segDiscarded l).updRx l fun x => { x with goodOh := 0 }
  let lost (f : RxFrame) : RxFrame := { f with own := false, failed := f.failed ||| 1#256 }
  let s := match (s.pool l).header with
    | some h => s.takeHeader l i (s.advance l h) lost
    | none => s.updFrame l i fun f => lost { f with ohSeen := true }
  s.inbandFollow l

/-- The topping lane's copies of a frame are kept (R98, R256). -/
def State.keepCopies (s : State) (l : Die) (oh : Overhead) : State :=
  if s.isTop l && !s.refused l then
    s.updTop l fun x =>
      { x with copies := (x.copies ++ [(oh.header.frameCount.toNat, oh.copies)]).drop (x.copies.length + 1 - 4) }
  else s

/-- An overhead codeword decodes and passes OH_CRC (R54, R100, R134, R173, R212, R443, R445). -/
def State.ohGood (s : State) (l : Die) (f : RxFrame) (oh : Overhead) : State :=
  let h := oh.header
  let slip := s.slipped l h
  let s := s.checkHeader l f h
  let s := if slip then s.seqSlip l else s
  let s := s.takeHeader l f.idx h fun f =>
    { f with own := true, tag := oh.gcmTag, crc := oh.payloadCrc, laneBad := h.lane.toNat != l.val, seqBad := slip }
  let s := (s.updPool l fun p => { p with rxFc := h.frameCount.toNat }).keepCopies l oh
  let s := s.updInb l fun x => { x with ohAt := some s.time.now, farLock := oh.feedback.rxLock }
  let s := (s.inbandFollow l).takeRxSegment l oh.mgmt
  let s := s.feedbackAdapt l oh.feedback
  let s := s.updRx l fun x => { x with goodOh := x.goodOh + 1 }
  if s.rxState l == .pilotEq && 64 ≤ (s.rx l).goodOh then s.rxEnter l .locked else s

/-- What became of the overhead codeword of a frame (R84, R99, R100): not decoded, or its descrambled bits under OH_CRC. -/
def RxFrame.overhead (l : Die) (f : RxFrame) : OhResult :=
  if f.failed.getLsbD 0 then .decFail
  else match f.words.find? fun e => e.1 == 0 with
    | some e => LineFormat.ohOf l e.2
    | none => .decFail

/-- FRAME_RECEIVE_OVERHEAD (R99, R100, R212): the overhead codeword of the first frame whose codeword 0 the pool has done with
and whose overhead has not been taken yet. -/
def execFrameReceiveOverhead (l : Die) (s : State) : Host.Outcome State Fault Refusal :=
  if !(s.pop l && s.flocked l && s.rxDelivers l && s.domainOn l .dataPath && !s.standard) then .next s
  else match (s.pool l).frames.find? fun f => !f.ohSeen with
    | none => .next s
    | some f =>
      if !f.done.getLsbD 0 then .next s
      else
        let s := s.cnt l 64
        let s := match f.overhead l with
          | .decFail => s.ohLost l f.idx false
          | .crcFail => s.ohLost l f.idx true
          | .ok v => s.ohGood l f v
        .next ((s.alignFollow l).unprotRise)

/-! ### What becomes of a released frame (R234, R299 to R305) -/

/-- What reaches the host of a lane's frame (R46, R48): nothing, every unit error-marked, or the units with the failed ones
marked. -/
inductive RxVerdict where
  | unavailable | marked | payload
  deriving DecidableEq, Repr

/-- Codewords 1 to 255 of a frame that failed and were not rebuilt. -/
def RxFrame.bad (f : RxFrame) : BitVec 256 := f.failed &&& ~~~f.rebuilt &&& ~~~1#256

/-- Whether the receiver holds a key for an epoch (R294, R299). -/
def State.rxKeyHeld (s : State) (l : Die) (e : BitVec 16) : Bool := (s.keys l).rx.any fun k => k.epoch == e.toNat

/-- Adds to FAIL_RUN, and asks for resynchronisation at the threshold (R300, R301). -/
def State.failRun (s : State) (l : Die) : State :=
  let s := s.incSat l CIPH_RX_STAT_FAIL_RUN 1
  if s.rd l CIPH_CFG_RESYNC_THR ≤ s.rd l CIPH_RX_STAT_FAIL_RUN then s.resyncSend l else s

/-- A tag that fails (R299). -/
def State.tagFail (s : State) (l : Die) : State :=
  ((((s.cnt l 114).wr l CIPH_FLAGS_TAG_FAIL 1).capTrigger l 3).raiseLane l evTAG_FAIL).chargePipes l true 127 17850

/-- A GCM frame (R299, R300, R562). -/
def State.judgeGcm (s : State) (l : Die) (f : RxFrame) (h : Header) (tagOk crcOk : Bool) : RxVerdict × State :=
  if !s.rxKeyHeld l h.keyEpoch then
    (.marked, (((s.cnt l 115).wr l CIPH_FLAGS_EPOCH_UNKNOWN 1).tagFail l).failRun l)
  else if f.bad ≠ 0#256 then (.payload, (s.cnt l 116).chargePipes l true 126 17850)
  else if tagOk then
    let s := ((s.cnt l 113).wr l CIPH_RX_STAT_FAIL_RUN 0).wr l CIPH_RX_STAT_EPOCH h.keyEpoch.toNat
    (.payload, (s.noteAuth l h.keyEpoch.toNat).chargePipes l true 126 17850)
  else if crcOk then (.marked, (s.tagFail l).failRun l)
  else (.marked, (s.tagFail l).sfdCatch l)

/-- A CLEAR frame that the policy takes (R305, R562). -/
def State.judgeClear (s : State) (l : Die) (f : RxFrame) (crcOk : Bool) : RxVerdict × State :=
  let s := s.cnt l 117
  if f.bad ≠ 0#256 then (.payload, s.cnt l 116)
  else if crcOk then (.payload, s)
  else (.marked, s.sfdCatch l)

/-! ### The payload of a received frame (R81, R84, R271, R299) -/

/-- A codeword that has no decoded contents. -/
def emptyWord : Codeword := List.replicate 40 0

/-- The contents of codeword `c` of a frame. -/
def RxFrame.word (f : RxFrame) (c : Nat) : Codeword := ((f.words.find? fun e => e.1 == c).map Prod.snd).getD emptyWord

/-- The payload bits of a frame as the line carried them, descrambled; bits of codewords without contents stand for nothing, and
their units are error-marked. -/
def RxFrame.payload (f : RxFrame) (l : Die) (h : Header) : List Bool :=
  LineFormat.payloadOf l h.frameCount.toNat ((List.range 255).map fun c => f.word (c + 1))

/-- The receive key of a header's epoch (R294, R299). -/
def State.rxKey (s : State) (l : Die) (h : Header) : Option TKey := (s.keys l).rx.find? fun k => k.epoch == h.keyEpoch.toNat

/-- Whether a frame's tag passes (R271, R299), and whether PAYLOAD_CRC does (R90). -/
def State.tagPasses (s : State) (l : Die) (f : RxFrame) (h : Header) : Bool :=
  match s.rxKey l h with
  | some k => (FrameCipher.open_ k h f.tag (f.payload l h)).isSome
  | none => false
def RxFrame.crcPasses (f : RxFrame) (l : Die) (h : Header) : Bool := LineFormat.crcBits (f.payload l h) == f.crc

/-- The payload of a frame as the host side takes it (R271, R299): opened under its tag, deciphered without it where codewords
have failed, or as it came in a CLEAR frame. -/
def State.plainBits (s : State) (l : Die) (f : RxFrame) (h : Header) : List Bool :=
  if h.cipher != 1#2 then f.payload l h
  else match s.rxKey l h with
    | some k => (FrameCipher.open_ k h f.tag (f.payload l h)).getD (FrameCipher.decipher k h (f.payload l h))
    | none => f.payload l h

/-- The verdict on a lane's released frame (R48, R99, R100, R102, R212, R234, R260, R299, R305). `usable` is whether its
header, tag and CRC are known, its own or the topping copy. A frame whose overhead is lost and whose predicted header says
WITHHELD is unavailable, not error-marked: R99 and R102 both speak of it (DESIGN CHOICE, assumption log). -/
def State.judge (s : State) (l : Die) (f : RxFrame) (usable : Bool) : RxVerdict × State :=
  match f.header with
  | none => (.unavailable, s)
  | some h =>
    if s.refused l then (.unavailable, s)
    else if h.withheld then (.unavailable, s)
    else if f.clearRefused h then (.unavailable, (s.cnt l 117).cnt l 118)
    else if f.gcmRefused h then (.unavailable, s)
    else if !s.isTop l && !s.threePipes l true then (.unavailable, if h.cipher = 0#2 then s.cnt l 117 else s)
    else if !usable then (.marked, s)
    else if f.bad = (BitVec.allOnes 256 &&& ~~~1#256) then (.unavailable, s)
    else
      let (v, s) :=
        if s.isTop l then (RxVerdict.payload, if f.bad = 0#256 && !f.crcPasses l h then s.sfdCatch l else s)
        else if h.cipher = 1#2 then s.judgeGcm l f h (s.tagPasses l f h) (f.crcPasses l h)
        else s.judgeClear l f (f.crcPasses l h)
      (if f.laneBad || f.seqBad then .marked else v, s)

/-! ### Units towards the host (R45, R46, R52, R54, R81) -/

/-- Whether payload bits `[a, b)` touch a spoilt codeword. -/
def spoilt (bad : BitVec 256) (a b : Nat) : Bool := bad.getLsbD (a / 8960 + 1) || bad.getLsbD ((b - 1) / 8960 + 1)

/-- `n` units from payload bit `at_` on, `bits` from there: whether each is spoilt, and the unit, an error block where it is. -/
def unitsFrom (bad : BitVec 256) : Nat → Nat → List Bool → List (Bool × PortUnit)
  | 0, _, _ => []
  | n + 1, at_, bits =>
    let b := spoilt bad at_ (at_ + 257)
    (b, if b then Blocks.errorUnit else Blocks.unitOf (bits.take 257)) :: unitsFrom bad n (at_ + 257) (bits.drop 257)

/-- The units that end in a frame of phase `p`, the one begun before it first (R46, R53, R81): `carry` are the bits of that one
so far and `carryBad` whether they are spoilt or missing. -/
def frameUnits (bad : BitVec 256) (p : Nat) (carry : List Bool) (carryBad : Bool) (bits : List Bool) : List (Bool × PortUnit) :=
  let first := carryBad || carry.length + p != 257 || spoilt bad 0 p
  let head := if p = 0 then []
    else [(first, if first then Blocks.errorUnit else Blocks.unitOf (carry ++ bits.take p))]
  head ++ unitsFrom bad ((payloadBits - p) / 257) p (bits.drop p)

/-- The bit at which the unit begins that a frame of phase `p` leaves unfinished. -/
def tailAt (p : Nat) : Nat := p + 257 * ((payloadBits - p) / 257)

/-- Counts the error-marked units of a lane (R578) at the dies that encode their host codewords (R49, R54); on a rate-matched
port, or before an alignment-marker group has come, they are counted at the lane's die. -/
def State.countMarked (s : State) (l : Die) (p : Port) (us : List (Nat × Bool × PortUnit)) : State :=
  s.each (us.filter fun e => e.2.1) fun s e =>
    let d := match s.rateMatched || p.width == .w200, (s.portQ p.first).anchor with
      | false, some a => s.codewordDie p ((e.1 - a) / 20)
      | _, _ => l
    s.cnt d (3 + 4 * portNo p.first)

/-- The units of a port that all its lanes have released go towards the host in block-sequence order (R54): reverse pass 2 of
R50. -/
def State.assemble (s : State) (p : Port) (fc : Nat) : State :=
  let ds := s.portDies p
  let got := ds.filterMap fun d => (s.die d).rxOut.units.bind fun u => if u.1 = fc then some u.2 else none
  if got.length < ds.length then s
  else s.sendToHost p (got.flatten.mergeSort fun a b => decide (a.1 ≤ b.1))

/-- What a verdict sends towards the host (R46, R48, R51 to R54): every unit keeps its number in the port's sequence. -/
def State.deliverUnits (s : State) (l : Die) (f : RxFrame) (v : RxVerdict) : State :=
  match v, f.header with
  | .unavailable, _ | _, none => s.updDie l fun x => { x with rxOut := ⟨false, [], true, none⟩ }
  | v, some h =>
    let bad := if v = .marked then BitVec.allOnes 256 else f.bad
    let p := h.phase.toNat
    let bits := if v = .marked then [] else s.plainBits l f h
    let out := (s.die l).rxOut
    let first := if p = 0 then f.seqExt else f.seqExt - s.unitStride l
    let units := (frameUnits bad p out.carry out.tailBad bits).mapIdx fun i u => (first + i * s.unitStride l, u)
    let fc := h.frameCount.toNat
    let tail := tailAt p
    let s := s.updDie l fun x =>
      { x with
        rxOut := ⟨true, bits.drop tail, decide (tail < payloadBits) && spoilt bad tail payloadBits,
          some (fc, units.map fun e => (e.1, e.2.2))⟩ }
    s.each (s.portsOn l) fun s port =>
      if port.width = .w200 then
        let mine := (units.filter fun e => e.1 % 2 == portNo port.first).map fun e => (e.1 / 2, e.2)
        (s.countMarked l port mine).sendToHost port (mine.map fun e => (e.1, e.2.2))
      else (s.countMarked l port units).assemble port fc

/-! ### Thief tags of received codewords (R588 to R591) -/

/-- Records of a received frame's tagged codewords (R226, R589, R591): ADC_IN, DEC_START, DEC_END and DESKEW_OUT as the rules
give them. When the equaliser, the cipher and the host encoder put the last bit out the spec does not fix: free values. A
station not passed reads 0xFFFF_FFFF. -/
def State.tagsReceived (s : State) (l : Die) (f : RxFrame) : State :=
  match f.header with
  | none => s
  | some h =>
    let fc := h.frameCount.toNat
    let (k, seed) := (s.pool l).lastTags
    if h.withheld then s
    else s.each (taggedCodewords k seed fc) fun s cw =>
      let (ofs, s) := s.freshN 3
      let b (c : Bool) (n : Nat) : Nat := if c then n else 0
      let flags := b s.time.extrap 1 + b (f.redone.getLsbD cw) 2 + b (f.rebuilt.getLsbD cw) 4 + b (f.bad.getLsbD cw) 8
        + b s.rateMatched 16
      let adc := lastSymbolAt f.arrival cw
      let at_ (n : Nat) : Nat := if n = 0 then 0xFFFFFFFF else s.cycleOfs adc (n - 1)
      let free (i : Nat) : Nat := ofs.getD i 0
      let rest := if s.isTop l then [0xFFFFFFFF, 0xFFFFFFFF] else [free 1, free 2]
      s.addTag l ⟨true, l, flags, fc, cw, f.its.get cw, s.cycleNs adc,
        [0, free 0, at_ (f.starts.get cw), at_ (f.ends.get cw), s.cycleOfs adc (s.top l).relAt] ++ rest⟩

/-- A lane's released frame is judged and delivered (R234, R260). -/
def State.settle (s : State) (l : Die) (f : RxFrame) (usable : Bool) : State :=
  let (v, s) := s.judge l f usable
  (s.tagsReceived l f).deliverUnits l f v

/-! ### FRAME_RELEASE in FULL (R215 to R218, R234) -/

/-- A frame of which nothing came: its header is the prediction. -/
def lostFrame (policy : Nat) (h : Option Header) : RxFrame :=
  { newFrame 0 0 false policy with header := h, failed := BitVec.allOnes 256, done := BitVec.allOnes 256 }

/-- The frame that a lane releases, as it is or as R218 leaves it; with no frame of that count, the prediction. A codeword
without the checker's verdict by then has failed (R15, R214). -/
def State.releasedFrame (s : State) (l : Die) (fc : Nat) (used : Bool) : RxFrame :=
  match s.frameOf l fc with
  | some f =>
    if used then { f with failed := f.failed ||| ~~~f.done } else { f with own := false, failed := BitVec.allOnes 256 }
  | none => match (s.top l).rel with
    | some f =>
      { lostFrame (s.policyCode l) (f.header.map (s.advance l)) with
        seqExt := f.seqExt + s.unitStride l * ((f.header.map fun h => unitsBegun h.phase.toNat).getD 0) }
    | none => lostFrame (s.policyCode l) none

/-- A lane's release in FULL. -/
def State.releaseFull (s : State) (fc : Nat) (used : List Die) (l : Die) : State :=
  let ok := used.contains l
  let f := s.releasedFrame l fc ok
  let s := s.updTop l fun x => { x with rel := some f, relAt := s.coreNow }
  if ok then s.settle l f f.own
  else s.deliverUnits l f (if s.headerKnown l && !s.refused l then .marked else .unavailable)

/-! ### FRAME_RELEASE in ASSURED (R246, R255, R256, R259) -/

/-- A topping lane that is late or excluded gives no copy of its frame (R218, R256, R259): its codewords count as failed,
codeword 0 among them (DEDUCED, assumption log). -/
def State.dropCopies (s : State) (fc : Nat) (used : List Die) : State :=
  if used.contains s.topLane then s
  else s.updTop s.topLane fun x => { x with copies := x.copies.filter fun c => c.1 != fc }

/-- The topping copy of a lane's frame (R98, R259). -/
def State.copyFor (s : State) (l : Die) (fc : Nat) : Option CopyEntry :=
  (((s.top s.topLane).copies.find? fun c => c.1 == fc).map Prod.snd).bind fun cs => cs.find? fun c => c.lane == l

/-- Whether the topping lane's overhead of a frame decoded. -/
def State.copiesHeld (s : State) (fc : Nat) : Bool := (s.top s.topLane).copies.any fun c => c.1 == fc

/-- A lane's released frame with its header, tag and CRC from the copy where its own are lost (R99, R259), and whether they
are known. -/
def State.withCopy (s : State) (l : Die) (fc : Nat) (f : RxFrame) : RxFrame × Bool :=
  if f.own then (f, true)
  else match s.copyFor l fc with
    | some c =>
      let e := if f.header.isSome then seqNear f.seqExt c.header.blockSeq.toNat else s.firstSeq l c.header
      ({ f with header := some c.header, seqExt := e, tag := c.tag, crc := c.crc, laneBad := false, seqBad := false }, true)
    | none => (f, false)

/-- The contributing set follows the topping overhead of the frame (R256): with none for more than COPY_HOLD frames there is
none in use. -/
def State.followSet (s : State) (fc : Nat) : State :=
  let t := s.topLane
  let copies := ((s.top t).copies.find? fun c => c.1 == fc).map Prod.snd
  s.each s.popDies fun s d =>
    match copies with
    | some cs =>
      (s.wr d TOP_STAT_INCL_MASK (diesMask (cs.map CopyEntry.lane)).toNat).updTop d fun x => { x with since := some 0 }
    | none =>
      let n := (s.top d).since.map (· + 1)
      let held := match n with
        | some n => decide (n ≤ s.rd d TOP_CTRL_COPY_HOLD)
        | none => false
      let s := s.updTop d fun x => { x with since := n }
      if held then s else s.wr d TOP_STAT_INCL_MASK 0

/-- TOPPING_STATUS is refreshed every 1,024 frames (R97). -/
def State.toppingWindow (s : State) : State :=
  let p := s.topPkg
  if p.frames + 1 < 1024 then { s with topPkg := { p with frames := p.frames + 1 } }
  else
    let failed := diesMask (s.popDies.filter fun l => !s.flocked l)
    { s with topPkg :=
        { p with
          frames := 0
          mask := 0
          dbl := false
          shown := ⟨p.mask, failed, p.dbl, BitVec.ofNat 32 p.cw⟩ } }

/-- A lane's release in ASSURED: its codewords enter the topping window. -/
def State.releaseAssured (s : State) (fc : Nat) (used : List Die) (l : Die) : State :=
  let (f, _) := s.withCopy l fc (s.releasedFrame l fc (used.contains l))
  (s.updTop l fun x => { x with rel := some f, relAt := s.coreNow, rebuilds := [], noRoom := [] }).wr l TOP_STAT_ACTIVE 0

/-- FRAME_RELEASE (R215, R218, R219, R234): once T has come, every lane of the group releases its frame. -/
def execFrameRelease (owner : Die) (fc : Nat) (s : State) : Host.Outcome State Fault Refusal :=
  match s.groupKeys.find? fun k => s.groupOwner k == owner with
  | none => .next s
  | some k =>
    if !(s.aligned k && (s.dsk k).next == fc && decide ((s.releaseNext k).1 ≤ s.coreNow)) then .next s
    else
      let g := s.alignGroup k
      let (t, s) := s.releaseNext k
      let (used, s) := s.lanesRelease fc t g
      if s.assured then
        .next ((((s.dropCopies fc used).followSet fc).each g fun s l => s.releaseAssured fc used l).unprotRise.unprotFall)
      else
        let s := s.each g fun s l => s.releaseFull fc used l
        .next (if s.mustRealign k then (s.unalign k).tryAlign k else s)

/-! ### Topping (R255 to R261) -/

/-- Whether a codeword of a lane's released frame has failed (R100, R234). -/
def State.cwFailed (s : State) (l : Die) (cw : Nat) : Bool :=
  match (s.top l).rel with
  | none => true
  | some f => f.failed.getLsbD cw || s.refused l

/-- The payload bits of a codeword that a die has released (R248, R255). -/
def State.cwBits (s : State) (l : Die) (fc cw : Nat) : List Bool :=
  match (s.top l).rel with
  | none => []
  | some f => LineFormat.wordPayload l fc cw (f.word cw)

/-- ERASURE_NOTICE (R255, R257): `die` hears that `src` has a failed codeword, and sends its own, if that is good. The first
notice starts the rebuild at `src`, which holds at most 32. -/
def execErasureNotice (die src : Die) (cw : Nat) (s : State) : Host.Outcome State Fault Refusal :=
  match (s.top src).rel with
  | none => .next s
  | some _ =>
    if !(s.assured && s.inTree die && s.inTree src && die != src && decide (1 ≤ cw ∧ cw < 256) && s.cwFailed src cw) then
      .next s
    else
      let x := s.top src
      let s := if x.rebuilds.contains cw || x.noRoom.contains cw then s
        else s.updTop src fun x =>
          if 32 ≤ x.rebuilds.length then { x with noRoom := x.noRoom ++ [cw] } else { x with rebuilds := x.rebuilds ++ [cw] }
      let helps := die == s.topLane || s.inclMask.getLsbD die.val
      let s := match s.parent src die with
        | some e => s.d2dSend e die true 1
        | none => s
      .next (if helps && !s.cwFailed die cw then
        match s.parent src die with
        | some e => (s.d2dSend die e true 1).cnt die 101
        | none => s
      else s)

/-- Outcomes of a failed codeword's window (R257). -/
inductive Rebuild where
  | rebuilt | double | late | overrun | none
  deriving DecidableEq, Repr

/-- The lanes whose codewords a rebuild at `l` needs (R255, R256). -/
def State.needed (s : State) (l : Die) : List Die :=
  s.topLane :: (s.dataLanes.filter fun d => d != l && s.inclMask.getLsbD d.val)

/-- What becomes of a failed codeword `cw` of lane `l` when its window ends; `got` are the dies whose codewords have come
(R257, R258, R261). -/
def State.rebuildOutcome (s : State) (l : Die) (cw : Nat) (got : BitVec 8) : Rebuild :=
  let held := match (s.top l).since with
    | some n => decide (n ≤ s.rd l TOP_CTRL_COPY_HOLD)
    | none => false
  if l == s.topLane || !s.healthy l || s.refused l || !s.flag l TOP_CTRL_RX_EN then .none
  else if !held || !s.inclMask.getLsbD l.val || (s.needed l).any fun d => s.cwFailed d cw then .double
  else if (s.top l).noRoom.contains cw then .overrun
  else if (s.needed l).all fun d => got.getLsbD d.val && s.comesTo l 7 d then .rebuilt
  else .late

/-- The codeword that a rebuild puts in place of the failed one (R252, R255, R256): the xor of what comes along the receive
tree. -/
def State.rebuiltWord (s : State) (l : Die) (fc cw : Nat) : Codeword :=
  let own (d : Die) : List Bool := if (s.needed l).contains d then s.cwBits d fc cw else []
  LineFormat.payloadWord l fc cw (s.treeSum l own 7 l)

/-- The outcome's flag, event and count (R97, R255, R257). With RX_EN 0 the codeword is counted nowhere: the spec names no
counter for one not rebuilt (DESIGN CHOICE, assumption log). -/
def State.noteRebuild (s : State) (l : Die) (fc cw : Nat) : Rebuild → State
  | .rebuilt =>
    let w := s.rebuiltWord l fc cw
    let s := (s.cnt l 96).wr l TOP_STAT_ACTIVE 1
    let s := s.updTop l fun x =>
      { x with rel := x.rel.map fun f => { f with rebuilt := f.rebuilt ||| (1#256 <<< cw), words := (cw, w) :: f.words } }
    { s with topPkg :=
        { s.topPkg with mask := s.topPkg.mask ||| (1#8 <<< l.val), cw := (s.topPkg.cw + 1) % 2 ^ 32 } }
  | .double =>
    let s := ((s.cnt l 97).wr l TOP_STAT_DOUBLE 1).raiseLane l evTOP_DOUBLE
    { s with topPkg := { s.topPkg with dbl := true } }
  | .late => ((s.cnt l 98).wr l TOP_STAT_RX_LATE 1).raiseLane l evTOP_RX_LATE
  | .overrun => ((s.cnt l 99).wr l TOP_STAT_OVERRUN 1).raiseLane l evTOP_OVERRUN
  | .none => s

/-- TOPPING_WINDOW_END (R255 to R261, R299): the window of 362 core cycles of a released codeword ends; `got` are the dies
whose codewords have come. With the frame's last codeword the frame goes to the cipher and to the host. -/
def execToppingWindowEnd (l : Die) (fc cw : Nat) (got : BitVec 8) (s : State) : Host.Outcome State Fault Refusal :=
  let it := match (s.top l).rel with
    | some f => match f.header with
      | some h => h.frameCount.toNat == fc
      | none => true
    | none => false
  if !(s.pop l && s.assured && it && decide (1 ≤ cw ∧ cw < 256) && decide ((s.top l).relAt + 362 ≤ s.coreNow)) then .next s
  else
    let s := if s.cwFailed l cw then
        (s.updTop l fun x =>
          { x with rel := x.rel.map fun f => { f with failed := f.failed ||| (1#256 <<< cw) } }).noteRebuild l fc cw
            (s.rebuildOutcome l cw got)
      else s
    let s := s.updTop l fun x =>
      { x with rebuilds := x.rebuilds.filter (· != cw), noRoom := x.noRoom.filter (· != cw) }
    if cw < 255 then .next s
    else match (s.top l).rel with
      | some f => .next (s.settle l f (f.own || (s.copyFor l fc).isSome))
      | none => .next s

end Sys2Proof.Machine
end

