-- ==== Sys2Proof/Machine/TxFrames.lean ====
section
/-! DEFINITION. Frames sent: states of the transmitter, numbering, the frame header, the cipher of a frame, the overhead codeword,
the symbols and drive codes, and the topping lane's frame (R16, R51 to R53, R75, R81 to R88, R90 to R98, R101, R104, R109 to
R130, R247 to R254, R271 to R273, R293, R296, R303, R306, R307, R332 to R334, R587 to R591). -/

namespace Sys2Proof.Machine

/-! ### States (R121 to R124) -/

/-- The state of the next frame (R123, R124): a more restrictive state at once; a less restrictive one when no cause of the
present state was active within the frame that ends (`held` are the states that causes required in it). -/
def nextTxState (now want : TxState) (held : List TxState) : TxState :=
  if TxState.code want ≤ TxState.code now then want else if held.contains now then now else want

/-- Shows a transmitter's state (R104, R121, R139). -/
def State.showTx (s : State) (l : Die) (st : TxState) : State :=
  (s.wr l LTX_STAT_TX_STATE (TxState.code st)).wrB l LFR_CFG_WITHHELD (st == .withheld && !s.standard)

/-- A frame boundary: the causes active now are the ones that the next boundary looks back on (R124). -/
def State.holdCauses (s : State) (l : Die) : State :=
  let now := (s.txCauses l).map (s.causeState l)
  s.updTx l fun x => { x with held := now }

/-! ### Start and stop of a transmitter (R51 to R53, R94, R296, R332) -/

/-- The lanes whose frame count a lane takes up (R94). -/
def State.txPeers (s : State) (l : Die) : List Die :=
  let ls := if s.assured then s.popDies else (s.portsOn l).flatMap s.portDies
  ls.filter fun d => d != l && (s.tx d).running

/-- The lanes of its port whose block sequence a lane takes up (R51). -/
def State.seqPeers (s : State) (l : Die) : List Die :=
  ((s.portsOn l).flatMap s.portDies).filter fun d => d != l && (s.tx d).running && !(s.tx d).renumber

/-- The place of a lane among the lanes of its port (R51). -/
def State.portPlace (s : State) (l : Die) : Nat :=
  match s.portsOn l with
  | p :: _ => if p.width = .w200 then 0 else (s.portDies p).idxOf l
  | [] => 0

/-- Block sequence and phase of the frame after one (R51 to R53). -/
def State.seqAfter (s : State) (l : Die) (seq phase : Nat) : Nat × Nat :=
  (seq + s.unitStride l * unitsBegun phase, phaseAfter phase)

/-- Whether a running lane's last frame is the one that begins now: its boundary has come already. -/
def State.sameFrame (s : State) (d : Die) : Bool := decide (2 * (s.time.now - (s.tx d).sentAt) < s.frameU)

/-- The count of a starting lane's first frame: that of the lanes of its port, or of any in ASSURED, else 0 (R94). In STANDARD
periods are counted from LINE_UP (R332). -/
def State.firstCount (s : State) (l : Die) : Nat :=
  if s.standard then (s.time.now - (s.tx l).upAt) / s.frameU
  else match (s.txPeers l).head? with
  | none => 0
  | some d => if s.sameFrame d then (s.tx d).fc else ((s.tx d).fc + 1) % 2 ^ 48

/-- Block sequence and phase of the frame that begins now on a lane which takes them up anew: those of a running lane of its
port, at its own place, else from its place and phase 0 (R51, R53). -/
def State.firstUnits (s : State) (l : Die) : Nat × Nat :=
  match (s.seqPeers l).head? with
  | none => (s.portPlace l, 0)
  | some d =>
    let x := s.tx d
    let (seq, phase) := if s.sameFrame d then (x.seq, x.phase) else s.seqAfter d x.seq x.phase
    (seq - s.portPlace d + s.portPlace l, phase)

/-- A lane numbers its units anew (R51, R53). With no running lane of its port to follow, the ports on it begin their counts
again as well. -/
def State.renumberTx (s : State) (l : Die) : State :=
  let alone := (s.seqPeers l).isEmpty
  let (seq, phase) := s.firstUnits l
  let s := s.updTx l fun x => { x with seq, phase, carry := [], renumber := false }
  if !alone then s
  else s.each (s.portsOn l) fun s p => s.updPortQ p.first fun q => { q with counting := false, runs := false, fifo := [], part := [] }

/-- A transmitter starts: a lane whose count is no higher than one it has sent under its epoch is barred from it (R296). -/
def State.txStart (s : State) (l : Die) : State :=
  let fc := s.firstCount l
  let barred := match (s.ciph l).highFc with
    | some h => decide (fc ≤ h)
    | none => false
  let s := (s.updTx l fun x => { x with running := true, fc, sentAt := s.time.now, sentLast := [] }).renumberTx l
  if barred && (s.laneKey l).isSome then
    let s := s.updCiph l fun c => { c with barred := true }
    if (s.keys l).txNext.isSome then s else s.kxStart
  else s

/-- The transmitter moves on to its next frame (R53, R94). -/
def State.txAdvance (s : State) (l : Die) : State :=
  let x := s.tx l
  let (seq, phase) := s.seqAfter l x.seq x.phase
  let s := s.updTx l fun x => { x with fc := (x.fc + 1) % 2 ^ 48, seq, phase, sentAt := s.time.now }
  if x.renumber then s.renumberTx l else s

/-! ### The frame's payload (R51 to R53, R57, R61, R81, R126) -/

/-- The port whose unit a lane sends under a number: of two 200GbE ports, each has every second one (R51, R52). -/
def State.unitPort (s : State) (l : Die) (u : Nat) : Option Port :=
  (s.portsOn l).find? fun p => p.width != .w200 || portNo p.first == u % 2

/-- The unit that a lane sends under a number: Local Fault while that replaces the port's stream (R42, R47), idle blocks where no
port has it (R126), error blocks where none has come (DESIGN CHOICE, assumption log). -/
def State.unitFor (s : State) (l : Die) (u : Nat) : PortUnit :=
  match s.unitPort l u with
  | none => Blocks.idleUnit
  | some p =>
    if s.faultToLine p then Blocks.faultUnit
    else (((s.portQ (Fin.ofNat 16 (2 * l.val + portNo p.first))).units.find? fun e => e.1 == u).map Prod.snd).getD
      Blocks.errorUnit

/-- The payload bits of a data lane's frame (R53, R81): what is left of the unit begun before it, then its own units; the units
sent are gone from what waits. -/
def State.takeBits (s : State) (l : Die) : List Bool × State :=
  let x := s.tx l
  let n := unitsBegun x.phase
  let us := (List.range n).map fun i => s.unitFor l (x.seq + i * s.unitStride l)
  let head := if x.carry.length = x.phase then x.carry else (Blocks.unitBits Blocks.errorUnit).drop (257 - x.phase)
  let bits := head ++ us.flatMap Blocks.unitBits
  let upto := x.seq + n * s.unitStride l
  let s := s.updTx l fun x => { x with carry := bits.drop payloadBits }
  let s := s.each [0, 1] fun s k =>
    s.updPortQ (Fin.ofNat 16 (2 * l.val + k)) fun q => { q with units := q.units.filter fun e => decide (upto ≤ e.1) }
  (bits.take payloadBits, s)

/-- A payload of zeros (R101). -/
def zeroPayload : List Bool := List.replicate payloadBits false

/-- The CRC-32 of the payload of a withheld frame (R90, R101). -/
def zeroPayloadCrc : BitVec 32 := LineFormat.crcBits zeroPayload

/-! ### The frame's header and cipher (R91, R93, R271 to R274, R303, R306) -/

/-- Whether a lane's CIPHER is GCM: while the cipher is mandatory, and under GCM_PREFERRED while a key is usable (R303). -/
def State.txGcm (s : State) (l : Die) : Bool := s.cipherOn && (s.policyCode l == 0 || s.keyUsable l)

/-- The header of a lane's frame (R91, R93). -/
def State.txHeader (s : State) (l : Die) (st : TxState) (gcm : Bool) : Header :=
  let x := s.tx l
  let top := s.isTop l
  let epoch := match s.laneKey l with
    | some k => if s.cipherOn then k.epoch else 0
    | none => 0
  { hdrVer := 1
    profile := BitVec.ofNat 2 (Profile.code s.profile)
    cipher := if gcm then 1 else 0
    lane := BitVec.ofNat 8 l.val
    frameCount := BitVec.ofNat 48 x.fc
    keyEpoch := if top then 0 else BitVec.ofNat 16 epoch
    rackCd := if top then 0 else BitVec.ofNat 13 (s.ciph l).cd
    blockSeq := if top then 0 else BitVec.ofNat 22 x.seq
    phase := if top then 0 else BitVec.ofNat 9 x.phase
    topping := top
    shared := decide (2 ≤ (s.portsOn l).length)
    withheld := st == .withheld }

/-- A payload through the cipher (R271, R306), its tag, and the codeword at which SF-C trips. `bypass` is the codeword that a
faulty cipher lets through as it came; the windows that the monitor compares are drawn anew for every codeword (free values). -/
def State.cipherPayload (s : State) (l : Die) (h : Header) (bypass : Option (Fin 256)) (plain : List Bool) :
    List Bool × BitVec 128 × Option Nat × State :=
  match h.cipher == 1#2, s.laneKey l with
  | true, some k =>
    let (c, tag) := FrameCipher.encipher k h plain
    let c := match bypass with
      | some b => FrameCipher.letThrough b.val plain c
      | none => c
    let (ofs, s) := s.freshN 255
    (c, tag, FrameCipher.equalWindow ofs plain c, s)
  | _, _ => (plain, 0, none, s)

/-! ### The overhead codeword (R88, R96, R97) -/

/-- FEEDBACK on a lane (R96, R187): this end's reception of it. -/
def State.txFeedback (s : State) (l : Die) : Feedback :=
  let st := (s.pool l).stats
  let corr := (st.map fun m => m.2.1).sum
  let bad := (st.map fun m => m.2.2.1).sum
  let its := (st.map fun m => m.2.2.2.1).sum
  let tries := (st.map fun m => m.2.2.2.2).sum
  { snr := BitVec.ofNat 16 (s.rd l LRX_SNR)
    corrBits := BitVec.ofNat 32 (min (2 ^ 32 - 1) corr)
    uncorrCw := BitVec.ofNat 16 (min 65535 bad)
    avgIter := BitVec.ofNat 16 (min 65535 (256 * its / max 1 tries))
    firSeq := BitVec.ofNat 8 (s.rx l).firSeq
    firStep := if s.flag l LRX_CTRL_FB_SUGGEST && s.rxState l == .locked then (s.rx l).firStep else []
    valid := s.rxState l == .pilotEq || s.rxState l == .locked
    rxLock := s.flocked l
    rxState := BitVec.ofNat 4 (RxState.code (s.rxState l)) }

/-- TOPPING_STATUS (R97): 0 outside ASSURED. -/
def State.txTopping (s : State) : ToppingStatus := if s.assured then s.topPkg.shown else ⟨0, 0, false, 0⟩

/-- The overhead of a WITHHELD or LIVE frame but for what the payload gives (R88), and the state with its MGMT segment taken. -/
def State.txOverhead (s : State) (l : Die) (h : Header) : Overhead × State :=
  let (seg, s) := s.takeSegment l
  ({ header := h, gcmTag := 0, payloadCrc := zeroPayloadCrc, mgmt := seg, feedback := s.txFeedback l, topping := s.txTopping, copies := [] }, s)

/-! ### What a frame counts and records (R114, R291, R319, R578, R587 to R591) -/

/-- A frame goes under a key (R271, R291, R296). -/
def State.noteEnciphered (s : State) (l : Die) : State :=
  let fc := (s.tx l).fc
  let s := (s.cnt l 112).incSat l CIPH_TX_USED_USED 1
  s.updCiph l fun c => { c with highFc := some (max fc (c.highFc.getD 0)) }

/-- Tag records of a LIVE frame's codewords up to the block group at which it turned into PILOT (R588 to R591). DAC_OUT is the
codeword's last symbol in the frame, which began at `sentAt`; how long before that the codeword passed the other stations is not
stated (free values). In STANDARD only HOST_RX and DAC_OUT stamp (R341), and where in a period an inner codeword lies is not stated
either. -/
def State.tagsSent (s : State) (l : Die) (fc : Nat) (tags : Nat × BitVec 32) (cut : Option Nat) : State :=
  let sent (cw : Nat) : Bool := match cut with
    | some g => decide (20 * (cw / 16) < g)
    | none => true
  s.each ((taggedCodewords tags.1 tags.2 fc).filter sent) fun s cw =>
    let (base, s) := s.fresh
    let (ofs, s) := s.freshN 3
    let dac := lastSymbolAt (s.coreCycle (s.tx l).sentAt) cw
    let first := dac - base
    let v (i : Nat) : Nat := ofs.getD i 0
    let out := if s.standard then v 2 else s.cycleOfs first dac
    let ofs := if s.standard then [0, 0xFFFFFFFF, 0xFFFFFFFF, out] else if s.isTop l then [0, 0xFFFFFFFF, v 1, out] else [0, v 0, v 1, out]
    let flags := (if s.time.extrap then 1 else 0) + (if s.rateMatched then 16 else 0)
    s.addTag l ⟨false, l, flags, fc, cw, 0, if s.standard then base else s.cycleNs first, ofs ++ [0, 0, 0]⟩

/-- Limited samples (R114). -/
def State.noteClips (s : State) (l : Die) (n : Nat) : State :=
  if n = 0 then s else (s.cntN l 35 n).wr l LTX_STAT_CLIP 1

/-- SF-C trips on a lane (R306, R307): PILOT at once, on the topping lane too while it sends the same frame (R251). The topping
lane has no cause of its own then, since SAFETY_C does not apply to it (R250): its SQ_CAUSE stays NONE (DESIGN CHOICE, assumption
log). -/
def State.bypassTrip (s : State) (l : Die) : State :=
  let t := s.topLane
  let s := (s.wr l CIPH_FLAGS_BYPASS 1).wr l CIPH_FLAGS_SF_C 1
  let s := ((s.cnt l 120).updCiph l fun c => { c with sfPass := 0 }).raiseLane l evCIPHER_BYPASS
  let s := s.showTx l .pilot
  if s.assured && (s.tx t).running && (s.tx t).fc == (s.tx l).fc && 2 ≤ s.rd t LTX_STAT_TX_STATE then s.showTx t .pilot else s

/-- The pipelines' account of an enciphered frame (R587): after a trip, how much of it had gone is not stated (free). -/
def State.chargeSent (s : State) (l : Die) (trip : Bool) : State :=
  if !trip then s.chargePipes l false 122 17850
  else
    let (n, s) := s.fresh
    let n := n % 17851
    (s.chargePipes l false 122 n).chargePipes l false 123 (17850 - n)

/-! ### Symbols and drive codes (R72 to R87, R109 to R115, R121) -/

/-- What shapes a lane's symbols in the frame that begins (R109 to R113, R115). -/
def State.shaping (s : State) (l : Die) (pdEn : Bool) : LineFormat.Shaping :=
  { fir := s.firBank l (s.rd l LTX_CTRL_FIR_ACTIVE)
    pd := if pdEn then some (s.pdTable l (s.rd l LTX_CTRL_PD_ACTIVE)) else none
    shape := (s.tx l).shapeNow }

/-- A frame leaves the part with its drive codes, launch delay and swing (R109, R114, R115, R128); the symbols sent last reach into
the next one. -/
def State.emitFrame (s : State) (l : Die) (st : TxState) (oh : Option Overhead) (pdEn : Bool) (us : List Nat) : State :=
  let x := s.tx l
  let (codes, clips) := LineFormat.driveCodes (s.shaping l pdEn) x.sentLast us
  let s := s.emit (.frame l st oh codes (s.delayNow l) (LineFormat.swingMv x.swingNow))
  (s.updTx l fun x => { x with sentLast := (us.reverse.take 8).map some }).noteClips l clips

/-- A frame's time in MUTE: every sample is code 0 (R121). -/
def State.emitMute (s : State) (l : Die) : State :=
  let s := s.emit (.frame l .mute none (List.replicate LineFormat.frameSymbols 0) (s.delayNow l) (LineFormat.swingMv (s.tx l).swingNow))
  s.updTx l fun x => { x with sentLast := [] }

/-- The values u of a WITHHELD or LIVE frame, from a block group on as PILOT where SF-C has taken it there (R73, R123). -/
def frameValues (l : Die) (prec : Bool) (oh : Overhead) (payload : List Bool) (cut : Option Nat) : List Nat :=
  let us := LineFormat.frameSymbolsOf l prec (LineFormat.frameWords l oh payload)
  match cut with
  | some g => LineFormat.turnPilot l g us
  | none => us

/-- A transmitter that does not run is in MUTE (R121, R122); an announced change of epoch is not counted down any further. -/
def State.txIdle (s : State) (l : Die) : State :=
  let s := (s.updTx l fun x => { x with running := false, carry := [] }).updCiph l fun c => { c with announced := false, cd := 0 }
  ((s.showTx l .mute).emitMute l).holdCauses l

/-! ### A data lane's frame (R84, R88, R247, R249, R254, R307) -/

/-- The block group at whose data block a frame turns into PILOT when SF-C trips on a codeword: the first one that carries any
symbol of its interleaver group (R82, R307). -/
def cutGroup (c : Nat) : Nat := 20 * (c / 16)

/-- In ASSURED a data die sends its frame's contribution and its TOPPING_COPY entry to the topping die (R247, R249, R254). -/
def State.contribute (s : State) (l : Die) (oh : Overhead) (payload : List Bool) (cut : Option Nat) : State :=
  if !s.assured then s
  else
    let fc := (s.tx l).fc
    let c : Contribution := { lane := l, fc, header := oh.header, tag := oh.gcmTag, crc := oh.payloadCrc, payload, cut }
    let s := s.updTop s.topLane fun x =>
      { x with held := c :: x.held.filter fun e => e.lane != l || (e.fc + 1) % 2 ^ 48 == fc }
    match s.parent s.topLane l with
    | some e => (s.d2dSend l e true 255).cntN l 101 255
    | none => s

/-- A WITHHELD or LIVE frame of a lane that carries a share (R84 to R88, R101, R271, R306, R307). -/
def State.sendShare (s : State) (l : Die) (st : TxState) (bypass : Option (Fin 256)) (plain : List Bool) : State :=
  let live := st == .live
  let mandatory := s.cipherOn && s.policyCode l == 0
  let gcm := s.txGcm l && !(live && bypass == some 0)
  let h := s.txHeader l st gcm
  let (oh, s) := s.txOverhead l h
  let (payload, tag, leak, s) := if live then s.cipherPayload l h bypass plain else (zeroPayload, 0, none, s)
  let trip := if live && mandatory && !gcm then some 0 else leak
  let (bad, s) := s.takeInject l 2 0
  let tag := if bad then ~~~tag else tag
  let oh := { oh with gcmTag := tag, payloadCrc := LineFormat.crcBits payload }
  let cut := trip.map cutGroup
  let s := (s.wr l CIPH_TX_STAT_EPOCH h.keyEpoch.toNat).wr l CIPH_TX_STAT_RACK_CD h.rackCd.toNat
  let s := (s.contribute l oh payload cut).emitFrame l st (some oh) (s.flag l LTX_CTRL_PD_EN)
    (frameValues l (s.flag l LFR_CFG_TX_PRECODE) oh payload cut)
  let s := if live && gcm then (s.noteEnciphered l).chargeSent l trip.isSome else s
  let s := if trip.isSome then s.bypassTrip l else s
  if live then s.tagsSent l (s.tx l).fc s.tel.tagNext cut else s

/-! ### The topping lane's frame (R247 to R251, R254, R273) -/

/-- The contribution of a data lane to the topping lane's frame `fc` (R247, R254): what it sends as LIVE or WITHHELD, when it
reaches the topping die in time. -/
def State.contribution (s : State) (fc : Nat) (l : Die) : Option Contribution :=
  let x := s.top s.topLane
  let missing := match x.missing with
    | some (f, m) => decide (f = fc) && m.getLsbD l.val
    | none => false
  if missing || !s.comesTo s.topLane 7 l then none else x.held.find? fun c => c.lane == l && c.fc == fc

/-- The contributions to a frame, by rising lane. -/
def State.contributions (s : State) (fc : Nat) : List Contribution := s.dataLanes.filterMap (s.contribution fc)

/-- TOPPING_COPY (R98, R249). -/
def State.txCopies (s : State) (fc : Nat) : List CopyEntry :=
  (s.contributions fc).map fun c => ⟨c.lane, c.header, c.tag, c.crc⟩

/-- The topping lane's payload: the xor of the contributions along the transmit tree, or zeros (R248, R252). -/
def State.topPayload (s : State) (fc : Nat) : List Bool :=
  let own (d : Die) : List Bool := ((s.contribution fc d).map Contribution.payload).getD []
  xorBits (s.treeSum s.topLane own 7 s.topLane) zeroPayload

/-- The first data block from which SF-C of a data lane takes the topping lane's frame to PILOT (R251). -/
def State.topCut (s : State) (fc : Nat) : Option Nat :=
  (((s.top s.topLane).held.filter fun c => c.fc == fc).filterMap Contribution.cut).min?

/-- CIPHER of the topping lane (R93, R273): GCM when a lane that contributes sends GCM; with none, what the data lanes carry. -/
def State.topGcm (s : State) (cs : List CopyEntry) : Bool :=
  if cs.isEmpty then s.dataLanes.any s.txGcm else cs.any fun c => c.header.cipher == 1#2

/-- The topping lane's held frame goes (R248, R249, R251, R254). -/
def State.flushTop (s : State) : State :=
  let t := s.topLane
  match (s.top t).waiting with
  | none => s
  | some w =>
    let none_ := w.state == .withheld
    let copies := if none_ then [] else s.txCopies w.fc
    let payload := if none_ then zeroPayload else s.topPayload w.fc
    let cut := s.topCut w.fc
    let oh := { w.oh with
      header := { w.oh.header with cipher := if s.topGcm copies then 1 else 0 }
      payloadCrc := LineFormat.crcBits payload
      copies }
    let s := s.updTop t fun x => { x with waiting := none, held := x.held.filter fun c => c.fc != w.fc }
    let s := if w.state == .live then s.tagsSent t w.fc w.tags cut else s
    s.emitFrame t w.state (some oh) w.pdEn (frameValues t w.prec oh payload cut)

/-- A LIVE or WITHHELD frame of the topping lane begins: it is held for its data lanes (R254) and goes when the lane's next
boundary comes at the latest. Outputs carry no times: the model puts it out then (DESIGN CHOICE, assumption log). SF-C of a data
lane within the same frame holds here too, whichever boundary came first (R251). A frame that
the lane is forced to send as WITHHELD carries zeros (R101), and so no lane contributes to it (DESIGN CHOICE, assumption log). -/
def State.holdTop (s : State) (st : TxState) : State :=
  let t := s.topLane
  let fc := (s.tx t).fc
  let (oh, s) := s.txOverhead t (s.txHeader t st (s.topGcm []))
  let w : TopFrame :=
    { fc, tags := s.tel.tagNext, state := st, oh, prec := s.flag t LFR_CFG_TX_PRECODE, pdEn := s.flag t LTX_CTRL_PD_EN }
  let s := s.updTop t fun x => { x with waiting := some w }
  if (s.topCut fc).isSome then s.showTx t .pilot else s

/-! ### FRAME_TRANSMIT -/

/-- A running lane's frame: it forms and sends it in its state. In STANDARD the symbols are those of the inner FEC of IEEE 802.3,
which the spec does not give: how many samples the range limits is a free value. -/
def State.sendFrame (s : State) (l : Die) (st : TxState) (bypass : Option (Fin 256)) : State :=
  let s := s.cnt l (match st with
    | .live => 32
    | .withheld => 33
    | _ => 34)
  let s := s.injectLineBits l
  if s.standard then
    if st == .live then
      let (n, s) := s.fresh
      (s.tagsSent l (s.tx l).fc s.tel.tagNext none).noteClips l (n % (LineFormat.frameSymbols + 1))
    else s.emitMute l
  else
    let (plain, s) := if s.isTop l then ([], s) else s.takeBits l
    match st with
    | .mute => s.emitMute l
    | .pilot => s.emitFrame l .pilot none (s.flag l LTX_CTRL_PD_EN) (LineFormat.pilotSymbols l)
    | st => if s.isTop l then s.holdTop st else s.sendShare l st bypass plain

/-- Whether the last frame of a lane was a GCM frame of its epoch. -/
def State.lastGcm (s : State) (l : Die) : Bool := (s.tx l).running && (s.ciph l).highFc == some (s.tx l).fc

/-- What a frame boundary changes in the transmitter (R115, R117, R119, R129, R130, R134 to R136). -/
def State.txBoundary (s : State) (l : Die) : State :=
  let s := ((((s.doFirSwap l).doPdSwap l).doTxLoad l).stepDelay l).txFrameCounts l
  s.updTx l fun x => { x with swingNow := s.rd l LTX_DAC_CTRL_SWING, shapeNow := s.rd l LTX_DAC_CTRL_SHAPE }

/-- The lane whose boundaries count the windows of TOPPING_STATUS (R97): the lowest that sends. -/
def State.countsWindow (s : State) (l : Die) : Bool := (s.popDies.find? fun d => (s.tx d).running) == some l

/-- FRAME_TRANSMIT (R94, R97, R121 to R127): a lane's frame boundary. `bypass` is the codeword, if any, that a fault of the cipher
lets through as it came; 0 stands for the whole frame, its header saying CLEAR (R306). -/
def execFrameTransmit (l : Die) (bypass : Option (Fin 256)) (s : State) : Host.Outcome State Fault Refusal :=
  if !(s.pop l && s.dataRuns && s.domainOn l .tx) then .next s
  else
    let s := if s.isTop l then s.flushTop else s
    if !s.txRuns l then .next (s.txIdle l).shutFollow
    else
      let s := s.each (s.portsOn l) fun s p => s.drainNow p
      let was := (s.tx l).running
      let now := if was then TxState.ofCode (s.rd l LTX_STAT_TX_STATE) else .mute
      let gcm := s.lastGcm l
      let s := if was then s.txAdvance l else s.txStart l
      let s := if s.assured && s.countsWindow l then s.toppingWindow else s
      let s := (s.rackStep l gcm).txBoundary l
      let st := if was then nextTxState now (s.txWant l) (s.tx l).held else s.txWant l
      let s := ((s.holdCauses l).showTx l st).kxKick
      let s := if TxState.code st < 2 then s else s.kxFlush
      .next ((s.sendFrame l st bypass).showKeys).shutFollow

/-- TX_HOLD_END (R247, R254): the hold of frame `fc`'s first codeword, 362 core cycles, has ended without a data lane's contribution
complete at the topping die, which leaves the lane out of that frame. -/
def execTxHoldEnd (fc : Nat) (missing : Die) (s : State) : Host.Outcome State Fault Refusal :=
  let t := s.topLane
  let held := match (s.top t).waiting with
    | some w => decide (w.fc = fc) && decide (s.coreCycle (s.tx t).sentAt + 362 ≤ s.coreNow)
    | none => false
  let nothing := (s.tx missing).fc == fc && decide (s.rd missing LTX_STAT_TX_STATE < 2)
    && !(s.top t).held.any fun c => c.lane == missing && c.fc == fc
  if !(s.assured && held && s.healthy t && s.dataLanes.contains missing && (s.tx missing).running && !nothing) then .next s
  else
    let m := match (s.top t).missing with
      | some (f, m) => if f = fc then m else 0#8
      | none => 0#8
    let s := s.updTop t fun x => { x with missing := some (fc, m ||| (1#8 <<< missing.val)) }
    .next (((s.wr t TOP_STAT_TX_MISSING 1).cnt t 100).raise t evTOP_TX_MISSING (evArg missing.val 0xFF []))

end Sys2Proof.Machine
end

