-- ==== Sys2Proof/Machine/Profile.lean ====
section
/-! DEFINITION. Profiles and port plans take effect, lanes go up and down, host lane settings (R16 to R24, R38 to R42, R63 to
R65, R70, R94, R173, R213, R311, R324 to R328, R340, R343, R396 to R398). -/

namespace Sys2Proof.Machine

/-! ### A plan takes effect (R40, R41, R63, R65, R70) -/

/-- HOST.PORT_CFG, the IDLE bits and the OWNER bits of a die, as the plan has them. -/
def State.showPlanOn (s : State) (d : Die) : State :=
  let h (n : Nat) : HostLane := Fin.ofNat 16 (2 * d.val + n)
  let used (n : Nat) : Bool := (s.portOf (h n)).isSome
  let (width, base) := match s.portsOn d with
    | p :: _ => (Width.code p.width, (Port.base p).val)
    | [] => (0, 0)
  let s := (s.wr d HOST_PORT_CFG_WIDTH width).wr d HOST_PORT_CFG_BASE base
  let s := s.wr d HOST_PORT_CFG_USED ((if used 0 then 1 else 0) + (if used 1 then 2 else 0))
  let s := (s.wrB d HOST_PORT_CFG_RM_EN (s.rateMatched && s.carries d)).wrB d HOST_PORT_CFG_CLK_SRC s.rateMatched
  s.each [0, 1] fun s n =>
    let own := !s.standard && match s.portOf (h n) with
      | some p => n = 0 || p.width == .w200
      | none => false
    (s.wrB d (HOST_LANE_CTRL_IDLE n) (!used n)).wrB d (HFEC_STAT_OWNER n) own

/-- In STANDARD a used line lane carries PRBS31 until its host lane has recovered, its host lane until the line lane has
(R340, R343). In the other profiles nothing is locked here. -/
def State.showStandard (s : State) (d : Die) : State :=
  let used := s.standard && s.bit d HOST_PORT_CFG_USED 0
  let am := used && s.flag d (HOST_LANE_STAT_AM_LOCK 0)
  let s := if s.flag d LFR_STD_STAT_AM_LOCK && !am then s.wr d LFR_STD_STAT_HOST_LOST 1 else s
  ((s.wrB d LFR_STD_STAT_AM_LOCK am).wrB d LFR_STD_STAT_PRBS_TX (used && !am)).wrB d LFR_STD_STAT_PRBS_HOST
    (used && !s.rxDelivers d)

/-- A host lane is no longer in a port: its input is ignored (R41, R66). -/
def State.dropHostLane (s : State) (h : HostLane) : State :=
  let d := HostLane.die h
  let n := portNo h
  let s := s.fall d (HOST_LANE_STAT_SIG_DET n) (HOST_LANE_STAT_SIG_LOST n)
  let s := s.fall d (HOST_LANE_STAT_CDR_LOCK n) (HOST_LANE_STAT_CDR_LOST n)
  let s := s.fall d (HOST_LANE_STAT_AM_LOCK n) (HOST_LANE_STAT_AM_LOST n)
  s.fall d (HOST_LANE_STAT_ALIGN_OK n) (HOST_LANE_STAT_ALIGN_LOST n)

/-- A port stops: its queues empty, its host lanes are no longer aligned. Its line lanes lose their alignment and number their
units anew, but for a lane that also carries a port which stays (R40, R51, R213). -/
def State.stopPort (s : State) (kept : List Port) (p : Port) : State :=
  let s := s.each (s.portLanes p) fun s h =>
    (s.fall (HostLane.die h) (HOST_LANE_STAT_ALIGN_OK (portNo h)) (HOST_LANE_STAT_ALIGN_LOST (portNo h))).updPortQ h fun q =>
      { PortQ.reset with symbols := q.symbols }
  let ds := s.portDies p
  if kept.any fun q => (s.portDies q).any ds.contains then s
  else
    let s := if s.assured then s else s.unalign (s.groupKey (Port.base p))
    s.each ds fun s d => (s.updDie d fun x => { x with rxOut := ⟨x.rxOut.avail && s.assured, [], true, none⟩ }).updTx d fun x =>
      { x with renumber := true }

/-- Host lanes that no longer run from one clock have no offset between them (R42). -/
def State.clearPairs (s : State) : State :=
  s.each s.popDies fun s d =>
    if s.paired d then s else s.updPortQ (Fin.ofNat 16 (2 * d.val + 1)) fun q => { q with pairBad := false }

/-- The ports that the plan gains or loses stop; the others carry on (R40). -/
def State.usePlan (s : State) (ps : List Port) : State :=
  let gone := s.plan.filter fun p => !ps.contains p
  let new := ps.filter fun p => !s.plan.contains p
  let kept := s.plan.filter ps.contains
  let old := gone.flatMap s.portLanes
  let s0 := s
  let s := s.noteCauses.each gone fun s p => s.stopPort kept p
  let s := { s with plan := ps }.relockLines s0
  let s := s.each new fun s p => s.stopPort kept p
  let s := s.each (old.filter fun h => (s.portOf h).isNone) fun s h => s.dropHostLane h
  s.clearPairs.each s.popDies fun s d => (s.showPlanOn d).showStandard d

/-! ### A profile takes effect (R16, R17, R213, R244, R309, R341) -/

/-- What a lane's topping and deskew hold is gone. -/
def State.clearGroupState (s : State) (l : Die) : State :=
  let s := s.updDie l fun x => { x with dsk := .reset, top := .reset, rxOut := ⟨false, [], true, none⟩ }
  let s := ((s.wr l TOP_STAT_INCL_MASK 0).wr l TOP_STAT_ACTIVE 0).wr l TOP_STAT_UNPROT 0
  (s.wr l DEC_DSK_STAT_ALIGNED 0).wr l DEC_DSK_STAT_EXCLUDED 0

/-- A change of profile or clock mode (R17): every lane goes to DOWN, its transmitter to MUTE at its next frame boundary, and
each lane acquires from cold when it comes up again. HOST_LOST and LOCK_LOST of LFR.STD_STAT read 0 outside STANDARD (R343) and
show what they held when STANDARD is entered again: the spec does not say whether they survive (DESIGN CHOICE, assumption log).
The pool carries no traffic in STANDARD (R339): what it still holds then is dropped. -/
def State.changeProfile (s : State) (prof : Profile) (clock : ClockMode) (ps : List Port) : State :=
  let s0 := s
  let s := if s.assured then s.flushTop else s
  let s := s.each s.groupKeys fun s k => s.unalign k
  let s := s.each s.popDies fun s l =>
    (((s.updTx l fun x => { x with up := false }).rxDown l).updRx l fun x => { x with cold := true }).updCiph l fun c =>
      { c with condClear := false, condMismatch := false, condHdr := false, condProfile := false, condLane := false,
               unavailable := false }
  let s := s.each s.popDies fun s l => s.clearGroupState l
  let s := s.each s.plan fun s p => s.stopPort [] p
  let old := s.plan.flatMap s.portLanes
  let s := { s with profile := prof, clockMode := clock, plan := ps, topPkg := .reset }.relockLines s0
  let s := s.each (old.filter fun h => (s.portOf h).isNone) fun s h => s.dropHostLane h
  let s := s.clearPairs.each s.popDies fun s d => (s.showPlanOn d).showStandard d
  let s := if prof = .standard then s.zeroiseAll.each s.popDies fun s l => s.clearPool l else s
  let s := s.each s.popDies fun s l =>
    (s.updInb l fun x => { x with rxSeq := none, rxPart := none, ohAt := none, farLock := false }).inbandFollow l
  let s := s.showTrees
  (s.each s.popDies fun s l => s.wrB l LTX_ADAPT_STAT_NO_FEEDBACK (s.standard || decide (1024 ≤ (s.tx l).sinceFb))).unprotRise

/-- Profile, clock mode and port plan as one setting (R17, R397). -/
def State.setProfile (s : State) (prof : Profile) (clock : ClockMode) (ps : List Port) : State :=
  if s.profile = prof ∧ s.clockMode = clock then s.usePlan ps else s.changeProfile prof clock ps

/-! ### PROFILE_SET, PORT_PLAN_SET (R38 to R40, R324, R328, R397, R398) -/

/-- The clock mode that PROFILE_SET asks for: LOCKED without the TLV (R397). -/
def clockAsked (clock : Option ClockMode) : ClockMode := clock.getD .locked

def infoProfileSet (s : State) (prof : Profile) (clock : Option ClockMode) (ps : List Port) : CmdInfo :=
  { code := 0x0101, priv := some .operator, cls := 1, rt := true, unsup := ps.any (Port.unpopulated s prof),
    bad := if clock = some .decoupled ∧ prof ≠ .full then some 1
      else planBad s prof (if clock.isSome then 2 else 1) ps }

/-- Whether a change of profile or a restore still takes lanes to DOWN. -/
def State.lanesBusy (s : State) : Bool := (s.pend? .profile).isSome || s.restoring.isSome

def applyProfileSet (prof : Profile) (clock : Option ClockMode) (ps : List Port) (_ : Req) (_ : Session) (s : State) : Res :=
  if s.lanesBusy then .fail .busy s
  else
    let t := s.setProfile prof (clockAsked clock) ps
    if s.profile = prof ∧ s.clockMode = clockAsked clock then .ok t else .pending .profile t

/-- PROFILE_SET (R16, R17, R397, R398). -/
def execProfileSet (r : Req) (prof : Profile) (clock : Option ClockMode) (ps : List Port) (s : State) :
    Host.Outcome State Fault Refusal :=
  .next (Slostan.run r (.profileSet r prof clock ps) (infoProfileSet s prof clock ps) (applyProfileSet prof clock ps) s)

/-- Whether every populated lane has entered DOWN, its transmitter at MUTE (R398). -/
def State.allDown (s : State) : Bool :=
  s.popDies.all fun l => s.rxState l == .down && !(s.tx l).up && s.rd l LTX_STAT_TX_STATE == 0

/-- PROFILE_CHANGE_DONE (R17, R398). -/
def execProfileChangeDone (s : State) : Host.Outcome State Fault Refusal :=
  .next (if s.allDown then s.finishPend .profile .ok [] else s)

def infoPortPlanSet (s : State) (ps : List Port) : CmdInfo :=
  { code := 0x0103, priv := some .operator, cls := 1, unsup := ps.any (Port.unpopulated s s.profile),
    bad := planBad s s.profile 0 ps }

def applyPortPlanSet (ps : List Port) (_ : Req) (_ : Session) (s : State) : Res :=
  if s.lanesBusy then .fail .busy s else .ok (s.usePlan ps)

/-- PORT_PLAN_SET (R38 to R40, R328, R397). -/
def execPortPlanSet (r : Req) (ps : List Port) (s : State) : Host.Outcome State Fault Refusal :=
  .next (Slostan.run r (.portPlanSet r ps) (infoPortPlanSet s ps) (applyPortPlanSet ps) s)

/-! ### HOST_LANE_SET (R65, R396) -/

def infoHostLaneSet (lane : Nat) (eq : Option (Nat × Nat × Nat)) : CmdInfo :=
  { code := 0x0104, priv := some .operator, cls := 1, dies := if lane < 16 then oneDie (lane / 2) else [],
    bad := firstBad [numBad lane 16 0,
      eq.bind fun (pre, post, amp) => if pre < 8 ∧ post < 8 ∧ amp < 4 then none else some 1] }

/-- The settings of a host lane. -/
def State.setHostLane (s : State) (h : HostLane) (eq : Option (Nat × Nat × Nat)) (pol : Option (Bool × Bool)) : State :=
  let d := HostLane.die h
  let n := portNo h
  let s := match eq with
    | some (pre, post, amp) =>
      ((s.wr d (HOST_LANE_CTRL_TX_PRE n) pre).wr d (HOST_LANE_CTRL_TX_POST n) post).wr d (HOST_LANE_CTRL_TX_AMP n) amp
    | none => s
  match pol with
  | some (tx, rx) => (s.wrB d (HOST_LANE_CTRL_TX_INV n) tx).wrB d (HOST_LANE_CTRL_RX_INV n) rx
  | none => s

def applyHostLaneSet (lane : Nat) (eq : Option (Nat × Nat × Nat)) (pol : Option (Bool × Bool)) (_ : Req) (_ : Session)
    (s : State) : Res :=
  if h : lane < 16 then
    if s.domainOn (HostLane.die ⟨lane, h⟩) .host then .ok (s.setHostLane ⟨lane, h⟩ eq pol) else .fail .domainOff s
  else .badParam 0 s

/-- HOST_LANE_SET (R65). -/
def execHostLaneSet (r : Req) (lane : Nat) (eq : Option (Nat × Nat × Nat)) (pol : Option (Bool × Bool)) (s : State) :
    Host.Outcome State Fault Refusal :=
  .next (Slostan.run r (.hostLaneSet r lane eq pol) (infoHostLaneSet lane eq) (applyHostLaneSet lane eq pol) s)

/-! ### LINE_UP, LINE_DOWN (R94, R122, R173, R311) -/

def infoLineUpDown (code : Nat) (lanes : BitVec 8) : CmdInfo :=
  { code, priv := some .operator, cls := 5, insts := (maskDies lanes).map Fin.val, dies := maskDies lanes, rt := true,
    bad := maskBad lanes 0 }

/-- A lane comes up: cause NOT_UP ends, the receiver starts, a die without keys fetches them (R122, R173, R311). -/
def State.laneUp (s : State) (l : Die) : State :=
  ((s.noteCauses.updTx l fun x => { x with up := true, upAt := if x.up then x.upAt else s.time.now }).rxUp l).fetchKeys l

/-- A lane goes down: cause NOT_UP is active, the receiver is in DOWN. -/
def State.laneDown (s : State) (l : Die) : State := (s.updTx l fun x => { x with up := false }).rxDown l

/-- Whether the transmit and receive domains of lanes take commands (R495, R660). -/
def State.linesOn (s : State) (ls : List Die) : Bool := s.txOn ls && s.rxOn ls

def applyLineUp (lanes : BitVec 8) (_ : Req) (_ : Session) (s : State) : Res :=
  let ls := maskDies lanes
  if !s.linesOn ls then .fail .domainOff s
  else if s.lanesBusy then .fail .busy s
  else .ok ((s.each ls fun s l => s.laneUp l).kxKick.showKeys)

/-- LINE_UP (R17, R122, R173). -/
def execLineUp (r : Req) (lanes : BitVec 8) (s : State) : Host.Outcome State Fault Refusal :=
  .next (Slostan.run r (.lineUp r lanes) (infoLineUpDown 0x0102 lanes) (applyLineUp lanes) s)

def applyLineDown (lanes : BitVec 8) (_ : Req) (_ : Session) (s : State) : Res :=
  let ls := maskDies lanes
  if !s.linesOn ls then .fail .domainOff s else .ok (s.each ls fun s l => s.laneDown l)

/-- LINE_DOWN (R122, R173, R211). -/
def execLineDown (r : Req) (lanes : BitVec 8) (s : State) : Host.Outcome State Fault Refusal :=
  .next (Slostan.run r (.lineDown r lanes) (infoLineUpDown 0x0106 lanes) (applyLineDown lanes) s)

end Sys2Proof.Machine
end

