-- ==== Sys2Proof/Machine/MgmtPorts.lean ====
section
/-! DEFINITION. The management ports: their states, low-power idle, frames that arrive, and the arrival of Slostan requests
(R345, R347 to R350, R354, R359, R367, R368, R421 to R428, R430 to R432, R440, R448 to R450). -/

namespace Sys2Proof.Machine

/-! ### States of a port (R422 to R426) -/

def MPort.code : MPort → Nat
  | .a => 0
  | .b => 1

def State.portState (s : State) (p : MPort) : Nat := s.rd (MPort.die p) MGMT_STAT_STATE

/-- Whether a port's domain runs (R495). -/
def State.portRuns (s : State) (p : MPort) : Bool :=
  s.pop (MPort.die p) && s.domainOn (MPort.die p) .mgmt && s.phase != .inReset && s.phase != .powerOff && s.phase != .off

def portArg (p : MPort) : Bytes := evArg (MPort.code p) 0xFF []

/-- The dies that MRX woke no longer wait for a port (R497, R503). -/
def State.endMrxHold (s : State) (p : MPort) : State :=
  (s.updPwr (MPort.die p) fun x => { x with mrxHold := false }).updPwr s.leader fun x => { x with mrxHold := false }

/-- The back-off before the n-th consecutive retry, in seconds (R425). -/
def backoffSec (n : Nat) : Nat := min (2 ^ (n - 1)) 64

/-- A port restarts from DOWN (R422). -/
def State.restartPort (s : State) (p : MPort) : State :=
  ((s.updPort p fun x => { x with restart := false }).portTo p 0).powerEval 1

/-- The restarts that wait for a reply follow it (R422). -/
def State.doRestarts (s : State) : State :=
  s.each [MPort.a, .b] fun s p => if (s.mport p).restart then s.restartPort p else s

/-- MGMT_SIGNAL_DETECT (R422, R423). -/
def execMgmtSignalDetect (p : MPort) (s : State) : Host.Outcome State Fault Refusal :=
  .next (if s.portRuns p && s.portState p == 0 then s.portTo p 1 else s)

/-- MGMT_SIGNAL_LOSS (R423). -/
def execMgmtSignalLoss (p : MPort) (s : State) : Host.Outcome State Fault Refusal :=
  .next (if s.portRuns p && (s.portState p == 1 || s.portState p == 3) then ((s.portTo p 0).endMrxHold p).powerEval 1 else s)

/-- Whether a port runs in mode FIXED (R422). -/
def State.portFixed (s : State) (p : MPort) : Bool := s.flag (MPort.die p) MGMT_CTRL_MODE

/-- MGMT_TRAINING_COMPLETE (R424). -/
def execMgmtTrainingComplete (p : MPort) (s : State) : Host.Outcome State Fault Refusal :=
  .next (if s.portRuns p && s.portState p == 1 && !s.portFixed p && !(s.mport p).trained then
    s.updPort p fun x => { x with trained := true, since := s.time.now }
  else s)

/-- Whether training has failed by now (R424). -/
def State.trainFailed (s : State) (p : MPort) : Bool :=
  let x := s.mport p
  s.portState p == 1 && !s.portFixed p && s.past x.since (msU (if x.trained then 100 else 500))

/-- MGMT_TRAIN_FAIL (R424, R425). -/
def execMgmtTrainFail (p : MPort) (s : State) : Host.Outcome State Fault Refusal :=
  if !(s.portRuns p && s.trainFailed p) then .next s
  else
    let d := MPort.die p
    let s := (s.portTo p 3).updPort p fun x => { x with retries := x.retries + 1 }
    let s := ((s.wr d MGMT_STAT_TRAIN_FAIL 1).incSat d MGMT_STAT_TRAIN_FAILS 1).wr d MGMT_STAT_BACKOFF
      (backoffSec (s.mport p).retries)
    .next ((s.cnt d 150).raise d evMGMT_TRAIN_FAIL (portArg p))

/-- MGMT_BACKOFF_END (R425). -/
def execMgmtBackoffEnd (p : MPort) (s : State) : Host.Outcome State Fault Refusal :=
  .next (if s.portRuns p && s.portState p == 3
      && s.past (s.mport p).since (secU (backoffSec (s.mport p).retries)) then s.portTo p 1 else s)

/-- Whether a port can gain block lock now (R422, R424, R425). -/
def State.mayLock (s : State) (p : MPort) : Bool :=
  s.portState p == 3 || (s.portState p == 1 && (s.portFixed p || (s.mport p).trained) && !s.trainFailed p)

/-- A port enters UP (R372, R425, R426, R434, R500). -/
def State.portComesUp (s : State) (p : MPort) : State :=
  let d := MPort.die p
  let preset := s.portState p == 3
  let s := s.expireDue
  let s := ((s.wr d MGMT_STAT_STATE 2).wr d MGMT_STAT_BLOCK_LOCK 1).wrB d MGMT_STAT_FEC_LOCK (s.flag d MGMT_CTRL_FEC_EN)
  let s := (s.wrB d MGMT_STAT_ON_PRESET preset).updPort p fun x =>
    { x with since := s.time.now, idleSince := s.time.now, retries := if preset then x.retries else 0 }
  let s := if preset then s else (s.wr d MGMT_STAT_TRAIN_FAILS 0).wr d MGMT_STAT_BACKOFF 1
  let s := s.updFab fun f => match p with
    | .a => { f with downA := none }
    | .b => { f with downB := none }
  let s := s.raise d evMGMT_LINK_UP (portArg p)
  (((s.sendHello (MPort.medium p)).treeRecompute).endMrxHold p).powerEval 1

/-- MGMT_LINK_UP (R424 to R426): block lock is gained, and FEC block lock where FEC is on. -/
def execMgmtLinkUp (p : MPort) (s : State) : Host.Outcome State Fault Refusal :=
  .next (if s.portRuns p && s.mayLock p then s.portComesUp p else s)

/-- MGMT_LINK_DOWN (R426): block lock is lost in UP. -/
def execMgmtLinkDown (p : MPort) (s : State) : Host.Outcome State Fault Refusal :=
  if !(s.portRuns p && s.portUp p) then .next s
  else
    let d := MPort.die p
    let preset := s.flag d MGMT_STAT_ON_PRESET
    let s := (((s.wr d MGMT_STAT_LINK_LOST 1).cnt d 151).portTo p (if preset then 3 else 1)).raise d evMGMT_LINK_DOWN
      (portArg p)
    .next (s.powerEval 1)

/-! ### Low-power idle (R427) -/

/-- LPI_IDLE_TIMER (R427). -/
def execLpiIdleTimer (p : MPort) (s : State) : Host.Outcome State Fault Refusal :=
  let d := MPort.die p
  .next (if s.portRuns p && s.portUp p && s.flag d MGMT_CTRL_EEE_EN
      && s.past (s.mport p).idleSince (usU (s.rd d MGMT_CTRL_LPI_IDLE)) then s.wr d MGMT_STAT_LPI_TX 1 else s)

/-- MGMT_PARTNER_LPI (R427). -/
def execMgmtPartnerLpi (p : MPort) (enter : Bool) (s : State) : Host.Outcome State Fault Refusal :=
  let d := MPort.die p
  .next (if s.portRuns p && s.portUp p && s.flag d MGMT_CTRL_EEE_EN then s.wrB d MGMT_STAT_LPI_RX enter else s)

/-! ### MGMT_PORT_SET, MGMT_STATUS_GET, MGMT_RESTART (R411, R422, R448, R449) -/

def infoMgmtPortSet (p : MPort) : CmdInfo :=
  { code := 0x0904, priv := some .operator, cls := 9, dies := [MPort.die p], rt := true }

/-- The port's mode, FEC and EEE. -/
def State.setMgmtPort (s : State) (p : MPort) (fixed fec eee : Bool) : State :=
  let d := MPort.die p
  ((s.wrB d MGMT_CTRL_MODE fixed).wrB d MGMT_CTRL_FEC_EN fec).wrB d MGMT_CTRL_EEE_EN eee

/-- The restart of a port follows the reply (R422). -/
def State.restartLater (s : State) (p : MPort) : State := s.updPort p fun x => { x with restart := true }

def applyMgmtPortSet (p : MPort) (fixed fec eee : Bool) (_ : Req) (_ : Session) (s : State) : Res :=
  if !s.domainOn (MPort.die p) .mgmt then .fail .domainOff s
  else .ok ((s.setMgmtPort p fixed fec eee).restartLater p)

/-- MGMT_PORT_SET (R411, R422): the port restarts after the reply. -/
def execMgmtPortSet (r : Req) (p : MPort) (fixed fec eee : Bool) (s : State) : Host.Outcome State Fault Refusal :=
  .next (Slostan.run r (.mgmtPortSet r p fixed fec eee) (infoMgmtPortSet p) (applyMgmtPortSet p fixed fec eee) s).doRestarts

/-- The MGMT_STATUS TLV (R394). -/
def tlvMgmtStatus (s : State) (p : MPort) : Tlv :=
  let d := MPort.die p
  let b (f : Fld) : Nat := if s.flag d f then 1 else 0
  let up := s.portUp p
  ⟨0x01B3, be 1 (MPort.code p) ++ be 1 (s.portState p) ++ be 1 (b MGMT_STAT_BLOCK_LOCK)
    ++ be 1 (if up then b MGMT_CTRL_FEC_EN else 0) ++ be 1 (if up then b MGMT_CTRL_EEE_EN else 0) ++ be 3 0
    ++ be 4 (s.mport p).retries ++ be 4 (s.rd d MGMT_STAT_BACKOFF)⟩

def infoMgmtStatusGet : CmdInfo := { code := 0x0905, priv := some .observer, read := true }

/-- MGMT_STATUS_GET (R411). -/
def execMgmtStatusGet (r : Req) (s : State) : Host.Outcome State Fault Refusal :=
  .next (Slostan.run r (.mgmtStatusGet r) infoMgmtStatusGet
    (fun _ _ s => .okWith s [tlvMgmtStatus s .a, tlvMgmtStatus s .b]) s)

/-- MGMT_RESTART (R422, R449): a write of MGMT.CTRL.RESTART. -/
def execMgmtRestart (r : Req) (p : MPort) (s : State) : Host.Outcome State Fault Refusal :=
  .next (Slostan.run r (.mgmtRestart r p) (regInfo (MPort.die p) 0x0E 0 true)
    (fun _ _ s => regGuard (MPort.die p) 0x0E true s (.ok (s.restartLater p))) s).doRestarts

/-! ### Frames that arrive (R349, R421, R428, R430 to R432, R440) -/

/-- Whether a Jeuri message on a port is in order (R431, R432): a short frame's padding is not part of it. -/
def jeuriPortOk (p : Bytes) : Bool :=
  let b0 := (p.getD 0 0).toNat
  let len := ofBe (sub p 2 2)
  decide (8 ≤ p.length) && b0 / 16 == 1 && decide (1 ≤ b0 % 16 ∧ b0 % 16 ≤ 3) && decide (len ≤ 1492)
    && (p.length == 8 + len || (decide (8 + len < p.length) && decide (p.length ≤ 46)))

/-- Whether a packet's header is in order (R349). -/
def packetWellFormed (p : Bytes) : Bool :=
  let b0 := (p.getD 0 0).toNat
  decide (12 ≤ p.length) && b0 / 16 == 1 && b0 % 16 < 4

/-- The source address and tag of a session's last packet go with its events and replies (R345, R428). -/
def State.noteSender (s : State) (m : Medium) (mac : BitVec 48) (vlan : Option (BitVec 16)) (p : Bytes) : State :=
  let ch := p.getD 1 0
  match s.session? ch with
  | some x => if s.fits x (BitVec.ofNat 16 (packetSrc p)) m then s.updSession ch fun y => { y with mac, vlan } else s
  | none => s

def MPort.asMedium : MPort → Medium
  | .a => .portA
  | .b => .portB

def MPort.asJeuri : MPort → JMedium
  | .a => .portA
  | .b => .portB

/-- A Slostan frame (R428, R440): a packet for another node enters the fabric with HOPS 15; what the part executes arrives
as a request of its own; a malformed packet is counted here. -/
def State.takeSlostan (s : State) (p : MPort) (f : EthFrame) : State :=
  if !packetWellFormed f.payload then s.countMalformed (MPort.asMedium p)
  else (s.noteSender (MPort.asMedium p) f.src f.vlan f.payload).forward (MPort.asJeuri p) 15 0 f.payload

/-- MGMT_FRAME_RECEIVE (R421, R428, R430, R432, R440). -/
def execMgmtFrameReceive (p : MPort) (f : EthFrame) (s : State) : Host.Outcome State Fault Refusal :=
  let d := MPort.die p
  if !(s.portRuns p && s.portUp p) then .next s
  else if !f.fcsOk then .next (s.cnt d 146)
  else if 1522 < f.len || f.ethertype == 0x8808#16 then .next (s.cnt d 147)
  else if f.len < 64 then .next s
  else
    let s := s.cnt d 144
    if f.dst == jeuriMac then .next (if jeuriPortOk f.payload then s else s.jeuriDropped d)
    else if (f.dst == s.ownMac p || f.dst == BitVec.allOnes 48) && f.ethertype == s.sl.etherType then .next (s.takeSlostan p f)
    else .next s

/-! ### Arrival of a request (R349, R350, R354, R359, R367, R368) -/

/-- Whether a packet number is new: above the highest, or one of the 64 below not yet seen (R359). -/
def freshNonce (x : Session) (n : Nat) : Bool :=
  decide (x.rxHigh < n) || (decide (x.rxHigh ≤ n + 64) && n != x.rxHigh && decide (1 ≤ n) && !x.rxSeen.contains n)

/-- A packet number is taken (R359). -/
def Session.takeNumber (x : Session) (n : Nat) : Session :=
  let high := max x.rxHigh n
  { x with rxHigh := high, rxSeen := (n :: x.rxSeen).filter fun k => decide (high ≤ k + 64) }

/-- The number and the deciphered TLVs of a protected packet whose tag passes (R359, R352). -/
def openPacket (x : Session) (p : Bytes) : Option (Nat × Bytes) :=
  match x.keys with
  | none => none
  | some k =>
    let plen := ofBe (sub p 10 2)
    if plen < 12 || p.length < 12 + plen + 16 || sub p 12 4 != be 2 1 ++ be 2 8 then none
    else
      let n := ofBe (sub p 16 8)
      let body := sub p 24 (plen - 12 + 16)
      (Config.gcmOpen (k.kc.take 32) (k.kc.drop 32 ++ be 8 n) (p.take 24) body).map fun t => (n, t)

/-- The order of media for equal stamps (R367). -/
def Medium.rank : Medium → Nat
  | .portA => 0
  | .portB => 1
  | .inband l => 2 + l.val

/-- The execution queue with an entry in its place (R367). -/
def enqueue (e : QEntry) : List QEntry → List QEntry
  | [] => [e]
  | x :: xs =>
    if e.stamp < x.stamp || (e.stamp == x.stamp && Medium.rank e.req.medium < Medium.rank x.req.medium) then e :: x :: xs
    else x :: enqueue e xs

/-- The whole TLVs that bytes hold, at most `n`, and whether they end exactly with the last. -/
def tlvCount : Nat → Bytes → Nat × Bool
  | 0, b => (0, b.isEmpty)
  | n + 1, b =>
    if b.isEmpty then (0, true)
    else
      let l := 4 + ofBe (sub b 2 2)
      if b.length < l then (0, false)
      else
        let (k, ok) := tlvCount n (b.drop l)
        (k + 1, ok)

/-- Check 1 of R362 (R352) on the bytes after a header, a tag left out: PLEN within 1,400 and within them, the TLVs ending exactly
there; ERR_INDEX counts the whole TLVs within the smallest of the three (R353). -/
def lengthForm (plen : Nat) (body : Bytes) : ReqForm :=
  let l := min plen (min body.length 1400)
  let (k, ok) := tlvCount l (body.take l)
  if plen ≤ 1400 && decide (plen ≤ body.length) && ok then .good else .badLength k

/-- A request stands in the queue, or gets BUSY (R367, R368): `body` holds its TLVs, deciphered. The stamp is package time in ticks of 64 ns. -/
def State.queueRequest (s : State) (m : Medium) (mac : BitVec 48) (vlan : Option (BitVec 16)) (p body : Bytes) : State :=
  let ch := p.getD 1 0
  let seq := BitVec.ofNat 16 (ofBe (sub p 2 2))
  let plen := ofBe (sub p 10 2)
  let q := s.sl.execQ
  let r : Req := ⟨m, ch, seq, BitVec.ofNat 16 (packetSrc p), lengthForm plen body, body.take plen, mac, vlan⟩
  if 64 ≤ q.length || 8 ≤ (q.filter fun e => e.req.channel == ch).length then
    (s.cntPkg 1545).sendReply r (packetOpcode p) [tlvStatus .busy]
  else { s with sl := { s.sl with execQ := enqueue ⟨s.ns / 64, packetOpcode p, r⟩ q } }

/-- What the channel of a packet makes of it (R354, R359). -/
def State.admitPacket (s : State) (m : Medium) (mac : BitVec 48) (vlan : Option (BitVec 16)) (p : Bytes) : State :=
  let ch := p.getD 1 0
  let auth := (p.getD 0 0).toNat / 2 % 2 == 1
  let secure := decide (0x80 ≤ ch.toNat ∧ ch.toNat < 0xFF)
  if ch.toNat = 0xFF || auth != secure then s.countDropped m
  else if ch.toNat = 0 then s.queueRequest m mac vlan p (p.drop 12)
  else match s.session? ch with
    | none => s.countDropped m
    | some x =>
      if !s.fits x (BitVec.ofNat 16 (packetSrc p)) m then s.countDropped m
      else if !secure then s.queueRequest m mac vlan p (p.drop 12)
      else match openPacket x p with
        | some (n, t) =>
          if freshNonce x n then (s.updSession ch fun y => y.takeNumber n).queueRequest m mac vlan p (sub p 12 12 ++ t) else s.countDropped m
        | none => s.countDropped m

/-- SLOSTAN_REQUEST_ARRIVAL (R349, R350, R354, R359, R367, R368). -/
def execSlostanRequestArrival (m : Medium) (mac : BitVec 48) (vlan : Option (BitVec 16)) (p : Bytes) (s : State) :
    Host.Outcome State Fault Refusal :=
  if !(s.open? && s.mediumUp m) then .next s
  else if !packetWellFormed p then .next (s.countMalformed m)
  else if !s.ownPacket p then .next s
  else
    let s := (s.noteSender m mac vlan p).admitPacket m mac vlan p
    .next (s.drainUndefined s.sl.execQ.length)

end Sys2Proof.Machine
end

