-- ==== Sys2Proof/Machine/Leader.lean ====
section
/-! DEFINITION. The leader: heartbeats received and missed, elections, resignation and the takeover of a successor
(R379, R380, R472 to R476). -/

namespace Sys2Proof.Machine

/-! ### A die that fails (R472, R475) -/

/-- A successor broadcasts ELECT when the leader has failed or resigned (R475). -/
def State.callElection (s : State) : State :=
  match s.successor? with
  | some d => if s.healthy d then s.sbPush d 1 2 (.elect false (s.fwValid d)) else s
  | none => s

/-- A die is found to have failed (R472): it becomes unhealthy; when it leads, the successor calls an election, and the
event is the successor's to raise. -/
def State.dieFails (s : State) (d : Die) (code : Nat) : State :=
  if !s.healthy d then s
  else
    let s := s.dieUnhealthy d code
    if d = s.leader then s.callElection else s

/-- The management port of a die that has stopped goes down (R380). -/
def State.portFails (s : State) (d : Die) : State :=
  match d.val with
  | 0 => s.portTo .a 0
  | 1 => s.portTo .b 0
  | _ => s

/-! ### Heartbeats (R472) -/

/-- Whether a slot is a HEARTBEAT with a report. -/
def SlotMsg.reports (rep : HbReport) : SlotMsg → Bool
  | .heartbeat r _ => r == rep
  | _ => false

/-- HEARTBEAT_RECEIVE (R464, R472): a HEARTBEAT with this report has come to a die: its time counts, and a report of a supply fault, a
clock fault or a lockstep mismatch makes its sender unhealthy. -/
def execHeartbeatReceive (d : Die) (src : Die) (rep : HbReport) (s : State) : Host.Outcome State Fault Refusal :=
  match s.takeSlot d src (SlotMsg.reports rep) with
  | none => .next s
  | some (_, s) =>
    let s := s.updDie src fun x => { x with sb := { x.sb with lastHb := s.time.now, hbMissed := 0, lockstep := rep.lockstep } }
    let s := s.wrB src DIE_STAT_FW_VALID rep.fwValid
    .next (if rep.supplyFault || rep.clockFault then s.dieFails src 1
      else if rep.lockstep then s.dieFails src 2 else s)

/-- Whether a die has sent no HEARTBEAT for 300 µs; a request it never answered counts as one missed (R462, R472). -/
def State.hbSilent (s : State) (d : Die) : Bool :=
  s.past (s.die d).sb.lastHb (usU 300 - usU (100 * min 3 (s.die d).sb.hbMissed))

/-- HEARTBEAT_TIMEOUT (R472, R473): the silent die is unhealthy, and its management port is down. -/
def execHeartbeatTimeout (d : Die) (s : State) : Host.Outcome State Fault Refusal :=
  if s.pop d && s.sbRuns && s.healthy d && s.hbSilent d then .next ((s.dieFails d 0).portFails d) else .next s

/-! ### Elections (R474 to R476) -/

/-- An ELECT opens an election window or joins it; a resigning leader is noted (R474, R475). -/
def State.electIn (s : State) (d : Die) (resign : Bool) : State :=
  let e := s.sb.election.getD ⟨s.sb.slot, [], none⟩
  let e := { e with
    entrants := e.entrants.filter (fun x => x.1 != d) ++ [(d, resign)]
    resigned := if resign && d == s.leader then some d else e.resigned }
  { s with sb := { s.sb with election := some e } }

/-- ELECT (R474, R475): a resignation of the leader is answered by its successor's ELECT. -/
def execElect (d : Die) (resign fwValid : Bool) (s : State) : Host.Outcome State Fault Refusal :=
  if !s.pop d then .next s
  else
    let s := (s.wrB d DIE_STAT_FW_VALID fwValid).electIn d resign
    .next (if resign && d == s.leader then s.callElection else s)

/-- The sessions as the successor loads them (R359, R380): the mirrored table, with packet numbers that never repeat, no
chunked transfer, and open transactions rolled back. -/
def loadSession (now : List Session) (x : Session) : Session :=
  let x := match now.find? fun y => y.channel == x.channel with
    | some y => { x with txNum := y.txNum, rxHigh := y.rxHigh, rxSeen := y.rxSeen }
    | none => x
  { x with chunk := none, txn := none, txnLost := x.txnLost || x.txn.isSome }

/-- The successor loads what was mirrored to it (R379, R380), with subscriptions and their unacknowledged events as they stand now;
queued requests and handshakes go. -/
def State.loadMirror (s : State) : State :=
  let xs := match s.sl.mirrored with
    | some (l, _) => l
    | none => s.sl.sessions
  let s := xs.foldl (fun s x => match x.txn with
    | some t =>
      let (v, s) := s.fresh
      s.auditStaged x t (v % 65536)
    | none => s) s
  let subs := match s.sl.mirrored with
    | some (_, us) => us.map fun u => (s.sl.subs.find? fun v => v.channel == u.channel).getD u
    | none => s.sl.subs
  { s with sl := { s.sl with sessions := xs.map (loadSession s.sl.sessions), subs := subs, execQ := [], handshakes := [] } }

/-- LEADER_TAKEOVER (R289, R380, R475, R500): `mirrored` when the new leader is the successor. During a firmware trial the
former leader restarts next (R620). -/
def State.takeOver (s : State) (new : Die) (mirrored : Bool) : State :=
  let old := s.leader
  let s := if mirrored then s.loadMirror else s.endAllSessions
  let s := s.wr 0 SB_STAT_LEADER new.val
  let trial := s.nv.trial.map fun t => { t with restarting := old, since := s.time.now, oldLeader := some old }
  let s : State := { s with sb := { s.sb with oldLeader := some old }, nv := { s.nv with trial := trial } }
  let s := if trial.isSome then s.mbReset old .core else s
  let s := s.chooseSuccessor
  let s := (s.cntPkg 1548).raisePkg evLEADER_CHANGE (evArg new.val old.val [])
  s.kxLeaderChange.powerEval 1

/-- Whether the leader has failed: unhealthy, but not for the loss of REFCLK, which starts no takeover (R475, R658). -/
def State.leaderFailed (s : State) : Bool := !s.healthy s.leader && !(s.die s.leader).sb.refFault

/-- The leader of a package that had none: the lowest candidate (R474). -/
def State.firstLeader (s : State) : State :=
  match s.candidates with
  | [] => s
  | d :: _ =>
    let s := s.wr 0 SB_STAT_LEADER d.val
    { s with sb := { s.sb with elected := true } }

/-- The entrants of a window become healthy (R472): those that report neither a fault nor a lockstep mismatch, have a link
and do not resign. -/
def State.joinHealthy (s : State) (l : List (Die × Bool)) : State :=
  s.each l fun s x =>
    let b := (s.die x.1).sb
    if x.2 || b.clockFault || b.supplyFault || b.lockstep || !s.anyLinkUp x.1 || s.power x.1 == .off then s
    else s.setHealthy x.1 true

/-- The change of leader at the end of a window (R475, R476), if the leader has failed or resigned. -/
def State.changeLeader (s : State) (resigned : Option Die) : State :=
  if !(s.leaderFailed || resigned = some s.leader) then s
  else
    let cs := s.candidates.filter fun d => d != s.leader
    match s.successor? with
    | some d => if cs.contains d then s.takeOver d true else match cs with
        | [] => s
        | e :: _ => s.takeOver e false
    | none => match cs with
        | [] => s
        | e :: _ => s.takeOver e false

/-- ELECTION_WINDOW_CLOSE (R474 to R476): 64 slots after the first ELECT. -/
def execElectionWindowClose (s : State) : Host.Outcome State Fault Refusal :=
  match s.sb.election with
  | none => .next s
  | some e =>
    if s.sb.slot < e.openSlot + 64 then .next s
    else
      let s : State := { s with sb := { s.sb with election := none } }
      if !s.sb.elected then .next ((s.joinHealthy e.entrants).firstLeader.chooseSuccessor)
      else
        let s := ((s.changeLeader e.resigned).joinHealthy e.entrants).chooseSuccessor
        .next { s with sb := { s.sb with pendRoutes := true } }

end Sys2Proof.Machine
end

