-- ==== Sys2Proof/Machine/Clocks.lean ====
section
/-! DEFINITION. The slow clock, REFCLK and the PLLs (R508 to R514, R658). -/

namespace Sys2Proof.Machine

/-! ### Slow clock (R511, R512) -/

/-- SLOW_CLOCK_CALIBRATED (R512): `ratio` is the slow period in 1/2,048 REFCLK cycle. A measurement needs REFCLK and a system PLL
that runs, and takes 32,768 slow periods, that is 16 × `ratio` REFCLK cycles. -/
def execSlowClockCalibrated (ratio : Nat) (s : State) : Host.Outcome State Fault Refusal :=
  if s.time.refclk && s.popDies.any (fun d => s.flag d CLK_PLL_STAT_SYS_LOCK)
      && s.past s.time.slowCalAt (16 * ratio * (64 * nsU / 10)) then
    let s : State := { s with time := { s.time with slowCalAt := s.time.now } }
    .next ((s.wr 0 CLK_SLOW_RATIO ratio).wr 0 CLK_SLOW_CAL_VALID 1)
  else .next s

/-- CRYSTAL_START (R511): the slow clock switches to the crystal, at any time. -/
def execCrystalStart (s : State) : Host.Outcome State Fault Refusal := .next (s.wr 0 CLK_SLOW_SRC 1)

/-- CRYSTAL_FAIL (R511, R514): the slow clock switches back; an extrapolated period under way counts as one of the RC
oscillator. -/
def execCrystalFail (s : State) : Host.Outcome State Fault Refusal :=
  if s.flag 0 CLK_SLOW_SRC then
    let s := (s.wr 0 CLK_SLOW_SRC 0).wr 0 CLK_SLOW_XTAL_FAIL 1
    let s : State := { s with time := { s.time with periodRc := true } }
    .next (s.raisePkg evSLOW_CLK_FAIL noArg)
  else .next s

/-! ### REFCLK (R509, R510, R514, R658) -/

/-- Whether REFCLK is needed (R509): some die is outside DORMANT and OFF, and the part is not held in reset. -/
def State.refNeeded (s : State) : Bool := s.started && s.sbRuns

/-- REFCLK_LOST (R510, R514): no edge for 100 ns. -/
def execRefclkLost (s : State) : Host.Outcome State Fault Refusal :=
  if !s.time.refclk then .next s
  else
    let s : State := { s with time := { s.time with refclk := false, refLostAt := some s.time.now } }
    let s := s.each s.popDies fun s d => s.wr d CLK_PLL_STAT_REF_OK 0
    let s := s.updExtrap
    .next (if s.refNeeded then
        (s.each s.popDies fun s d => s.wr d CLK_PLL_STAT_REF_LOST 1).raisePkg evREFCLK_LOST noArg
      else s)

/-- A die becomes unhealthy for the loss of REFCLK (R658). -/
def State.refUnhealthy (s : State) (d : Die) : State :=
  let was := s.healthy d
  let s := s.updDie d fun x => { x with sb := { x.sb with clockFault := true, refFault := x.sb.refFault || was } }
  s.dieUnhealthy d 1

/-- REFCLK_HOLDOVER_END (R510, R658): every PLL reports unlock, so that every lane is held in MUTE; every die is unhealthy,
and no takeover or election runs. -/
def execRefclkHoldoverEnd (s : State) : Host.Outcome State Fault Refusal :=
  match s.time.refLostAt with
  | some t =>
    if !s.time.refclk && s.past t (msU 10) && s.refNeeded then
      let s := s.each s.popDies fun s d => s.each allPlls fun s p => s.pllUnlock d p
      .next ((s.each s.popDies State.refUnhealthy).chooseSuccessor)
    else .next s
  | none => .next s

/-- REFCLK_RETURN (R514, R658): the extrapolated period ends; the PLLs relock one by one. -/
def execRefclkReturn (s : State) : Host.Outcome State Fault Refusal :=
  if s.time.refclk then .next s
  else
    let s : State := { s with time := { s.time with refclk := true, refLostAt := none } }
    .next (s.each s.popDies fun s d => s.wr d CLK_PLL_STAT_REF_OK 1).updExtrap

/-! ### PLLs (R508, R520) -/

/-- The system PLL of a die has relocked: after the loss of REFCLK the die is healthy again (R658). -/
def State.sysRelocked (s : State) (d : Die) : State :=
  let ref := (s.die d).sb.refFault
  let s := s.updDie d fun x => { x with sb := { x.sb with clockFault := false, refFault := false } }
  if ref then
    let s := (s.setHealthy d true).chooseSuccessor
    { s with sb := { s.sb with pendRoutes := true } }
  else s

/-- PLL_LOCK (R508, R658): a PLL that runs achieves lock. -/
def execPllLock (d : Die) (p : Pll) (s : State) : Host.Outcome State Fault Refusal :=
  if s.pop d && !s.flag d (pllFld p) && (pllRuns d p (s.power d) || pllRuns d p (s.heading d)) && s.pllHasRef d p then
    let s := s.noteCauses.wr d (pllFld p) 1
    .next (if p = .sys then s.sysRelocked d else s)
  else .next s

/-- PLL_LOCK_LOST (R122, R472, R520): a line PLL's lane takes cause LINE_PLL; a system PLL's die is unhealthy. -/
def execPllLockLost (d : Die) (p : Pll) (s : State) : Host.Outcome State Fault Refusal :=
  if s.pop d && s.flag d (pllFld p) then
    let s := s.pllUnlock d p
    .next (if p = .sys then
        (s.updDie d fun x => { x with sb := { x.sb with clockFault := true } }).dieFails d 1
      else s)
  else .next s

end Sys2Proof.Machine
end

