-- ==== Sys2Proof/Machine/Faults.lean ====
section
/-! DEFINITION. Faults of a die: its reset, supply and lockstep faults, memory errors (R309, R378, R472, R475, R482, R564,
R626, R636). -/

namespace Sys2Proof.Machine

/-! ### What a reset of a die leaves (R8, R309, R482, R513, R520) -/

/-- The field of a table key, as far as its place tells. -/
def keyFld (k : Nat) : Fld := ⟨k / 2097152 % 256, k / 32 % 65536, k % 32, 0, .ro, 0⟩

/-- Whether the field of a key survives the reset of its die: what CLK keeps of package time and the slow clock (R520), the
mailbox epoch (R490), REFCLK's presence and the level of CLR_N, which are not the die's. -/
def keyKept (k : Nat) : Bool :=
  let f := keyFld k
  (f.blk == 0x02 && [3, 4, 5].contains f.word)
    || (f.blk == 0x02 && f.word == 1 && (f.hi == CLK_SLOW_RATIO.hi || f.hi == CLK_SLOW_CAL_VALID.hi))
    || (f.blk == 0x02 && f.word == 0 && f.hi == CLK_PLL_STAT_REF_OK.hi)
    || (f.blk == MBX_EPOCH.blk && f.word == MBX_EPOCH.word)
    || (f.blk == DACB_CTRL_CLR_N_LOW.blk && f.word == DACB_CTRL_CLR_N_LOW.word && f.hi == DACB_CTRL_CLR_N_LOW.hi)

/-- The next mailbox epoch: 0 is skipped (R482). -/
def mbxNext (e : Nat) : Nat := if 255 ≤ e then 1 else e + 1

/-- A die's own registers go to their Reset values, and what it holds to what a reset leaves; retired units stand in MRAM,
and what is known of the LDIS_N ball is not the die's. The registers that read the same on every die stay. -/
def State.dieReset (s : State) (d : Die) : State :=
  let mine (k : Nat) : Bool := k / 536870912 == d.val && !(keyFld k).shared && !keyKept k
  let s := { s with regs := NMap.drop s.regs mine }
  let s := s.wr d MBX_EPOCH (mbxNext (s.rd d MBX_EPOCH))
  let s := s.updDie d fun x =>
    { DieSt.reset with
      units := x.units
      sb := { SbDie.reset with reqs := x.sb.reqs.filter fun e => SlotMsg.kind e.msg == 3 || SlotMsg.kind e.msg == 4, lastHb := s.time.now, supplyFault := x.sb.supplyFault, clockFault := x.sb.clockFault,
                               refFault := x.sb.refFault }
      safe := { SafeDie.reset with ldisHigh := x.safe.ldisHigh, stuck := x.safe.stuck } }
  let s := if d = s.leader then s.wipeAttempts else s
  let s := s.clearCounters d
  let own (k : Nat) : Bool := k / 192 == d.val && decide (k < 1536)
  { s with tel := { s.tel with wraps := s.tel.wraps.filter (fun k => !own k), sets := s.tel.sets.filter fun x => x.die != d.val } }

/-- Whether a pending operation touches a die (R378). -/
def PendKind.touches (d : Die) : PendKind → Bool
  | .dacCh ds _ | .calibrate ds _ | .selftest ds => ds.contains d
  | .convert e _ => e == d
  | .capture l => l == d
  | .realign l => l == d
  | _ => false

/-- Pending operations that touch a die that has been reset end with DOMAIN_OFF (R363, R378). -/
def State.endPendOn (s : State) (d : Die) : State :=
  s.each (s.sl.pend.filter fun p => PendKind.touches d p.kind) fun s p =>
    s.finalReply p { status := .domainOff, state := s }

/-- The record that a self-test cut short leaves (R569, R572). -/
def State.incomplete (s : State) (d : Die) : State :=
  if !(s.die d).safe.underTest then s
  else
    let kind := if s.phase = .shuttingDown then 0 else 2
    let rec_ : TestRec :=
      { kind, verdict := 2, timeNs := s.ns, duration := 0, coverage := 0, failed := 0,
        hours := s.nv.safety.service / secU 3600, restored := 0, retired := 0 }
    let tests := s.nv.safety.tests.set d.val (some rec_) d.isLt
    { s with nv := { s.nv with safety := { s.nv.safety with tests := tests } } }

/-- A commit that a loss of supply or a reset interrupts (R605): the copies already written stand; which those are is open,
and the copy being written at that moment is bad or old (a free value says how many copies are done). No final reply
follows. -/
def State.cutCommit (s : State) : State :=
  match s.nv.committing with
  | none => s
  | some c =>
    let (v, s) := s.fresh
    let all := [false, true].flatMap fun second => s.popDies.map fun d => { c with die := d, second := second }
    let n := v % (all.length + 1)
    let done := all.take n
    let torn := (all.drop n).head?.map fun x => { x with crcOk := false }
    let now := done ++ (if v / 256 % 2 = 0 then [] else torn.toList)
    let rest := s.nv.copies.filter fun x => !(now.any fun y => y.die == x.die && y.second == x.second && y.slot == x.slot)
    let pend := s.sl.pend.filter fun p => p.kind != .commit c.slot
    State.syncNvm { s with
      nv := { s.nv with copies := rest ++ now, committing := none }
      sl := { s.sl with pend := pend } }

/-- Whether a limited change can be under way (R413, R611 to R613, R620): a secure CUSTODIAN session may have sent it and it
has a change left; FW_SECURITY_VERSION advances in a trial only. -/
def State.cutFits (s : State) (c : LimitCut) : Bool :=
  let sent := s.sl.sessions.any fun x => x.secure && x.priv == .custodian
  let f := s.nv.fuses
  match c with
  | .lifecycle => sent && f.lifecycle < 3 && !s.spent .lifecycle && s.mayAdvance (f.lifecycle + 1)
  | .secver => s.nv.trial.isSome && f.secver < s.nv.standby.secver && 0 < s.secverLeft
  | .permit => sent && f.permit && Part.cipher s.part && !s.spent .permit
  | .identity => sent && f.identity.isNone && !s.spent .identity
  | .ownerKey => sent && f.ownerKey.isNone && !s.spent .ownerKey
  | .revoke => sent && s.slotsUsed < 3
  | .ceilings lanes => sent && lanes != 0 && allDies.all fun d => !lanes.getLsbD d.val || 0 < s.ceilingLeft d

/-- What an interrupted change leaves in the permanent record (R612): it counts as used and the previous value stays. A used
ceiling entry holds the lane's previous value. -/
def limitUsed (c : LimitCut) (f : Fuses) : Fuses :=
  match c with
  | .ceilings lanes =>
    let again (w : List Nat) : List Nat := w ++ [w.getLast?.getD 0]
    { f with ceilings := Vector.ofFn fun d => if lanes.getLsbD d.val then again (f.ceilings.get d) else f.ceilings.get d }
  | c => { f with spent := c :: f.spent }

/-- A limited change that a loss of supply or a reset interrupts (R612); the next start records it. -/
def State.cutLimit (s : State) (cut : Option LimitCut) : State :=
  match cut with
  | none => s
  | some c =>
    if s.cutFits c then
      let s := s.updFuses (limitUsed c)
      { s with nv := { s.nv with limitCut := true } }
    else s

/-! ### Supply faults (R475, R564, R636) -/

/-- SUPPLY_FAULT (R472, R475, R564, R636): the event, the leader's resignation, the reset of the die, which stays without its
domains until the next start; LDIS_N is driven low. `cut` is the limited change that was being programmed (R612). -/
def execSupplyFault (d : Die) (cut : Option LimitCut) (s : State) : Host.Outcome State Fault Refusal :=
  if !s.pop d || s.phase == .powerOff || s.power d == .off then .next s
  else
    let lead := d == s.leader
    let s := (s.incomplete d).raiseAt s.leader d evSUPPLY_FAULT (evArg d.val 0xFF [])
    let s := s.cutCommit.cutLimit cut
    let s := if lead then s.electIn d true else s
    let s := (s.fabricOff d).portFails d
    let s := (s.dieReset d).updDie d fun x => { x with sb := { x.sb with supplyFault := true } }
    let s := (((s.wr d PWR_STATE_CUR 5).wr d PWR_STATE_TARGET 5).wr d PWR_STATE_CAUSE 1).ldisFollow d
    let s := (s.endPendOn d).showKeys
    let s := [Endpoint.core, .key, .safe, .pwr].foldl (fun s e => s.mbReset d e) s
    let s := s.dieFails d 1
    .next (if s.popDies.all fun e => (s.die e).sb.supplyFault then { s.endAllSessions with phase := .powerOff } else s)

/-! ### Lockstep (R475, R564) -/

/-- LOCKSTEP_MISMATCH (R475, R481, R564): the cores reset, with their mailbox endpoint; a leader resigns at once. -/
def execLockstepMismatch (d : Die) (s : State) : Host.Outcome State Fault Refusal :=
  if !s.pop d || s.level d .ctrl == .dead || s.phase == .powerOff then .next s
  else
    let s := (s.wr d SAFE_STAT_LOCKSTEP_SEEN 1).raise d evLOCKSTEP_MISMATCH (evArg d.val 0xFF [])
    let s := s.mbReset d .core
    .next (if d = s.leader then s.sbPush d 1 2 (.elect true (s.fwValid d)) else s)

/-! ### Memory errors (R564) -/

/-- Corrected errors are counted (R564, R575). -/
def State.eccCorrected (s : State) (d : Die) (n : Nat) : State := (s.cntN d 180 n).incSat d SAFE_ECC_CORR n

/-- An uncorrectable error resets the owning unit: a decoder engine is fenced with cause MEMORY (R227), the key manager's
keys are zeroised; the spec describes no state of another unit that its reset changes (R564). -/
def State.eccUncorrectable (s : State) (d : Die) (u : EccUnit) : State :=
  let s := (s.cnt d 181).incSat d SAFE_ECC_UNCORR 1
  let s := s.raise d evMEM_UNCORR (evArg d.val 0xFF [])
  match u with
  | .engine e => if s.domainOn d .rx then s.fence d e .memory else s
  | .keyManager =>
    let s := (s.zeroiseDie d).freshEpoch d false
    (if d = s.leader then s.dropAttempts else s).showKeys.mbReset d .key |>.kxKick
  | .other => s

/-- Whether a die's memories run. -/
def State.memRuns (s : State) (d : Die) : Bool := s.pop d && s.level d .ctrl != .dead && s.phase != .powerOff

/-- MEM_SCRUB (R564): once every second. -/
def execMemScrub (d : Die) (corrected : Nat) (uncorr : List EccUnit) (s : State) : Host.Outcome State Fault Refusal :=
  if s.memRuns d && periodDue (s.die d).safe.scrubAt (secU 1) s.time.now then
    let s := s.updSafe d fun x => { x with scrubAt := some (nextDue x.scrubAt (secU 1) s.time.now) }
    .next (s.each uncorr (fun s u => s.eccUncorrectable d u) |>.eccCorrected d corrected)
  else .next s

/-- ECC_ERROR_AT_ACCESS (R564). -/
def execEccErrorAtAccess (d : Die) (u : EccUnit) (uncorr : Bool) (s : State) : Host.Outcome State Fault Refusal :=
  .next (if s.memRuns d then (if uncorr then s.eccUncorrectable d u else s.eccCorrected d 1) else s)

end Sys2Proof.Machine
end

