-- ==== Sys2Proof/Machine/SelfTest.lean ====
section
/-! DEFINITION. The full self-test, its records, the units it returns and retires (R410, R566 to R572). -/

namespace Sys2Proof.Machine

/-! ### Units in service (R153, R232, R275) -/

/-- The retired units of MRAM as the registers show them. -/
def State.loadUnits (s : State) (d : Die) : State :=
  let u := (s.die d).units
  let s := match u.adc with
    | some i => ((s.wr d LRX_ADC_RETIRED i).wr d LRX_ADC_SPARE 0x7F).wr d LRX_ADC_NO_SPARE 1
    | none => (((s.wr d LRX_ADC_RETIRED 0x7F).wr d LRX_ADC_SPARE 0x40).wr d LRX_ADC_NO_SPARE 0).wr d LRX_ADC_DEGRADED 0
  let s := (s.wr d DEC_POOL_STAT_PERM u.perm.toNat).serviceChanged d
  if Part.cipher s.part then s.showPipes d else s

def bitCount8 (m : BitVec 8) : Nat := (List.range 8).countP fun i => m.getLsbD i
def bitCount4 (m : BitVec 4) : Nat := (List.range 4).countP fun i => m.getLsbD i

/-- The retired units after a test of a kind (R569): a failing item retires what it found faulty; a passing one returns what it
tested, but only in the shut-down self-test, kind 0 (R153, R232, R275). Item 3 tests the engines, 4 the pipelines, 5 the
sub-converters. -/
def unitsAfter (kind : Nat) (u : UnitRec) (o : TestOutcome) : UnitRec :=
  let failed (i : Nat) : Bool := o.failed.getLsbD i
  let back (i : Nat) : Bool := !failed i && kind == 0
  { perm := if failed 3 then u.perm ||| o.badEngines else if back 3 then 0 else u.perm
    txPipes := if failed 4 then u.txPipes ||| o.badTx else if back 4 then 0 else u.txPipes
    rxPipes := if failed 4 then u.rxPipes ||| o.badRx else if back 4 then 0 else u.rxPipes
    adc := if failed 5 then u.adc.or (o.badAdc.filter fun i => i < 65) else if back 5 then none else u.adc }

/-- Units counted by a record. -/
def unitCount (u : UnitRec) : Nat :=
  bitCount8 u.perm + bitCount4 u.txPipes + bitCount4 u.rxPipes + (if u.adc.isSome then 1 else 0)

/-- Units retired in `a` and not in `b`. -/
def unitsLost (a b : UnitRec) : Nat :=
  unitCount { perm := a.perm &&& ~~~b.perm, txPipes := a.txPipes &&& ~~~b.txPipes, rxPipes := a.rxPipes &&& ~~~b.rxPipes
              adc := if b.adc.isSome then none else a.adc }

/-! ### Records (R566, R572, R576) -/

/-- Service hours (R566). -/
def State.hours (s : State) : Nat := s.nv.safety.service / secU 3600

/-- BIST.AGE of a die: service hours since its last passing full self-test (R566, R576). -/
def State.bistAge (s : State) (d : Die) : Nat :=
  match s.nv.safety.passAt.get d with
  | some t => min 0xFFFFFFFE ((s.nv.safety.service - t) / secU 3600)
  | none => 0xFFFFFFFF

/-- The BIST registers follow the record of MRAM (R576). -/
def State.loadTest (s : State) (d : Die) : State :=
  match s.nv.safety.tests.get d with
  | some r =>
    (((s.wr d BIST_STAT_VERDICT r.verdict).wr d BIST_STAT_COVER r.coverage).wr d BIST_STAT_DURATION r.duration).wr d
      BIST_FAILED_ITEMS r.failed
  | none => s

/-- Stores a die's record (R572). -/
def State.putTest (s : State) (d : Die) (r : TestRec) : State :=
  let tests := s.nv.safety.tests.set d.val (some r) d.isLt
  let s : State := { s with nv := { s.nv with safety := { s.nv.safety with tests := tests } } }
  s.loadTest d

/-- The SELFTEST_RESULT TLV (R572). -/
def tlvTest (d : Die) (r : TestRec) : Tlv :=
  ⟨0x01A2, be 1 d.val ++ be 1 r.kind ++ be 1 r.verdict ++ [0#8] ++ be 8 r.timeNs ++ be 4 r.duration ++ be 2 r.coverage
    ++ be 2 r.failed ++ be 4 r.hours ++ be 1 r.restored ++ be 1 r.retired ++ be 2 0⟩

/-! ### The test (R567 to R569) -/

/-- The outcome of a die's test takes effect (R569): units, events, the record. -/
def State.endTest (s : State) (kind : Nat) (o : TestOutcome) : State :=
  let d := o.die
  let old := (s.die d).units
  let new := unitsAfter kind old o
  let back := old.perm &&& ~~~new.perm
  let s := s.updDie d fun x => { x with units := new }
  let s := s.wr d DEC_POOL_STAT_FENCED (s.rd d DEC_POOL_STAT_FENCED &&& (~~~back).toNat)
  let s := (s.loadUnits d).updCiph d fun c =>
    { c with txFenced := c.txFenced &&& ~~~new.txPipes, rxFenced := c.rxFenced &&& ~~~new.rxPipes }
  let s := if !o.failed.getLsbD 2 then s.wr d SAFE_STAT_MON_FAULT 0 else s
  let s := s.each ((List.range 11).filter fun i => o.failed.getLsbD i) fun s _ => s.raise d evSELFTEST_FAIL (evArg d.val 0xFF [])
  let pass := o.failed = 0#11
  let passAt := s.nv.safety.passAt.set d.val (some s.nv.safety.service) d.isLt
  let s : State := if pass then { s with nv := { s.nv with safety := { s.nv.safety with passAt := passAt } } } else s
  s.putTest d
    { kind, verdict := if pass then 0 else 1, timeNs := s.ns, duration := o.durationMs, coverage := o.coverage
      failed := o.failed.toNat, hours := s.hours, restored := unitsLost old new, retired := unitsLost new old }

/-- A die leaves the test: its links, its laser disable line, a trip that was held back (R568). -/
def State.leaveTest (s : State) (d : Die) : State :=
  let held := (s.safe d).tripHeld
  let s := (s.updSafe d fun x => { x with underTest := false, tripHeld := false }).wr d BIST_STAT_RUNNING 0
  let s := if held then s.raise d evLASER_TRIP (evArg d.val (s.rd d SAFE_STAT_TRIP_CAUSE) []) else s
  let s := if s.domainOn d .fabric then s.fabricOn d else s
  s.armFollow d

/-- The outcome that a test reports for a die. -/
def outcomeOf (l : List TestOutcome) (d : Die) : Option TestOutcome := l.find? fun o => o.die == d

/-- Whether outcomes cover a list of dies. -/
def coverDies (l : List TestOutcome) (ds : List Die) : Bool := ds.all fun d => (outcomeOf l d).isSome

/-- Every die of a test ends it. -/
def State.finishTest (s : State) (kind : Nat) (l : List TestOutcome) (ds : List Die) : State :=
  s.each ds fun s d => match outcomeOf l d with
    | some o => (s.endTest kind o).leaveTest d
    | none => s

/-! ### SELFTEST_RUN, SELFTEST_RESULT_GET (R409, R410) -/

def infoSelftestRun (dies : BitVec 8) : CmdInfo :=
  { code := 0x0804, priv := some .operator, cls := 7, dies := maskDies dies, bad := maskBad dies 0 }

/-- Whether a lane is in DOWN, its transmitter with it. -/
def State.laneIsDown (s : State) (l : Die) : Bool := s.rxState l == .down && !(s.tx l).up

/-- The lanes that must be in DOWN for a test of a die: its own, and those of the ports that use it (R410). -/
def State.testLanes (s : State) (d : Die) : List Die :=
  d :: ((s.plan.filter fun p => (Port.dies s.profile p).contains d).flatMap fun p => Port.dies s.profile p)

def applySelftestRun (dies : BitVec 8) (_ : Req) (_ : Session) (s : State) : Res :=
  let ds := maskDies dies
  if ds.any fun d => s.level d .ctrl == .dead then .fail .domainOff s
  else if !ds.all fun d => (s.testLanes d).all s.laneIsDown then .fail .notPermitted s
  else .pending (.selftest ds) (s.each ds State.beginTest)

/-- SELFTEST_RUN (R410, R567, R568). -/
def execSelftestRun (r : Req) (dies : BitVec 8) (s : State) : Host.Outcome State Fault Refusal :=
  .next (Slostan.run r (.selftestRun r dies) (infoSelftestRun dies) (applySelftestRun dies) s)

/-- The dies that a SELFTEST_RUN has under test. -/
def State.testing (s : State) : Option (List Die) :=
  let ds := s.popDies.filter fun d => (s.die d).safe.underTest
  if ds.isEmpty then none else some ds

def infoSelftestResultGet (dies : BitVec 8) : CmdInfo :=
  { code := 0x0805, priv := some .observer, read := true, dies := maskDies dies, bad := maskBad dies 0 }

/-- SELFTEST_RESULT_GET (R409, R572): a die without a record has none in the reply. -/
def execSelftestResultGet (r : Req) (dies : BitVec 8) (s : State) : Host.Outcome State Fault Refusal :=
  .next (Slostan.run r (.selftestResultGet r dies) (infoSelftestResultGet dies) (fun _ _ s =>
    .okWith s ((maskDies dies).filterMap fun d => (s.nv.safety.tests.get d).map (tlvTest d))) s)

/-! ### SELFTEST_OVERDUE (R566) -/

/-- A day of service. -/
def dayU : Nat := secU 86400

/-- Whether a die's service since its last pass exceeds 8,760 h; without a pass, all its service counts. -/
def State.overdue (s : State) (d : Die) : Bool :=
  decide (secU (8760 * 3600) < s.nv.safety.service - (s.nv.safety.passAt.get d).getD 0)

/-- SELFTEST_OVERDUE (R566): once per day of service. -/
def execSelftestOverdue (s : State) : Host.Outcome State Fault Refusal :=
  let due := match s.nv.safety.overdueAt with
    | some t => decide (t + dayU ≤ s.nv.safety.service)
    | none => true
  if s.started && due && s.popDies.any s.overdue then
    let s : State := { s with nv := { s.nv with safety := { s.nv.safety with overdueAt := some s.nv.safety.service } } }
    .next (s.raisePkg evSELFTEST_OVERDUE noArg)
  else .next s

end Sys2Proof.Machine
end

