-- ==== Sys2Proof/Machine/Diagnostics.lean ====
section
/-! DEFINITION. The diagnostics group: patterns, error injection, loopbacks, captures, and the PATG block's counts (R414 to
R416). -/

namespace Sys2Proof.Machine

def State.diag (s : State) (d : Die) : DiagSt := (s.die d).diag
def State.updDiag (s : State) (d : Die) (g : DiagSt → DiagSt) : State := s.updDie d fun x => { x with diag := g x.diag }

/-! ### Patterns (R415, R416) -/

/-- Whether a point stands on the line. -/
def Point.onLine : Point → Bool
  | .lineTx | .lineRx => true
  | _ => false

def Point.code : Point → Nat
  | .hostTx => 0
  | .hostRx => 1
  | .lineTx => 2
  | .lineRx => 3

/-- The die of a point's lane, and its number. -/
def Point.die (p : Point) (lane : Nat) : Option Die := if Point.onLine p then toDie? lane else if lane < 16 then toDie? (lane / 2) else none

/-- The PATG.CFG field of a point. -/
def Point.fld (p : Point) (lane : Nat) : Fld :=
  match p, lane % 2 with
  | .lineTx, _ => PATG_CFG_LINE_TX
  | .lineRx, _ => PATG_CFG_LINE_RX
  | .hostTx, 0 => PATG_CFG_HOST_TX0
  | .hostTx, _ => PATG_CFG_HOST_TX1
  | .hostRx, 0 => PATG_CFG_HOST_RX0
  | .hostRx, _ => PATG_CFG_HOST_RX1

/-- The checker of a point, if it is one that is checked. -/
def Point.checker (p : Point) (lane : Nat) : Option (Fin 3) :=
  match p with
  | .lineRx => some 0
  | .hostRx => some (if lane % 2 = 0 then 1 else 2)
  | _ => none

/-- The lock bit of a checker. -/
def checkerLock (c : Fin 3) : Fld :=
  match c with
  | 0 => PATG_STAT_LOCK_LRX
  | 1 => PATG_STAT_LOCK_HRX0
  | 2 => PATG_STAT_LOCK_HRX1

/-- Whether the lanes of the ports on a host lane are all in DOWN (R415). -/
def State.hostIdle (s : State) (h : Nat) : Bool :=
  s.plan.all fun p => !(Port.lanes s.profile p).contains h
    || (Port.dies s.profile p).all s.laneIsDown

/-- Whether a point can take a pattern: its lane is in DOWN, or the lanes of its host port are (R415). -/
def State.pointFree (s : State) (p : Point) (lane : Nat) : Bool :=
  if Point.onLine p then (oneDie lane).all s.laneIsDown else s.hostIdle lane

/-- A point's pattern; a new pattern starts its checker anew. -/
def State.setPattern (s : State) (p : Point) (lane pattern : Nat) : State :=
  match Point.die p lane with
  | none => s
  | some d =>
    let s := s.wr d (Point.fld p lane) pattern
    match Point.checker p lane with
    | none => s
    | some c =>
      let s := s.wr d (checkerLock c) 0
      if pattern = 0 then s else s.updDiag d fun x => { x with checks := x.checks.set c.val (0, 0) }

def infoPatternSet (p : Point) (pattern lane : Nat) : CmdInfo :=
  { code := 0x0B01, priv := some .operator, cls := 5, rt := true, insts := [if Point.onLine p then lane else lane / 2],
    dies := (Point.die p lane).toList,
    bad := firstBad [numBad pattern 3 1, numBad lane (if Point.onLine p then 8 else 16) 2] }

def applyPatternSet (p : Point) (pattern lane : Nat) (_ : Req) (_ : Session) (s : State) : Res :=
  if !(Point.die p lane).toList.all fun d => s.domainOn d .dataPath then .fail .domainOff s
  else if pattern != 0 && !s.pointFree p lane then .fail .notPermitted s
  else .ok (s.setPattern p lane pattern)

/-- PATTERN_SET (R415, R416). -/
def execPatternSet (r : Req) (p : Point) (pattern lane : Nat) (s : State) : Host.Outcome State Fault Refusal :=
  .next (Slostan.run r (.patternSet r p pattern lane) (infoPatternSet p pattern lane) (applyPatternSet p pattern lane) s)

/-- The counts of a checker. -/
def State.checkCounts (s : State) (d : Die) (c : Nat) : Nat × Nat := (s.diag d).checks.getD c (0, 0)

def infoPatternStatusGet (p : Point) (lane : Nat) : CmdInfo :=
  { code := 0x0B02, priv := some .observer, read := true, dies := (Point.die p lane).toList,
    bad := numBad lane (if Point.onLine p then 8 else 16) 1 }

/-- PATTERN_STATUS_GET (R414): a point that only sends has checked no bits. -/
def execPatternStatusGet (r : Req) (p : Point) (lane : Nat) (s : State) : Host.Outcome State Fault Refusal :=
  .next (Slostan.run r (.patternStatusGet r p lane) (infoPatternStatusGet p lane) (fun _ _ s =>
    match Point.die p lane with
    | none => .badParam 1 s
    | some d =>
      if !s.domainOn d .dataPath then .fail .domainOff s
      else
        let c := match Point.checker p lane with
          | some c => s.checkCounts d c.val
          | none => (0, 0)
        .okWith s [⟨0x01D2, be 1 (Point.code p) ++ be 8 c.1 ++ be 8 c.2⟩]) s)

/-- The pattern of a checker's point. -/
def checkerFld (c : Fin 3) : Fld :=
  match c with
  | 0 => PATG_CFG_LINE_RX
  | 1 => PATG_CFG_HOST_RX0
  | 2 => PATG_CFG_HOST_RX1

/-- PATTERN_CHECKER_SYNC (R416): a checker that runs gains or loses the pattern; `bits` and `errs` are what it has counted
since its last change. -/
def execPatternCheckerSync (l : Die) (c : Fin 3) (lock : Bool) (bits errs : Nat) (s : State) :
    Host.Outcome State Fault Refusal :=
  if s.pop l && s.domainOn l .dataPath && s.rd l (checkerFld c) != 0 then
    let was := s.checkCounts l c.val
    let s := s.updDiag l fun x =>
      { x with checks := x.checks.set c.val ((was.1 + bits) % 2 ^ 64, (was.2 + errs) % 2 ^ 64) }
    .next (s.wrB l (checkerLock c) lock)
  else .next s

/-- A read of PATG.BITS_LO or PATG.ERR_LO copies the upper half (R416). -/
def State.readPatgLo (s : State) (d : Die) (err : Bool) : Nat × State :=
  let c := s.checkCounts d (s.rd d PATG_SEL_CHECKER)
  let v := if err then c.2 else c.1
  (v % 2 ^ 32, s.wr d (if err then PATG_ERR_HI else PATG_BITS_HI) (v / 2 ^ 32))

/-- PATG_COUNT_LO_READ (R416). -/
def execPatgCountLoRead (r : Req) (d : Die) (err : Bool) (s : State) : Host.Outcome State Fault Refusal :=
  .next (Slostan.run r (.patgCountLoRead r d err) (regInfo d 0x19 (if err then 4 else 2) false) (fun _ _ s =>
    regGuard d 0x19 false s (.okWith (s.readPatgLo d err).2 [tlvData [(s.readPatgLo d err).1]])) s)

/-! ### Error injection (R414) -/

/-- The die of an injection's lane: a host lane for HOST_SYMBOL. -/
def injectDie (kind lane : Nat) : Option Die := if kind = 3 then (if lane < 16 then toDie? (lane / 2) else none) else toDie? lane

def infoErrorInject (kind lane : Nat) : CmdInfo :=
  { code := 0x0B03, priv := some .expert, cls := 5, rt := true, cip := kind == 2,
    insts := [if kind = 3 then lane / 2 else lane], dies := (injectDie kind lane).toList,
    bad := firstBad [numBad kind 4 0, numBad lane (if kind = 3 then 16 else 8) 0] }

def applyErrorInject (kind lane count : Nat) (_ : Req) (_ : Session) (s : State) : Res :=
  match injectDie kind lane with
  | none => .badParam 0 s
  | some d =>
    if !s.domainOn d .dataPath then .fail .domainOff s
    else if s.flag d PATG_STAT_INJ_BUSY then .fail .busy s
    else .ok (if count = 0 then s else s.setInject d (some (kind, if kind = 3 then lane % 2 else 0, count)))

/-- ERROR_INJECT (R414). -/
def execErrorInject (r : Req) (kind lane count : Nat) (s : State) : Host.Outcome State Fault Refusal :=
  .next (Slostan.run r (.errorInject r kind lane count) (infoErrorInject kind lane) (applyErrorInject kind lane count) s)

/-! ### Loopbacks (R415, R416) -/

def infoLoopbackSet (lane mode : Nat) : CmdInfo :=
  { code := 0x0B04, priv := some .operator, cls := 5, rt := true, insts := [lane], dies := oneDie lane,
    bad := firstBad [numBad lane 8 0, numBad mode 4 1] }

/-- Whether a loopback can be set on a die (R415): NONE always; HOST with the lanes of its host ports in DOWN. -/
def State.loopFree (s : State) (d : Die) (mode : Nat) : Bool :=
  mode == 0 || (s.laneIsDown d && (mode != 1 || (s.hostIdle (2 * d.val) && s.hostIdle (2 * d.val + 1))))

def applyLoopbackSet (lane mode : Nat) (_ : Req) (_ : Session) (s : State) : Res :=
  match toDie? lane with
  | none => .badParam 0 s
  | some d =>
    if !s.domainOn d .dataPath then .fail .domainOff s
    else if !s.loopFree d mode then .fail .notPermitted s
    else .ok (s.wr d PATG_CFG_LOOPBACK mode)

/-- LOOPBACK_SET (R415, R416). -/
def execLoopbackSet (r : Req) (lane mode : Nat) (s : State) : Host.Outcome State Fault Refusal :=
  .next (Slostan.run r (.loopbackSet r lane mode) (infoLoopbackSet lane mode) (applyLoopbackSet lane mode) s)

/-! ### Captures (R414) -/

/-- Whether a capture's settings are in range (CAPTURE_CFG TLV). -/
def CaptureCfg.ok (c : CaptureCfg) : Bool := decide (c.point < 4 ∧ c.trigger < 4 ∧ 1 ≤ c.len ∧ c.len ≤ 64 ∧ c.pre ≤ c.len)

def infoCaptureSet (lane : Nat) (c : CaptureCfg) : CmdInfo :=
  { code := 0x0B05, priv := some .operator, cls := 5, insts := [lane], dies := oneDie lane,
    bad := firstBad [numBad lane 8 0, if CaptureCfg.ok c then none else some 1] }

def applyCaptureSet (lane : Nat) (c : CaptureCfg) (_ : Req) (_ : Session) (s : State) : Res :=
  match toDie? lane with
  | none => .badParam 0 s
  | some d =>
    if !s.domainOn d .dataPath then .fail .domainOff s
    else if (s.diag d).capture.isSome then .fail .busy s
    else
      let s := s.updDiag d fun x => { x with capture := some c }
      .pending (.capture d) ((s.wrB d PATG_STAT_CAP_ARMED (c.trigger != 0)).wr d PATG_STAT_CAP_DONE 0)

/-- CAPTURE_SET (R414): a capture with trigger NOW starts at once. -/
def execCaptureSet (r : Req) (lane : Nat) (c : CaptureCfg) (s : State) : Host.Outcome State Fault Refusal :=
  .next (Slostan.run r (.captureSet r lane c) (infoCaptureSet lane c) (applyCaptureSet lane c) s)

/-- CAPTURE_DONE (R414): a triggered capture is full. -/
def execCaptureDone (l : Die) (samples : List (BitVec 8)) (s : State) : Host.Outcome State Fault Refusal :=
  match (s.diag l).capture with
  | some c =>
    if !s.flag l PATG_STAT_CAP_ARMED && samples.length == c.len * 1024 && s.domainOn l .dataPath then
      let s := s.updDiag l fun x => { x with capture := none, samples := samples }
      .next ((s.wr l PATG_STAT_CAP_DONE 1).finishPend (.capture l) .ok [])
    else .next s
  | none => .next s

def infoCaptureRead (lane : Nat) : CmdInfo :=
  { code := 0x0B06, priv := some .observer, read := true, dies := oneDie lane, bad := numBad lane 8 0 }

/-- CAPTURE_READ (R414): the samples of the lane's last capture. -/
def execCaptureRead (r : Req) (lane : Nat) (s : State) : Host.Outcome State Fault Refusal :=
  .next (Slostan.run r (.captureRead r lane) (infoCaptureRead lane) (fun _ _ s =>
    match toDie? lane with
    | none => .badParam 0 s
    | some d => if s.domainOn d .dataPath then .okWith s [⟨0x01D6, (s.diag d).samples⟩] else .fail .domainOff s) s)

end Sys2Proof.Machine
end

