-- ==== Sys2Proof/Machine/RegAccess.lean ====
section
/-! DEFINITION. Register access (R6, R7, R363, R417 to R419, R463): what a register word reads as, what reading it does,
what writing it does, and the commands that read and write registers without a row of their own. -/

namespace Sys2Proof.Machine

/-! ### Reading a word -/

/-- Whether FAULT_N is held low (R560, R621, R635). -/
def State.faultLow (s : State) : Bool :=
  s.phase == .powerOff || s.phase == .inReset || s.phase == .recovery || !s.sl.alarms.isEmpty
  || s.popDies.any fun d => s.flag d SAFE_STAT_TRIPPED || s.flag d CIPH_FLAGS_SF_C || s.flag d SAFE_STAT_MON_FAULT

/-- The rate-matched port whose base is a die's first or second host lane (R69). -/
def State.rmPort (s : State) (d : Die) (n : Nat) : Option Port :=
  if s.rateMatched then s.plan.find? fun p => p.first.val == 2 * d.val + n else none

/-- Fill levels of a rate-matched port's FIFOs at its base die (R69). -/
def State.rmFill (s : State) (d : Die) (n : Nat) : Nat :=
  match s.rmPort d n with
  | some p =>
    let q := s.portQ p.first
    min 128 (q.fifo.length - s.dueToLine p) * 2 ^ 24 + min 128 (q.back.length + s.dueToHost p) * 2 ^ 16
  | none => 0

/-- What a DACB or MADC word reads beside its stored fields (R548, R549). -/
def State.anaView (s : State) (d : Die) (blk word : Nat) : Nat :=
  if blk = 0x10 then
    if word = 0 then (allChs.filter fun c => s.dacHeld d c).foldl (fun a c => a + 2 ^ (8 + c.val)) 0
    else if word < 16 ∨ 64 ≤ word then 0
    else
      let c : Fin 6 := Fin.ofNat 6 ((word - 16) / 8)
      if word % 8 = 2 then (s.dac d c).queue.length * 2 ^ 16
      else if word % 8 = 3 then (if s.dacHeld d c then 2 else 0)
      else 0
  else if word = 21 ∨ word = 37 then
    let x := s.conv d (Fin.ofNat 2 ((word - 16) / 16))
    (if x.act.isCal then 2 ^ 15 else 0) + (if x.injPend then 2 ^ 14 else 0) + (if x.busy then 2 ^ 13 else 0) + x.fifo.length
  else 0

/-- The wiring fields of D2D.PORT_STAT: WIRED and the peer of each port, 0 where it is unwired (R453, R489). -/
def State.wiring (s : State) (d : Die) : Nat :=
  ([0, 1, 2].map fun k => match s.peer d k with
    | some e => 2 ^ (3 + k) + e.val * 2 ^ (21 + 3 * k)
    | none => 0).sum

/-- The bits of a word that the machine works out when it is read: identity, mirrors, fill levels, counts. -/
def State.viewOf (s : State) (d : Die) (blk word : Nat) : Nat :=
  match blk, word with
  | 0x00, 0 => Part.code s.part * 2 ^ 16 + (if Part.cipher s.part then 2 ^ 15 else 0) + 2 ^ 8 + d.val
  | 0x00, 1 => (if s.healthy d then 4 else 0)
      + (if s.flag 0 SB_STAT_SUCC_VALID && s.rd 0 SB_STAT_SUCCESSOR == d.val then 2 else 0)
      + (if s.leader == d && (s.sb.elected || s.phase == .recovery) then 1 else 0)
  | 0x02, 5 => min 0xFFFFFFFF s.time.uncert
  | 0x03, 1 => (diesMask s.popDies).toNat * 2 ^ 16
  | 0x04, 0 => s.wiring d
  | 0x05, 6 => s.rmFill d 0
  | 0x05, 7 => s.rmFill d 1
  | 0x08, 6 => s.fadeProgress d * 2 ^ 16
  | 0x0D, 2 => s.nextDue
  | 0x0F, 0 => s.leader.val * 2 ^ 8
  | 0x10, w => s.anaView d 0x10 w
  | 0x11, w => s.anaView d 0x11 w
  | 0x12, 1 => if s.faultLow then 1 else 0
  | 0x14, 6 => (s.die d).tags.length * 2 ^ 16
  | 0x15, 3 => (s.die d).log.length * 2 ^ 16
  | 0x16, 1 => s.fullIn d * 2 ^ 24
  | _, _ => 0

/-- A register word as it stands, reading it leaving no trace (R6, R7): reserved bits and unused words read 0. -/
def State.peekWord (s : State) (d : Die) (blk word : Nat) : Nat :=
  match blk, word with
  | 0x05, 6 => if (s.rmPort d 0).isNone then 0 else s.wordOf d 0x05 6 + s.rmFill d 0
  | 0x05, 7 => if (s.rmPort d 1).isNone then 0 else s.wordOf d 0x05 7 + s.rmFill d 1
  | 0x06, w => if s.standard then 0 else s.wordOf d 0x06 w
  | 0x07, 1 => (s.wr d LTX_STAT_SQ_CAUSE (s.txCause d)).wordOf d 0x07 1
  | 0x09, 6 => if s.standard then s.wordOf d 0x09 6 else 0
  | 0x0A, 6 => (s.wrB d DEC_DSK_STAT_SLEWING (s.slewing d)).wordOf d 0x0A 6
  | 0x13, 2 => s.bistAge d
  | 0x15, 1 => s.wordOf d 0x15 1 ||| 0xF40
  | b, w => s.wordOf d b w + s.viewOf d b w

/-! ### LINE_STATUS_GET (R396) -/

def infoLineStatusGet (lanes : BitVec 8) : CmdInfo :=
  { code := 0x0109, priv := some .observer, read := true, dies := maskDies lanes, bad := maskBad lanes 0 }

/-- The LINE_STATUS TLV (R394); a register whose domain is off is given as 0 (R363). -/
def tlvLineStatus (s : State) (l : Die) : Tlv :=
  let word (blk w : Nat) : Bytes := be 4 (if s.blockOff l blk false then 0 else s.peekWord l blk w)
  ⟨0x012D, be 1 l.val ++ [0#8, 0#8, 0#8] ++ word 0x07 1 ++ word 0x08 1 ++ word 0x0A 1 ++ word 0x0A 6⟩

/-- LINE_STATUS_GET (R396). -/
def execLineStatusGet (r : Req) (lanes : BitVec 8) (s : State) : Host.Outcome State Fault Refusal :=
  .next (Slostan.run r (.lineStatusGet r lanes) (infoLineStatusGet lanes)
    (fun _ _ s => .okWith s ((maskDies lanes).map (tlvLineStatus s))) s)

/-! ### Reads that act -/

/-- A read of LFR.TX_FC_LO or RX_FC_LO: the low word, with the upper 16 bits copied into the HI register (R105). -/
def State.readFcLo (s : State) (d : Die) (rx : Bool) : Nat × State :=
  let v := (if rx then (s.pool d).rxFc else (s.tx d).fc) % 2 ^ 48
  (v % 2 ^ 32, s.wr d (if rx then LFR_RX_FC_HI_FC_HI else LFR_TX_FC_HI_FC_HI) (v / 2 ^ 32))

/-- Reads a register word: its value, and the state after the copies, removals and clears that the read makes
(R6, R105, R416, R520, R540, R600). -/
def State.readWord (s : State) (d : Die) (blk word : Nat) : Nat × State :=
  match blk, word with
  | 0x02, 2 => s.readTimeLo d
  | 0x09, 2 => s.readFcLo d false
  | 0x09, 4 => s.readFcLo d true
  | 0x11, 20 => s.readInjRes d 0
  | 0x11, 36 => s.readInjRes d 1
  | 0x11, 22 => s.readFifo d 0
  | 0x11, 38 => s.readFifo d 1
  | 0x14, 2 => s.readLatLo d
  | 0x19, 2 => s.readPatgLo d false
  | 0x19, 4 => s.readPatgLo d true
  | b, w => (s.peekWord d b w, s)

/-- Reads `n` words from one on, in order. -/
def State.readWords (d : Die) (blk : Nat) : Nat → Nat → State → List Nat × State
  | 0, _, s => ([], s)
  | n + 1, w, s =>
    let (v, s) := s.readWord d blk w
    let (vs, s) := State.readWords d blk n (w + 1) s
    (v :: vs, s)

/-! ### Writing a word -/

/-- The bits of a word in fields that `p` accepts. -/
def fldBits (blk word : Nat) (p : Fld → Bool) : Word :=
  ((blockRows blk).filter fun f => f.word == word && p f).foldl
    (fun a f => a ||| BitVec.ofNat 32 ((2 ^ f.width - 1) * 2 ^ f.lo)) 0#32

/-- The read-write fields of a word as they stand. -/
def State.rwWord (s : State) (d : Die) (blk word : Nat) : Word :=
  ((blockRows blk).filter fun f => f.word == word && f.acc == .rw).foldl
    (fun a f => a ||| BitVec.ofNat 32 (s.rd d f * 2 ^ f.lo)) 0#32

/-- The word that a write under a mask presents to the register (R419): the masked bits of the value over the read-write
bits as they stand; a bit that the mask leaves out clears and starts nothing. -/
def State.merge (s : State) (d : Die) (blk word : Nat) (v mask : Word) : Word :=
  (s.rwWord d blk word &&& ~~~mask) ||| (v &&& mask)

/-- The value of a field in a word that is written. -/
def Fld.of (f : Fld) (m : Word) : Nat := m.toNat / 2 ^ f.lo % 2 ^ f.width

/-- Read-write fields that some instance of their register does not have: MRX wakes off P0 and P1 (R519), the input of
CMP0 (R519), the phase of channels without a shared sine (R548). -/
def Fld.fixedAt (f : Fld) (d : Die) : Bool :=
  (f == PWR_WAKE_EN_MRX && 2 ≤ d.val) || f == PWR_WAKE_CMP_AIN_SEL 0
  || (f.blk == 0x10 && f.word ≥ 16 && f.word % 8 == 6 && !(f.word == 30 || f.word == 38))

/-- One field's part in a write (R6). -/
def State.writeFld (m : Word) (d : Die) (s : State) (f : Fld) : State :=
  match f.acc with
  | .rw => if f.fixedAt d then s else s.wr d f (f.of m)
  | .w1c => s.wr d f (s.rd d f - (s.rd d f &&& f.of m))
  | _ => s

/-- The access rules of R6 alone: read-write fields take the value, ones clear write-1-to-clear bits, all else is
ignored. -/
def State.writeFields (s : State) (d : Die) (blk word : Nat) (m : Word) : State :=
  ((blockRows blk).filter fun f => f.word == word).foldl (State.writeFld m d) s

/-- Whether a write's mask reaches a field. -/
def Fld.inMask (f : Fld) (mask : Word) : Bool := f.of mask != 0

/-- A write that a rule of its register refuses with BAD_PARAM when `bad` holds. -/
def State.writeIf (s : State) (d : Die) (blk word : Nat) (m : Word) (bad : Bool) : Res :=
  if bad then .badParam 1 s else .ok (s.writeFields d blk word m)

/-- The entries of a list that one register word of four holds take the values of another list. -/
def takeWord (word : Nat) (new old : List Int) : List Int :=
  (List.range (max new.length old.length)).map fun i => if i / 4 = word then new.getD i 0 else old.getD i 0

/-- LTX (R111, R113, R116 to R118, R138 to R147); TX_ADAPT_SET carries note NS. -/
def writeLtx (d : Die) (word : Nat) (m mask : Word) (s : State) : Res :=
  let t := s.writeFields d 0x07 word m
  if word = 0 then
    let t := (s.setForce d (LTX_CTRL_FORCE.of m)).writeFields d 0x07 0 m
    ((Res.ok t).andThen s fun t => if LTX_CTRL_FIR_SWAP.of m = 1 then t.requestFirSwap d else .ok t).andThen s fun t =>
      if LTX_CTRL_PD_SWAP.of m = 1 then t.requestPdSwap d else .ok t
  else if word = 2 then s.writeIf d 0x07 2 m (LTX_DAC_CTRL_SHAPE.of m == 3)
  else if word = 3 then .ok (s.setDelay d m)
  else if word = 5 then
    if LTX_ADAPT_CTRL_MIN_GAP.of m < 64 then .badParam 1 s
    else if s.standard && (mask &&& 0x03FFFFFF#32) != 0#32 then .fail .notPermitted s
    else .ok t
  else if word = 7 then s.writeIf d 0x07 7 m (LTX_MASK_CTRL_ACTION.of m == 3)
  else if 16 ≤ word ∧ word < 24 then
    let b := (word - 16) / 4
    if 3 ≤ word % 4 then .ok s
    else if s.adaptBusy d then .fail .busy s
    else if s.rd d LTX_CTRL_FIR_ACTIVE = b then .fail .bankBusy s
    else if LineFormat.firValid ((List.range 10).map fun i => t.rdInt d (LTX_FIR b i)) then
      .ok ((t.noteFir d b).keepTx d fun k => k.setFir b (takeWord (word % 4) (t.firBank d b) (k.fir b)))
    else .badParam 1 s
  else if 64 ≤ word ∧ word < 96 then
    if s.rd d LTX_CTRL_PD_ACTIVE = (word - 64) / 16 then .fail .bankBusy s
    else
      let b := (word - 64) / 16
      .ok ((t.notePd d b).keepTx d fun k => k.setPd b (takeWord (word % 16) (t.pdTable d b) (k.pd b)))
  else .ok t

/-- LRX (R162, R164, R170, R185, R190 to R203). -/
def writeLrx (d : Die) (word : Nat) (m : Word) (s : State) : Res :=
  let t := s.writeFields d 0x08 word m
  let v := m.toNat
  if word = 2 then
    s.writeIf d 0x08 2 m (!decide (1 ≤ LRX_FRONT_CAP_THR.of m ∧ LRX_FRONT_CAP_THR.of m ≤ 9
      ∧ 10 ≤ LRX_FRONT_LOS_THR.of m ∧ LRX_FRONT_LOS_THR.of m ≤ 30))
  else if word = 4 then
    .ok (if s.flag d LRX_ADC_ROT_EN then t else t.updRx d fun x => { x with rotAt := s.time.now })
  else if word = 5 then s.writeFadeCtrl d m
  else if word = 8 then
    if s.flag d LRX_CTRL_DFE_AD then .fail .busy s
    else .ok (t.updRx d fun x => { x with dfeSet := (t.rdInt d LRX_DFE_D1, t.rdInt d LRX_DFE_D2) })
  else if 9 ≤ word ∧ word ≤ 11 then
    if s.flag d LRX_CTRL_NLE_AD then .fail .busy s
    else .ok (t.updRx d fun x => { x with nleSet := (List.range 6).map fun i => t.rdInt d (LRX_NLE_Q i) })
  else if word = 13 then s.setPath d (v / 2 ^ 24) (v / 2 ^ 16 % 256) (v / 16 % 16) (v % 4) 1
  else if 32 ≤ word ∧ word < 160 then
    if 22 ≤ (word - 32) % 32 then .ok s
    else if s.cbBusy d ((word - 32) / 32) then .fail .bankBusy s
    else .ok t
  else .ok t

/-- DEC (R218, R227, R233, R236 to R242); FRAME_LOCK_SET and DESKEW_SET carry note NS. -/
def writeDec (d : Die) (word : Nat) (m : Word) (s : State) : Res :=
  if word = 0 then
    if !markCtrlOk (DEC_MARK_CTRL_TOL.of m) (DEC_MARK_CTRL_LOCK_N.of m) (DEC_MARK_CTRL_LOSS_N.of m)
        (DEC_MARK_CTRL_SLIP_WIN.of m) then .badParam 1 s
    else if s.standard then .fail .notPermitted s
    else .ok (s.writeFields d 0x0A 0 m)
  else if word = 2 then s.setPoolCtrl d (some (DEC_POOL_CTRL_CAP.of m)) (BitVec.ofNat 8 (DEC_POOL_CTRL_MAN_FENCE.of m)) 1
  else if word = 5 && s.standard then .fail .notPermitted s
  else .ok (s.writeFields d 0x0A word m)

/-- The waveform that a write of one of a channel's words 4 to 7 asks for (R529, R548). -/
def State.waveAfter (t : State) (d : Die) (c : Nat) : Wave :=
  { shape := t.rd d (DACB_WAVE_SHAPE c), span := t.rd d (DACB_WAVE_SPAN c), offset := t.rd d (DACB_WAVE_OFFSET c),
    rate := t.rd d (DACB_RATE c), relPhase := t.rd d (DACB_PHASE_REL_PHASE c), point := t.rd d (DACB_EVT_POINT c) }

/-- DACB (R548): a write has the effect of the command that sets the same field. -/
def writeDacb (d : Die) (word : Nat) (m mask : Word) (s : State) : Res :=
  let t := s.writeFields d 0x10 word m
  if word = 0 then regSwClr d (DACB_CTRL_SW_CLR.of m == 1) (State.writeFld m d s DACB_CTRL_CLEAR_SEEN)
  else if word < 16 ∨ 64 ≤ word then .ok s
  else
    let c : Fin 6 := Fin.ofNat 6 ((word - 16) / 8)
    match word % 8 with
    | 0 =>
      let cfg : DacCfg := ⟨(DACB_CFG_RANGE c.val).of m, (DACB_CFG_PARK c.val).of m, (DACB_CFG_CLEAR c.val).of m⟩
      if 2 < cfg.range then .badParam 1 s
      else match s.dacCfgRefused c cfg d with
        | some st => .refuse st 1 s
        | none => .ok (s.dacSetCfg d c cfg)
    | 1 => if (DACB_OUT_CODE c.val).inMask mask then regDacCode d c ((DACB_OUT_CODE c.val).of m) s else .ok s
    | 2 => if (DACB_QUEUE_PUSH c.val).inMask mask then regDacPush d c ((DACB_QUEUE_PUSH c.val).of m) s else .ok s
    | 3 => .ok t
    | _ =>
      let w := t.waveAfter d c.val
      if waveBad c w then .badParam 1 s
      else match s.waveRefused c w d with
        | some st => .refuse st 1 s
        | none => .ok (s.dacWave d c w)

/-- MADC (R541, R543, R549). -/
def writeMadc (d : Die) (word : Nat) (m mask : Word) (s : State) : Res :=
  let t := s.writeFields d 0x11 word m
  if 64 ≤ word ∧ word < 96 then s.writeIf d 0x11 word m (decide (4 < (MADC_SEQ_GAIN 0 0).of m))
  else
    let n : Fin 2 := Fin.ofNat 2 ((word - 16) / 16)
    if word = 16 ∨ word = 32 then
      let src := (MADC_CTRL_TRIG_SRC n.val).of m
      if 4 ≤ src ∧ src ≤ 6 then .badParam 1 s
      else .ok { t with cmdTrigger := t.cmdTrigger || (src == 3 && (MADC_CTRL_TRIG_SRC n.val).inMask mask) }
    else if word = 17 ∨ word = 33 then
      if m.toNat < 64 then .badParam 1 s else .ok (t.updConv d n fun x => { x with timerAt := s.time.now })
    else if word = 18 ∨ word = 34 then s.writeIf d 0x11 word m (decide (4 < (MADC_NATIVE_GAIN n.val).of m))
    else if word = 19 ∨ word = 35 then
      if 4 < (MADC_INJ_GAIN n.val).of m then .badParam 1 s
      else .ok (if (MADC_INJ_START n.val).of m = 1 ∧ t.rd d (MADC_INJ_SRC n.val) = 3 then t.ownTrigger d n else t)
    else .ok t

/-- The points of PATG.CFG, each with the lane number that names it on a die (R416). -/
def patgPoints (d : Die) : List (Point × Nat) :=
  [(.lineTx, d.val), (.lineRx, d.val), (.hostTx, 2 * d.val), (.hostRx, 2 * d.val), (.hostTx, 2 * d.val + 1),
    (.hostRx, 2 * d.val + 1)]

/-- PATG.CFG (R415, R416): a direct write is checked as PATTERN_SET and LOOPBACK_SET check it, for each field it
changes. -/
def writePatgCfg (d : Die) (m : Word) (s : State) : Res :=
  let ps := patgPoints d
  let loop := PATG_CFG_LOOPBACK.of m
  let changed := ps.filter fun (p, l) => s.rd d (Point.fld p l) != (Point.fld p l).of m
  if 3 < loop || ps.any (fun (p, l) => (Point.fld p l).of m == 3) then .badParam 1 s
  else if changed.any (fun (p, l) => (Point.fld p l).of m != 0 && !s.pointFree p l)
      || (s.rd d PATG_CFG_LOOPBACK != loop && !s.loopFree d loop) then .fail .notPermitted s
  else .ok ((s.each changed fun s (p, l) => s.setPattern p l ((Point.fld p l).of m)).wr d PATG_CFG_LOOPBACK loop)

/-- MGMT.TX_PRESET (R451): at once in force in mode FIXED. -/
def writeMgmtPreset (d : Die) (m : Word) (s : State) : Res :=
  if 40 < MGMT_TX_PRESET_PRE.of m + MGMT_TX_PRESET_MAIN.of m + MGMT_TX_PRESET_POST.of m then .badParam 1 s
  else
    let t := s.writeFields d 0x0E 2 m
    .ok (if t.flag d MGMT_CTRL_MODE then t.takePreset (if d = 0 then .a else .b) else t)

/-- MGMT.CTRL (R422, R449): a change of MODE, FEC_EN or EEE_EN, or RESTART, restarts the port after the reply. -/
def writeMgmtCtrl (d : Die) (m : Word) (s : State) : Res :=
  let t := s.writeFields d 0x0E 0 m
  if MGMT_CTRL_LPI_IDLE.of m = 0 then .badParam 1 s
  else if MGMT_CTRL_RESTART.of m = 1 || [MGMT_CTRL_MODE, MGMT_CTRL_FEC_EN, MGMT_CTRL_EEE_EN].any fun f => s.rd d f != f.of m
  then .ok (t.restartLater (if d = 0 then .a else .b))
  else .ok t

/-- Writes of the other blocks whose registers have rules beyond R6. -/
def writeRest (d : Die) (blk word : Nat) (m mask : Word) (s : State) : Res :=
  let t := s.writeFields d blk word m
  let check (bad : Bool) : Res := if bad then .badParam 1 s else .ok t
  match blk, word with
  | 0x01, 3 => .ok (t.powerEval 1)
  | 0x01, 6 => check (decide ((PWR_WAKE_CMP_THR 0).of m < (PWR_WAKE_CMP_HYST 0).of m))
  | 0x01, 7 => check (decide ((PWR_WAKE_CMP_THR 1).of m < (PWR_WAKE_CMP_HYST 1).of m ∨ 11 < (PWR_WAKE_CMP_AIN_SEL 1).of m))
  | 0x02, 6 => check (!decide (125 ≤ CLK_INTERVAL_INTERVAL_US.of m ∧ CLK_INTERVAL_INTERVAL_US.of m ≤ 100000))
  | 0x03, 0 => check (decide (8 < SB_CTRL_STARVE_THR.of m))
  | 0x03, 2 => check (SB_DEADLINE0_CLASS3.of m == 0)
  | 0x03, 3 => check ([SB_DEADLINE1_CLASS4, SB_DEADLINE1_CLASS5, SB_DEADLINE1_CLASS6, SB_DEADLINE1_CLASS7].any
      fun f => f.of m == 0)
  | 0x05, 5 => check (!decide (9 ≤ HOST_RM_CTRL_HI_MARK.of m ∧ HOST_RM_CTRL_HI_MARK.of m ≤ 120
      ∧ 8 ≤ HOST_RM_CTRL_LO_MARK.of m ∧ HOST_RM_CTRL_LO_MARK.of m ≤ 119
      ∧ HOST_RM_CTRL_LO_MARK.of m < HOST_RM_CTRL_HI_MARK.of m))
  | 0x0B, 1 => if 64 < TOP_CTRL_COPY_HOLD.of m then .badParam 1 s else if s.standard then .fail .notPermitted s else .ok t.unprotRise
  | 0x0C, 0 => check (CIPH_CFG_RESYNC_THR.of m == 0)
  | 0x0D, 0 => .ok ((s.setRetain d (KEY_POLICY_RETAIN.of m == 1)).powerEval 1)
  | 0x0F, 1 =>
    if !decide (5 ≤ FAB_CFG_HELLO_INT.of m ∧ FAB_CFG_HELLO_INT.of m ≤ 50 ∧ 2 ≤ FAB_CFG_DEAD_MULT.of m
      ∧ FAB_CFG_DEAD_MULT.of m ≤ 10) then .badParam 1 s
    else .ok (if s.rd d FAB_CFG_LEAF = t.rd d FAB_CFG_LEAF then t else t.treeRecompute)
  | 0x12, 0 => .ok (t.ldisFollow d)
  | 0x12, 1 => .ok (t.safetyClrFollow d)
  | 0x14, 0 => .ok (if CNT_CTRL_CLEAR_ALL.of m = 1 then t.clearCounters d else t)
  | 0x14, 1 => check (decide (191 < CNT_SEL_INDEX.of m))
  | 0x14, 5 => .ok (if CNT_WR_HI.inMask mask then t.commitCounter d (CNT_WR_HI.of m) else t)
  | 0x19, 1 => check (PATG_SEL_CHECKER.of m == 3)
  | _, _ => .ok t

/-- Writes a register word under a mask (R6, R7, R419): a field that a command owns acts as that command does. -/
def State.writeWord (s : State) (d : Die) (blk word : Nat) (v mask : Word) : Res :=
  let m := s.merge d blk word v mask
  match blk with
  | 0x07 => writeLtx d word m mask s
  | 0x08 => writeLrx d word m s
  | 0x0A => writeDec d word m s
  | 0x0E =>
    if word = 0 then writeMgmtCtrl d m s
    else if word = 2 then writeMgmtPreset d m s
    else s.writeIf d 0x0E word m false
  | 0x10 => writeDacb d word m mask s
  | 0x11 => writeMadc d word m mask s
  | 0x19 => if word = 0 then writePatgCfg d m s else writeRest d 0x19 word m mask s
  | b => writeRest d b word m mask s

/-! ### Addresses, privileges (R363, R138, R189, R316, R574) -/

/-- The parts of a register address (R363). -/
def addrDie (a : Word) : Die := Fin.ofNat 8 (a.toNat / 2 ^ 26)
def addrBlk (a : Word) : Nat := a.toNat / 2 ^ 18 % 256
def addrWord (a : Word) : Nat := a.toNat / 4 % 65536

/-- Whether an address is malformed (R363), or names a word past the block's last one. -/
def addrBad (a : Word) : Bool :=
  decide (a.toNat / 2 ^ 29 ≠ 0 ∨ a.toNat % 4 ≠ 0 ∨ 0x1A ≤ addrBlk a ∨ lastWord (addrBlk a) < addrWord a)

/-- The bits of a word that an OPERATOR session can write too (R138, R189, R316, R574). -/
def operatorBits (blk word : Nat) : Word :=
  match blk, word with
  | 0x07, 0 => 0x00000300#32
  | 0x07, 2 => 0x000000F3#32
  | 0x07, 3 => 0x0FFF0E3F#32
  | 0x07, 5 => 0x80000000#32
  | 0x08, 0 => 0x00000180#32
  | 0x08, 2 => 0x00000F1F#32
  | 0x08, 3 => 0x00000003#32
  | 0x0C, 0 => 0x0000FF00#32
  | 0x12, 0 => 0x00000001#32
  | _, _ => 0#32

/-- The bits of a register that a write acts on: read-write bits that it changes, bits that it clears, and bits that act
at once. -/
def State.touched (s : State) (d : Die) (blk word : Nat) (m : Word) : Word :=
  ((s.rwWord d blk word ^^^ m) &&& fldBits blk word fun f => f.acc == .rw)
    ||| (m &&& fldBits blk word fun f => f.acc == .w1c || f.acc == .wo)

/-- The privilege a write needs: OPERATOR when all it acts on is open to OPERATOR sessions. -/
def State.writePriv (s : State) (d : Die) (blk word : Nat) (m : Word) : Privilege :=
  if operatorBits blk word ≠ 0#32 ∧ s.touched d blk word m &&& ~~~(operatorBits blk word) = 0#32 then .operator
  else if blk = 0x0D then .custodian else .expert

def infoRegRead (a : Word) (count : Option Nat) : CmdInfo :=
  { regInfo (addrDie a) (addrBlk a) (addrWord a) false with
    bad := firstBad [if addrBad a then some 0 else none,
      count.bind fun n => if 1 ≤ n ∧ n ≤ 256 then none else some 1,
      if lastWord (addrBlk a) < addrWord a + count.getD 1 - 1 then some 1 else none] }

def applyRegRead (a : Word) (count : Option Nat) (_ : Req) (_ : Session) (s : State) : Res :=
  regGuard (addrDie a) (addrBlk a) false s
    (let q := State.readWords (addrDie a) (addrBlk a) (count.getD 1) (addrWord a) s
     .okWith q.2 [tlvData q.1])

/-- REG_READ (R363, R417, R419). -/
def execRegRead (r : Req) (a : Word) (count : Option Nat) (s : State) : Host.Outcome State Fault Refusal :=
  .next (Slostan.run r (.regRead r a count) (infoRegRead a count) (applyRegRead a count) s)

/-- The row of REG_WRITE, whose privilege is that of the bits it acts on. -/
def infoRegWrite (s : State) (a v : Word) (mask : Option Word) : CmdInfo :=
  let d := addrDie a
  let m := s.merge d (addrBlk a) (addrWord a) v (mask.getD (BitVec.allOnes 32))
  { regInfo d (addrBlk a) (addrWord a) true with
    priv := some (s.writePriv d (addrBlk a) (addrWord a) m)
    cls := if addrBlk a < 0x1A then blockClass (addrBlk a) else 0
    bad := if addrBad a then some 0 else none }

def applyRegWrite (a v : Word) (mask : Option Word) (_ : Req) (_ : Session) (s : State) : Res :=
  regGuard (addrDie a) (addrBlk a) true s
    (s.writeWord (addrDie a) (addrBlk a) (addrWord a) v (mask.getD (BitVec.allOnes 32)))

/-- REG_WRITE (R363, R400, R417, R419). -/
def execRegWrite (r : Req) (a v : Word) (mask : Option Word) (s : State) : Host.Outcome State Fault Refusal :=
  .next ((Slostan.run r (.regWrite r a v mask) (infoRegWrite s a v mask) (applyRegWrite a v mask) s).fireCommand).doRestarts

/-- FRAME_COUNT_LO_READ (R105). -/
def execFrameCountLoRead (r : Req) (d : Die) (rx : Bool) (s : State) : Host.Outcome State Fault Refusal :=
  .next (Slostan.run r (.frameCountLoRead r d rx) (regInfo d 0x09 (if rx then 4 else 2) false) (fun _ _ s =>
    regGuard d 0x09 false s (.okWith (s.readFcLo d rx).2 [tlvData [(s.readFcLo d rx).1]])) s)

/-! ### Register access over the sideband (R462, R463) -/

/-- The register access that a REQ slot asks of its target: data and whether the domain is off. A malformed address, and CIPH and
KEY on an N part (R3), read 0 and take no write. -/
def State.sbAccess (s : State) (d : Die) (write : Bool) (a v : Word) : Nat × Bool × State :=
  if addrBad a || (!Part.cipher s.part && (addrBlk a == 0x0C || addrBlk a == 0x0D)) then (0, false, s)
  else if s.blockOff d (addrBlk a) write then (0, true, s)
  else if write then (0, false, ((s.writeWord d (addrBlk a) (addrWord a) v (BitVec.allOnes 32)).state.fireCommand).doRestarts)
  else
    let q := s.readWord d (addrBlk a) (addrWord a)
    (q.1, false, q.2)

/-- The group of a latched set that a read REQ asks for (R583): the parity of its boundary and the group's number. -/
def collectAsked (write : Bool) (a : Word) : Option (Nat × Nat) :=
  let w := addrWord a
  if write || addrBlk a != 0x14 || w < 0x100 || 0x110 ≤ w || 6 ≤ w % 8 then none else some ((w - 0x100) / 8, w % 8)

/-- The response slots for a group of 32 counters of a die's latched set, one for each counter (R583). -/
def ctrSlots (dst src : Die) (tag : Nat) (x : LatchSet) (i : Nat) : List SlotMsg :=
  (List.range 32).map fun k =>
    let c := 192 * dst.val + 32 * i + k
    .ctr src tag x.num c (x.vals.get c) (x.wraps.contains c) (k == 31)

/-- SB_REQ (R462, R463, R583): a REQ that has come to its target, which answers with RSP, a response of class 2; to the collection of
counters with one slot for each. -/
def execSbReq (src dst : Die) (tag : Nat) (write : Bool) (a v : Word) (s : State) : Host.Outcome State Fault Refusal :=
  match s.takeSlot dst src fun m => m == .req dst tag write a v with
  | none => .next s
  | some (_, s) =>
    let sets := match collectAsked write a with
      | some (odd, i) =>
        if s.blockOff dst 0x14 false then none
        else ((s.tel.sets.filter fun x => x.die == dst.val && x.num % 2 == odd).getLast?).map fun x => ctrSlots dst src tag x i
      | none => none
    match sets with
    | some (m :: ms) => .next (s.sbQueue dst 2 1 m ms)
    | _ =>
      let (data, off, t) := s.sbAccess dst write a v
      .next (t.sbPush dst 2 1 (.rsp src tag off (BitVec.ofNat 32 data)))

end Sys2Proof.Machine
end

