-- ==== Sys2Proof/Machine/Commands.lean ====
section
/-! DEFINITION. What a staged command runs (R374, R375) and what a restore's records run (R608): for each request that
is no read, its row of the command reference and its effect, as its own meaning uses them. -/

namespace Sys2Proof.Machine

/-- A request's row and its effect. -/
abbrev Op := CmdInfo × (Req → Session → State → Res)

/-- The requests that are no reads, but for those of the settings store, shut-down and the lifecycle. -/
def opOf (s : State) : Instr → Option Op
  | .arbSet _ dies arbs => some (infoArbSet dies arbs, applyArbSet dies arbs)
  | .eventSubscribe _ rate sevMin mask => some (infoEventSubscribe rate sevMin, applyEventSubscribe rate sevMin mask)
  | .eventAck _ seq => some (infoEventAck, applyEventAck seq)
  | .eventFilterSet _ mask sevMin rate => some (infoEventFilterSet sevMin rate, applyEventFilterSet mask sevMin rate)
  | .eventUnsubscribe _ => some (infoEventUnsubscribe, applyEventUnsubscribe)
  | .clearAll _ d => some (regInfo d 0x14 0 true, fun _ _ s => regGuard d 0x14 true s (.ok (s.clearCounters d)))
  | .counterWriteCommit _ d hi =>
    some (regInfo d 0x14 5 true, fun _ _ s => regGuard d 0x14 true s (.ok (s.commitCounter d hi)))
  | .tagSet _ k seed => some (infoTagSet k seed, applyTagSet k seed)
  | .timebaseSet _ ns frac => some (infoTimebaseSet ns frac, applyTimebaseSet ns frac)
  | .intervalSet _ us syncEn => some (infoIntervalSet us, applyIntervalSet us syncEn)
  | .laserCeilingSet _ cs => some (infoLaserCeilingSet cs, applyLaserCeilingSet cs)
  | .nodeIdentitySet _ confirm => some (infoNodeIdentitySet confirm, applyNodeIdentitySet)
  | .ownerKeySet _ key => some (infoOwnerKeySet key, applyOwnerKeySet key)
  | .ownerKeyRevoke _ confirm => some (infoOwnerKeyRevoke confirm, applyOwnerKeyRevoke)
  | .fwLoad _ image => some (infoFwLoad, applyFwLoad image)
  | .sessionOpen _ _ => some (infoSessionOpen, fun _ _ s => .fail .notPermitted s)
  | .secureHello _ _ _ _ _ => some (infoSecureHello, fun _ _ s => .fail .notPermitted s)
  | .secureFinish _ _ _ _ => some (infoSecureFinish, fun _ _ s => .fail .notPermitted s)
  | .sessionClose _ =>
    some (infoSessionClose, fun r _ s => .ok (s.updSession r.channel fun x => { x with closing := true }))
  | .slostanCfgSet _ e idle pm => some (infoSlostanCfgSet e idle pm, applySlostanCfgSet e idle pm)
  | .claim _ cs lease => some (infoClaim cs lease, applyClaim cs lease)
  | .release _ cs => some (infoRelease cs, applyRelease cs)
  | .leaseRenew _ => some (infoLeaseRenew, fun _ _ s => .ok s)
  | .begin _ m => some (infoBegin, applyBegin m)
  | .abort _ => some (infoAbort, applyAbort)
  | .dacChSet _ dies ch cfg => some (infoDacChSet dies ch cfg, applyDacChSet dies ch cfg)
  | .dacWrite _ dies ch codes => some (infoDacWrite dies ch codes, applyDacWrite dies ch codes)
  | .dacCodeWrite _ d c code => some (regInfo d 0x10 (17 + 8 * c.val) true, fun _ _ s => regDacCode d c code s)
  | .dacQueuePush _ d c code => some (regInfo d 0x10 (18 + 8 * c.val) true, fun _ _ s => regDacPush d c code s)
  | .dacWaveSet _ dies ch w => some (infoDacWaveSet dies ch w, applyDacWaveSet dies ch w)
  | .swClr _ d on => some (regInfo d 0x10 0 true, fun _ _ s => regSwClr d on s)
  | .madcConvert _ dies conv input preset =>
    some (infoMadcConvert dies conv input preset, applyMadcConvert dies conv input preset)
  | .madcSeqSet _ dies conv es preset =>
    some (infoMadcSeqSet dies conv es preset, applyMadcSeqSet dies conv es preset)
  | .madcTriggerSet _ dies conv source delay period =>
    some (infoMadcTriggerSet dies conv source delay period, applyMadcTriggerSet dies conv source delay period)
  | .madcCalibrate _ dies conv k => some (infoMadcCalibrate dies conv, applyMadcCalibrate dies conv k)
  | .madcTestdacSet _ dies conv code => some (infoMadcTestdacSet dies conv code, applyMadcTestdacSet dies conv code)
  | .injStart _ d n =>
    some (regInfo d 0x11 (19 + 16 * n.val) true, fun _ _ s =>
      regGuard d 0x11 true s (.ok (if s.rd d (MADC_INJ_SRC n.val) = 3 then s.ownTrigger d n else s)))
  | .safetyLimitSet _ ls => some (infoSafetyLimitSet ls, applySafetyLimitSet ls)
  | .safetyReset _ lane retest => some (infoSafetyReset lane, applySafetyReset lane retest)
  | .nodeSet _ node => some (infoNodeSet node, fun _ _ s => .ok (s.updFab fun f => { f with nodeNext := some node }))
  | .routeSet _ rs => some (infoRouteSet rs, applyRouteSet rs)
  | .txBankLoad _ lane bank c swap => some (infoTxBankLoad lane bank c, applyTxBankLoad lane bank c swap)
  | .txPdLoad _ lane bank c swap => some (infoTxPdLoad lane bank c, applyTxPdLoad lane bank c swap)
  | .firSwap _ l => some (regInfo l 0x07 0 true, fun _ _ s => regGuard l 0x07 true s (s.requestFirSwap l))
  | .pdSwap _ l => some (regInfo l 0x07 0 true, fun _ _ s => regGuard l 0x07 true s (s.requestPdSwap l))
  | .launchDelayWrite _ l w =>
    some ({ regInfo l 0x07 3 true with priv := some .operator }, fun _ _ s =>
      regGuard l 0x07 true s (.ok (s.setDelay l w)))
  | .lineTxSet _ lanes force swing shape delay adaptEn =>
    some (infoLineTxSet lanes force swing shape adaptEn, applyLineTxSet lanes force swing shape delay adaptEn)
  | .txAdaptSet _ lane w => some (infoTxAdaptSet lane w, applyTxAdaptSet lane w)
  | .txMaskSet _ lane lims action => some (infoTxMaskSet lane lims action, applyTxMaskSet lane lims action)
  | .decPoolSet _ lane cap manFence => some (infoDecPoolSet lane cap manFence, applyDecPoolSet lane cap manFence)
  | .manFenceWrite _ l m =>
    some (regInfo l 0x0A 2 true, fun _ _ s => regGuard l 0x0A true s (s.setPoolCtrl l none m 1))
  | .rxBankLoad _ lane bank main c swap fade =>
    some (infoRxBankLoad lane bank main c fade, applyRxBankLoad lane bank main c swap fade)
  | .rxBankSwap _ lane bank fade => some (infoRxBankSwap lane bank fade, applyRxBankSwap lane bank fade)
  | .fadeReq _ l w => some (regInfo l 0x08 5 true, fun _ _ s => regGuard l 0x08 true s (s.writeFadeCtrl l w))
  | .rxAdaptSet _ lane adapt enables dfe nle =>
    some (infoRxAdaptSet lane enables nle, applyRxAdaptSet lane adapt enables dfe nle)
  | .rxPathSet _ lane pin clear maxTries tryFrames =>
    some (infoRxPathSet lane pin clear maxTries tryFrames, applyRxPathSet lane pin clear maxTries tryFrames)
  | .pathClear _ l w =>
    some (regInfo l 0x08 13 true, fun _ _ s =>
      regGuard l 0x08 true s (s.setPath l (w.toNat / 2 ^ 24) (w.toNat / 2 ^ 16 % 256) (w.toNat / 16 % 16) (w.toNat % 4) 1))
  | .lineRxSet _ lanes capThr losThr bw fastEn fbSuggest =>
    some (infoLineRxSet lanes capThr losThr bw fastEn fbSuggest, applyLineRxSet lanes capThr losThr bw fastEn fbSuggest)
  | .frameLockSet _ lane tol lockN lossN slipWin =>
    some (infoFrameLockSet lane tol lockN lossN slipWin, applyFrameLockSet lane tol lockN lossN slipWin)
  | .powerPolicySet _ gs => some (infoPowerPolicySet s gs, applyPowerPolicySet gs)
  | .wakeCmpSet _ dies cs en => some (infoWakeCmpSet dies cs, applyWakeCmpSet dies cs en)
  | .cipherPolicySet _ p => some (keyInfo 0x0501 .custodian true none, applyCipherPolicySet p)
  | .keyModeSet _ m => some (keyInfo 0x0502 .custodian true none, applyKeyModeSet m)
  | .keyPskSet _ psk =>
    some (keyInfo 0x0503 .custodian true (if psk.all fun b => b == 0#8 then some 0 else none), fun _ _ s =>
      .ok (s.setPsk (some (padTo 32 psk))))
  | .keyLifeSet _ fl tl => some (keyInfo 0x0504 .custodian true (keyLifeBad fl tl), applyKeyLifeSet fl tl)
  | .keyRetainSet _ en =>
    some (keyInfo 0x0505 .custodian true none, fun _ _ s =>
      .ok ((s.each s.popDies fun s d => s.setRetain d en).powerEval 1))
  | .keyZeroise _ psk => some (keyInfo 0x0506 .custodian true none, applyKeyZeroise psk)
  | .keyAgreeStart _ => some ({ keyInfo 0x0507 .operator false none with ns := true }, applyKeyAgreeStart)
  | .keyRack _ => some ({ keyInfo 0x0508 .operator false none with ns := true, rt := true }, applyKeyRack)
  | .cipherSfClear _ lane =>
    some ({ keyInfo 0x0509 .custodian true (numBad lane 8 0) with ns := true, dies := oneDie lane }, applyCipherSfClear lane)
  | .lineRealign _ lane => some (infoLineRealign lane, applyLineRealign lane)
  | .deskewSet _ lane guard => some (infoDeskewSet lane guard, applyDeskewSet lane guard)
  | .toppingSet _ rxEn copyHold =>
    some ({ infoToppingSet rxEn copyHold with insts := s.popDies.map Fin.val }, applyToppingSet rxEn copyHold)
  | .profileSet _ prof clock ps => some (infoProfileSet s prof clock ps, applyProfileSet prof clock ps)
  | .portPlanSet _ ps => some (infoPortPlanSet s ps, applyPortPlanSet ps)
  | .hostLaneSet _ lane eq pol => some (infoHostLaneSet lane eq, applyHostLaneSet lane eq pol)
  | .lineUp _ lanes => some (infoLineUpDown 0x0102 lanes, applyLineUp lanes)
  | .lineDown _ lanes => some (infoLineUpDown 0x0106 lanes, applyLineDown lanes)
  | .mgmtPortSet _ p fixed fec eee => some (infoMgmtPortSet p, applyMgmtPortSet p fixed fec eee)
  | .mgmtRestart _ p =>
    some (regInfo (MPort.die p) 0x0E 0 true, fun _ _ s => regGuard (MPort.die p) 0x0E true s (.ok (s.restartLater p)))
  | .selftestRun _ dies => some (infoSelftestRun dies, applySelftestRun dies)
  | .patternSet _ p pattern lane => some (infoPatternSet p pattern lane, applyPatternSet p pattern lane)
  | .errorInject _ kind lane count => some (infoErrorInject kind lane, applyErrorInject kind lane count)
  | .loopbackSet _ lane mode => some (infoLoopbackSet lane mode, applyLoopbackSet lane mode)
  | .captureSet _ lane c => some (infoCaptureSet lane c, applyCaptureSet lane c)
  | .regWrite _ a v mask => some (infoRegWrite s a v mask, applyRegWrite a v mask)
  | _ => none

end Sys2Proof.Machine
end

