-- ==== Sys2Proof/Machine/Vintage.lean ====
section
/-! DEFINITION. The active configuration, the settings store, restores (R401, R499, R602 to R610). A vintage's body is a
list of the commands that its setting records stand for, in the order in which a restore applies them. -/

namespace Sys2Proof.Machine

/-! ### Setting records (R602, R603) -/

/-- The envelope of a setting record: a record has none. -/
def recReq : Req := ⟨.portA, 0#8, 0#16, 0#16, .good, [], 0#48, none⟩

/-- The address of a register (R363). -/
def regAddr (d : Die) (blk word : Nat) : Word := BitVec.ofNat 32 (d.val * 2 ^ 26 + blk * 2 ^ 18 + word * 4)

/-- A REG_WRITE record with the register's present value in the bits of a mask. -/
def State.regRec (s : State) (d : Die) (blk word mask : Nat) : Instr :=
  .regWrite recReq (regAddr d blk word) (BitVec.ofNat 32 (s.wordOf d blk word)) (some (BitVec.ofNat 32 mask))

/-- One lane or die as a mask. -/
def oneMask (d : Die) : BitVec 8 := 1#8 <<< d.val

/-- The records of a host lane. -/
def State.hostRec (s : State) (h : HostLane) : Instr :=
  let d := HostLane.die h
  let n := portNo h
  .hostLaneSet recReq h.val
    (some (s.rd d (HOST_LANE_CTRL_TX_PRE n), s.rd d (HOST_LANE_CTRL_TX_POST n), s.rd d (HOST_LANE_CTRL_TX_AMP n)))
    (some (s.flag d (HOST_LANE_CTRL_TX_INV n), s.flag d (HOST_LANE_CTRL_RX_INV n)))

/-- The records of a lane's transmitter: the swap mark names the active bank and the active table. -/
def State.txRecs (s : State) (l : Die) : List Instr :=
  let k := (s.tx l).kept
  [.lineTxSet recReq (oneMask l) (some (s.rd l LTX_CTRL_FORCE)) (some (s.rd l LTX_DAC_CTRL_SWING))
      (some (s.rd l LTX_DAC_CTRL_SHAPE)) (some (BitVec.ofNat 32 (s.wordOf l 0x07 3))) (some (s.rd l LTX_ADAPT_CTRL_EN))]
    ++ [0, 1].map (fun b => .txBankLoad recReq l.val b ((List.range 10).map fun i => (k.fir b).getD i 0) (k.firAct == b))
    ++ [0, 1].map (fun b => .txPdLoad recReq l.val b ((List.range 64).map fun i => (k.pd b).getD i 0) (k.pdAct == b))
    ++ [.txAdaptSet recReq l.val (BitVec.ofNat 32 (s.wordOf l 0x07 5)),
      .txMaskSet recReq l.val ((List.range 8).map fun i => s.rd l (LTX_MASK_LIM i)) (s.rd l LTX_MASK_CTRL_ACTION),
      s.regRec l 0x09 0 6]

/-- The records of a lane's receiver, frame lock and deskew. -/
def State.rxRecs (s : State) (l : Die) : List Instr :=
  [.lineRxSet recReq (oneMask l) (s.rd l LRX_FRONT_CAP_THR) (s.rd l LRX_FRONT_LOS_THR) (s.rd l LRX_TIMING_BW)
      (s.rd l LRX_CTRL_FAST_EN) (s.rd l LRX_CTRL_FB_SUGGEST),
    .rxAdaptSet recReq l.val (some (BitVec.ofNat 32 (s.wordOf l 0x08 7))) (some (s.wordOf l 0x08 0 / 4 % 32))
      (some (s.rx l).dfeSet) (some (s.rx l).nleSet),
    .rxPathSet recReq l.val (s.rd l LRX_PATH_CTRL_PIN) 0 (s.rd l LRX_PATH_CTRL_MAX_TRIES) (s.rd l LRX_PATH_CTRL_TRY_FRAMES),
    s.regRec l 0x0A 2 0x1F,
    .frameLockSet recReq l.val (s.rd l DEC_MARK_CTRL_TOL) (s.rd l DEC_MARK_CTRL_LOCK_N) (s.rd l DEC_MARK_CTRL_LOSS_N)
      (s.rd l DEC_MARK_CTRL_SLIP_WIN),
    .deskewSet recReq l.val (s.rd l DEC_DSK_CTRL_GUARD),
    s.regRec l 0x0B 1 0x17F]

/-- The policy and the mode of the registers. -/
def State.policyNow (s : State) : CipherPolicy :=
  match s.rd 0 CIPH_CFG_POLICY with
  | 0 => .gcmRequired
  | 1 => .gcmPreferred
  | _ => .clear

def State.modeNow (s : State) : KeyMode := if s.rd 0 CIPH_CFG_MODE = 2 then .psk else .hybrid

/-- The cipher records of a C part. -/
def State.cipherRecs (s : State) : List Instr :=
  if !Part.cipher s.part then []
  else
    [.cipherPolicySet recReq s.policyNow, .keyModeSet recReq s.modeNow,
        .keyLifeSet recReq (some (s.rd 0 CIPH_LIFE_FRAME_LOG2)) (some (s.rd 0 CIPH_LIFE_TIME_LIMIT))]
      ++ s.popDies.flatMap fun d => [s.regRec d 0x0D 0 2, s.regRec d 0x0C 0 0xFF00]

/-- The wake settings of a die. -/
def State.wakeRecs (s : State) (d : Die) : List Instr :=
  [.wakeCmpSet recReq (oneMask d)
      [⟨false, 0, s.rd d (PWR_WAKE_CMP_THR 0), s.rd d (PWR_WAKE_CMP_HYST 0)⟩,
        ⟨true, s.rd d (PWR_WAKE_CMP_AIN_SEL 1), s.rd d (PWR_WAKE_CMP_THR 1), s.rd d (PWR_WAKE_CMP_HYST 1)⟩] none,
    s.regRec d 0x01 3 0xEF, s.regRec d 0x01 4 0x1F, s.regRec d 0x01 5 0xFFFFFFFF]

/-- The records of a DAC channel: settings, direct code, waveform. -/
def State.dacRecs (s : State) (d : Die) (c : Fin 6) : List Instr :=
  let range := match (s.dac d c).park with
    | some p => p.newRange
    | none => s.rd d (DACB_CFG_RANGE c.val)
  [.dacChSet recReq (oneMask d) c.val ⟨range, s.rd d (DACB_CFG_PARK c.val), s.rd d (DACB_CFG_CLEAR c.val)⟩,
    .dacWrite recReq (oneMask d) c.val [s.rd d (DACB_OUT_CODE c.val)],
    .dacWaveSet recReq (oneMask d) c.val
      { shape := s.rd d (DACB_WAVE_SHAPE c.val), span := s.rd d (DACB_WAVE_SPAN c.val)
        offset := s.rd d (DACB_WAVE_OFFSET c.val), rate := s.rd d (DACB_RATE c.val)
        relPhase := s.rd d (DACB_PHASE_REL_PHASE c.val), point := s.rd d (DACB_EVT_POINT c.val) }]

/-- The records of a monitor converter. -/
def State.convRecs (s : State) (d : Die) (n : Nat) : List Instr :=
  let src := s.rd d (MADC_CTRL_TRIG_SRC n)
  [.madcSeqSet recReq (oneMask d) n
      ((List.range (s.rd d (MADC_CTRL_SEQ_LEN n) + 1)).map fun i =>
        ⟨s.rd d (MADC_SEQ_INPUT n i), s.rd d (MADC_SEQ_TS n i), s.rd d (MADC_SEQ_GAIN n i)⟩)
      (some (s.rd d (MADC_CTRL_PRESET n)))]
    ++ (if src < 4 then
        [.madcTriggerSet recReq (oneMask d) n src (s.rd d (MADC_CTRL_DELAY n)) (some (s.rd d (MADC_TIMER_PERIOD n)))]
      else [s.regRec d 0x11 (16 + 16 * n) 0x0007FFFF, s.regRec d 0x11 (17 + 16 * n) 0xFFFFFFFF])
    ++ [.madcTestdacSet recReq (oneMask d) n
          (if s.flag d (MADC_TESTDAC_CONNECT n) then s.rd d (MADC_TESTDAC_CODE n) else 0xFFFF),
        s.regRec d 0x11 (18 + 16 * n) 0x000F07FF, s.regRec d 0x11 (19 + 16 * n) 0xBFFFFFFF]

/-- The records of the fabric and the protocol. -/
def State.fabricRecs (s : State) : List Instr :=
  let port (p : MPort) : List Instr :=
    let d := MPort.die p
    [.mgmtPortSet recReq p (s.flag d MGMT_CTRL_MODE) (s.flag d MGMT_CTRL_FEC_EN) (s.flag d MGMT_CTRL_EEE_EN),
      s.regRec d 0x0E 2 0x7FFF, s.regRec d 0x0E 0 0x00FF0000]
  [.nodeSet recReq (s.fab.nodeNext.getD (s.rd 0 FAB_NODE)), .routeSet recReq s.fab.statics]
    ++ port .a ++ port .b
    ++ [s.regRec 0 0x0F 1 0x00FFFF01,
      .slostanCfgSet recReq (some (s.sl.etherNext.getD s.sl.etherType)) (some s.sl.idle) (some s.sl.plainMax)]
    ++ s.popDies.flatMap fun d =>
      [.arbSet recReq (oneMask d) ([3, 4, 5, 6, 7].map fun k => (k, s.rd d (sbDeadline k))), s.regRec d 0x03 0 0xF]

/-- The active configuration (R602) as setting records, in the order in which a restore applies them. -/
def captureConfig (s : State) : List Instr :=
  let ds := s.popDies
  [.profileSet recReq s.profile (some s.clockMode) s.plan]
    ++ ds.flatMap (fun d => [0, 1].map fun n => s.hostRec (Fin.ofNat 16 (2 * d.val + n)))
    ++ ds.flatMap s.txRecs ++ ds.flatMap s.rxRecs ++ s.cipherRecs ++ ds.flatMap s.wakeRecs
    ++ [.intervalSet recReq (some (s.rd 0 CLK_INTERVAL_INTERVAL_US)) (some (s.flag 0 CLK_INTERVAL_SYNC_EN))]
    ++ ds.flatMap (fun d => allChs.flatMap (s.dacRecs d)) ++ ds.flatMap (fun d => [0, 1].flatMap (s.convRecs d))
    ++ [.tagSet recReq s.tel.tagNext.1 s.tel.tagNext.2]
    ++ ds.flatMap (fun d => [s.regRec d 0x15 0 0xFFFFFFFF, s.regRec d 0x15 1 0xFFFFFFFF]) ++ [s.regRec 0 0x15 2 0x1FFFF]
    ++ s.fabricRecs ++ [.powerPolicySet recReq s.policy, .lineUp recReq (diesMask (ds.filter fun l => (s.tx l).up))]

/-- Rootstock (R602): every register at its Reset value, profile FULL, clock mode LOCKED, an empty plan, no lane up. -/
def rootstock (p : Part) : List Instr := captureConfig { State.reset with part := p, profile := .full }

/-! ### Applying records (R608, R609) -/

/-- The lanes that a body brings up. -/
def upSet (body : List Instr) : BitVec 8 :=
  body.foldl (fun m c =>
    match c with
    | .lineUp _ lanes => lanes
    | _ => m) 0#8

/-- The code that takes a code's place on CH0 when it lies above the lane's ceiling (R609). -/
def State.fitCode (s : State) (d : Die) (clear code : Nat) : Nat :=
  if !s.aboveCeiling d 0 code then code else if s.aboveCeiling d 0 clear then 0 else clear

/-- The dies whose CH0 codes in a body lie above the lane's ceiling (R609). -/
def State.overCodes (s : State) (body : List Instr) : List Die :=
  body.flatMap fun c =>
    match c with
    | .dacChSet _ m 0 g => (maskDies m).filter fun d => s.aboveCeiling d 0 g.park || s.aboveCeiling d 0 g.clear
    | .dacWrite _ m 0 codes => (maskDies m).filter fun d => codes.any (s.aboveCeiling d 0)
    | _ => []

/-- A record as R609 adjusts it by the withdrawn permit and by the ceilings; `hot` are the dies of `overCodes`. -/
def State.adjustRec (s : State) (hot : List Die) (c : Instr) : Instr :=
  match c with
  | .cipherPolicySet r _ => if s.nv.fuses.permit then c else .cipherPolicySet r .gcmRequired
  | .dacChSet r m 0 g =>
    match maskDies m with
    | d :: _ =>
      let clear := s.fitCode d 0 g.clear
      .dacChSet r m 0 { g with park := s.fitCode d clear g.park, clear := clear }
    | [] => c
  | .dacWrite r m 0 codes =>
    match maskDies m with
    | d :: _ => .dacWrite r m 0 (codes.map fun v => s.fitCode d (s.rd d (DACB_CFG_CLEAR 0)) v)
    | [] => c
  | .dacWaveSet r m 0 w =>
    if (maskDies m).any fun d => w.shape != 0 && (hot.contains d || s.aboveCeiling d 0 (waveTop w)) then
      .dacWaveSet r m 0 { w with shape := 0 }
    else c
  | _ => c

/-- What a restore leaves for a lane's next frame (R608). -/
def State.stageTx (s : State) (l : Die) (g : TxLoad → TxLoad) : Res :=
  if s.txOn [l] then .ok (s.updTx l fun x => { x with load := some (g (x.load.getD x.kept)) }) else .fail .domainOff s

/-- RX_ADAPT_SET as a restore applies it: DFE and NLE values are written whatever the enables hold (R608). -/
def State.restoreAdapt (s : State) (l : Die) (adapt : Option Word) (enables : Option Nat) (dfe : Option (Int × Int))
    (nle : Option (List Int)) : Res :=
  if !s.rxOn [l] then .fail .domainOff s
  else
    let s := s.setRxAdapt l (adapt.getD 0#32)
    let s := s.setRxEnables l (enables.getD 0)
    let s := s.setDfe l (dfe.getD (0, 0)).1 (dfe.getD (0, 0)).2
    .ok ((s.setNle l (nle.getD [])).updRx l fun x => { x with dfeSet := dfe.getD (0, 0), nleSet := nle.getD x.nleSet })

/-- The settings of a DAC channel (R506, R525): a held channel takes them and stays at its clear code. -/
def State.restoreCfg (s : State) (d : Die) (c : Fin 6) (g : DacCfg) : State :=
  if s.dacHeld d c then
    let s := (s.wr d (DACB_CFG_RANGE c.val) g.range).wr d (DACB_CFG_PARK c.val) g.park
    (s.wr d (DACB_CFG_CLEAR c.val) g.clear).setOut d c g.clear
  else s.dacSetCfg d c g

/-- A direct code that a restore sets: kept by a held channel (R525), taken at the next update by another. -/
def State.restoreCode (s : State) (d : Die) (c : Fin 6) (v : Nat) : State :=
  if s.dacHeld d c then s.wr d (DACB_OUT_CODE c.val) v else s.dacPut d c [v]

/-- A waveform that a restore sets: none starts on a held channel (R525). -/
def State.restoreWave (s : State) (d : Die) (c : Fin 6) (w : Wave) : State :=
  if s.dacHeld d c then
    let x := s.dac d c
    let t := s.dacWave d c w
    (t.updDac d c fun _ => x).wr d (DACB_STAT_CLEARED c.val) (s.rd d (DACB_STAT_CLEARED c.val))
  else s.dacWave d c w

/-- A management port restarts for a restore only where a setting changes (R422, R608). -/
def State.restorePort (s : State) (p : MPort) (fixed fec eee start : Bool) : Res :=
  let d := MPort.die p
  let same := s.flag d MGMT_CTRL_MODE == fixed && s.flag d MGMT_CTRL_FEC_EN == fec && s.flag d MGMT_CTRL_EEE_EN == eee
  if !s.domainOn d .mgmt then .fail .domainOff s
  else if same then .ok s
  else
    let t := s.setMgmtPort p fixed fec eee
    .ok (if start then t else t.restartLater p)

/-- A session for the effects of records, which no session sends. -/
def recSession : Session :=
  { channel := 0, secure := true, src := 0, medium := .portA, priv := .custodian, restricted := false, lastAt := 0,
    seqLast := none, cache := [], leaseMs := 0, leaseUntil := 0, claims := [], leaseLost := false, txn := none,
    txnLost := false, chunk := none, keys := none, txNum := 0, rxHigh := 0, rxSeen := [], mac := 0, vlan := none, closing := false,
    noRouteAt := none }

/-- One record applied as its own command states, with what R608 says of banks, DFE and NLE values; power states are
chosen anew when every record has been applied, lanes brought up then too. -/
def State.applyRecord (s : State) (start : Bool) (c : Instr) : Res :=
  match c with
  | .profileSet _ prof clock ps =>
    if s.lanesBusy then .fail .busy s
    else if (infoProfileSet s prof clock ps).bad.isSome then .fail .badParam s
    else .ok (s.setProfile prof (clockAsked clock) ps)
  | .txBankLoad _ lane b co act =>
    match toDie? lane with
    | some l => s.stageTx l fun t =>
        let t := t.setFir b co
        if act then { t with firAct := b } else t
    | none => .fail .badParam s
  | .txPdLoad _ lane b co act =>
    match toDie? lane with
    | some l => s.stageTx l fun t =>
        let t := t.setPd b co
        if act then { t with pdAct := b } else t
    | none => .fail .badParam s
  | .rxAdaptSet _ lane adapt enables dfe nle =>
    match toDie? lane with
    | some l => s.restoreAdapt l adapt enables dfe nle
    | none => .fail .badParam s
  | .deskewSet _ lane guard =>
    match toDie? lane with
    | some l => if s.rxOn [l] then .ok (s.wr l DEC_DSK_CTRL_GUARD guard) else .fail .domainOff s
    | none => .fail .badParam s
  | .cipherPolicySet _ p => if !s.nv.fuses.permit && p != .gcmRequired then .fail .notPermitted s else .ok (s.setPolicyOnly p)
  | .powerPolicySet _ gs => if (infoPowerPolicySet s gs).bad.isSome then .fail .badParam s else .ok (s.setPolicy gs)
  | .dacChSet _ m ch g =>
    let ds := maskDies m
    if !s.anaOn ds then .fail .domainOff s
    else if !start && ds.any fun d => s.dacParking d (chOf ch) then .fail .busy s
    else .ok (s.each ds fun s d => s.restoreCfg d (chOf ch) g)
  | .dacWrite _ m ch codes =>
    let ds := maskDies m
    if !s.anaOn ds then .fail .domainOff s else .ok (s.each ds fun s d => s.restoreCode d (chOf ch) (codes.headD 0))
  | .dacWaveSet _ m ch w =>
    let ds := maskDies m
    if !s.anaOn ds then .fail .domainOff s else .ok (s.each ds fun s d => s.restoreWave d (chOf ch) w)
  | .tagSet _ k seed => applyTagSet k seed recReq recSession s
  | .nodeSet _ n => .ok (s.updFab fun f => { f with nodeNext := some n })
  | .routeSet _ rs => applyRouteSet rs recReq recSession s
  | .mgmtPortSet _ p fixed fec eee => s.restorePort p fixed fec eee start
  | .lineUp _ lanes => if s.linesOn (maskDies lanes) then .ok s else .fail .domainOff s
  | .regWrite _ a v mask =>
    let d := addrDie a
    let m := s.merge d (addrBlk a) (addrWord a) v (mask.getD (BitVec.allOnes 32))
    match addrBlk a, addrWord a with
    | 0x01, 3 => .ok (s.writeFields d 0x01 3 m)
    | 0x0D, 0 => .ok (s.setRetain d (KEY_POLICY_RETAIN.of m == 1))
    | _, _ => applyRegWrite a v mask recReq recSession s
  | _ =>
    match opOf s c with
    | some (i, body) => if i.bad.isSome then .fail .badParam s else body recReq recSession s
    | none => .ok s

/-- What a restore has come to: the state, whether it has adjusted anything, the first refusal with its record. -/
structure Restore where
  state : State
  adjusted : Bool
  failed : Option (Status × Nat)

/-- Whether a restore by a session leaves a record out (R609). -/
def State.skipRec (s : State) (x : Session) (c : Instr) : Bool :=
  let cls := ((opOf s c).map fun o => o.1.cls).getD 0
  let lower := x.priv != .custodian
  match c with
  | .slostanCfgSet .. => lower || s.heldByOther x.channel ⟨9, 0⟩
  | _ => (lower && cls == 4) || ([2, 4, 7, 8, 9, 10].contains cls && s.heldByOther x.channel ⟨cls, 0⟩)

/-- Applies one record, numbered `n`, for the session `x?`, or at a start. -/
def Restore.step (x? : Option Session) (hot : List Die) (q : Restore) (n : Nat) (c : Instr) : Restore :=
  if q.failed.isSome then q
  else if x?.any fun x => q.state.skipRec x c then { q with adjusted := true }
  else
    let c' := q.state.adjustRec hot c
    let p := q.state.applyRecord x?.isNone c'
    if Status.code p.status < 0x8000 then { q with state := p.state, adjusted := q.adjusted || c' != c }
    else { q with failed := some (p.status, n) }

/-- Applies every record of a body from `n` on. -/
def Restore.runFrom (x? : Option Session) (hot : List Die) : Nat → List Instr → Restore → Restore
  | _, [], q => q
  | n, c :: cs, q => Restore.runFrom x? hot (n + 1) cs (q.step x? hot n c)

/-- What stands in the banks and tables from the lane's next frame on, at once where the lane sends none (R608). -/
def State.settleTx (s : State) (l : Die) : State :=
  match (s.tx l).load with
  | none => s
  | some t =>
    let s := s.keepTx l fun _ => t
    if (s.tx l).running then s else s.doTxLoad l

/-- Applies a body (R608, R609): every record, then the power states; none where a record is refused. -/
def State.applyBody (s : State) (x? : Option Session) (body : List Instr) : Restore :=
  let q := Restore.runFrom x? (s.overCodes body) 0 body ⟨s, false, none⟩
  match q.failed with
  | some _ => { q with state := s }
  | none =>
    let t := q.state.each s.popDies fun s l => s.settleTx l
    let t := (t.powerEval 1).showKeys
    { q with state := if q.adjusted then t.wr 0 NVM_STAT_ADJUSTED 1 else t }

/-- The lanes of a restored LINE_UP set come up, those of them that are not. -/
def State.bringUp (s : State) (m : BitVec 8) : State :=
  (s.each ((maskDies m).filter fun l => s.pop l && !(s.tx l).up) fun s l => s.laneUp l).kxKick.showKeys

/-- After a restore the other lanes go down; the named ones come up at once, or after a change of profile when every lane
has reached DOWN (R17, R608). -/
def State.lanesTo (s : State) (m : BitVec 8) (changed : Bool) : State :=
  if changed then { s with restoring := some m }
  else
    let s := s.each (s.popDies.filter fun l => !m.getLsbD l.val && !s.laneIsDown l) fun s l => s.laneDown l
    { s.bringUp m with restoring := some 0#8 }

/-! ### The commands (R401, R604 to R609) -/

/-- The body of a slot, or rootstock for 0xFF; none where no copy passes its checks (R608). -/
def State.bodyOf (s : State) (slot : Nat) : Option (List Instr) :=
  if slot = 0xFF then some (rootstock s.part) else ((s.best slot).filter s.partOk).map VCopy.body

/-- Whether a commit or a restore is under way (R604). -/
def State.storeBusy (s : State) : Bool := s.nv.committing.isSome || s.restoring.isSome

/-- VINTAGE_INFO of an empty slot and of a copy (R394). -/
def tlvVintage (s : State) (slot : Nat) (c : Option VCopy) : Tlv :=
  let repaired := s.flag 0 NVM_STAT_REPAIRED && s.rd 0 NVM_STAT_BOOT_SRC != 2 && s.rd 0 NVM_STAT_BOOT_SLOT == slot
  let flags := (if s.slotValid slot then 1 else 0) + (if s.nv.preferred = some slot then 2 else 0) + (if repaired then 4 else 0)
  ⟨0x0152, be 1 slot ++ be 1 flags ++ be 2 0 ++ match c with
    | some c => be 4 c.commit ++ be 8 c.timeNs ++ be 4 c.crc.toNat ++ padTo 32 c.label
    | none => be 4 0 ++ be 8 0 ++ be 4 0 ++ padTo 32 []⟩

/-- A command of the settings store: OPERATOR, class 3 (R401). -/
def vintageInfo (code : Nat) (bad : Option Nat) : CmdInfo := { code, priv := some .operator, cls := 3, bad }

def applyVintageCommit (slot : Nat) (label : Option Bytes) (_ : Req) (_ : Session) (s : State) : Res :=
  if s.storeBusy then .fail .busy s
  else
    let (crc, s) := s.fresh
    let n := s.nv.commits + 1
    let c : VCopy :=
      { die := 0, second := false, slot, part := s.part, commit := n, timeNs := s.ns, label := label.getD []
        body := captureConfig s, crc := BitVec.ofNat 32 crc, crcOk := true }
    .pending (.commit slot) (State.syncNvm { s with nv := { s.nv with commits := n, committing := some c } })

/-- VINTAGE_COMMIT (R604): the active configuration as it stands is captured. -/
def execVintageCommit (r : Req) (slot : Nat) (label : Option Bytes) (s : State) : Host.Outcome State Fault Refusal :=
  .next (Slostan.run r (.vintageCommit r slot label) (vintageInfo 0x0301 (numBad slot 8 0)) (applyVintageCommit slot label) s)

def infoVintageRestore (s : State) (slot : Nat) : CmdInfo :=
  { vintageInfo 0x0302 (if slot < 8 ∨ slot = 0xFF then none else some 0) with
    rt := true
    also := ⟨1, 0⟩ :: s.popDies.flatMap fun d => [⟨5, d.val⟩, ⟨6, d.val⟩] }

def applyVintageRestore (slot : Nat) (_ : Req) (x : Session) (s : State) : Res :=
  if s.storeBusy then .fail .busy s
  else match s.bodyOf slot with
    | none => .badParam 0 s
    | some body =>
      let q := s.applyBody (some x) body
      match q.failed with
      | some (st, n) => { status := st, err := some n, state := s }
      | none =>
        let t := q.state
        let changed := t.profile != s.profile || t.clockMode != s.clockMode
        let t := { t with nv := { t.nv with restored := body } }
        .pending (.restore q.adjusted) (t.lanesTo (upSet body) changed)

/-- VINTAGE_RESTORE (R608, R609). -/
def execVintageRestore (r : Req) (slot : Nat) (s : State) : Host.Outcome State Fault Refusal :=
  .next ((Slostan.run r (.vintageRestore r slot) (infoVintageRestore s slot) (applyVintageRestore slot) s).fireCommand).doRestarts

/-- The final reply of a restore; its audit record carries whether it was adjusted (R609, R617). -/
def State.endRestore (s : State) : State :=
  match s.sl.pend.find? (fun p => p.kind == .restore false || p.kind == .restore true) with
  | some p => s.finalReply p { status := .ok, adjusted := p.kind == .restore true, state := s }
  | none => s

/-- VINTAGE_RESTORE_DONE (R608): every lane taken to DOWN has reached it, its transmitter at MUTE. -/
def execVintageRestoreDone (s : State) : Host.Outcome State Fault Refusal :=
  match s.restoring with
  | none => .next s
  | some m =>
    if s.popDies.all fun l => (s.tx l).up || (s.rxState l == .down && s.rd l LTX_STAT_TX_STATE == 0) then
      .next (State.endRestore { s.bringUp m with restoring := none })
    else .next s

def infoVintageList : CmdInfo := { code := 0x0303, priv := some .observer, read := true }

/-- VINTAGE_LIST (R401): all eight slots. -/
def execVintageList (r : Req) (s : State) : Host.Outcome State Fault Refusal :=
  .next (Slostan.run r (.vintageList r) infoVintageList (fun _ _ s =>
    .okWith s ((List.range 8).map fun k => tlvVintage s k (s.best k))) s)

/-- Whether a slot holds a copy at all. -/
def State.slotUsed (s : State) (slot : Nat) : Bool := s.nv.copies.any fun c => c.slot == slot

def applyVintagePrefer (slot : Nat) (_ : Req) (_ : Session) (s : State) : Res :=
  if s.storeBusy then .fail .busy s
  else if slot ≠ 0xFF ∧ !s.slotUsed slot then .badParam 0 s
  else .ok (State.syncNvm { s with nv := { s.nv with preferred := if slot = 0xFF then none else some slot } })

/-- VINTAGE_PREFER (R401, R607). -/
def execVintagePrefer (r : Req) (slot : Nat) (s : State) : Host.Outcome State Fault Refusal :=
  .next (Slostan.run r (.vintagePrefer r slot) (vintageInfo 0x0304 (if slot < 8 ∨ slot = 0xFF then none else some 0))
    (applyVintagePrefer slot) s)

def applyVintageDelete (slot : Nat) (_ : Req) (_ : Session) (s : State) : Res :=
  if s.storeBusy then .fail .busy s
  else
    let pref := if s.nv.preferred = some slot then none else s.nv.preferred
    .ok (State.syncNvm { s with nv := { s.nv with
      copies := s.nv.copies.filter fun c => c.slot != slot
      preferred := pref } })

/-- VINTAGE_DELETE (R401, R607). -/
def execVintageDelete (r : Req) (slot : Nat) (s : State) : Host.Outcome State Fault Refusal :=
  .next (Slostan.run r (.vintageDelete r slot) (vintageInfo 0x0305 (numBad slot 8 0)) (applyVintageDelete slot) s)

end Sys2Proof.Machine
end

