-- ==== Sys2Proof/Machine/Settings.lean ====
section
/-! DEFINITION. LIFECYCLE_ADVANCE, CLEARTEXT_WITHDRAW, OWNER_CERT_SET and the firmware trial (R276, R284, R304, R309,
R412, R413, R611 to R613, R618 to R621). -/

namespace Sys2Proof.Machine

/-! ### LIFECYCLE_ADVANCE (R413, R613) -/

def Lifecycle.code : Lifecycle → Nat
  | .manufactured => 0
  | .provisioned => 1
  | .deployed => 2
  | .retired => 3

/-- A limited-change command of class 10 that a secure CUSTODIAN session may send, with CONFIRM at position `i` (R412). -/
def limitInfo (code : Nat) (confirm : Word) (i : Nat) : CmdInfo :=
  { code, priv := some .custodian, cls := 10, sec := true, stage := false, bad := confirmBad confirm i }

/-- Entry into DEPLOYED: PLAIN_MAX is at most OPERATOR, and so is every non-secure session (R613). -/
def State.enterDeployed (s : State) : State :=
  { s with sl := { s.sl with
      plainMax := Privilege.lower s.sl.plainMax .operator
      sessions := s.sl.sessions.map fun x => if x.secure then x else { x with priv := Privilege.lower x.priv .operator } } }

/-- Rootstock applies whatever the state (R613): a record that a sleeping domain refuses is left out. -/
def State.forceBody (s : State) (body : List Instr) : State :=
  let t := body.foldl (fun s c => (s.applyRecord true (s.adjustRec [] c)).state) s
  let t := t.each s.popDies fun s l => s.settleTx l
  let changed := t.profile != s.profile || t.clockMode != s.clockMode
  let t := (t.powerEval 1).showKeys
  let t : State := { t with nv := { t.nv with restored := body } }
  t.lanesTo (upSet body) changed

/-- Entry into RETIRED (R309, R613): keys and PSK are zeroised, the identity private key and the owner certificate erased,
every slot erased; rootstock applies. -/
def State.enterRetired (s : State) : State :=
  let s := (s.zeroiseAll).setPsk none
  let s := State.syncFuse { s with nv := { s.nv with
    identityKey := false, ownerCert := none, copies := [], preferred := none } }
  s.syncNvm.forceBody (rootstock s.part)

def applyLifecycleAdvance (target : Lifecycle) (_ : Req) (_ : Session) (s : State) : Res :=
  let n := Lifecycle.code target
  if s.nv.fuses.lifecycle = 3 then .fail .limitReached s
  else if n ≠ s.nv.fuses.lifecycle + 1 then .badParam 0 s
  else if s.spent .lifecycle then .fail .limitReached s
  else if !s.mayAdvance n then .fail .notPermitted s
  else if n = 3 && s.storeBusy then .fail .busy s
  else
    let s := s.updFuses fun f => { f with lifecycle := n }
    .ok (match n with
      | 2 => s.enterDeployed
      | 3 => s.enterRetired
      | _ => s)

/-- LIFECYCLE_ADVANCE (R413, R613). -/
def execLifecycleAdvance (r : Req) (target : Lifecycle) (confirm : Word) (s : State) : Host.Outcome State Fault Refusal :=
  .next (Slostan.run r (.lifecycleAdvance r target confirm) (limitInfo 0x0A01 confirm 1) (applyLifecycleAdvance target)
    s).doRestarts

/-! ### CLEARTEXT_WITHDRAW, OWNER_CERT_SET (R276, R284, R304, R413) -/

def applyCleartextWithdraw (_ : Req) (_ : Session) (s : State) : Res :=
  if !s.nv.fuses.permit || s.spent .permit then .fail .limitReached s
  else .ok ((s.updFuses fun f => { f with permit := false }).setPolicyCode .gcmRequired)

/-- CLEARTEXT_WITHDRAW (R304, R413): once; the policy becomes GCM_REQUIRED. -/
def execCleartextWithdraw (r : Req) (confirm : Word) (s : State) : Host.Outcome State Fault Refusal :=
  .next (Slostan.run r (.cleartextWithdraw r confirm) { limitInfo 0x0A02 confirm 0 with cip := true } applyCleartextWithdraw s)

/-- Whether a certificate is the part's owner certificate (R276): signed with the active owner key, binding the identity
public key. -/
def State.ownCertOk (s : State) (cert : Bytes) : Bool :=
  match s.nv.fuses.ownerKey with
  | some k => Config.certVerify cert k && Config.certKey cert == s.nv.identityPub
  | none => false

def infoOwnerCertSet (cert : Bytes) : CmdInfo :=
  { code := 0x0A07, priv := some .custodian, cls := 10, sec := true, stage := false,
    bad := if 1200 < cert.length then some 0 else none }

def applyOwnerCertSet (cert : Bytes) (_ : Req) (_ : Session) (s : State) : Res :=
  if s.ownCertOk cert then .ok (State.syncFuse { s with nv := { s.nv with ownerCert := some cert } }).kxKick
  else .fail .integrityFail s

/-- OWNER_CERT_SET (R276, R284). -/
def execOwnerCertSet (r : Req) (cert : Bytes) (s : State) : Host.Outcome State Fault Refusal :=
  .next (Slostan.run r (.ownerCertSet r cert) (infoOwnerCertSet cert) (applyOwnerCertSet cert) s)

/-! ### The firmware trial (R620) -/

def infoFwActivate (confirm : Word) : CmdInfo := { limitInfo 0x0A09 confirm 0 with rt := true }

/-- The dies that a trial has still to move before the leader resigns, highest position first (R620). -/
def State.trialLeft (s : State) (t : FwTrial) : List Die :=
  (s.popDies.filter fun d => d != s.leader && !t.moved.contains d).reverse

/-- A die's cores restart (R481, R620). -/
def State.trialRestart (s : State) (t : FwTrial) (d : Die) : State :=
  State.mbReset { s with nv := { s.nv with trial := some { t with restarting := d, since := s.time.now } } } d .core

def applyFwActivate (_ : Req) (_ : Session) (s : State) : Res :=
  if s.nv.loading.isSome || s.nv.trial.isSome then .fail .busy s
  else if !s.nv.standby.valid then .fail .notPermitted s
  else if s.secverLeft < s.nv.standby.secver - s.nv.fuses.secver then .fail .limitReached s
  else
    let t : FwTrial := ⟨[], s.leader, s.time.now, none⟩
    match s.trialLeft t with
    | d :: _ => .pending .fwActivate (s.trialRestart t d).syncFw
    | [] => .pending .fwActivate (s.trialRestart t s.leader).syncFw

/-- FW_ACTIVATE (R620). -/
def execFwActivate (r : Req) (confirm : Word) (s : State) : Host.Outcome State Fault Refusal :=
  .next (Slostan.run r (.fwActivate r confirm) (infoFwActivate confirm) applyFwActivate s)

/-- Every die runs the new image (R620 step 5): the banks swap roles and FW_SECURITY_VERSION advances; an image below it
stays out (R619). -/
def State.trialDone (s : State) : State :=
  let new := s.nv.standby
  let old := s.nv.active
  let ver := max s.nv.fuses.secver new.secver
  let s := State.updFuses { s with nv := { s.nv with
      active := new, standby := { old with valid := old.valid && decide (ver ≤ old.secver) }, trial := none } }
    fun f => { f with secver := ver }
  s.syncFw.finishPend .fwActivate .ok []

/-- Every die already moved goes back to its image (R620). -/
def State.trialRevert (s : State) (t : FwTrial) : State :=
  let s := s.each t.moved fun s d => s.mbReset d .core
  let s : State := { s with nv := { s.nv with standby := { s.nv.standby with valid := false }, trial := none } }
  let s := (s.syncFw.wr 0 NVM_FW_STAT_REVERTED 1).auditOwn 3 0
  s.finishPend .fwActivate .integrityFail []

/-- FW_DIE_REJOIN (R620): within 1 s of its restart, the die reports its digest; the next die restarts, the leader resigns, or the trial
is complete. -/
def execFwDieRejoin (d : Die) (digestOk : Bool) (s : State) : Host.Outcome State Fault Refusal :=
  match s.nv.trial with
  | none => .next s
  | some t =>
    if t.restarting ≠ d ∨ t.moved.contains d then .next s
    else if !digestOk || s.past t.since (secU 1) then .next (s.trialRevert t)
    else
      let t := { t with moved := t.moved ++ [d] }
      let s : State := { s with nv := { s.nv with trial := some t } }
      match s.trialLeft t with
      | e :: _ => .next (s.trialRestart t e)
      | [] =>
        if t.moved.contains s.leader || t.oldLeader.isSome then .next s.trialDone
        else .next (s.sbPush s.leader 1 2 (.elect true (s.fwValid s.leader)))

/-- FW_REJOIN_TIMEOUT (R620): the die has not rejoined within 1 s. -/
def execFwRejoinTimeout (d : Die) (s : State) : Host.Outcome State Fault Refusal :=
  match s.nv.trial with
  | none => .next s
  | some t =>
    .next (if t.restarting = d && !t.moved.contains d && s.past t.since (secU 1) then s.trialRevert t else s)

end Sys2Proof.Machine
end

