-- ==== Sys2Proof/Machine/StartStop.lean ====
section
/-! DEFINITION. Orderly shut-down, RESET_N, the power-on reset and start-up (R8, R309, R377, R403, R474, R482, R490, R495,
R513, R560, R566 to R572, R610, R612, R621 to R626, R634 to R636, R646, R647). -/

namespace Sys2Proof.Machine

/-! ### Shut-down (R403, R625) -/

def infoShutdown (s : State) : CmdInfo :=
  { code := 0x0404, priv := some .operator, cls := 2, rt := true, stage := false, dies := s.popDies }

def applyShutdown (selfTest : Option Bool) (_ : Req) (_ : Session) (s : State) : Res :=
  let test := selfTest.getD true
  let s := s.auditOwn 2 0
  let s := s.each s.popDies fun s l => s.laneDown l
  .pending (.shutdown test) { s with phase := .stopping }

/-- SHUTDOWN (R403, R625): replies PENDING, then proceeds; it is at step 2 at once where no lane transmits. -/
def execShutdown (r : Req) (selfTest : Option Bool) (s : State) : Host.Outcome State Fault Refusal :=
  .next (Slostan.run r (.shutdown r selfTest) (infoShutdown s) (applyShutdown selfTest) s).shutFollow

/-- Both copies of a commit under way stand on every populated die, but for a die without supply (R604). -/
def State.commitDone (s : State) : State :=
  match s.nv.committing with
  | none => s
  | some c =>
    let ds := s.popDies.filter fun d => s.power d != .off
    let new := ds.flatMap fun d => [{ c with die := d, second := false }, { c with die := d, second := true }]
    let rest := s.nv.copies.filter fun x => !(x.slot == c.slot && ds.contains x.die)
    let s := State.syncNvm { s with nv := { s.nv with copies := rest ++ new, committing := none } }
    s.finishPend (.commit c.slot) .ok [tlvVintage s c.slot (some c)]

/-- VINTAGE_COMMIT_DONE (R604). -/
def execVintageCommitDone (s : State) : Host.Outcome State Fault Refusal := .next s.commitDone

/-- The record of KIND 0 that a shut-down without a self-test writes (R625). -/
def State.skipTest (s : State) (d : Die) : State :=
  s.putTest d
    { kind := 0, verdict := 2, timeNs := s.ns, duration := 0, coverage := 0, failed := 0, hours := s.hours
      restored := 0, retired := 0 }

/-- Every die enters OFF (R309, R377, R495): sessions and keys go, the ports go down. -/
def State.enterOff (s : State) : State :=
  let s := (s.zeroiseAll).endAllSessions
  let s := (s.portTo .a 0).portTo .b 0
  let s := s.each s.popDies fun s d =>
    let s := ((s.wr d PWR_STATE_CUR 5).wr d PWR_STATE_TARGET 5).wr d PWR_STATE_TRANS 0
    (((s.pllsStop d .off).fabricOff d).updPwr d fun x => { x with anaPowered := false }).emit (.floats d)
  { s with phase := .off, restoring := none, nv := { s.nv with loading := none } }

/-- The dies under test. -/
def State.underTest (s : State) : List Die := s.popDies.filter fun d => (s.die d).safe.underTest

/-- The end of a shut-down (R403, R604, R625), when every lane is down and every die under test has its outcome: a commit
under way is completed, the records are written, the final reply goes, every die enters OFF. -/
def State.endShutdown (s : State) (results : List TestOutcome) : State :=
  if s.phase != .shuttingDown || !s.allDown || !coverDies results s.underTest then s
  else
    let ds := s.underTest
    let s := s.commitDone
    let s := s.finishTest 0 results ds
    let s := s.each (s.popDies.filter fun d => !ds.contains d) fun s d => s.skipTest d
    ((s.finishPend (.shutdown true) .ok []).finishPend (.shutdown false) .ok []).enterOff

/-- SHUTDOWN_COMPLETE (R403, R625). -/
def execShutdownComplete (results : List TestOutcome) (s : State) : Host.Outcome State Fault Refusal :=
  .next (s.shutFollow.endShutdown results)

/-- SELFTEST_DONE (R569): the test of SELFTEST_RUN ends, with a record of KIND COMMAND for each die; that of a shut-down
ends the shut-down. -/
def execSelftestDone (l : List TestOutcome) (s : State) : Host.Outcome State Fault Refusal :=
  let s := s.shutFollow
  if s.phase = .shuttingDown then .next (if s.underTest.isEmpty then s else s.endShutdown l)
  else match s.testing with
    | some ds =>
      if coverDies l ds then
        let s := s.finishTest 2 l ds
        .next (s.finishPend (.selftest ds) .ok (ds.filterMap fun d => (s.nv.safety.tests.get d).map (tlvTest d)))
      else .next s
    | none => .next s

/-! ### Resets (R8, R377, R605, R626, R634, R647) -/

/-- What of a die a reset of the whole part leaves: retired units in MRAM, the LDIS_N ball. -/
def DieSt.afterReset (s : State) (x : DieSt) : DieSt :=
  { DieSt.reset with
    units := x.units
    sb := { SbDie.reset with lastHb := s.time.now }
    safe := { SafeDie.reset with ldisHigh := x.safe.ldisHigh, stuck := x.safe.stuck } }

/-- Whether the field of a key is not the part's to reset: REFCLK's presence and the level of CLR_N. -/
def keyPin (k : Nat) : Bool :=
  let f := keyFld k
  (f.blk == 0x02 && f.word == 0 && f.hi == CLK_PLL_STAT_REF_OK.hi)
    || (f.blk == DACB_CTRL_CLR_N_LOW.blk && f.word == DACB_CTRL_CLR_N_LOW.word && f.hi == DACB_CTRL_CLR_N_LOW.hi)

/-- Package time after a reset (R513): kept, or 0 where the always-on domain has lost its supply. -/
def TimeState.afterReset (t : TimeState) (aon : Bool) : TimeState :=
  if aon then { TimeState.reset with now := t.now, offset := -(t.now : Int), refclk := t.refclk, refLostAt := t.refLostAt }
  else
    { TimeState.reset with
      now := t.now, offset := t.offset, extrap := t.extrap, uncert := t.uncert, periodStart := t.periodStart
      periodRc := t.periodRc, refclk := t.refclk, refLostAt := t.refLostAt, slowCount := t.slowCount,
      slowCalAt := t.slowCalAt }

/-- Every die is reset (R8, R377): what stays is in MRAM and fuses, and in the always-on domain unless `aon` says that it
lost its supply. An image that was being loaded leaves no valid standby bank. -/
def State.packageReset (s : State) (aon : Bool) (cut : Option LimitCut) : State :=
  let s := s.each s.popDies fun s d => s.incomplete d
  let s := s.cutCommit.cutLimit cut
  let sby := if s.nv.loading.isSome then { s.nv.standby with valid := false } else s.nv.standby
  let t : State :=
    { State.reset with
      part := s.part, pending := s.pending, out := s.out, free := s.free
      regs := NMap.drop s.regs fun k => !(if aon then keyPin k else keyKept k)
      nv := { s.nv with standby := sby, loading := none, trial := none }
      time := s.time.afterReset aon
      dies := s.dies.map (DieSt.afterReset s) }
  let t := if aon then t else t.each t.popDies fun t d => t.wr d MBX_EPOCH (mbxNext (s.rd d MBX_EPOCH))
  (t.each t.popDies fun t d => t.ldisFollow d).updExtrap

/-- RESET_N_FALL (R377, R513, R605, R624, R626, R646, R647): RESET_N has been low for 1 µs. It restarts a part in OFF, whose
always-on domains were off (R492, R495); without supplies it does nothing. `cut` is the limited change
that was being programmed (R612). -/
def execResetNFall (cut : Option LimitCut) (s : State) : Host.Outcome State Fault Refusal :=
  .next (if s.phase = .powerOff then s else s.packageReset (s.phase = .off) cut)

/-- Whether some die has lost its supply since the last start (R564, R636). -/
def State.supplyLost (s : State) : Bool := s.popDies.any fun d => (s.die d).sb.supplyFault

/-- POWER_ON_RESET_RELEASE (R634, R636): the internal reset releases every die. Whether the supply that was lost fed the
always-on domain is a free value. -/
def execPowerOnResetRelease (s : State) : Host.Outcome State Fault Refusal :=
  if s.phase = .powerOff || s.phase = .inReset || s.supplyLost then
    let (v, s) := s.fresh
    .next (s.packageReset (v % 2 = 0) none)
  else .next s

/-! ### Start-up (R622) -/

/-- Whether the standby bank may replace an active bank that fails its check (R621). -/
def State.standbyFits (s : State) : Bool := s.nv.standby.valid && decide (s.nv.fuses.secver ≤ s.nv.standby.secver)

/-- Whether a die finds valid firmware (R621): `fwOk` holds the dies whose active bank passes its check. -/
def State.fwFound (s : State) (fwOk : BitVec 8) (d : Die) : Bool := (fwOk.getLsbD d.val && s.nv.active.valid) || s.standbyFits

/-- Step 2 and 3 of R622: the always-on domains and links run, firmware is checked, the leader is elected (R474, R621). The
banks of the registers are those of the leader's die. -/
def State.startElect (s : State) (fwOk : BitVec 8) : State :=
  let s := s.each s.popDies fun s d =>
    let s := (s.setHealthy d true).wrB d DIE_STAT_FW_VALID (s.fwFound fwOk d)
    let s := ((s.wr d CLK_PLL_STAT_SYS_LOCK 1).wr d CLK_PLL_STAT_HOST_LOCK 1).wr d CLK_PLL_STAT_REF_OK 1
    let s := if d.val < 2 then s.wr d CLK_PLL_STAT_MGMT_LOCK 1 else s
    (s.fabricOn d).updDie d fun x => { x with sb := { x.sb with lastHb := s.time.now } }
  let s : State := { s with sb := { s.sb with election := none, oldLeader := none, elected := false } }
  let s := s.firstLeader
  if fwOk.getLsbD s.leader.val && s.nv.active.valid then s
  else if !s.standbyFits then s
  else { s with nv := { s.nv with active := s.nv.standby, standby := { s.nv.active with valid := false } } }

/-- Step 4 of R622: the permanent record, the records of MRAM and the port addresses show in the registers (R428, R544,
R575, R576, R627); an interrupted limited change is recorded (R612). -/
def State.startLoad (s : State) : State :=
  let s := (s.syncFuse.syncFw).syncNvm
  let s := s.wr 0 NVM_AUDIT_NEXT_SEQ s.nv.auditNext
  let s := if s.nv.limitCut then State.auditOwn { s with nv := { s.nv with limitCut := false } } 4 0 else s
  let mac (s : State) (d : Die) (m : BitVec 48) : State :=
    (s.wr d MGMT_MAC_HI (m.toNat / 2 ^ 32)).wr d MGMT_MAC_LO m.toNat
  let s := mac (mac s 0 s.nv.fuses.macA) 1 s.nv.fuses.macB
  s.each s.popDies fun s d => (((s.loadUnits d).loadCal d).loadLimit d).loadTest d

/-- Whether the start takes the quick path (R570). -/
def State.quickPath (s : State) : Bool :=
  s.popDies.all fun d => match s.nv.safety.tests.get d with
    | some r => r.verdict == 0 && r.kind == 0 && decide (s.bistAge d < 720)
    | none => false

/-- The record of KIND 1 of a start on the quick path (R623). -/
def State.quickRecord (s : State) (d : Die) : State :=
  match s.nv.safety.tests.get d with
  | some r => s.putTest d
      { kind := 1, verdict := r.verdict, timeNs := s.ns, duration := 0, coverage := r.coverage, failed := 0
        hours := r.hours, restored := 0, retired := 0 }
  | none => s

/-- The choice of R610 without the slots of `bad`: its BOOT_SRC and slot. -/
def State.choose (s : State) (bad : List Nat) : Nat × Option Nat :=
  let ok (k : Nat) : Bool := s.slotValid k && !bad.contains k
  let newest := (List.range 8).foldl (fun b k =>
    if !ok k then b
    else match b with
      | none => some k
      | some j => if ((s.best j).map VCopy.commit).getD 0 < ((s.best k).map VCopy.commit).getD 0 then some k else b) none
  match s.nv.preferred with
  | some p => if ok p then (0, some p) else (if newest.isSome then 1 else 2, newest)
  | none => (if newest.isSome then 1 else 2, newest)

/-- The chosen vintage is applied; one that fails counts as not valid and the choice runs again (R610). What it gives: the
state, the source, the slot, the body, the slots that failed. -/
def State.applyChoice : Nat → List Nat → State → State × Nat × Option Nat × List Instr × List Nat
  | 0, bad, s => (s, 2, none, rootstock s.part, bad)
  | fuel + 1, bad, s =>
    let (src, slot) := s.choose bad
    let body := (slot.bind fun k => s.bodyOf k).getD (rootstock s.part)
    let q := s.applyBody none body
    match q.failed, slot with
    | some _, some k => State.applyChoice fuel (bad ++ [k]) s
    | _, _ => (q.state, src, slot, body, bad)

/-- Every copy of a slot that differs from its best one is rewritten (R610). -/
def State.repair (s : State) (slot : Nat) : State :=
  match s.best slot with
  | none => s
  | some b =>
    let want := s.popDies.flatMap fun d => [{ b with die := d, second := false }, { b with die := d, second := true }]
    if want.all fun c => s.nv.copies.contains c then s
    else
      let rest := s.nv.copies.filter fun c => !(c.slot == slot && s.pop c.die)
      (State.syncNvm { s with nv := { s.nv with copies := rest ++ want } }).wr 0 NVM_STAT_REPAIRED 1

/-- Step 6 of R622: the vintage is chosen and applied, skipped slots noted, copies repaired (R610). -/
def State.startVintage (s : State) : State :=
  let (s, src, slot, body, bad) := State.applyChoice 9 [] s
  let skipped := (List.range 8).filter fun k => s.slotUsed k && (!s.slotValid k || bad.contains k)
  let s := s.each skipped fun s k => (s.wr 0 NVM_STAT_SKIPPED 1).auditOwn 5 k
  let s := match slot with
    | some k => s.repair k
    | none => s
  let s := (s.wr 0 NVM_STAT_BOOT_SRC src).wr 0 NVM_STAT_BOOT_SLOT (slot.getD 0)
  { s with nv := { s.nv with restored := body } }.takeEther

/-- Step 8 of R622: audit record START, the interpreter opens, the ports begin to train, the restored LINE_UP set comes up,
intervals begin. -/
def State.startOpen (s : State) : State :=
  let s := s.auditOwn 1 (s.rd 0 NVM_STAT_BOOT_SRC)
  let s : State := { s with
    phase := .ready, time := { s.time with lastBoundary := s.time.now, nextBoundary := s.time.now + s.interval } }
  let s := s.each s.popDies fun s d => if (s.lineSource d).isNone then s.wr d CLK_PLL_STAT_LINE_LOCK 1 else s
  let s := ((s.portTo .a 1).portTo .b 1).powerEval 1
  ((s.bringUp (upSet s.nv.restored)).chooseSuccessor).fireCommand

/-- The recovery loader on P0 (R621). -/
def State.recover (s : State) : State :=
  let s := (s.wr 0 SB_STAT_LEADER 0).startLoad
  ({ s with phase := .recovery }.portTo .a 1).portTo .b 1

/-- START_UP (R474, R570, R610, R621 to R623, R635): after RESET_N has risen with REFCLK running and every supply in range.
`fwOk` holds the dies whose active firmware bank passes its check, `tests` the outcomes of the full self-test, which a
start off the quick path needs from every populated die. -/
def execStartUp (fwOk : BitVec 8) (tests : List TestOutcome) (s : State) : Host.Outcome State Fault Refusal :=
  if s.phase != .inReset || !s.time.refclk || s.supplyLost then .next s
  else if s.popDies.all fun d => !s.fwFound fwOk d then .next (s.startElect fwOk).recover
  else
    let quick := s.quickPath
    if !quick && !coverDies tests s.popDies then .next s
    else
      let s := (s.startElect fwOk).startLoad
      let s := if quick then s else s.finishTest 1 tests s.popDies
      let s := s.each s.popDies fun s d => s.safePowered d
      let s := s.startVintage
      let s := if quick then s.each s.popDies fun s d => s.quickRecord d else s
      .next s.startOpen

end Sys2Proof.Machine
end

