-- ==== Sys2Proof/Machine/Transactions.lean ====
section
/-! DEFINITION. Transactions: staging and COMMIT (R374 to R376, R380, R616). -/

namespace Sys2Proof.Machine

/-- Every request that is no read, with its row and effect: those of `opOf`, of the settings store, shut-down and the
lifecycle. COMMIT and what stands for another request are none. -/
def opAll (s : State) (c : Instr) : Option Op :=
  match c with
  | .vintageCommit _ slot label => some (vintageInfo 0x0301 (numBad slot 8 0), applyVintageCommit slot label)
  | .vintageRestore _ slot => some (infoVintageRestore s slot, applyVintageRestore slot)
  | .vintagePrefer _ slot =>
    some (vintageInfo 0x0304 (if slot < 8 ∨ slot = 0xFF then none else some 0), applyVintagePrefer slot)
  | .vintageDelete _ slot => some (vintageInfo 0x0305 (numBad slot 8 0), applyVintageDelete slot)
  | .shutdown _ selfTest => some (infoShutdown s, applyShutdown selfTest)
  | .lifecycleAdvance _ target confirm => some (limitInfo 0x0A01 confirm 1, applyLifecycleAdvance target)
  | .cleartextWithdraw _ confirm => some ({ limitInfo 0x0A02 confirm 0 with cip := true }, applyCleartextWithdraw)
  | .ownerCertSet _ cert => some (infoOwnerCertSet cert, applyOwnerCertSet cert)
  | .fwActivate _ confirm => some (infoFwActivate confirm, applyFwActivate)
  | _ => opOf s c

/-! ### STAGED_COMMAND (R374) -/

/-- STAGED_COMMAND (R374): a request that is no read arrives on the channel of a session with an open transaction; it is
staged, or its status dooms the transaction. Without an open transaction there is no such event. -/
def execStagedCommand (c : Instr) (s : State) : Host.Outcome State Fault Refusal :=
  match req? c, opAll s c with
  | some r, some (i, body) =>
    if (s.session? r.channel).any fun x => x.txn.isSome then
      .next ((Slostan.run r c i body s).fireCommand).doRestarts
    else .next s
  | _, _ => .next s

/-! ### COMMIT (R375, R376) -/

/-- One staged command executed at COMMIT (R375): checks 3 to 6 and 8 to 10 of R362 against the state that the earlier
commands leave, then its effect. -/
def State.runStaged (s : State) (ch : BitVec 8) (c : Instr) : Res :=
  match req? c, opAll s c, s.session? ch with
  | some r, some (i, body), some x =>
    match s.checks3to6 x i with
    | some st => .fail st s
    | none =>
      if i.claims.any (s.heldByOther ch) then .fail .ownedByOther s
      else match check9 r i with
        | some n => .badParam n s
        | none =>
          if s.phase = .shuttingDown || s.testBusy i then .fail .busy s
          else if i.ns && s.standard then .fail .notPermitted s
          else body r x (s.cntPkg 1544)
  | _, _, _ => .fail .badOpcode s

/-- Whether a status is one of the three that are no refusal. -/
def Status.good (st : Status) : Bool := decide (Status.code st < 0x8000)

/-- The state after a staged command, with the work of its unit that goes on (R364); its audit record is the one that COMMIT
writes (R616). -/
def Res.keep (q : Res) (c : Staged) (x : Session) : State :=
  match q.pend, req? c.cmd with
  | some k, some r =>
    { q.state with sl := { q.state.sl with pend := q.state.sl.pend ++
        [⟨k, r.channel, c.seq, r.medium, r.mac, r.vlan, r.src, (opcode? c.cmd).getD 0, 0, x.priv, x.secure, r.tlvs⟩] } }
  | _, _ => q.state

/-- The staged commands in order: what they leave, each one's status; `stop` ends at the first refusal. -/
def State.runAll (x : Session) (stop : Bool) : List Staged → State → State × List (Staged × Status)
  | [], s => (s, [])
  | c :: cs, s =>
    let q := s.runStaged x.channel c.cmd
    if stop && !Status.good q.status then (s, [(c, q.status)])
    else
      let (t, l) := State.runAll x stop cs (q.keep c x)
      (t, (c, q.status) :: l)

/-- The audit record of a staged command (R616). -/
def State.auditOne (s : State) (x : Session) (c : Staged) (st : Status) : State :=
  match req? c.cmd, opcode? c.cmd with
  | some r, some op => s.auditCode r x op (Status.code st) true false
  | _, _ => s

/-- An OUTCOME TLV (R394). -/
def tlvOutcome (c : Staged) (st : Status) : Tlv :=
  ⟨0x0143, be 2 c.seq.toNat ++ be 2 ((opcode? c.cmd).getD 0) ++ be 2 (Status.code st)⟩

/-- A transaction that applies nothing (R376): the status and sequence of the command that failed. -/
def State.notApplied (s : State) (x : Session) (t : Txn) (st : Status) (seq : BitVec 16) : Res :=
  { status := st, err := some seq.toNat, state := s.auditStaged x t (Status.code st) }

def infoCommit : CmdInfo := { code := 0x0205, priv := some .operator, stage := false }

def applyCommit (_ : Req) (x : Session) (s : State) : Res :=
  match x.txn with
  | none =>
    if x.txnLost then .fail .badParam (s.updSession x.channel fun y => { y with txnLost := false })
    else .fail .notPermitted s
  | some t =>
    let s := s.updSession x.channel fun y => { y with txn := none }
    match t.doomed with
    | some (st, seq) => s.notApplied x t st seq
    | none =>
      let (u, l) := State.runAll x (t.mode == .atomic) t.staged s
      match t.mode, l.find? fun p => !Status.good p.2 with
      | .atomic, some (c, st) => s.notApplied x t st c.seq
      | _, _ =>
        let u := l.foldl (fun u p => u.auditOne x p.1 p.2) u
        .okWith u (if t.mode == .sequence then l.map fun p => tlvOutcome p.1 p.2 else [])

/-- COMMIT (R375, R376). -/
def execCommit (r : Req) (s : State) : Host.Outcome State Fault Refusal :=
  .next ((Slostan.run r (.commit r) infoCommit applyCommit s).fireCommand).doRestarts

end Sys2Proof.Machine
end

