-- ==== Sys2Proof/Machine/Dispatch.lean ====
section
/-! DEFINITION. The dispatch: one arm for each command and event, each a direct call of its meaning. -/

namespace Sys2Proof.Machine

/-- The effect of a command or event on everything but the queue of commands. -/
def exec (i : Instr) (s : State) : Host.Outcome State Fault Refusal :=
  match i with
  | .ping r echo => Sys2Proof.Machine.execPing r echo s
  | .sessionOpen r priv => Sys2Proof.Machine.execSessionOpen r priv s
  | .secureHello r nonce point cert priv => Sys2Proof.Machine.execSecureHello r nonce point cert priv s
  | .secureFinish r chan sig mac => Sys2Proof.Machine.execSecureFinish r chan sig mac s
  | .sessionClose r => Sys2Proof.Machine.execSessionClose r s
  | .slostanCfgSet r etherType idle plainMax => Sys2Proof.Machine.execSlostanCfgSet r etherType idle plainMax s
  | .profileSet r profile clock ports => Sys2Proof.Machine.execProfileSet r profile clock ports s
  | .profileChangeDone => Sys2Proof.Machine.execProfileChangeDone s
  | .lineUp r lanes => Sys2Proof.Machine.execLineUp r lanes s
  | .portPlanSet r ports => Sys2Proof.Machine.execPortPlanSet r ports s
  | .hostLaneSet r lane eq pol => Sys2Proof.Machine.execHostLaneSet r lane eq pol s
  | .lineTxSet r lanes force swing shape delay adaptEn => Sys2Proof.Machine.execLineTxSet r lanes force swing shape delay adaptEn s
  | .lineDown r lanes => Sys2Proof.Machine.execLineDown r lanes s
  | .lineRxSet r lanes capThr losThr bw fastEn fbSuggest => Sys2Proof.Machine.execLineRxSet r lanes capThr losThr bw fastEn fbSuggest s
  | .lineRealign r lane => Sys2Proof.Machine.execLineRealign r lane s
  | .lineStatusGet r lanes => Sys2Proof.Machine.execLineStatusGet r lanes s
  | .claim r claims lease => Sys2Proof.Machine.execClaim r claims lease s
  | .release r claims => Sys2Proof.Machine.execRelease r claims s
  | .leaseRenew r => Sys2Proof.Machine.execLeaseRenew r s
  | .begin r mode => Sys2Proof.Machine.execBegin r mode s
  | .commit r => Sys2Proof.Machine.execCommit r s
  | .abort r => Sys2Proof.Machine.execAbort r s
  | .stagedCommand c => Sys2Proof.Machine.execStagedCommand c s
  | .vintageCommit r slot label => Sys2Proof.Machine.execVintageCommit r slot label s
  | .vintageCommitDone => Sys2Proof.Machine.execVintageCommitDone s
  | .vintageRestore r slot => Sys2Proof.Machine.execVintageRestore r slot s
  | .vintageList r => Sys2Proof.Machine.execVintageList r s
  | .vintagePrefer r slot => Sys2Proof.Machine.execVintagePrefer r slot s
  | .vintageDelete r slot => Sys2Proof.Machine.execVintageDelete r slot s
  | .powerPolicySet r groups => Sys2Proof.Machine.execPowerPolicySet r groups s
  | .powerStateGet r => Sys2Proof.Machine.execPowerStateGet r s
  | .wakeCmpSet r dies cmps enable => Sys2Proof.Machine.execWakeCmpSet r dies cmps enable s
  | .shutdown r selfTest => Sys2Proof.Machine.execShutdown r selfTest s
  | .cipherPolicySet r policy => Sys2Proof.Machine.execCipherPolicySet r policy s
  | .keyModeSet r mode => Sys2Proof.Machine.execKeyModeSet r mode s
  | .keyPskSet r psk => Sys2Proof.Machine.execKeyPskSet r psk s
  | .keyLifeSet r frameLog2 timeLimit => Sys2Proof.Machine.execKeyLifeSet r frameLog2 timeLimit s
  | .keyRetainSet r enable => Sys2Proof.Machine.execKeyRetainSet r enable s
  | .keyZeroise r psk => Sys2Proof.Machine.execKeyZeroise r psk s
  | .keyAgreeStart r => Sys2Proof.Machine.execKeyAgreeStart r s
  | .keyRack r => Sys2Proof.Machine.execKeyRack r s
  | .cipherSfClear r lane => Sys2Proof.Machine.execCipherSfClear r lane s
  | .cipherStatusGet r lanes => Sys2Proof.Machine.execCipherStatusGet r lanes s
  | .dacChSet r dies ch cfg => Sys2Proof.Machine.execDacChSet r dies ch cfg s
  | .dacRangeSwitch die ch => Sys2Proof.Machine.execDacRangeSwitch die ch s
  | .dacParkEnd die ch => Sys2Proof.Machine.execDacParkEnd die ch s
  | .dacWrite r dies ch codes => Sys2Proof.Machine.execDacWrite r dies ch codes s
  | .dacWaveSet r dies ch wave => Sys2Proof.Machine.execDacWaveSet r dies ch wave s
  | .dacStatusGet r dies => Sys2Proof.Machine.execDacStatusGet r dies s
  | .madcConvert r dies conv input preset => Sys2Proof.Machine.execMadcConvert r dies conv input preset s
  | .madcSeqSet r dies conv entries preset => Sys2Proof.Machine.execMadcSeqSet r dies conv entries preset s
  | .madcTriggerSet r dies conv source delay period => Sys2Proof.Machine.execMadcTriggerSet r dies conv source delay period s
  | .madcCalibrate r dies conv kind => Sys2Proof.Machine.execMadcCalibrate r dies conv kind s
  | .madcRead r dies conv count => Sys2Proof.Machine.execMadcRead r dies conv count s
  | .madcTestdacSet r dies conv code => Sys2Proof.Machine.execMadcTestdacSet r dies conv code s
  | .eventSubscribe r rate sevMin mask => Sys2Proof.Machine.execEventSubscribe r rate sevMin mask s
  | .eventAck r seq => Sys2Proof.Machine.execEventAck r seq s
  | .eventFilterSet r mask sevMin rate => Sys2Proof.Machine.execEventFilterSet r mask sevMin rate s
  | .eventUnsubscribe r => Sys2Proof.Machine.execEventUnsubscribe r s
  | .eventNotify r => Sys2Proof.Machine.execEventNotify r s
  | .intervalSet r us syncEn => Sys2Proof.Machine.execIntervalSet r us syncEn s
  | .counterRead r first count => Sys2Proof.Machine.execCounterRead r first count s
  | .tagSet r k seed => Sys2Proof.Machine.execTagSet r k seed s
  | .tagRead r dies count => Sys2Proof.Machine.execTagRead r dies count s
  | .topdownRead r lane => Sys2Proof.Machine.execTopdownRead r lane s
  | .timeGet r => Sys2Proof.Machine.execTimeGet r s
  | .safetyLimitSet r limits => Sys2Proof.Machine.execSafetyLimitSet r limits s
  | .safetyStatusGet r => Sys2Proof.Machine.execSafetyStatusGet r s
  | .safetyReset r lane retest => Sys2Proof.Machine.execSafetyReset r lane retest s
  | .selftestRun r dies => Sys2Proof.Machine.execSelftestRun r dies s
  | .selftestResultGet r dies => Sys2Proof.Machine.execSelftestResultGet r dies s
  | .nodeSet r node => Sys2Proof.Machine.execNodeSet r node s
  | .routeGet r => Sys2Proof.Machine.execRouteGet r s
  | .routeSet r routes => Sys2Proof.Machine.execRouteSet r routes s
  | .mgmtPortSet r port fixed fec eee => Sys2Proof.Machine.execMgmtPortSet r port fixed fec eee s
  | .mgmtStatusGet r => Sys2Proof.Machine.execMgmtStatusGet r s
  | .neighbourGet r => Sys2Proof.Machine.execNeighbourGet r s
  | .lifecycleAdvance r target confirm => Sys2Proof.Machine.execLifecycleAdvance r target confirm s
  | .cleartextWithdraw r confirm => Sys2Proof.Machine.execCleartextWithdraw r confirm s
  | .laserCeilingSet r ceilings => Sys2Proof.Machine.execLaserCeilingSet r ceilings s
  | .nodeIdentitySet r confirm => Sys2Proof.Machine.execNodeIdentitySet r confirm s
  | .ownerKeySet r key => Sys2Proof.Machine.execOwnerKeySet r key s
  | .ownerKeyRevoke r confirm => Sys2Proof.Machine.execOwnerKeyRevoke r confirm s
  | .ownerCertSet r cert => Sys2Proof.Machine.execOwnerCertSet r cert s
  | .fwLoad r image => Sys2Proof.Machine.execFwLoad r image s
  | .fwLoadDone => Sys2Proof.Machine.execFwLoadDone s
  | .fwActivate r confirm => Sys2Proof.Machine.execFwActivate r confirm s
  | .fwDieRejoin die digestOk => Sys2Proof.Machine.execFwDieRejoin die digestOk s
  | .fwRejoinTimeout die => Sys2Proof.Machine.execFwRejoinTimeout die s
  | .auditRead r first count => Sys2Proof.Machine.execAuditRead r first count s
  | .limitsGet r => Sys2Proof.Machine.execLimitsGet r s
  | .patternSet r point pattern lane => Sys2Proof.Machine.execPatternSet r point pattern lane s
  | .patternStatusGet r point lane => Sys2Proof.Machine.execPatternStatusGet r point lane s
  | .errorInject r kind lane count => Sys2Proof.Machine.execErrorInject r kind lane count s
  | .loopbackSet r lane mode => Sys2Proof.Machine.execLoopbackSet r lane mode s
  | .captureSet r lane cfg => Sys2Proof.Machine.execCaptureSet r lane cfg s
  | .captureDone lane samples => Sys2Proof.Machine.execCaptureDone lane samples s
  | .captureRead r lane => Sys2Proof.Machine.execCaptureRead r lane s
  | .regRead r addr count => Sys2Proof.Machine.execRegRead r addr count s
  | .regWrite r addr value mask => Sys2Proof.Machine.execRegWrite r addr value mask s
  | .txBankLoad r lane bank coeffs swap => Sys2Proof.Machine.execTxBankLoad r lane bank coeffs swap s
  | .txAdaptSet r lane word => Sys2Proof.Machine.execTxAdaptSet r lane word s
  | .txPdLoad r lane bank coeffs swap => Sys2Proof.Machine.execTxPdLoad r lane bank coeffs swap s
  | .txMaskSet r lane lims action => Sys2Proof.Machine.execTxMaskSet r lane lims action s
  | .rxBankLoad r lane bank main coeffs swap fade => Sys2Proof.Machine.execRxBankLoad r lane bank main coeffs swap fade s
  | .rxBankSwap r lane bank fade => Sys2Proof.Machine.execRxBankSwap r lane bank fade s
  | .rxAdaptSet r lane adapt enables dfe nle => Sys2Proof.Machine.execRxAdaptSet r lane adapt enables dfe nle s
  | .rxPathSet r lane pin clear maxTries tryFrames => Sys2Proof.Machine.execRxPathSet r lane pin clear maxTries tryFrames s
  | .rxBankRead r lane kind index => Sys2Proof.Machine.execRxBankRead r lane kind index s
  | .decPoolSet r lane cap manFence => Sys2Proof.Machine.execDecPoolSet r lane cap manFence s
  | .frameLockSet r lane tol lockN lossN slipWin => Sys2Proof.Machine.execFrameLockSet r lane tol lockN lossN slipWin s
  | .deskewSet r lane guard => Sys2Proof.Machine.execDeskewSet r lane guard s
  | .toppingSet r rxEn copyHold => Sys2Proof.Machine.execToppingSet r rxEn copyHold s
  | .arbSet r dies arbs => Sys2Proof.Machine.execArbSet r dies arbs s
  | .arbStatusGet r => Sys2Proof.Machine.execArbStatusGet r s
  | .timebaseSet r ns frac => Sys2Proof.Machine.execTimebaseSet r ns frac s
  | .firSwap r lane => Sys2Proof.Machine.execFirSwap r lane s
  | .pdSwap r lane => Sys2Proof.Machine.execPdSwap r lane s
  | .launchDelayWrite r lane value => Sys2Proof.Machine.execLaunchDelayWrite r lane value s
  | .fadeReq r lane value => Sys2Proof.Machine.execFadeReq r lane value s
  | .pathClear r lane value => Sys2Proof.Machine.execPathClear r lane value s
  | .manFenceWrite r lane fence => Sys2Proof.Machine.execManFenceWrite r lane fence s
  | .mgmtRestart r port => Sys2Proof.Machine.execMgmtRestart r port s
  | .swClr r die on => Sys2Proof.Machine.execSwClr r die on s
  | .dacCodeWrite r die ch code => Sys2Proof.Machine.execDacCodeWrite r die ch code s
  | .dacQueuePush r die ch code => Sys2Proof.Machine.execDacQueuePush r die ch code s
  | .injStart r die conv => Sys2Proof.Machine.execInjStart r die conv s
  | .madcFifoRead r die conv => Sys2Proof.Machine.execMadcFifoRead r die conv s
  | .injResRead r die conv => Sys2Proof.Machine.execInjResRead r die conv s
  | .clearAll r die => Sys2Proof.Machine.execClearAll r die s
  | .counterWriteCommit r die hi => Sys2Proof.Machine.execCounterWriteCommit r die hi s
  | .cntLatLoRead r die => Sys2Proof.Machine.execCntLatLoRead r die s
  | .frameCountLoRead r die rx => Sys2Proof.Machine.execFrameCountLoRead r die rx s
  | .patgCountLoRead r die err => Sys2Proof.Machine.execPatgCountLoRead r die err s
  | .timeLoRead r die => Sys2Proof.Machine.execTimeLoRead r die s
  | .mgmtFrameReceive port frame => Sys2Proof.Machine.execMgmtFrameReceive port frame s
  | .slostanRequestArrival medium mac vlan bytes => Sys2Proof.Machine.execSlostanRequestArrival medium mac vlan bytes s
  | .chunk r opcode offset total data crc => Sys2Proof.Machine.execChunk r opcode offset total data crc s
  | .chunkTransferTimeout channel => Sys2Proof.Machine.execChunkTransferTimeout channel s
  | .secureHelloTimeout channel => Sys2Proof.Machine.execSecureHelloTimeout channel s
  | .sessionIdleTimeout channel => Sys2Proof.Machine.execSessionIdleTimeout channel s
  | .leaseExpiry channel => Sys2Proof.Machine.execLeaseExpiry channel s
  | .portDownClaimRelease channel => Sys2Proof.Machine.execPortDownClaimRelease channel s
  | .safetyEventResend channel seq => Sys2Proof.Machine.execSafetyEventResend channel seq s
  | .jeuriHello medium mac hops sender hello => Sys2Proof.Machine.execJeuriHello medium mac hops sender hello s
  | .jeuriRoutes medium sender ads => Sys2Proof.Machine.execJeuriRoutes medium sender ads s
  | .jeuriData medium hops packet => Sys2Proof.Machine.execJeuriData medium hops packet s
  | .helloInterval => Sys2Proof.Machine.execHelloInterval s
  | .neighbourDead medium packageId => Sys2Proof.Machine.execNeighbourDead medium packageId s
  | .triggerHoldoffEnd medium routes => Sys2Proof.Machine.execTriggerHoldoffEnd medium routes s
  | .routesRefresh => Sys2Proof.Machine.execRoutesRefresh s
  | .routeAgeOut node => Sys2Proof.Machine.execRouteAgeOut node s
  | .kxHello lane rec => Sys2Proof.Machine.execKxHello lane rec s
  | .kxResponse lane rec => Sys2Proof.Machine.execKxResponse lane rec s
  | .kxConfirm lane rec => Sys2Proof.Machine.execKxConfirm lane rec s
  | .kxAck lane rec => Sys2Proof.Machine.execKxAck lane rec s
  | .kxAbort lane rec => Sys2Proof.Machine.execKxAbort lane rec s
  | .kxResyncReq lane rec => Sys2Proof.Machine.execKxResyncReq lane rec s
  | .keyAgreeTimeout initiator => Sys2Proof.Machine.execKeyAgreeTimeout initiator s
  | .keyAgreeBackoffEnd => Sys2Proof.Machine.execKeyAgreeBackoffEnd s
  | .keyLifeThreshold => Sys2Proof.Machine.execKeyLifeThreshold s
  | .keyExpired => Sys2Proof.Machine.execKeyExpired s
  | .rackChangeover lane => Sys2Proof.Machine.execRackChangeover lane s
  | .rxOldKeyZeroise lane => Sys2Proof.Machine.execRxOldKeyZeroise lane s
  | .retainedKeyExpiry die => Sys2Proof.Machine.execRetainedKeyExpiry die s
  | .frameTransmit lane bypass => Sys2Proof.Machine.execFrameTransmit lane bypass s
  | .txHoldEnd fc missing => Sys2Proof.Machine.execTxHoldEnd fc missing s
  | .maskMeasurement lane powers => Sys2Proof.Machine.execMaskMeasurement lane powers s
  | .adaptHoldEnd lane => Sys2Proof.Machine.execAdaptHoldEnd lane s
  | .noFeedbackTimeout lane => Sys2Proof.Machine.execNoFeedbackTimeout lane s
  | .firSuggestion lane => Sys2Proof.Machine.execFirSuggestion lane s
  | .losDeclare lane powers => Sys2Proof.Machine.execLosDeclare lane powers s
  | .losClear lane powers => Sys2Proof.Machine.execLosClear lane powers s
  | .captureStep lane before after power => Sys2Proof.Machine.execCaptureStep lane before after power s
  | .captureStepForget lane => Sys2Proof.Machine.execCaptureStepForget lane s
  | .gainSettled lane gain => Sys2Proof.Machine.execGainSettled lane gain s
  | .freqFound lane freq => Sys2Proof.Machine.execFreqFound lane freq s
  | .blindEqConverged lane coefs => Sys2Proof.Machine.execBlindEqConverged lane coefs s
  | .acqTimeout lane => Sys2Proof.Machine.execAcqTimeout lane s
  | .markerCandidate lane pos window pilots => Sys2Proof.Machine.execMarkerCandidate lane pos window pilots s
  | .frameLock lane pos => Sys2Proof.Machine.execFrameLock lane pos s
  | .markerCheck lane window near => Sys2Proof.Machine.execMarkerCheck lane window near s
  | .fastReacqTryEnd lane => Sys2Proof.Machine.execFastReacqTryEnd lane s
  | .pathMemoryRefresh lane gain freq => Sys2Proof.Machine.execPathMemoryRefresh lane gain freq s
  | .adcSpareHandover lane calOk => Sys2Proof.Machine.execAdcSpareHandover lane calOk s
  | .adcSubRetired lane index => Sys2Proof.Machine.execAdcSubRetired lane index s
  | .fadeStart lane => Sys2Proof.Machine.execFadeStart lane s
  | .fadeEnd lane => Sys2Proof.Machine.execFadeEnd lane s
  | .frameReceiveOverhead lane => Sys2Proof.Machine.execFrameReceiveOverhead lane s
  | .interleaverGroupQueue lane group samples => Sys2Proof.Machine.execInterleaverGroupQueue lane group samples s
  | .decodeDone lane engine converged iterations result checkerBad => Sys2Proof.Machine.execDecodeDone lane engine converged iterations result checkerBad s
  | .engineWatchdog lane engine => Sys2Proof.Machine.execEngineWatchdog lane engine s
  | .engineSliceDone lane engine pass => Sys2Proof.Machine.execEngineSliceDone lane engine pass s
  | .engineSliceStart lane engine => Sys2Proof.Machine.execEngineSliceStart lane engine s
  | .checkerSelfTest lane acceptsGood acceptsBad => Sys2Proof.Machine.execCheckerSelfTest lane acceptsGood acceptsBad s
  | .frameRelease owner fc => Sys2Proof.Machine.execFrameRelease owner fc s
  | .deskewAlignRetry owner => Sys2Proof.Machine.execDeskewAlignRetry owner s
  | .deskewSlewStep owner => Sys2Proof.Machine.execDeskewSlewStep owner s
  | .erasureNotice die src cw => Sys2Proof.Machine.execErasureNotice die src cw s
  | .toppingWindowEnd lane fc cw got => Sys2Proof.Machine.execToppingWindowEnd lane fc cw got s
  | .treeChange => Sys2Proof.Machine.execTreeChange s
  | .cipherPipeCheck lane txBad rxBad => Sys2Proof.Machine.execCipherPipeCheck lane txBad rxBad s
  | .cipherSliceDone lane rx pipe pass => Sys2Proof.Machine.execCipherSliceDone lane rx pipe pass s
  | .hostCodewordReceive port uncorr corrected units => Sys2Proof.Machine.execHostCodewordReceive port uncorr corrected units s
  | .hostLaneLoss lane sig cdr am align => Sys2Proof.Machine.execHostLaneLoss lane sig cdr am align s
  | .hostLaneRecover lane => Sys2Proof.Machine.execHostLaneRecover lane s
  | .hostPairOffset die exceeds => Sys2Proof.Machine.execHostPairOffset die exceeds s
  | .sbSlotArbitration crcErr => Sys2Proof.Machine.execSbSlotArbitration crcErr s
  | .sbReq src dst tag write addr value => Sys2Proof.Machine.execSbReq src dst tag write addr value s
  | .sbRsp src dst tag => Sys2Proof.Machine.execSbRsp src dst tag s
  | .sbReqResend src tag => Sys2Proof.Machine.execSbReqResend src tag s
  | .mailboxPost src dst sep rep secure msg => Sys2Proof.Machine.execMailboxPost src dst sep rep secure msg s
  | .mbAck src dst sep rep outcome => Sys2Proof.Machine.execMbAck src dst sep rep outcome s
  | .mailboxReceiverReset die ep => Sys2Proof.Machine.execMailboxReceiverReset die ep s
  | .mbMutualFull a b aep bep => Sys2Proof.Machine.execMbMutualFull a b aep bep s
  | .heartbeat die => Sys2Proof.Machine.execHeartbeat die s
  | .heartbeatReceive die src rep => Sys2Proof.Machine.execHeartbeatReceive die src rep s
  | .heartbeatTimeout die => Sys2Proof.Machine.execHeartbeatTimeout die s
  | .elect die resign fwValid => Sys2Proof.Machine.execElect die resign fwValid s
  | .electionWindowClose => Sys2Proof.Machine.execElectionWindowClose s
  | .mirror => Sys2Proof.Machine.execMirror s
  | .sbSafetyBroadcast src trip => Sys2Proof.Machine.execSbSafetyBroadcast src trip s
  | .sbDeadlineMissed die cls => Sys2Proof.Machine.execSbDeadlineMissed die cls s
  | .sbStarvation die cls => Sys2Proof.Machine.execSbStarvation die cls s
  | .d2dTransferReceive die port crcOk => Sys2Proof.Machine.execD2dTransferReceive die port crcOk s
  | .d2dLinkDown die port trainingLost => Sys2Proof.Machine.execD2dLinkDown die port trainingLost s
  | .d2dRetrain die port => Sys2Proof.Machine.execD2dRetrain die port s
  | .d2dLinkUp die port => Sys2Proof.Machine.execD2dLinkUp die port s
  | .telemetryBoundary => Sys2Proof.Machine.execTelemetryBoundary s
  | .latch die => Sys2Proof.Machine.execLatch die s
  | .snapshotComplete => Sys2Proof.Machine.execSnapshotComplete s
  | .syncInEdge => Sys2Proof.Machine.execSyncInEdge s
  | .slowClockCalibrated ratio => Sys2Proof.Machine.execSlowClockCalibrated ratio s
  | .crystalStart => Sys2Proof.Machine.execCrystalStart s
  | .crystalFail => Sys2Proof.Machine.execCrystalFail s
  | .refclkLost => Sys2Proof.Machine.execRefclkLost s
  | .refclkHoldoverEnd => Sys2Proof.Machine.execRefclkHoldoverEnd s
  | .refclkReturn => Sys2Proof.Machine.execRefclkReturn s
  | .pllLock die pll => Sys2Proof.Machine.execPllLock die pll s
  | .dieStateEntryDone die => Sys2Proof.Machine.execDieStateEntryDone die s
  | .wakeSource die src => Sys2Proof.Machine.execWakeSource die src s
  | .wakeDone die => Sys2Proof.Machine.execWakeDone die s
  | .wakeCmpTrip die cmp level => Sys2Proof.Machine.execWakeCmpTrip die cmp level s
  | .thermalConversion die bits => Sys2Proof.Machine.execThermalConversion die bits s
  | .safetyConversion lane bits => Sys2Proof.Machine.execSafetyConversion lane bits s
  | .safetyConversionMissing lane => Sys2Proof.Machine.execSafetyConversionMissing lane s
  | .comparatorTest lane atHigh atLow => Sys2Proof.Machine.execComparatorTest lane atHigh atLow s
  | .emissionTrip lane cmpB level => Sys2Proof.Machine.execEmissionTrip lane cmpB level s
  | .sfLArmed lane => Sys2Proof.Machine.execSfLArmed lane s
  | .ldisStuck lane high => Sys2Proof.Machine.execLdisStuck lane high s
  | .safeMonFault lane => Sys2Proof.Machine.execSafeMonFault lane s
  | .lockstepMismatch die => Sys2Proof.Machine.execLockstepMismatch die s
  | .supplyFault die cut => Sys2Proof.Machine.execSupplyFault die cut s
  | .memScrub die corrected uncorr => Sys2Proof.Machine.execMemScrub die corrected uncorr s
  | .selftestOverdue => Sys2Proof.Machine.execSelftestOverdue s
  | .selftestDone results => Sys2Proof.Machine.execSelftestDone results s
  | .dacUpdate die => Sys2Proof.Machine.execDacUpdate die s
  | .dacShort die ch acts => Sys2Proof.Machine.execDacShort die ch acts s
  | .clrNAssert => Sys2Proof.Machine.execClrNAssert s
  | .clrNRelease => Sys2Proof.Machine.execClrNRelease s
  | .madcTimer die conv => Sys2Proof.Machine.execMadcTimer die conv s
  | .madcTriggerDelayEnd die conv => Sys2Proof.Machine.execMadcTriggerDelayEnd die conv s
  | .madcConversionDone die conv overload bits => Sys2Proof.Machine.execMadcConversionDone die conv overload bits s
  | .madcInjectedTrigger die conv safety => Sys2Proof.Machine.execMadcInjectedTrigger die conv safety s
  | .madcCalibrationDone die conv sums => Sys2Proof.Machine.execMadcCalibrationDone die conv sums s
  | .mgmtSignalDetect port => Sys2Proof.Machine.execMgmtSignalDetect port s
  | .mgmtTrainingComplete port => Sys2Proof.Machine.execMgmtTrainingComplete port s
  | .mgmtTrainFail port => Sys2Proof.Machine.execMgmtTrainFail port s
  | .mgmtBackoffEnd port => Sys2Proof.Machine.execMgmtBackoffEnd port s
  | .mgmtLinkUp port => Sys2Proof.Machine.execMgmtLinkUp port s
  | .mgmtLinkDown port => Sys2Proof.Machine.execMgmtLinkDown port s
  | .lpiIdleTimer port => Sys2Proof.Machine.execLpiIdleTimer port s
  | .powerOnResetRelease => Sys2Proof.Machine.execPowerOnResetRelease s
  | .resetNFall cut => Sys2Proof.Machine.execResetNFall cut s
  | .startUp fwOk tests => Sys2Proof.Machine.execStartUp fwOk tests s
  | .eccErrorAtAccess die unit uncorr => Sys2Proof.Machine.execEccErrorAtAccess die unit uncorr s
  | .pllLockLost die pll => Sys2Proof.Machine.execPllLockLost die pll s
  | .vintageRestoreDone => Sys2Proof.Machine.execVintageRestoreDone s
  | .shutdownComplete results => Sys2Proof.Machine.execShutdownComplete results s
  | .hostTxBlockDue port => Sys2Proof.Machine.execHostTxBlockDue port s
  | .mgmtSignalLoss port => Sys2Proof.Machine.execMgmtSignalLoss port s
  | .mgmtPartnerLpi port enter => Sys2Proof.Machine.execMgmtPartnerLpi port enter s
  | .wakeCmpRearm die cmp level => Sys2Proof.Machine.execWakeCmpRearm die cmp level s
  | .mailboxMessageRead die ep src sep => Sys2Proof.Machine.execMailboxMessageRead die ep src sep s
  | .markerConfirmation lane pos window pilots => Sys2Proof.Machine.execMarkerConfirmation lane pos window pilots s
  | .patternCheckerSync lane checker lock bits errs => Sys2Proof.Machine.execPatternCheckerSync lane checker lock bits errs s

end Sys2Proof.Machine
end

