-- ==== Sys2Proof/Safety.lean ====
section
/-! DEFINITION. What counts as a sound state of the block, and what no step takes back: the terms of the claims. -/

namespace Sys2Proof.Machine

/-- A firmware bank's security version fits its field (R618). -/
def FwBank.ok (b : FwBank) : Bool := decide (b.secver ≤ 63)

/-- Whether every value of a table has at most `n` bits. -/
def NMap.bits (m : NMap) (n : Nat) : Bool := m.all fun kv => decide (kv.2 < 2 ^ n)

/-- The sequence numbers of the audit ring rise by one up to the last one before `next` (R615). -/
def auditRun : List AuditRec → Nat → Bool
  | [], _ => true
  | x :: l, next => decide ((x.seq + l.length + 1) % 2 ^ 32 = next) && auditRun l next

/-- The ring's bound (R615). -/
def ringOk (l : List AuditRec) : Bool := decide (l.length ≤ 4096)

/-- A sound state: register, counter and calibration tables in canonical form, every counter of 48 bits (R577), the audit
ring of at most 4,096 records in sequence (R615), the permanent record within its limits (R611, R613), security versions of
0 to 63 (R618). -/
structure State.Sound (s : State) : Prop where
  regs : s.regs.wf = true
  ctr : s.tel.ctr.wf = true
  ctr48 : s.tel.ctr.bits 48 = true
  cal : s.nv.cal.wf = true
  ring : ringOk s.nv.audit = true
  run : auditRun s.nv.audit s.nv.auditNext = true
  lifecycle : s.nv.fuses.lifecycle ≤ 3
  ownerSlot : s.nv.fuses.ownerSlot ≤ 3
  secver : s.nv.fuses.secver ≤ 63
  active : s.nv.active.ok = true
  standby : s.nv.standby.ok = true
  loading : s.nv.loading.all FwBank.ok = true

/-- What the permanent record of a later state may hold, given an earlier one (R611 to R613, R620): the lifecycle, the
security version and the owner slot never go back, a withdrawn permit never returns, an identity once set stays, and what
is fixed at manufacture is fixed. -/
structure Fuses.Since (a b : Fuses) : Prop where
  lifecycle : a.lifecycle ≤ b.lifecycle
  secver : a.secver ≤ b.secver
  ownerSlot : a.ownerSlot ≤ b.ownerSlot
  permit : b.permit = true → a.permit = true
  identity : a.identity.isSome = true → b.identity = a.identity
  packageId : b.packageId = a.packageId
  macA : b.macA = a.macA
  macB : b.macB = a.macB

/-- What no step takes back: which part it is (R2), the permanent record, the number of commits (R628), what has been
sent. -/
structure State.Since (a b : State) : Prop where
  part : b.part = a.part
  fuses : Fuses.Since a.nv.fuses b.nv.fuses
  commits : a.nv.commits ≤ b.nv.commits
  out : a.out <+: b.out

/-! ### Requests that reach their effect (R362) -/

/-- The state in which a request that passes the checks of R362 is executed: it has left the execution queue, claims due
have been released (R372), its sequence and time are noted with the session (R361, R365), and the session's leases are
renewed. -/
def State.taken (s : State) (r : Req) : State :=
  let t := (s.dequeue r).expireDue
  (t.updSession r.channel fun y => { y with
    seqLast := some r.seq, lastAt := t.time.now, medium := r.medium, mac := r.mac, vlan := r.vlan }).renew r.channel

/-- As `taken`, with the request counted (R579). -/
def State.runAt (s : State) (r : Req) : State := (s.taken r).cntPkg 1544

/-- A request on a session's channel that passes every check of R362 and is executed at once: it is the first of the execution
queue (R367), the session `x` is open on its channel and fits its path, its form is good and its sequence new, the part, the session and the claims allow it, its
TLVs are good, nothing holds the interpreter, and no open transaction stages it (R374). -/
def Executes (s : State) (r : Req) (i : CmdInfo) (x : Session) : Bool :=
  let t := s.taken r
  s.turn r && s.open? && (((s.dequeue r).expireDue).session? r.channel == some x) && ((s.dequeue r).expireDue).fits x r.src r.medium && r.form == .good
    && seqVerdict x r.seq == .fresh && t.checks3to6 x i == none && t.checks7to8 x i == none && check9 r i == none
    && (x.txn.isNone || !i.stages) && !(t.phase == .shuttingDown && i.code != 0x0001) && !t.testBusy i
    && !(i.ns && t.standard)

/-- The request is executed at once, in the state `t`. -/
def Runs (s : State) (r : Req) (i : CmdInfo) (x : Session) (t : State) : Prop :=
  Executes s r i x = true ∧ t = s.runAt r

/-- The state after a request's reply: `q` is what its execution gave. -/
def State.replied (r : Req) (x : Session) (i : CmdInfo) (q : Res) : State := State.conclude r x i true q

/-- Whether no session and no attempt holds a channel. -/
def State.channelFree (s : State) (c : BitVec 8) : Bool :=
  !(s.sl.sessions.any fun x => x.channel == c) && !(s.sl.handshakes.any fun h => h.channel == c)

/-- A request of channel 0x00 that is executed (R354, R367, R393): it is the first of the execution queue, the interpreter takes
requests and the form is good. -/
def Executes0 (s : State) (r : Req) : Bool :=
  s.turn r && s.open? && r.channel == 0 && r.form == .good && s.phase != .shuttingDown

/-- The state in which a request of channel 0x00 is executed. -/
def State.runAt0 (s : State) (r : Req) : State := (s.dequeue r).cntPkg 1544

/-- The request of channel 0x00 is executed, in the state `t`. -/
def Runs0 (s : State) (r : Req) (t : State) : Prop := Executes0 s r = true ∧ t = s.runAt0 r

/-- The state after the reply to a request of channel 0x00. -/
def State.replied0 (r : Req) (code : Nat) (q : Res) : State := q.state.sendReply r code q.replyTlvs

end Sys2Proof.Machine
end

