-- ==== Sys2Proof/Certificates/Slice0/Obligations.lean ====
section
/-! DEFINITION. The statements about the model: what each command does when it runs, what each rule of the spec says of
it, and what every step keeps. -/

open Sys2Proof Sys2Proof.Machine

/-- With a command at the front of the queue, a step is that command's execution on the state with the queue's rest.
(R362, R367) -/
def Obligations.StepRunsTheFront : Prop :=
  ∀ (s : State) (c : Instr) (rest : List Instr), s.pending = c :: rest → step s = exec c { s with pending := rest }

/-- On an empty queue a step lets time pass (the model's choice, assumption log 2): monotonic time goes on by one REFCLK
cycle, or by one slow-clock period while time is extrapolated, except in OFF; no register, counter, output or die
changes. (R513, R514) -/
def Obligations.EmptyQueueTicks : Prop :=
  ∀ s : State, s.pending = [] →
    ∃ t, step s = .next t ∧ s.time.now ≤ t.time.now ∧ t.regs = s.regs ∧ t.tel.ctr = s.tel.ctr ∧ t.out = s.out ∧
      t.dies = s.dies ∧ t.pending = []

/-- Whatever the state and whatever waits in the queue, a step answers a next state: no command of the table faults or
is refused. What in it the model reads or chooses is in assumption log 7 and 10. (R362) -/
def Obligations.EveryStepCompletes : Prop :=
  ∀ s : State, ∃ t, step s = .next t

/-- The state right after reset is sound: tables canonical, counters of 48 bits, the audit ring in sequence, the
permanent record and the firmware banks within their limits. What in it the model reads or chooses is in assumption
log 4. (R577, R611, R615, R618) -/
def Obligations.ResetIsSound : Prop :=
  State.reset.Sound

/-- From every sound state, whatever command is at the front of the queue, the next state is sound. (R577, R611, R613,
R615, R618) -/
def Obligations.StepKeepsSound : Prop :=
  ∀ s t : State, s.Sound → step s = .next t → t.Sound

/-- From every sound state, a step never lowers the lifecycle, the security version or the owner slot, never brings back
a withdrawn permit, never changes an identity once set, never lowers the number of commits, never changes which part
it is, and never unsends what was sent. (R2, R304, R611, R613, R620, R628) -/
def Obligations.StepTakesNothingBack : Prop :=
  ∀ s t : State, s.Sound → step s = .next t → s.Since t

/-- From every sound state, a command leaves the queue of waiting commands as it stands. (R367) -/
def Obligations.ExecLeavesTheQueue : Prop :=
  ∀ (c : Instr) (s t : State), s.Sound → exec c s = .next t → t.pending = s.pending

/-- Right after reset, every register field of every die reads the value that its table gives for reset. Right after
reset there is no session, no handshake, no queued or pending request, no claim and no subscriber; the EtherType is
0x88B5, SESSION_IDLE is 60 s and PLAIN_MAX is OPERATOR; nothing has been sent and no command waits. (R6, R8, R345,
R355, R356, R377, R381) -/
def Obligations.ResetState : Prop :=
  (∀ (d : Die) (f : Fld), State.reset.rd d f = f.rst) ∧
  (State.reset.sl.sessions = [] ∧ State.reset.sl.handshakes = [] ∧ State.reset.sl.execQ = [] ∧ State.reset.sl.pend = [] ∧
    State.reset.sl.subs = [] ∧ State.reset.sl.etherType = 0x88B5#16 ∧ State.reset.sl.idle = 60 ∧
    State.reset.sl.plainMax = .operator ∧ State.reset.out = [] ∧ State.reset.pending = [])

/-- When the request passes the checks: PING replies its ECHO and IDENT; SESSION_CLOSE replies OK, then ends the
session; SLOSTAN_CFG_SET sets what it names (PLAIN_MAX EXPERT not in DEPLOYED), an EtherType from after its reply;
CLAIM of claims in rising order above those held, held by no other, adds them and renews the lease; RELEASE gives up
those named, or all; LEASE_RENEW changes no more than the renewal; BEGIN with a claim and no open transaction opens
one; ABORT with an open transaction rolls it back. What in it the model reads or chooses is in assumption log 12 and
13. (R346, R355, R371, R372, R373, R376, R395, R399, R613) -/
def Obligations.SessionRequestsRun : Prop :=
  (∀ s t r x echo, r.channel ≠ 0 → Runs s r infoPing x t →
    exec (.ping r echo) s = .next (State.replied r x infoPing
      (.okWith t (echo.toList.map tlvEcho ++ [tlvIdent t])))) ∧
  (∀ s t r x, Runs s r infoSessionClose x t →
    exec (.sessionClose r) s = .next
      (let u := State.replied r x infoSessionClose
          (.ok (t.updSession r.channel fun y => { y with closing := true }))
       (u.sl.sessions.filter Session.closing).foldl (fun u y => u.endSession y.channel) u)) ∧
  (∀ s t r x e idle pm, Runs s r (infoSlostanCfgSet e idle pm) x t →
    ¬(t.nv.fuses.lifecycle = 2 ∧ pm = some .expert) →
    exec (.slostanCfgSet r e idle pm) s = .next (State.replied r x (infoSlostanCfgSet e idle pm)
      (.ok { t with sl := { t.sl with
        etherNext := if e.isSome then e else t.sl.etherNext, idle := idle.getD t.sl.idle,
        plainMax := pm.getD t.sl.plainMax } }))) ∧
  (∀ s t r x cs lease, Runs s r (infoClaim cs lease) x t → claimsRise cs = true →
    (∀ c ∈ cs, ∀ h ∈ x.claims, claimLt h c = true) → (∀ c ∈ cs, t.heldByOther r.channel c = false) →
    exec (.claim r cs lease) s = .next (State.replied r x (infoClaim cs lease)
      (.ok (t.updSession r.channel fun y =>
        { y with claims := y.claims ++ cs, leaseMs := lease.getD x.leaseMs,
                 leaseUntil := t.time.now + msU (lease.getD x.leaseMs) })))) ∧
  (∀ s t r x cs, Runs s r (infoRelease cs) x t →
    exec (.release r cs) s = .next (State.replied r x (infoRelease cs)
      (.ok (t.updSession r.channel fun y =>
        { y with claims := if cs.isEmpty then [] else y.claims.filter fun c => !cs.contains c })))) ∧
  (∀ s t r x, Runs s r infoLeaseRenew x t →
    exec (.leaseRenew r) s = .next (State.replied r x infoLeaseRenew (.ok t))) ∧
  (∀ s t r x m, Runs s r infoBegin x t → x.claims ≠ [] → x.txn = none →
    exec (.begin r m) s = .next (State.replied r x infoBegin
      (.ok (t.updSession r.channel fun y => { y with txn := some ⟨m, [], none⟩, txnLost := false })))) ∧
  (∀ s t r x k, Runs s r infoAbort x t → x.txn = some k →
    exec (.abort r) s = .next (State.replied r x infoAbort (.ok (t.rollback x))))

/-- On channel 0x00: PING replies. SESSION_OPEN with fewer than 16 sessions and attempts, a non-secure channel free,
opens a session on a free channel of 0x01 to 0x7F at the lower of the privilege asked and PLAIN_MAX. SECURE_HELLO
outside RETIRED, with fewer than 16 sessions and attempts and fewer than 4 attempts, a secure channel free, starts
an attempt on a free channel of 0x80 to 0xFE if the certificate is accepted, at the lower of the privilege asked and
that of the certificate, and else replies NOT_AUTHENTICATED. SECURE_FINISH of an attempt opens its session and
replies on its channel if it comes within 2 s and signature and MAC are right, and else ends the attempt with
NOT_AUTHENTICATED. Which free channel is assigned is a free value. A secure attempt of 2 s ends with
NOT_AUTHENTICATED and its channel is free; a session of SESSION_IDLE seconds without a packet ends; the claims of a
session whose lease has run out, or whose port has been down for 200 ms, are released; a chunked transfer without a
chunk for 5 s is discarded. Before its time none of them does anything. What in it the model reads or chooses is in
assumption log 5, 6, 13 and 57. (R354, R355, R356, R357, R358, R366, R372, R393, R613, R614) -/
def Obligations.SessionsOpenAndTime : Prop :=
  (∀ s t r echo, Runs0 s r t →
    exec (.ping r echo) s = .next (State.replied0 r 0x0001
      (.okWith t (echo.toList.map tlvEcho ++ [tlvIdent t])))) ∧
  (∀ s t r p c, Runs0 s r t → s.full = false → 0x01 ≤ c.toNat ∧ c.toNat ≤ 0x7F → s.channelFree c = true →
    ∃ ch, 0x01 ≤ ch.toNat ∧ ch.toNat ≤ 0x7F ∧ s.channelFree ch = true ∧
      exec (.sessionOpen r p) s = .next (State.replied0 r 0x0002
        (.okWith { t with free := t.free + 1, sl := { t.sl with sessions := t.sl.sessions ++
            [newSession t ch false r (Privilege.lower p t.sl.plainMax) false none] } }
          [tlvChannel ch, tlvPrivilege (Privilege.lower p t.sl.plainMax)]))) ∧
  (∀ s t r nonce point cert p c, Runs0 s r t → s.nv.fuses.lifecycle ≠ 3 → s.full = false →
    s.sl.handshakes.length < 4 → 0x80 ≤ c.toNat ∧ c.toNat ≤ 0xFE → s.channelFree c = true →
    ∃ u, exec (.secureHello r nonce point cert p) s = .next u ∧
      match s.certGrant cert with
      | none => u = State.replied0 r 0x0003 (.fail .notAuthenticated t)
      | some most => ∃ h, u.sl.handshakes = s.sl.handshakes ++ [h] ∧ 0x80 ≤ h.channel.toNat ∧ h.channel.toNat ≤ 0xFE ∧
          s.channelFree h.channel = true ∧ h.src = r.src ∧ h.medium = r.medium ∧ h.start = s.time.now ∧
          h.priv = Privilege.lower p most ∧ h.ctrlKey = Config.certKey cert ∧
          h.restricted = s.nv.fuses.ownerKey.isNone ∧ u.nv = s.nv) ∧
  (∀ s t r ch sig mac h, Runs0 s r t →
    t.sl.handshakes.find? (fun h => h.channel == ch && h.medium == r.medium && h.src == r.src) = some h →
    exec (.secureFinish r ch sig mac) s = .next
      (let u := t.dropHandshake ch
       if s.past h.start (secU 2) = false ∧ Config.ecdsaVerify h.ctrlKey h.transcript sig = true ∧
          mac = Config.hmac384 h.finish (h.transcript ++ sig) then
         (State.mirrorNow { u with sl := { u.sl with
            sessions := u.sl.sessions ++ [newSession u ch true r h.priv h.restricted (some h.keys)] } }).sendReply
          { r with channel := ch } 0x0004 [tlvStatus .ok, tlvPrivilege h.priv]
       else u.sendReply r 0x0004 [tlvStatus .notAuthenticated])) ∧
  (∀ s ch h, s.sl.handshakes.find? (fun h => h.channel == ch) = some h →
    exec (.secureHelloTimeout ch) s = .next
      (if h.start + secU 2 ≤ s.time.now then (s.dropHandshake ch).sendReply ⟨h.medium, 0, h.seq, h.src, .good, [], h.mac, h.vlan⟩ 0x0003
        [tlvStatus .notAuthenticated] else s)) ∧
  (∀ s ch x, s.session? ch = some x →
    exec (.sessionIdleTimeout ch) s = .next
      (if x.lastAt + secU s.sl.idle ≤ s.time.now then s.endSession ch else s)) ∧
  (∀ s ch x, s.session? ch = some x → x.claims ≠ [] →
    exec (.leaseExpiry ch) s = .next (if x.leaseUntil ≤ s.time.now then s.expireClaims x else s)) ∧
  (∀ s ch x t, s.session? ch = some x → x.claims ≠ [] → s.sessionDown x = some t →
    exec (.portDownClaimRelease ch) s = .next (if t + msU 200 ≤ s.time.now then s.expireClaims x else s)) ∧
  (∀ s ch x c, s.session? ch = some x → x.chunk = some c →
    exec (.chunkTransferTimeout ch) s = .next
      (if c.lastAt + secU 5 ≤ s.time.now then s.updSession ch fun y => { y with chunk := none } else s))

/-- After a session's end no session holds its channel, so its record, with the claims, the transaction and the transfer
in it, is gone; every other channel that had a session still has one, and none gains one. (R355, R371, R372, R376) -/
def Obligations.EndOfSession : Prop :=
  ∀ (s : State) (ch : BitVec 8), (s.endSession ch).session? ch = none ∧
    (∀ c, c ≠ ch → ((s.endSession ch).session? c).isSome = (s.session? c).isSome) ∧
    (∀ x ∈ (s.endSession ch).sl.sessions, x.channel ≠ ch)

/-- A session that is no subscriber becomes one, with fewer than four, numbered with the lowest free number, and takes
the held SAFETY events when it is the first; one that is a subscriber sets its rate and filters anew. EVENT_ACK
removes its unacknowledged SAFETY events up to the sequence named; EVENT_FILTER_SET sets what it names;
EVENT_UNSUBSCRIBE ends the subscription. A request with the opcode of EVENT_NOTIFY gets BAD_OPCODE. An
unacknowledged SAFETY event of 10 ms goes again with its sequence. What in it the model reads or chooses is in
assumption log 16. (R381, R382, R392, R408, R664) -/
def Obligations.SubscriptionsRun : Prop :=
  (∀ s t r x rate sev mask, Runs s r (infoEventSubscribe rate sev) x t → t.sub? r.channel = none → t.sl.subs.length < 4 →
    exec (.eventSubscribe r rate sev mask) s = .next (State.replied r x (infoEventSubscribe rate sev)
      (.ok { t with sl := { t.sl with
        subs := t.sl.subs ++ [{
          num := t.freeSubNum, channel := r.channel, rate := rate, sevMin := sev.getD 0,
          mask := mask.getD (BitVec.allOnes 544), queue := (if t.sl.subs.isEmpty then t.sl.held else []), nextSeq := 1,
          unacked := [], dropped := 0, credit := 64 * creditUnit, creditAt := t.time.now }],
        held := if t.sl.subs.isEmpty then [] else t.sl.held } })).flushAll) ∧
  (∀ s t r x rate sev mask u, Runs s r (infoEventSubscribe rate sev) x t → t.sub? r.channel = some u →
    exec (.eventSubscribe r rate sev mask) s = .next (State.replied r x (infoEventSubscribe rate sev)
      (.ok (t.updSub r.channel fun v => { v.refill t.time.now with
        rate := rate, sevMin := sev.getD 0, mask := mask.getD (BitVec.allOnes 544) }))).flushAll) ∧
  (∀ s t r x seq u, Runs s r infoEventAck x t → t.sub? r.channel = some u →
    ∃ q : Res, exec (.eventAck r seq) s = .next (State.replied r x infoEventAck q) ∧ q.status = .ok ∧
      q.state.sl.subs = t.sl.subs.map (fun v => if v.channel = r.channel then
        { v with unacked := v.unacked.filter fun a => !seqUpTo a.seq seq } else v) ∧
      q.state.regs = t.regs ∧ q.state.dies = t.dies ∧ q.state.tel = t.tel ∧ q.state.sl.sessions = t.sl.sessions) ∧
  (∀ s t r x mask sev rate u, Runs s r (infoEventFilterSet sev rate) x t → t.sub? r.channel = some u →
    exec (.eventFilterSet r mask sev rate) s = .next (State.replied r x (infoEventFilterSet sev rate)
      (.ok (t.updSub r.channel fun v => { v.refill t.time.now with
        mask := mask.getD v.mask, sevMin := sev.getD v.sevMin, rate := rate.getD v.rate })))) ∧
  (∀ s t r x u, Runs s r infoEventUnsubscribe x t → t.sub? r.channel = some u →
    exec (.eventUnsubscribe r) s = .next (State.replied r x infoEventUnsubscribe (.ok (t.endSub r.channel)))) ∧
  (∀ s r x, s.turn r = true → s.open? = true → ((s.dequeue r).expireDue).session? r.channel = some x →
    ((s.dequeue r).expireDue).fits x r.src r.medium = true → r.form = .good → seqVerdict x r.seq = .fresh →
    exec (.eventNotify r) s = .next
      ((((s.dequeue r).expireDue.updSession r.channel fun y =>
        { y with seqLast := some r.seq, lastAt := (s.dequeue r).expireDue.time.now, medium := r.medium, mac := r.mac,
                 vlan := r.vlan }).doom x r.seq .badOpcode).replyCached r 0x0710 [tlvStatus .badOpcode])) ∧
  (∀ s ch seq u x, s.sub? ch = some u → s.session? ch = some x → s.mediumUp (s.pathTo x.src x.medium) = true →
    (u.unacked.any fun a => a.seq == seq && decide (a.sentAt + msU 10 ≤ s.time.now)) = true →
    exec (.safetyEventResend ch seq) s = .next
      ((s.sendEvent x seq ((u.unacked.filter fun a => a.seq == seq && decide (a.sentAt + msU 10 ≤ s.time.now)).map
          fun a => { a.ev with resent := true }) 0).updSub ch fun v => { v with unacked := v.unacked.map fun a =>
        if a.seq = seq then { a with sentAt := s.time.now } else a }))

/-- When the request passes the checks: COUNTER_READ and TOPDOWN_READ reply from the latest complete snapshot. CLEAR_ALL
sets the die's counters to 0 and COUNTER_WRITE_COMMIT the selected one; CNT_LAT_LO_READ and TIME_LO_READ reply the
low word and keep the rest in their high words; these four run where the block's domain is on. TAG_SET keeps k and
seed for the next frame boundary. TAG_READ, whose mask names one die, removes that die's oldest records, COUNT or 32
of them at most, and replies them, or gets DOMAIN_OFF where its CTRL domain is without supply. TIME_GET replies
package time; TIMEBASE_SET waits for the next boundary; INTERVAL_SET writes the length and SYNC_EN it carries. What
in it the model reads or chooses is in assumption log 35. (R420, R514, R515, R520, R577, R582, R583, R587, R588,
R590, R600) -/
def Obligations.CountersAndTimeRun : Prop :=
  (∀ s t r x first count, Runs s r (infoCounterRead s first count) x t →
    exec (.counterRead r first count) s = .next (State.replied r x (infoCounterRead s first count)
      (.okWith t [tlvSnapshot (t.tel.snap.map Snapshot.bound),
        ⟨0x0196, (List.range count).flatMap fun i => counterEntry (t.snapVal (first + i))⟩]))) ∧
  (∀ s t r x lane, Runs s r (infoTopdownRead lane) x t →
    exec (.topdownRead r lane) s = .next (State.replied r x (infoTopdownRead lane)
      (.okWith t [tlvSnapshot (t.tel.snap.map Snapshot.bound),
        ⟨0x019A, [80, 81, 82, 83].flatMap fun i => be 8 (t.snapVal (lane * 192 + i)).1⟩]))) ∧
  (∀ s t r x d, Runs s r (regInfo d 0x14 0 true) x t → t.blockOff d 0x14 true = false →
    exec (.clearAll r d) s = .next (State.replied r x (regInfo d 0x14 0 true) (.ok { t with
      tel := { t.tel with ctr := NMap.drop t.tel.ctr fun k => decide (k / 192 = d.val ∧ k < 1536) } }))) ∧
  (∀ s t r x d hi, Runs s r (regInfo d 0x14 5 true) x t → t.blockOff d 0x14 true = false →
    exec (.counterWriteCommit r d hi) s = .next (State.replied r x (regInfo d 0x14 5 true)
      (.ok (t.setCtr (d.val * 192 + t.rd d CNT_SEL_INDEX) ((hi % 65536) * 2 ^ 32 + t.rd d CNT_WR_LO))))) ∧
  (∀ s t r x d, Runs s r (regInfo d 0x14 2 false) x t → t.blockOff d 0x14 false = false →
    exec (.cntLatLoRead r d) s = .next (State.replied r x (regInfo d 0x14 2 false)
      (let v := t.snapVal (d.val * 192 + t.rd d CNT_SEL_INDEX)
       .okWith ((t.wr d CNT_LAT_HI_VAL_HI (v.1 / 2 ^ 32)).wrB d CNT_LAT_HI_STICKY v.2) [tlvData [v.1 % 2 ^ 32]]))) ∧
  (∀ s t r x d, Runs s r (regInfo d 0x02 2 false) x t → t.blockOff d 0x02 false = false →
    exec (.timeLoRead r d) s = .next (State.replied r x (regInfo d 0x02 2 false)
      (.okWith (((t.wr d CLK_TIME_HI_NS_HI (t.ns / 2 ^ 32)).wr d CLK_TIME_FRAC_FRAC (t.pkgTime % nsU / 2 ^ 24)).wrB d
        CLK_TIME_FRAC_EXTRAPOLATED t.time.extrap) [tlvData [t.ns % 2 ^ 32]]))) ∧
  (∀ s t r x k seed, Runs s r (infoTagSet k seed) x t →
    exec (.tagSet r k seed) s = .next (State.replied r x (infoTagSet k seed)
      (.ok { t with tel := { t.tel with tagNext := (k, seed) } }))) ∧
  (∀ s t r x dies count, Runs s r (infoTagRead dies count) x t →
    ∃ d, maskDies dies = [d] ∧ exec (.tagRead r dies count) s = .next (State.replied r x (infoTagRead dies count)
      (if t.level d .ctrl = .dead then .fail .domainOff t
       else .okWith (t.updDie d fun y => { y with tags := y.tags.drop (count.getD 32) })
        (((t.die d).tags.take (count.getD 32)).map (tlvTag d))))) ∧
  (∀ s t r x, Runs s r infoTimeGet x t →
    exec (.timeGet r) s = .next (State.replied r x infoTimeGet (.okWith t [tlvTime t]))) ∧
  (∀ s t r x ns frac, Runs s r (infoTimebaseSet ns frac) x t →
    exec (.timebaseSet r ns frac) s = .next (State.replied r x (infoTimebaseSet ns frac)
      (.ok { t with time := { t.time with setPending := some (ns, frac) } }))) ∧
  (∀ s t r x us sync, Runs s r (infoIntervalSet us) x t →
    exec (.intervalSet r us sync) s = .next (State.replied r x (infoIntervalSet us)
      (.ok (let u := match us with
              | some v => t.wr 0 CLK_INTERVAL_INTERVAL_US v
              | none => t
            match sync with
            | some b => u.wrB 0 CLK_INTERVAL_SYNC_EN b
            | none => u))))

/-- In a part that has started, with a die outside DORMANT and OFF, a boundary that is due opens interval n + 1 at its
due time: a waiting TIMEBASE_SET makes package time there what it names, and none leaves the offset; without slewing
the next boundary follows after the interval length; LATCH of n + 1 waits at the leader as a broadcast of two slots.
A healthy die outside DORMANT and OFF that has no set of n yet acts on the LATCH of n that has come to it: its set
of n holds its counters, and its wrap flags or, after a restart of its domain, all of them; its wrap flags are then
clear. When a leader runs and every set of the oldest open boundary is in, the snapshot of that boundary is the
readable one, with the values and wrap flags of those sets and the flags carried, and nothing else changes but the
sets, which are marked. What in it the model reads or chooses is in assumption log 2, 35 and 56. (R420, R464, R515,
R516, R517, R580, R581, R583, R585) -/
def Obligations.TelemetryRuns : Prop :=
  (∀ s, s.started = true → s.sbRuns = true → s.time.nextBoundary ≤ s.time.now →
    ∃ t, exec .telemetryBoundary s = .next t ∧ t.time.ivNum = s.time.ivNum + 1 ∧
      t.time.lastBoundary = s.time.nextBoundary ∧ t.time.setPending = none ∧
      (s.time.slew = 0 → t.time.nextBoundary = s.time.nextBoundary + usU (s.rd 0 CLK_INTERVAL_INTERVAL_US)) ∧
      (∀ p, s.time.setPending = some p →
        (s.time.nextBoundary : Int) + t.time.offset = (p.1 * nsU + p.2 * 2 ^ 24 : Nat)) ∧
      (s.time.setPending = none → t.time.offset = s.time.offset) ∧
      ∃ l e ns, (t.die t.leader).sb.reqs = l ++ [e] ∧ e.cls = 3 ∧ e.copies = 2 ∧ e.msg = .latch (s.time.ivNum + 1) ns) ∧
  (∀ s d e n ns, s.pop d = true → s.healthy d = true → s.power d ≠ .dormant → s.power d ≠ .off →
    s.sb.inbox.find? (fun e => e.dst == d && SlotMsg.latchNum? e.msg != none) = some e → e.msg = .latch n ns →
    s.tel.sets.any (fun x => x.die == d.val && x.num == n) = false →
    ∃ t, exec (.latch d) s = .next t ∧
      (∃ x ∈ t.tel.sets, x.die = d.val ∧ x.num = n ∧ x.collected = false ∧
        x.vals = t.tel.ctr.filter (fun kv => kv.1 / 192 == d.val && decide (kv.1 < 1536)) ∧
        (∀ k ∈ s.tel.wraps, k / 192 = d.val → k < 1536 → k ∈ x.wraps) ∧
        ((s.die d).pwr.restarted = true → x.wraps = (List.range 192).map (ctrIndex d))) ∧
      ∀ k ∈ t.tel.wraps, ¬(k / 192 = d.val ∧ k < 1536)) ∧
  (∀ s b, s.leads = true → s.collecting = some b → s.collectable b.num = true →
    exec .snapshotComplete s = .next { s with tel := { s.tel with
      snap := some
        (let sets := (8 :: s.popDies.map Fin.val).filterMap fun d => s.setFor d b.num
         ⟨b, mergeTables (sets.map LatchSet.vals), sets.flatMap LatchSet.wraps ++ s.tel.carry⟩)
      carry := []
      sets := s.tel.sets.map fun x => if x.num ≤ b.num then { x with collected := true, wraps := [] } else x } })

/-- EVENT_ACK, EVENT_FILTER_SET and EVENT_UNSUBSCRIBE on a session that is not a subscriber complete with NOT_PERMITTED
and have no effect. EVENT_SUBSCRIBE on a session that is already a subscriber takes no further place and sets that
subscriber's rate and filters anew, as R381 says. (R664) -/
def Obligations.NonSubscribers : Prop :=
  (∀ s t r x seq, Runs s r infoEventAck x t → t.sub? r.channel = none →
    exec (.eventAck r seq) s = .next (State.replied r x infoEventAck (.fail .notPermitted t))) ∧
  (∀ s t r x mask sev rate, Runs s r (infoEventFilterSet sev rate) x t → t.sub? r.channel = none →
    exec (.eventFilterSet r mask sev rate) s =
      .next (State.replied r x (infoEventFilterSet sev rate) (.fail .notPermitted t))) ∧
  (∀ s t r x, Runs s r infoEventUnsubscribe x t → t.sub? r.channel = none →
    exec (.eventUnsubscribe r) s = .next (State.replied r x infoEventUnsubscribe (.fail .notPermitted t))) ∧
  (∀ s t r x rate sev mask u, Runs s r (infoEventSubscribe rate sev) x t → t.sub? r.channel = some u →
    ∃ q : Res, exec (.eventSubscribe r rate sev mask) s =
        .next (State.replied r x (infoEventSubscribe rate sev) q).flushAll ∧ q.status = .ok ∧
      q.state.sl.subs.length = t.sl.subs.length ∧
      ∀ v ∈ q.state.sl.subs, v.channel = r.channel →
        v.rate = rate ∧ v.sevMin = sev.getD 0 ∧ v.mask = mask.getD (BitVec.allOnes 544))

/-- A counter of package index k counts modulo 2^48 and leaves every other counter; its wrap flag is set when it passes
from 2^48 - 1 to 0, and no other flag changes. A write sets the value and leaves every flag. (R577, R581, R582) -/
def Obligations.CountersWrap : Prop :=
  (∀ (s : State) k n, s.tel.ctr.wf = true →
    (s.addCtr k n).tel.ctr.get k = (s.tel.ctr.get k + n) % 2 ^ 48 ∧
    (∀ j, j ≠ k → (s.addCtr k n).tel.ctr.get j = s.tel.ctr.get j) ∧
    (2 ^ 48 ≤ s.tel.ctr.get k + n → k ∈ (s.addCtr k n).tel.wraps) ∧
    (s.tel.ctr.get k + n < 2 ^ 48 → (s.addCtr k n).tel.wraps = s.tel.wraps) ∧
    (∀ j, j ≠ k → (j ∈ (s.addCtr k n).tel.wraps ↔ j ∈ s.tel.wraps))) ∧
  (∀ (s : State) k v, s.tel.ctr.wf = true → v < 2 ^ 48 →
    (s.setCtr k v).tel.ctr.get k = v ∧ (∀ j, j ≠ k → (s.setCtr k v).tel.ctr.get j = s.tel.ctr.get j) ∧
    (s.setCtr k v).tel.wraps = s.tel.wraps)

/-- ARB_SET that passes the checks sets, in every die of its mask, the deadline of each class it names, and completes
with OK; a class not named, a die not named and every other register field keep their values. ARB_STATUS_GET replies
one record per populated die. (R417, R470, R471, R487) -/
def Obligations.DeadlinesSet : Prop :=
  (∀ s t r x dies arbs, t.regs.wf = true → Runs s r (infoArbSet dies arbs) x t →
    ∃ u, exec (.arbSet r dies arbs) s = .next (State.replied r x (infoArbSet dies arbs) (.ok u)) ∧
      (∀ d c v, d ∈ maskDies dies → (c, v) ∈ arbs → u.rd d (sbDeadline c) = v) ∧
      (∀ d c, c < 8 → (d ∉ maskDies dies ∨ ∀ a ∈ arbs, a.1 ≠ c) → u.rd d (sbDeadline c) = t.rd d (sbDeadline c)) ∧
      (∀ d f, (∀ e c, c < 8 → f.key d ≠ (sbDeadline c).key e) → u.rd d f = t.rd d f) ∧
      u.sb = t.sb ∧ u.dies = t.dies ∧ u.tel = t.tel ∧ u.sl = t.sl) ∧
  (∀ s t r x, Runs s r infoArbStatusGet x t →
    exec (.arbStatusGet r) s = .next (State.replied r x infoArbStatusGet
      (.okWith t (t.popDies.map (arbStatus t)))))

/-- While the sideband runs, a slot ages every waiting request, then grants the slot to the contending die with the
lowest deadline, the lowest position among equals, or to none if none contends. The winner's loss count and sitting
out end; each contending loser has lost once more and sits out 1, 2, 4 ... up to 128 arbitrations; a die that sat
out has one arbitration less to go. A die at which the slot on the bus fails its CRC sets CRC_ERR; a mailbox word
may set SEC_VIOL or DOMAIN_OFF_SEEN at the die it reaches; no other register changes. What in it the model reads or
chooses is in assumption log 19. (R461, R466, R468, R469) -/
def Obligations.Arbitration : Prop :=
  ∀ (s : State) (bad : BitVec 8), s.sbRuns = true →
    ∃ t, exec (.sbSlotArbitration bad) s = .next t ∧ t.sb.slot = s.sb.slot + 1 ∧
      (s.regs.wf = true → ∀ d,
        t.flag d SB_STAT_CRC_ERR =
          (s.flag d SB_STAT_CRC_ERR || (t.sb.granted.isSome && s.pop d && bad.getLsbD d.val && s.power d != .off)) ∧
        ∀ f, (∀ e, f.key d ≠ SB_STAT_CRC_ERR.key e ∧ f.key d ≠ MBX_STAT_SEC_VIOL.key e ∧
          f.key d ≠ MBX_STAT_DOMAIN_OFF_SEEN.key e) → t.rd d f = s.rd d f) ∧
      t.sb.granted = arbWinner s.slotBegins.contenders ∧
      (t.sb.granted = none ↔ s.slotBegins.contenders = []) ∧
      (∀ d, t.sb.granted = some d → (t.die d).sb.loss = 0 ∧ (t.die d).sb.sitOut = 0 ∧
        ∃ n, (d, n) ∈ s.slotBegins.contenders ∧
          ∀ e ∈ s.slotBegins.contenders, n < e.2 ∨ n = e.2 ∧ d.val ≤ e.1.val) ∧
      (∀ d n, (d, n) ∈ s.slotBegins.contenders → t.sb.granted ≠ some d →
        (t.die d).sb.loss = (s.die d).sb.loss + 1 ∧ (t.die d).sb.sitOut = min 128 (2 ^ (s.die d).sb.loss)) ∧
      (∀ d, s.pop d = true → (∀ n, (d, n) ∉ s.slotBegins.contenders) →
        (t.die d).sb.sitOut = SbDie.sits (s.slotBegins.die d).sb - 1)

/-- The last response slot that has come to a die for its open request ends that request, notes the group of counters it
brings and returns the credit; an earlier slot of the response only leaves the place where it waited. A request
without response for 64 slots goes again, at most twice, with its tag, and is counted; after that it ends, returns
its credit and its target counts a missed heartbeat. A request of a class at count 0, not yet noted, counts a miss,
sets MISSED and raises SB_DEADLINE_MISSED; a best-effort one that waited 2^(8 + STARVE_THR) slots counts a
starvation, sets STARVED and raises SB_STARVATION. When 100 us are over, HEARTBEAT of a die that is not off posts
its report as a broadcast of two slots, with the health mask when the die leads. MIRROR mirrors the leader's state.
SAFETY takes the slots of that broadcast out of where they wait and changes no receiver. What in it the model reads
or chooses is in assumption log 19 and 56. (R379, R462, R464, R468, R471, R472, R583) -/
def Obligations.SidebandEvents : Prop :=
  (∀ (s u : State) (a b : Die) tag m, s.takeSlot b a (SlotMsg.answers tag) = some (m, u) →
    ((u.die b).sb.outs.any fun o => o.dst == a && o.tag == tag) = true → SlotMsg.last? m = some true →
    exec (.sbRsp a b tag) s = .next
      (let v := u.updDie b fun x => { x with sb := { x.sb with
         outs := x.sb.outs.filter fun o => !(o.dst == a && o.tag == tag) } }
       let v := match m with
         | .ctr _ _ num index .. => v.gotPart a num (index % 192 / 32)
         | _ => v
       v.creditBack b a)) ∧
  (∀ (s u : State) (a b : Die) tag m, s.takeSlot b a (SlotMsg.answers tag) = some (m, u) → SlotMsg.last? m = some false →
    exec (.sbRsp a b tag) s = .next u) ∧
  (∀ (s : State) (a : Die) tag o,
    ((s.die a).sb.outs.find? fun o => o.tag == tag && decide (o.slot + 64 ≤ s.sb.slot)) = some o →
    exec (.sbReqResend a tag) s = .next (if o.resends < 2 then
      (State.cnt (s.updDie a fun x => { x with sb := { x.sb with
        outs := x.sb.outs.map fun p => if p = o then { p with resends := p.resends + 1, slot := s.sb.slot } else p,
        credits := x.sb.credits.set o.dst.val (min 2 (x.sb.credits.getD o.dst.val 0 + 1)) } }) a 164).sbPush a 7 1
        (.req o.dst tag o.write o.addr o.value)
    else ((s.updDie a fun x => { x with sb := { x.sb with outs := x.sb.outs.filter fun p => p != o } }).creditBack a
      o.dst).updDie o.dst fun x => { x with sb := { x.sb with hbMissed := x.sb.hbMissed + 1 } })) ∧
  (∀ (s u : State) (d : Die) (c : Fin 8), (s.markReq d fun e => e.cls == c.val && e.count == 0 && !e.missed) = some u →
    exec (.sbDeadlineMissed d c) s = .next ((((u.updDie d fun x => { x with sb := { x.sb with
      misses := x.sb.misses + 1 } }).cnt d 161).wr d SB_STAT_MISSED 1).raise d evSB_DEADLINE_MISSED
      (evArg d.val 0xFF []))) ∧
  (∀ (s u : State) (d : Die) (c : Fin 8), (s.markReq d fun e => e.cls == c.val && e.count == 255 && !e.missed
      && decide (2 ^ (8 + s.rd d SB_CTRL_STARVE_THR) ≤ e.waited)) = some u →
    exec (.sbStarvation d c) s = .next ((((u.updDie d fun x => { x with sb := { x.sb with
      starves := x.sb.starves + 1 } }).cnt d 162).wr d SB_STAT_STARVED 1).raise d evSB_STARVATION
      (evArg d.val 0xFF []))) ∧
  (∀ (s : State) (d : Die), s.pop d = true → s.power d ≠ .off → s.sbRuns = true →
    periodDue (s.die d).sb.hbSent (usU 100) s.time.now = true →
    exec (.heartbeat d) s = .next
      (let u := s.updDie d fun x => { x with sb := { x.sb with
         hbSent := some (nextDue (s.die d).sb.hbSent (usU 100) s.time.now) } }
       u.sbPush d 1 2 (.heartbeat (u.hbReport d) (if u.leader = d then some u.healthMask else none)))) ∧
  (∀ s : State, exec .mirror s = .next s.mirrorNow) ∧
  (∀ (s : State) (d : Die) trip, exec (.sbSafetyBroadcast d trip) s = .next { s with sb := { s.sb with
    inbox := s.sb.inbox.filter fun e => !(e.src == d && e.msg == .safety trip) } })

/-- A post to another die queues the message's slots, word 0 with the sender's epoch first; the words in order, which
the channel map allows with their security, make the message at the receiver, where it is stored or refused. A post
within a die that the map allows is stored or refused at once; one that it does not allow is counted and sets
SEC_VIOL, as a slot that it does not allow does. To an endpoint whose domain is dead nothing is stored and
MB_DOMAIN_OFF is the outcome; with a drain owed or four messages in the channel nothing is stored and BUSY is; else
the message is stored last and STORED is. The outcome goes back as MB_ACK of class 2, or at once within a die. A
read takes the oldest message. A receiver's reset empties its inbound channels. None of these changes another
channel. MB_ACK returns the sender's credit, but for word of a purge. When both directions of a pair have stayed
full for 1,000 slots and no drain is owed, MB_MUTUAL_FULL leaves both as they are, sets MUTUAL_FULL at both ends,
and the lower side owes a drain; a read that empties its inbound channel ends the duty. What in it the model reads
or chooses is in assumption log 19. (R462, R467, R477, R478, R479, R480, R481, R483, R490) -/
def Obligations.Mailboxes : Prop :=
  (∀ (s : State) (a b : Die) sep rep sec msg, s.pop a = true → s.pop b = true → a ≠ b →
    exec (.mailboxPost a b sep rep sec msg) s = .next
      (s.mbQueue a b sec (mbSlots b sec sep rep { msg with epoch := s.rd a MBX_EPOCH }))) ∧
  (∀ (s : State) (a b : Die) sep rep sec (m : MbMsg), a ≠ b → mbMap sep rep false = some sec → m.epoch < 256 →
    ∃ l, (mbSlots b sec sep rep m).foldl (fun u x => u.slotArrives a x [b]) s =
      ({ s with sb := { s.sb with parts := l } } : State).mbStore a b sep rep m) ∧
  (∀ (s : State) (a b : Die) sep rep sec i last w, mbMap sep rep (a == b) ≠ some sec →
    s.slotArrives a (.mb b sec sep rep i last w) [b] = (s.cnt b 167).wr b MBX_STAT_SEC_VIOL 1) ∧
  (∀ (s : State) (a : Die) sep rep sec msg, s.pop a = true →
    exec (.mailboxPost a a sep rep sec msg) s = .next
      (if mbMap sep rep true = some sec then s.mbStore a a sep rep { msg with epoch := s.rd a MBX_EPOCH }
       else (s.cnt a 167).wr a MBX_STAT_SEC_VIOL 1)) ∧
  (∀ (s : State) (a b : Die) sep rep m,
    (∀ a' sep' b' rep', (a', sep', b', rep') ≠ (a, sep, b, rep) →
      (s.mbStore a b sep rep m).mbMsgs a' sep' b' rep' = s.mbMsgs a' sep' b' rep') ∧
    (if s.level b (Endpoint.domain rep) = .dead then
      (s.mbStore a b sep rep m).mbMsgs a sep b rep = s.mbMsgs a sep b rep ∧
      s.mbStore a b sep rep m = s.mbOutcome a b sep rep .mbDomainOff
    else if s.owes a sep b rep = true ∨ 4 ≤ (s.mbMsgs a sep b rep).length then
      (s.mbStore a b sep rep m).mbMsgs a sep b rep = s.mbMsgs a sep b rep ∧
      s.mbStore a b sep rep m = (s.cnt b 165).mbOutcome a b sep rep .busy
    else (s.mbStore a b sep rep m).mbMsgs a sep b rep = s.mbMsgs a sep b rep ++ [m] ∧
      ∃ l, s.mbStore a b sep rep m = ({ s with sb := { s.sb with mail := l } } : State).mbOutcome a b sep rep .stored)) ∧
  (∀ (s : State) (a b : Die) sep rep o, a ≠ b → s.mbOutcome a b sep rep o = s.sbPush b 2 1 (.mbAck a sep rep o)) ∧
  (∀ (s : State) (a b : Die) sep rep, ∃ t, exec (.mailboxMessageRead b rep a sep) s = .next t ∧
    t.mbMsgs a sep b rep = (s.mbMsgs a sep b rep).drop 1 ∧
    ((s.mbMsgs a sep b rep).length ≤ 1 → t.owes b rep a sep = false) ∧
    ∀ a' sep' b' rep', (a', sep', b', rep') ≠ (a, sep, b, rep) → t.mbMsgs a' sep' b' rep' = s.mbMsgs a' sep' b' rep') ∧
  (∀ (s : State) (b : Die) rep, s.pop b = true → ∃ t, exec (.mailboxReceiverReset b rep) s = .next t ∧
    (∀ a sep, t.mbMsgs a sep b rep = []) ∧
    ∀ a sep b' rep', (b', rep') ≠ (b, rep) → t.mbMsgs a sep b' rep' = s.mbMsgs a sep b' rep') ∧
  (∀ (s u : State) (a b : Die) sep rep o m, s.takeSlot b a (fun m => m == .mbAck b sep rep o) = some (m, u) →
    exec (.mbAck a b sep rep o) s = .next (match o with
      | .receiverReset _ => u
      | .mbDomainOff => (u.creditBack b a).wr b MBX_STAT_DOMAIN_OFF_SEEN 1
      | _ => u.creditBack b a)) ∧
  (∀ (s : State) (a b : Die) aep bep, s.regs.wf = true → s.pop a = true → s.pop b = true →
    s.bothFull a b aep bep = true → s.owes a aep b bep = false → s.owes b bep a aep = false →
    ∃ t, exec (.mbMutualFull a b aep bep) s = .next t ∧ t.sb.mail = s.sb.mail ∧ t.flag a MBX_STAT_MUTUAL_FULL = true ∧
      t.flag b MBX_STAT_MUTUAL_FULL = true ∧
      (a.val < b.val ∨ a = b ∧ Endpoint.code aep ≤ Endpoint.code bep → t.owes a aep b bep = true) ∧
      (b.val < a.val ∨ a = b ∧ Endpoint.code bep < Endpoint.code aep → t.owes b bep a aep = true))

/-- On a link that is up, a good transfer ends the run of failures and is no longer waiting at the neighbour's port, a
RESERVED one ahead of a GENERAL one; a failed one adds to the run, and each of the first three is replayed and
counted. After a failed transfer with its three replays, or on loss of training, both ends' ports are down with
nothing waiting, DOWN_SEEN is set, counter 169 counts and D2D_LINK_DOWN is raised; a die left without a link becomes
unhealthy; routes follow at the next frame boundary. A down link retrains every 100 ms; when it returns, both ends'
ports are up and routes follow. (R453, R454, R458, R459, R472) -/
def Obligations.FabricLinks : Prop :=
  (∀ (s : State) (d e : Die) (k : Fin 3), s.pop d = true → s.linkUp d k.val = true → s.peer d k.val = some e →
    exec (.d2dTransferReceive d k true) s = .next
      ((s.updDie d fun x => { x with sb := { x.sb with d2dFails := x.sb.d2dFails.set k.val 0 } }).updDie e fun x =>
        { x with sb := { x.sb with d2dWait := x.sb.d2dWait.set k.val (d2dNext (x.sb.d2dWait.getD k.val (0, 0))) } })) ∧
  (∀ w : Nat × Nat, d2dNext w = if 0 < w.1 then (w.1 - 1, w.2) else (0, w.2 - 1)) ∧
  (∀ (s : State) (d : Die) (k : Fin 3), s.pop d = true → s.linkUp d k.val = true →
    exec (.d2dTransferReceive d k false) s = .next
      (let n := (s.die d).sb.d2dFails.getD k.val 0
       let t : State := s.updDie d fun x => { x with sb := { x.sb with d2dFails := x.sb.d2dFails.set k.val (n + 1) } }
       if n < 3 then t.cnt d 168 else t)) ∧
  (∀ (s : State) (d : Die) (k : Fin 3) lost, s.pop d = true → s.linkUp d k.val = true →
    (lost = true ∨ 4 ≤ (s.die d).sb.d2dFails.getD k.val 0) →
    exec (.d2dLinkDown d k lost) s = .next
      (let u : State := s.each (s.linkEnds d k.val) fun s e =>
         (((s.setBit e D2D_PORT_STAT_UP k.val false).setBit e D2D_PORT_STAT_DOWN_SEEN k.val true).updDie e fun x =>
           { x with sb := { x.sb with
             d2dFails := x.sb.d2dFails.set k.val 0
             d2dWait := x.sb.d2dWait.set k.val (0, 0)
             d2dRetrain := x.sb.d2dRetrain.set k.val s.time.now } }).cnt e 169 |>.raise e evD2D_LINK_DOWN
           (evArg k.val 0xFF [])
       let u : State := { u with sb := { u.sb with pendRoutes := true } }
       u.each (u.linkEnds d k.val) fun s e => if s.anyLinkUp e then s else s.dieUnhealthy e 3)) ∧
  (∀ (s : State) (d : Die) (k : Fin 3), s.pop d = true → (s.peer d k.val).isSome = true → s.linkUp d k.val = false →
    s.past ((s.die d).sb.d2dRetrain.getD k.val 0) (msU 100) = true →
    exec (.d2dRetrain d k) s = .next (s.each (s.linkEnds d k.val) fun s e => s.updDie e fun x =>
      { x with sb := { x.sb with d2dRetrain := x.sb.d2dRetrain.set k.val s.time.now } })) ∧
  (∀ (s : State) (d : Die) (k : Fin 3), s.pop d = true → (s.peer d k.val).isSome = true → s.linkUp d k.val = false →
    exec (.d2dLinkUp d k) s = .next
      (let u : State := s.each (s.linkEnds d k.val) fun s e => s.setBit e D2D_PORT_STAT_UP k.val true
       { u with sb := { u.sb with pendRoutes := true } }))

/-- A HEARTBEAT that has come to a die notes its time and the sender's firmware validity; with a supply or clock fault,
or a lockstep mismatch in it, a healthy sender fails. A healthy die that is silent for too long fails while the
sideband runs, and its management port with it. ELECT notes the die's firmware validity and opens an election window
at the current slot or joins the open one; when the leader resigns by it, its successor calls an election. Before 64
slots after the first ELECT the window stays. Then it closes, and the entrants without a fault are healthy. A
package that had no leader gets the lowest healthy die with valid firmware. One whose leader has neither failed nor
resigned keeps it and its sessions. Else the successor takes over with what was mirrored to it, if it is healthy
with valid firmware, and if not the lowest other die that is, without; the successor's sessions are those mirrored,
in the form that a takeover loads, with no queued request and no attempt, and without a mirror no session stays.
What in it the model reads or chooses is in assumption log 20. (R379, R380, R472, R474, R475, R476) -/
def Obligations.Leadership : Prop :=
  (∀ (s u : State) (d a : Die) rep m, s.takeSlot d a (SlotMsg.reports rep) = some (m, u) →
    exec (.heartbeatReceive d a rep) s = .next
      (let t := u.updDie a fun x => { x with sb := { x.sb with
         lastHb := u.time.now, hbMissed := 0, lockstep := rep.lockstep } }
       let t := t.wrB a DIE_STAT_FW_VALID rep.fwValid
       if rep.supplyFault || rep.clockFault then t.dieFails a 1 else if rep.lockstep then t.dieFails a 2 else t)) ∧
  (∀ (s : State) (d : Die), s.pop d = true → s.sbRuns = true → s.healthy d = true → s.hbSilent d = true →
    exec (.heartbeatTimeout d) s = .next ((s.dieFails d 0).portFails d)) ∧
  (∀ (s : State) (d : Die) resign fw, s.pop d = true →
    exec (.elect d resign fw) s = .next
      (let u := (s.wrB d DIE_STAT_FW_VALID fw).electIn d resign
       if resign && d == u.leader then u.callElection else u)) ∧
  (∀ (s : State) (d : Die) resign, ∃ e, (s.electIn d resign).sb.election = some e ∧ (d, resign) ∈ e.entrants ∧
    e.openSlot = (match s.sb.election with
      | some o => o.openSlot
      | none => s.sb.slot) ∧ (resign = true → d = s.leader → e.resigned = some d)) ∧
  (∀ (s : State) e, s.sb.election = some e → s.sb.slot < e.openSlot + 64 → exec .electionWindowClose s = .next s) ∧
  (∀ (s : State) e, s.sb.election = some e → e.openSlot + 64 ≤ s.sb.slot → s.sb.elected = false →
    exec .electionWindowClose s = .next
      (((({ s with sb := { s.sb with election := none } } : State).joinHealthy e.entrants).firstLeader).chooseSuccessor)) ∧
  (∀ (s : State) d l, s.candidates = d :: l → s.firstLeader =
    (let u := s.wr 0 SB_STAT_LEADER d.val
     { u with sb := { u.sb with elected := true } })) ∧
  (∀ (s : State) e, s.regs.wf = true → s.sb.election = some e → e.openSlot + 64 ≤ s.sb.slot → s.sb.elected = true →
    s.leaderFailed = false → e.resigned ≠ some s.leader →
    ∃ t, exec .electionWindowClose s = .next t ∧ t.sb.election = none ∧ t.leader = s.leader ∧ t.sl.sessions = s.sl.sessions) ∧
  (∀ (s : State) e, s.sb.election = some e → e.openSlot + 64 ≤ s.sb.slot → s.sb.elected = true →
    (s.leaderFailed = true ∨ e.resigned = some s.leader) → (∃ d, d ∈ s.candidates ∧ d ≠ s.leader) →
    ∃ d t, d ∈ s.candidates ∧ d ≠ s.leader ∧ exec .electionWindowClose s = .next t ∧
      t = (let u := (({ s with sb := { s.sb with election := none } } : State).takeOver d
             (s.successor? == some d)).joinHealthy e.entrants |>.chooseSuccessor
           { u with sb := { u.sb with pendRoutes := true } }) ∧
      (∀ c, s.successor? = some c → c ∈ s.candidates → c ≠ s.leader → d = c) ∧
      ((∀ c, s.successor? = some c → c ∉ s.candidates) → ∀ c ∈ s.candidates, c ≠ s.leader → d.val ≤ c.val)) ∧
  (∀ (s : State) l n, s.sl.mirrored = some (l, n) → s.loadMirror.sl.sessions = l.map (loadSession s.sl.sessions) ∧
    s.loadMirror.sl.execQ = [] ∧ s.loadMirror.sl.handshakes = []) ∧
  (∀ s : State, s.endAllSessions.sl.sessions = [])

/-- With the right CONFIRM and changes left, none of them used up by an interruption: LASER_CEILING_SET writes every
lane it names; NODE_IDENTITY_SET binds the digest of the identity public key and replies it; OWNER_KEY_SET fills the
active slot; OWNER_KEY_REVOKE makes the next slot active and empty; LIFECYCLE_ADVANCE to the next state, its
conditions met, enters it; CLEARTEXT_WITHDRAW withdraws the permit and sets GCM_REQUIRED; OWNER_CERT_SET stores a
certificate the part accepts and otherwise gets INTEGRITY_FAIL. AUDIT_READ replies the records at the ring indices
named, LIMITS_GET the limits left. FW_LOAD while neither a load nor a trial is under way checks the image in the
order of R619: the first check that fails gives the status and nothing changes; an image that passes is pending
until it is written, and then stands in the standby banks. A CHUNK of FW_LOAD in order and in time that is not the
last, outside a transaction, is stored and gets OK. FW_ACTIVATE with a valid standby image, a security version
within the changes left and nothing under way starts a trial at the highest position other than the leader; a die
that rejoins in time with its digest right is moved and the next restarts; when no other is left the leader resigns,
or the trial is done if the leader has moved or a leader has resigned; one whose digest is wrong or that has not
rejoined in 1 s reverts the trial. What in it the model reads or chooses is in assumption log 6 and 44. (R304, R365,
R366, R394, R412, R413, R611, R613, R615, R619, R620) -/
def Obligations.LifecycleAndFirmwareRun : Prop :=
  (∀ s t r x cs, Runs s r (infoLaserCeilingSet cs) x t →
    (∀ c ∈ cs, ∀ d ∈ oneDie c.1, t.ceilingLeft d ≠ 0) →
    exec (.laserCeilingSet r cs) s = .next (State.replied r x (infoLaserCeilingSet cs)
      (.ok (t.updFuses fun f => { f with ceilings :=
        (cs.flatMap fun c => (oneDie c.1).map fun d => (d, c.2)).foldl (fun v c =>
          v.set c.1.val (v.get c.1 ++ [c.2]) c.1.isLt) f.ceilings })))) ∧
  (∀ s t r x, Runs s r (infoNodeIdentitySet confirmWord) x t → t.nv.fuses.identity = none →
    t.spent .identity = false →
    exec (.nodeIdentitySet r confirmWord) s = .next (State.replied r x (infoNodeIdentitySet confirmWord)
      (.okWith (t.updFuses fun f => { f with identity := some (Config.sha384 t.nv.identityPub) })
        [⟨0x01C2, t.nv.identityPub⟩]))) ∧
  (∀ s t r x key, Runs s r (infoOwnerKeySet key) x t → t.nv.fuses.ownerKey = none →
    t.spent .ownerKey = false →
    exec (.ownerKeySet r key) s = .next (State.replied r x (infoOwnerKeySet key)
      (.okWith (t.updFuses fun f => { f with ownerKey := some key }) [tlvSlot t.nv.fuses.ownerSlot]))) ∧
  (∀ s t r x, Runs s r (infoOwnerKeyRevoke confirmWord) x t → t.slotsUsed < 3 →
    exec (.ownerKeyRevoke r confirmWord) s = .next (State.replied r x (infoOwnerKeyRevoke confirmWord)
      (.okWith (t.updFuses fun f => { f with ownerSlot := t.nv.fuses.ownerSlot + 1, ownerKey := none,
                                             spent := f.spent.filter fun c => c != .ownerKey })
        [tlvSlot (t.nv.fuses.ownerSlot + 1)]))) ∧
  (∀ s t r x target, Runs s r (limitInfo 0x0A01 confirmWord 1) x t → t.nv.fuses.lifecycle ≠ 3 →
    Lifecycle.code target = t.nv.fuses.lifecycle + 1 → t.mayAdvance (Lifecycle.code target) = true →
    t.spent .lifecycle = false → (Lifecycle.code target = 3 → t.storeBusy = false) →
    exec (.lifecycleAdvance r target confirmWord) s = .next (State.replied r x (limitInfo 0x0A01 confirmWord 1)
      (.ok (let u := t.updFuses fun f => { f with lifecycle := Lifecycle.code target }
            match Lifecycle.code target with
            | 2 => u.enterDeployed
            | 3 => u.enterRetired
            | _ => u))).doRestarts) ∧
  (∀ s t r x, Runs s r { limitInfo 0x0A02 confirmWord 0 with cip := true } x t → t.nv.fuses.permit = true →
    t.spent .permit = false →
    exec (.cleartextWithdraw r confirmWord) s =
      .next (State.replied r x { limitInfo 0x0A02 confirmWord 0 with cip := true }
        (.ok ((t.updFuses fun f => { f with permit := false }).setPolicyCode .gcmRequired)))) ∧
  (∀ s t r x cert, Runs s r (infoOwnerCertSet cert) x t →
    exec (.ownerCertSet r cert) s = .next (State.replied r x (infoOwnerCertSet cert)
      (if t.ownCertOk cert then
        .ok (State.syncFuse { t with nv := { t.nv with ownerCert := some cert } }).kxKick
       else .fail .integrityFail t))) ∧
  (∀ s t r x first count, Runs s r (infoAuditRead first count) x t →
    exec (.auditRead r first count) s = .next (State.replied r x (infoAuditRead first count)
      (.okWith t ((List.range count).flatMap fun i =>
        ((t.nv.audit.find? fun a => a.seq % 4096 == (first + i) % 4096).toList.map tlvAudit))))) ∧
  (∀ s t r x, Runs s r infoLimitsGet x t →
    exec (.limitsGet r) s = .next (State.replied r x infoLimitsGet (.okWith t [tlvLimits t]))) ∧
  (∀ s t r x image, Runs s r infoFwLoad x t → t.nv.loading = none → t.nv.trial = none →
    exec (.fwLoad r image) s = .next (State.replied r x infoFwLoad
      (match fwCheck t image with
       | some st => .fail st t
       | none => .pending .fwLoad { t with nv := { t.nv with loading := some (fwBankOf image) } }))) ∧
  (∀ (s : State) b, s.nv.loading = some b →
    exec .fwLoadDone s = .next
      ((State.syncFw { s with nv := { s.nv with standby := b, loading := none } }).finishPend .fwLoad .ok [])) ∧
  (∀ s r x offset total data crc, s.turn r = true → s.open? = true → s.phase ≠ .shuttingDown →
    ((s.dequeue r).expireDue).session? r.channel = some x → ((s.dequeue r).expireDue).fits x r.src r.medium = true →
    r.form = .good → seqVerdict x r.seq = .fresh → x.txn = none → ((s.dequeue r).expireDue).testBusy infoFwLoad = false →
    total ≤ 4194304 → (match x.chunk with
      | some c => c.opcode = 0x0A08 ∧ c.total = total ∧ offset = c.data.length ∧ s.time.now < c.lastAt + secU 5
      | none => offset = 0) → offset + data.length < total →
    exec (.chunk r 0x0A08 offset total data crc) s = .next
      ((State.setChunk (((s.dequeue r).expireDue).updSession r.channel fun y => { y with
          seqLast := some r.seq, lastAt := ((s.dequeue r).expireDue).time.now, medium := r.medium, mac := r.mac,
          vlan := r.vlan }) r.channel
        (some ⟨0x0A08, total, (x.chunk.map ChunkXfer.data).getD [] ++ data, s.time.now⟩)).replyCached r 0x0A08
          [tlvStatus .ok])) ∧
  (∀ s t r x d l, Runs s r (infoFwActivate confirmWord) x t → t.nv.loading = none → t.nv.trial = none →
    t.nv.standby.valid = true →
    t.nv.standby.secver - t.nv.fuses.secver ≤ t.secverLeft → t.trialLeft ⟨[], t.leader, t.time.now, none⟩ = d :: l →
    exec (.fwActivate r confirmWord) s = .next (State.replied r x (infoFwActivate confirmWord)
      (.pending .fwActivate (t.trialRestart ⟨[], t.leader, t.time.now, none⟩ d).syncFw))) ∧
  (∀ (s : State) (d : Die) t, s.nv.trial = some t → t.restarting = d → d ∉ t.moved →
    exec (.fwDieRejoin d false) s = .next (s.trialRevert t)) ∧
  (∀ (s : State) (d e : Die) t l, s.nv.trial = some t → t.restarting = d → d ∉ t.moved →
    s.past t.since (secU 1) = false → s.trialLeft { t with moved := t.moved ++ [d] } = e :: l →
    exec (.fwDieRejoin d true) s = .next (State.trialRestart { s with nv := { s.nv with
      trial := some { t with moved := t.moved ++ [d] } } } { t with moved := t.moved ++ [d] } e)) ∧
  (∀ (s : State) (d : Die) t, s.nv.trial = some t → t.restarting = d → d ∉ t.moved → t.since + secU 1 ≤ s.time.now →
    exec (.fwRejoinTimeout d) s = .next (s.trialRevert t)) ∧
  (∀ (s : State) (d : Die) t, s.nv.trial = some t → t.restarting = d → d ∉ t.moved → s.past t.since (secU 1) = false →
    s.trialLeft { t with moved := t.moved ++ [d] } = [] →
    exec (.fwDieRejoin d true) s = .next
      (let u : State := { s with nv := { s.nv with trial := some { t with moved := t.moved ++ [d] } } }
       if s.leader ∈ t.moved ++ [d] ∨ t.oldLeader.isSome then u.trialDone
       else u.sbPush u.leader 1 2 (.elect true (u.fwValid u.leader)))) ∧
  (∀ (s : State) (d : Die) b, s.nv.trial = none → exec (.fwDieRejoin d b) s = .next s ∧ exec (.fwRejoinTimeout d) s = .next s)

/-- A request that passes the checks is refused with no change to the permanent record: LIFECYCLE_ADVANCE in RETIRED, or
to the next state after an interruption used its change, with LIMIT_REACHED, to any state but the next with
BAD_PARAM, and without the next state's conditions with NOT_PERMITTED; a laser ceiling with a lane whose four writes
are used, NODE_IDENTITY_SET and CLEARTEXT_WITHDRAW whose one change is made or used, and a revocation with no slot
left with LIMIT_REACHED; OWNER_KEY_SET of a slot that is filled or used with NOT_PERMITTED. A wrong CONFIRM gets
BAD_PARAM: such a request never reaches its effect. What in it the model reads or chooses is in assumption log 12.
(R412, R413, R611, R613) -/
def Obligations.LimitsHold : Prop :=
  (∀ s t r x target, Runs s r (limitInfo 0x0A01 confirmWord 1) x t →
    (t.nv.fuses.lifecycle = 3 ∨ Lifecycle.code target ≠ t.nv.fuses.lifecycle + 1 ∨
      t.spent .lifecycle = true ∨ t.mayAdvance (Lifecycle.code target) = false) →
    ∃ q : Res, exec (.lifecycleAdvance r target confirmWord) s =
        .next (State.replied r x (limitInfo 0x0A01 confirmWord 1) q).doRestarts ∧ q.state = t ∧
      q.status = (if t.nv.fuses.lifecycle = 3 then .limitReached
        else if Lifecycle.code target ≠ t.nv.fuses.lifecycle + 1 then .badParam
        else if t.spent .lifecycle = true then .limitReached else .notPermitted)) ∧
  (∀ s t r x cs, Runs s r (infoLaserCeilingSet cs) x t →
    (∃ c ∈ cs, ∃ d ∈ oneDie c.1, t.ceilingLeft d = 0) →
    exec (.laserCeilingSet r cs) s = .next (State.replied r x (infoLaserCeilingSet cs) (.fail .limitReached t))) ∧
  (∀ s t r x, Runs s r (infoNodeIdentitySet confirmWord) x t → (t.nv.fuses.identity ≠ none ∨ t.spent .identity = true) →
    exec (.nodeIdentitySet r confirmWord) s =
      .next (State.replied r x (infoNodeIdentitySet confirmWord) (.fail .limitReached t))) ∧
  (∀ s t r x, Runs s r { limitInfo 0x0A02 confirmWord 0 with cip := true } x t →
    (t.nv.fuses.permit = false ∨ t.spent .permit = true) →
    exec (.cleartextWithdraw r confirmWord) s =
      .next (State.replied r x { limitInfo 0x0A02 confirmWord 0 with cip := true } (.fail .limitReached t))) ∧
  (∀ s t r x, Runs s r (infoOwnerKeyRevoke confirmWord) x t → 3 ≤ t.slotsUsed →
    exec (.ownerKeyRevoke r confirmWord) s =
      .next (State.replied r x (infoOwnerKeyRevoke confirmWord) (.fail .limitReached t))) ∧
  (∀ s t r x key, Runs s r (infoOwnerKeySet key) x t → (t.nv.fuses.ownerKey ≠ none ∨ t.spent .ownerKey = true) →
    exec (.ownerKeySet r key) s = .next (State.replied r x (infoOwnerKeySet key) (.fail .notPermitted t))) ∧
  (∀ s r x c, c ≠ confirmWord →
    Executes s r (infoNodeIdentitySet c) x = false ∧ Executes s r (infoOwnerKeyRevoke c) x = false ∧
    Executes s r (infoFwActivate c) x = false ∧
    ∀ code i, Executes s r (limitInfo code c i) x = false)

/-- A completed trial swaps the banks, sets the security version to the greater of its own and the new image's, and
leaves the previous image valid only if its version is not below it. A reverted trial clears SBY_VALID, keeps the
active image and the security version. Both end the trial, and neither changes any other limit. What in it the model
reads or chooses is in assumption log 44. (R611, R619, R620) -/
def Obligations.TrialEnds : Prop :=
  (∀ s : State, (s.trialDone).nv.active = s.nv.standby ∧ (s.trialDone).nv.trial = none ∧
    (s.trialDone).nv.fuses = { s.nv.fuses with secver := max s.nv.fuses.secver s.nv.standby.secver } ∧
    (s.trialDone).nv.standby.version = s.nv.active.version ∧ (s.trialDone).nv.standby.secver = s.nv.active.secver ∧
    ((s.trialDone).nv.standby.valid = true ↔
      s.nv.active.valid = true ∧ max s.nv.fuses.secver s.nv.standby.secver ≤ s.nv.active.secver)) ∧
  (∀ (s : State) t, (s.trialRevert t).nv.active = s.nv.active ∧ (s.trialRevert t).nv.trial = none ∧
    (s.trialRevert t).nv.fuses = s.nv.fuses ∧ (s.trialRevert t).nv.standby.valid = false)

/-- With the named dies' ANA domains on and none of the named channels refusing: DAC_CH_SET sets the codes and moves a
changed range through the park code, pending until the last die is done; DAC_WRITE and DAC_CODE_WRITE set one code
for the next update or queue several; DAC_QUEUE_PUSH queues one, or drops it when the queue is full; DAC_WAVE_SET
sets the waveform. SW_CLR writes its bit and clears the die when it rises. DAC_STATUS_GET replies a record per
channel. A refusal is BAD_PARAM above the laser ceiling and BUSY on a channel that is cleared, moves its range or
has no room. 10 us after the park code is out the range switches, and 10 us later the channel is free and its
pending DAC_CH_SET ends once no named die is parked. CLR_N low marks every die whose pin was high, and clears each
whose ANA domain is powered; CLR_N high ends it. A short circuit sets SC_NOW and SC, counts and raises DAC_SHORT
once; its end clears SC_NOW. MADC_CONVERT of a converter without a pending native conversion starts one, or after an
injected one, or is DEFERRED behind a scan or a calibration; MADC_SEQ_SET writes the sequence, its length and
preset; MADC_TRIGGER_SET sets source, delay and period, and fires the line for COMMAND; MADC_CALIBRATE starts or
waits; MADC_READ takes samples; MADC_TESTDAC_SET connects or disconnects the test DAC; a START write triggers an
injected conversion whose source is COMMAND; reads of FIFO and INJ_RES take the sample and clear NEW. With the die's
ANA domain on: an injected trigger reaches the own or the safety conversion; the timer triggers every PERIOD; a
delay that is over starts the scan, at once on an idle converter and else after the injected conversion; a
conversion whose bits are those of 11 samples ends with the sample that the CIC filter, the compensation and the
calibration give, limited to 24 bits; a calibration's end stores what it measured or sets CAL_FAIL and raises
MADC_CAL_FAIL. SYNC_IN moves the boundary and fires the line. See log 36, 37, 54. (R406, R407, R522, R523, R524,
R525, R527, R537, R538, R541, R543, R544) -/
def Obligations.AnalogueRuns : Prop :=
  (∀ s t r x dies ch cfg, Runs s r (infoDacChSet dies ch cfg) x t → t.anaOn (maskDies dies) = true →
    exec (.dacChSet r dies ch cfg) s = .next (State.replied r x (infoDacChSet dies ch cfg)
      (match (maskDies dies).findSome? (t.dacCfgRefused (chOf ch) cfg) with
       | some st => .refuse st 2 t
       | none =>
         let u := t.each (maskDies dies) fun u d => u.dacSetCfg d (chOf ch) cfg
         if (maskDies dies).any fun d => t.rd d (DACB_CFG_RANGE (chOf ch).val) != cfg.range then
           .pending (.dacCh (maskDies dies) ch) u else .ok u))) ∧
  (∀ s t r x dies ch codes, Runs s r (infoDacWrite dies ch codes) x t → t.anaOn (maskDies dies) = true →
    exec (.dacWrite r dies ch codes) s = .next (State.replied r x (infoDacWrite dies ch codes)
      (match (maskDies dies).findSome? (t.dacCodesRefused (chOf ch) codes) with
       | some st => .refuse st 2 t
       | none => .ok (t.each (maskDies dies) fun u d => u.dacPut d (chOf ch) codes)))) ∧
  (∀ s t r x d (c : Fin 6) code, Runs s r (regInfo d 0x10 (17 + 8 * c.val) true) x t → t.blockOff d 0x10 true = false →
    exec (.dacCodeWrite r d c code) s = .next (State.replied r x (regInfo d 0x10 (17 + 8 * c.val) true)
      (match t.dacCodesRefused c [code % 4096] d with
       | some st => .refuse st 1 t
       | none => .ok (t.dacPut d c [code % 4096])))) ∧
  (∀ s t r x d (c : Fin 6) code, Runs s r (regInfo d 0x10 (18 + 8 * c.val) true) x t → t.blockOff d 0x10 true = false →
    t.aboveCeiling d c (code % 4096) = false → t.dacBusy d c = false →
    exec (.dacQueuePush r d c code) s = .next (State.replied r x (regInfo d 0x10 (18 + 8 * c.val) true)
      (if 32 ≤ (t.dac d c).queue.length then .ok t
       else .ok ((t.dacAccepted d c).updDac d c fun y => { y with queue := y.queue ++ [code % 4096] })))) ∧
  (∀ s t r x dies ch w, Runs s r (infoDacWaveSet dies ch w) x t → t.anaOn (maskDies dies) = true →
    exec (.dacWaveSet r dies ch w) s = .next (State.replied r x (infoDacWaveSet dies ch w)
      (match (maskDies dies).findSome? (t.waveRefused (chOf ch) w) with
       | some st => .refuse st 2 t
       | none => .ok (t.each (maskDies dies) fun u d => u.dacWave d (chOf ch) w)))) ∧
  (∀ s t r x d on, Runs s r (regInfo d 0x10 0 true) x t → t.blockOff d 0x10 true = false →
    exec (.swClr r d on) s = .next (State.replied r x (regInfo d 0x10 0 true)
      (.ok (if on && !t.flag d DACB_CTRL_SW_CLR then (t.wrB d DACB_CTRL_SW_CLR on).dacClearDie d
            else t.wrB d DACB_CTRL_SW_CLR on)))) ∧
  (∀ s t r x dies, Runs s r (infoDacStatusGet dies) x t → (∀ d ∈ maskDies dies, t.level d .ana ≠ .dead) →
    exec (.dacStatusGet r dies) s = .next (State.replied r x (infoDacStatusGet dies)
      (.okWith t ((maskDies dies).flatMap fun d => allChs.map (tlvDacStatus t d))))) ∧
  (∀ (s : State) (d : Die) c p, (s.dac d c).park = some p → p.switched = false → p.since + usU 10 ≤ s.time.now →
    exec (.dacRangeSwitch d c) s = .next ((s.updDac d c fun x =>
      { x with park := some { p with switched := true, since := s.time.now } }).setRange d c p.newRange)) ∧
  (∀ (s : State) (d : Die) c r, (s.setRange d c r).regs = (s.wr d (DACB_CFG_RANGE c.val) r).regs) ∧
  (∀ (s : State) (d : Die) c p, (s.dac d c).park = some p → p.switched = true → p.since + usU 10 ≤ s.time.now →
    exec (.dacParkEnd d c) s = .next (((s.updDac d c fun x => { x with park := none }).wr d
      (DACB_STAT_PARKING c.val) 0).endDacPend d c .ok)) ∧
  (∀ s : State, exec .clrNAssert s = .next (s.each s.popDies fun s d =>
    if s.flag d DACB_CTRL_CLR_N_LOW then s
    else if (s.wr d DACB_CTRL_CLR_N_LOW 1).level d .ana = .dead then s.wr d DACB_CTRL_CLR_N_LOW 1
    else (s.wr d DACB_CTRL_CLR_N_LOW 1).dacClearDie d)) ∧
  (∀ s : State, exec .clrNRelease s = .next (s.each s.popDies fun s d => s.wr d DACB_CTRL_CLR_N_LOW 0)) ∧
  (∀ (s : State) (d : Die) c, s.pop d = true → s.level d .ana ≠ .dead →
    exec (.dacShort d c false) s = .next (s.wr d (DACB_STAT_SC_NOW c.val) 0)) ∧
  (∀ (s : State) (d : Die) c, s.pop d = true → s.level d .ana ≠ .dead →
    exec (.dacShort d c true) s = .next (if s.flag d (DACB_STAT_SC_NOW c.val) then s
      else (((s.wr d (DACB_STAT_SC_NOW c.val) 1).wr d (DACB_STAT_SC c.val) 1).cnt d 176).raiseLane d evDAC_SHORT)) ∧
  (∀ s t r x d conv input preset, Runs s r (infoMadcConvert (1#8 <<< d.val) conv input preset) x t → t.anaOn [d] = true →
    t.sl.pend.any (fun p => p.kind == .convert d (convOf conv).val) = false →
    exec (.madcConvert r (1#8 <<< d.val) conv input preset) s =
      .next (State.replied r x (infoMadcConvert (1#8 <<< d.val) conv input preset)
        (let n := convOf conv
         let y := t.conv d n
         let u := t.wr d (MADC_NATIVE_INPUT n.val) input
         let u := u.updConv d n fun y => { y with preset := preset.getD (u.rd d (MADC_CTRL_PRESET n.val)) }
         if y.busy || y.act.isCal then
           { status := .deferred, delayUs := some (u.convWait d n), pend := some (.convert d n.val),
             state := u.updConv d n fun y => { y with natWait := true } }
         else if y.act = .idle then .pending (.convert d n.val) (u.startRegular d n .native)
         else .pending (.convert d n.val) (u.updConv d n fun y => { y with back := .native })))) ∧
  (∀ s t r x dies conv es preset, Runs s r (infoMadcSeqSet dies conv es preset) x t → t.anaOn (maskDies dies) = true →
    exec (.madcSeqSet r dies conv es preset) s = .next (State.replied r x (infoMadcSeqSet dies conv es preset)
      (.ok (t.each (maskDies dies) fun u d =>
        let u := (u.writeSeq d (convOf conv) 0 es).wr d (MADC_CTRL_SEQ_LEN (convOf conv).val) (es.length - 1)
        match preset with
        | some p => u.wr d (MADC_CTRL_PRESET (convOf conv).val) p
        | none => u)))) ∧
  (∀ s t r x dies conv source delay period, Runs s r (infoMadcTriggerSet dies conv source delay period) x t →
    t.anaOn (maskDies dies) = true →
    exec (.madcTriggerSet r dies conv source delay period) s =
      .next (State.replied r x (infoMadcTriggerSet dies conv source delay period)
        (.ok (let u := t.each (maskDies dies) fun u d =>
                let u := (u.wr d (MADC_CTRL_TRIG_SRC (convOf conv).val) source).wr d (MADC_CTRL_DELAY (convOf conv).val)
                  delay
                match period with
                | some p => (u.wr d (MADC_TIMER_PERIOD (convOf conv).val) p).updConv d (convOf conv) fun y =>
                    { y with timerAt := u.time.now }
                | none => u
              { u with cmdTrigger := u.cmdTrigger || source == 3 }))).fireCommand) ∧
  (∀ s t r x dies conv k, Runs s r (infoMadcCalibrate dies conv) x t → t.anaOn (maskDies dies) = true →
    (∀ d ∈ maskDies dies, t.convPending d (convOf conv) = false ∧ t.calMustWait d (convOf conv) = false) →
    exec (.madcCalibrate r dies conv k) s = .next (State.replied r x (infoMadcCalibrate dies conv)
      (.pending (.calibrate (maskDies dies) (convOf conv).val)
        (t.each (maskDies dies) fun u d => u.calRequest d (convOf conv) k)))) ∧
  (∀ s t r x d conv count, Runs s r (infoMadcRead (1#8 <<< d.val) conv count) x t → t.level d .ana ≠ .dead →
    exec (.madcRead r (1#8 <<< d.val) conv count) s = .next (State.replied r x (infoMadcRead (1#8 <<< d.val) conv count)
      (.okWith (t.updConv d (convOf conv) fun y => { y with fifo := y.fifo.drop (count.getD 256) })
        [tlvSamples ((t.conv d (convOf conv)).fifo.take (count.getD 256))]))) ∧
  (∀ s t r x dies conv code, Runs s r (infoMadcTestdacSet dies conv code) x t → t.anaOn (maskDies dies) = true →
    exec (.madcTestdacSet r dies conv code) s = .next (State.replied r x (infoMadcTestdacSet dies conv code)
      (.ok (t.each (maskDies dies) fun u d =>
        if code = 0xFFFF then u.wr d (MADC_TESTDAC_CONNECT (convOf conv).val) 0
        else (u.wr d (MADC_TESTDAC_CODE (convOf conv).val) code).wr d (MADC_TESTDAC_CONNECT (convOf conv).val) 1)))) ∧
  (∀ s t r x d (n : Fin 2), Runs s r (regInfo d 0x11 (19 + 16 * n.val) true) x t → t.blockOff d 0x11 true = false →
    exec (.injStart r d n) s = .next (State.replied r x (regInfo d 0x11 (19 + 16 * n.val) true)
      (.ok (if t.rd d (MADC_INJ_SRC n.val) = 3 then t.ownTrigger d n else t)))) ∧
  (∀ s t r x d (n : Fin 2), Runs s r (regInfo d 0x11 (22 + 16 * n.val) false) x t → t.blockOff d 0x11 false = false →
    exec (.madcFifoRead r d n) s = .next (State.replied r x (regInfo d 0x11 (22 + 16 * n.val) false)
      (.okWith (t.readFifo d n).2 [tlvData [(t.readFifo d n).1]]))) ∧
  (∀ s t r x d (n : Fin 2), Runs s r (regInfo d 0x11 (20 + 16 * n.val) false) x t → t.blockOff d 0x11 false = false →
    exec (.injResRead r d n) s = .next (State.replied r x (regInfo d 0x11 (20 + 16 * n.val) false)
      (.okWith (t.wr d (MADC_INJ_RES_NEW n.val) 0) [tlvData [t.rd d (MADC_INJ_RES_NEW n.val) * 2 ^ 25
        + t.rd d (MADC_INJ_RES_OVERRANGE n.val) * 2 ^ 24 + t.rd d (MADC_INJ_RES_VALUE n.val)]]))) ∧
  (∀ (s : State) (d : Die) n, s.pop d = true →
    exec (.madcInjectedTrigger d n true) s = .next (s.safetyTrigger d n) ∧
    exec (.madcInjectedTrigger d n false) s = .next (s.ownTrigger d n)) ∧
  (∀ (s : State) (d : Die) n, s.pop d = true → s.domainOn d .ana = true →
    (s.conv d n).timerAt + modU (s.rd d (MADC_TIMER_PERIOD n.val)) ≤ s.time.now →
    exec (.madcTimer d n) s = .next ((s.updConv d n fun x => { x with
      timerAt := nextDue (some (s.conv d n).timerAt) (modU (s.rd d (MADC_TIMER_PERIOD n.val))) s.time.now }).sourceTrigger
        0 d n)) ∧
  (∀ (s : State) (d : Die) n e, s.pop d = true → s.domainOn d .ana = true → (s.conv d n).ownDelayEnd = none →
    (s.conv d n).delayEnd = some e → e ≤ s.time.now →
    exec (.madcTriggerDelayEnd d n) s = .next (if (s.conv d n).act = .idle then
      (s.updConv d n fun x => { x with delayEnd := none }).startRegular d n (.entry 0) else s)) ∧
  (∀ s : State, s.started = true → s.sbRuns = true → exec .syncInEdge s = .next s.syncBoundary.syncTrigger) ∧
  (∀ (s : State) (d : Die) n o bits, s.pop d = true → s.domainOn d .ana = true → (s.conv d n).endsAt ≤ s.time.now →
    bits.length = 11 * presetD (s.conv d n).preNow →
    exec (.madcConversionDone d n o bits) s = .next
      (let x := Cic.run (presetD (s.conv d n).preNow) 11 bits .zero
       (s.updConv d n fun y => { y with cic := x }).convDone d n (convSample o
         (s.calibrated d n (s.conv d n).gainNow (Config.compensation (s.conv d n).preNow x.taps))))) ∧
  (∀ (s : State) (d : Die) n gain raw, s.calibrated d n gain raw =
    roundDiv ((raw - 16 * s.rdInt d (MADC_CAL_OFS n.val gain)) * s.rd d (MADC_CAL_GAIN n.val gain)) 32768) ∧
  (∀ (s : State) (d : Die) n k sums, s.pop d = true → s.domainOn d .ana = true → (s.conv d n).act = .cal k →
    ∃ t, exec (.madcCalibrationDone d n sums) s = .next t ∧ t =
      (let u : State := match s.calResult d n k sums with
         | some l => (s.each l fun s e =>
             (s.wrInt d (MADC_CAL_OFS n.val e.1) e.2.1).wrInt d (MADC_CAL_GAIN n.val e.1) e.2.2).saveCal d n
         | none => ((s.wr d (MADC_STAT_CAL_FAIL n.val) 1).updConv d n fun x => { x with calFailed := true }).raiseLane d
             evMADC_CAL_FAIL
       let u := (u.updConv d n fun x => { x with act := .idle }).convFree d n
       let u := if (u.conv d (otherConv n)).calWait.isSome && (u.conv d (otherConv n)).act = .idle
         then u.convFree d (otherConv n) else u
       u.endCal d n))

/-- At an update that is due on a die whose ANA domain is on, a channel that is neither cleared nor parked puts out its
direct code, which is then done; without one and without a waveform it puts out the oldest queued code, which leaves
the queue; with neither it keeps its output; SAWTOOTH puts out OFFSET - SPAN/2 plus the accumulator's share of SPAN.
A cleared or parked channel keeps its output. No channel of another die changes. What in it the model reads or
chooses is in assumption log 36. (R523, R527, R529) -/
def Obligations.DacOutputs : Prop :=
  ∀ (s : State) (d : Die), s.regs.wf = true → s.pop d = true → s.domainOn d .ana = true →
    periodDue (s.die d).ana.updAt (modU 8) s.time.now = true →
    ∃ t, exec (.dacUpdate d) s = .next t ∧
      (∀ c v, s.dacBusy d c = false → (s.dac d c).direct = some v → v < 4096 →
        t.rd d (DACB_OUT_NOW c.val) = v ∧ (t.dac d c).direct = none) ∧
      (∀ c v q, s.dacBusy d c = false → (s.dac d c).direct = none → (s.dac d c).running = false →
        (s.dac d c).queue = v :: q → v < 4096 →
        t.rd d (DACB_OUT_NOW c.val) = v ∧ (t.dac d c).queue = q) ∧
      (∀ c, s.dacBusy d c = false → (s.dac d c).direct = none → (s.dac d c).running = false → (s.dac d c).queue = [] →
        t.rd d (DACB_OUT_NOW c.val) = s.rd d (DACB_OUT_NOW c.val)) ∧
      (∀ c, s.dacBusy d c = false → (s.dac d c).direct = none → (s.dac d c).running = true →
        s.rd d (DACB_WAVE_SHAPE c.val) = 2 →
        t.rd d (DACB_OUT_NOW c.val) = (s.rd d (DACB_WAVE_OFFSET c.val) - s.rd d (DACB_WAVE_SPAN c.val) / 2
          + s.rd d (DACB_WAVE_SPAN c.val) * (s.dac d c).acc / 2 ^ 32) % 4096) ∧
      (∀ c, s.dacBusy d c = true → t.rd d (DACB_OUT_NOW c.val) = s.rd d (DACB_OUT_NOW c.val) ∧ t.dac d c = s.dac d c) ∧
      (∀ e c, e ≠ d → t.dac e c = s.dac e c ∧ t.rd e (DACB_OUT_NOW c.val) = s.rd e (DACB_OUT_NOW c.val))

/-- A clear puts a channel at its clear code, stops its waveform, empties its queue and ends a range change with the old
range kept, and changes no other channel's output. While a source of a clear holds a channel, DAC_WRITE and
DAC_CODE_WRITE below the ceiling are refused with BUSY and change no output. What in it the model reads or chooses
is in assumption log 36. (R406, R524, R525, R548) -/
def Obligations.ClearsHold : Prop :=
  (∀ (s : State) (d : Die) c, s.regs.wf = true → s.rd d (DACB_CFG_CLEAR c.val) < 4096 →
    (s.dacClear d c).rd d (DACB_OUT_NOW c.val) = s.rd d (DACB_CFG_CLEAR c.val) ∧
    (s.dacClear d c).flag d (DACB_STAT_CLEARED c.val) = true ∧
    ((s.dacClear d c).dac d c).queue = [] ∧ ((s.dacClear d c).dac d c).running = false ∧
    ((s.dacClear d c).dac d c).direct = none ∧ ((s.dacClear d c).dac d c).park = none ∧
    (∀ p, (s.dac d c).park = some p → p.oldRange < 4 → (s.dacClear d c).rd d (DACB_CFG_RANGE c.val) = p.oldRange) ∧
    (∀ e c', (e, c') ≠ (d, c) → (s.dacClear d c).dac e c' = s.dac e c' ∧
      (s.dacClear d c).rd e (DACB_OUT_NOW c'.val) = s.rd e (DACB_OUT_NOW c'.val))) ∧
  (∀ s t r x dies ch codes, Runs s r (infoDacWrite dies ch codes) x t → t.anaOn (maskDies dies) = true →
    (∀ d ∈ maskDies dies, t.dacHeld d (chOf ch) = true ∧ ∀ v ∈ codes, t.aboveCeiling d (chOf ch) v = false) →
    exec (.dacWrite r dies ch codes) s = .next (State.replied r x (infoDacWrite dies ch codes) (.fail .busy t)))

/-- A sample joins the FIFO last; with 256 samples in it the oldest is lost, FIFO_LOST is set and counter 179 counts,
and the FIFO keeps 256. A read takes the oldest sample with VALID set; an empty FIFO reads 0 and stays empty. A
conversion's result is limited to 24 bits and marked OVERRANGE when it was limited. What in it the model reads or
chooses is in assumption log 37. (R537, R540, R549) -/
def Obligations.ConverterFifo : Prop :=
  (∀ (s : State) (d : Die) n v, s.regs.wf = true → s.tel.ctr.wf = true → s.pop d = true → (s.conv d n).fifo.length ≤ 256 →
    ((s.fifoPush d n v).conv d n).fifo = ((s.conv d n).fifo ++ [v]).drop ((s.conv d n).fifo.length - 255) ∧
    ((s.conv d n).fifo.length = 256 → (s.fifoPush d n v).flag d (MADC_STAT_FIFO_LOST n.val) = true ∧
      (s.fifoPush d n v).tel.ctr.get (d.val * 192 + 179) = (s.tel.ctr.get (d.val * 192 + 179) + 1) % 2 ^ 48)) ∧
  (∀ (s : State) (d : Die) n, (s.conv d n).fifo = [] → s.readFifo d n = (0, s)) ∧
  (∀ (s : State) (d : Die) n v q, (s.conv d n).fifo = v :: q → ((s.readFifo d n).2.conv d n).fifo = q ∧
    (s.readFifo d n).1 / 2 ^ 26 = 1 ∧ ((s.readFifo d n).1 / 2 ^ 25 % 2 = 1 ↔ v.settling = true) ∧
    ((s.readFifo d n).1 / 2 ^ 24 % 2 = 1 ↔ v.overrange = true) ∧
    (((s.readFifo d n).1 % 2 ^ 24 : Nat) : Int) = v.value % 2 ^ 24) ∧
  (∀ o v, (convSample o v).value = max (-8388607) (min 8388607 v) ∧ (convSample o v).settling = false ∧
    ((convSample o v).overrange = true ↔ o = true ∨ v < -8388607 ∨ 8388607 < v))

/-- SAFETY_LIMIT_SET stores the limits of the lanes it names, unless a die's CTRL domain is without supply;
SAFETY_STATUS_GET replies a record per die; SAFETY_RESET of a tripped lane whose last conversion is not above its
limit, and whose test passes where the cause calls for one, releases the trip. With its conditions met SF-L arms and
LDIS_N goes high. While the monitor runs: an emission above the threshold of a valid limit, a level within the
tolerance of the limit, trips with cause 1; a conversion that is due notes its value, and above a valid limit by
more than 1 % trips with cause 2; none for 5 ms trips with cause 6; a comparator test that is due, and in which the
comparator does not trip at the high level or trips at the low one, with cause 4. A monitor fault trips with cause
5. A ball that reads high while driven low is stuck until it reads low. What in it the model reads or chooses is in
assumption log 38. (R409, R410, R551, R552, R553, R554, R555, R556, R557, R558, R559) -/
def Obligations.SafetyRuns : Prop :=
  (∀ s t r x ls, Runs s r (infoSafetyLimitSet ls) x t →
    (∀ e ∈ ls, ∀ d ∈ oneDie e.lane, t.level d .ctrl ≠ .dead) →
    exec (.safetyLimitSet r ls) s = .next (State.replied r x (infoSafetyLimitSet ls)
      (.ok (t.each ls fun u e => u.each (oneDie e.lane) fun u d => u.setLimit d (emissionInput e.input) e.code.toNat)))) ∧
  (∀ s t r x, Runs s r infoSafetyStatusGet x t →
    exec (.safetyStatusGet r) s = .next (State.replied r x infoSafetyStatusGet
      (.okWith t (t.popDies.map (tlvSafetyStatus t))))) ∧
  (∀ s t r x d pass, Runs s r (infoSafetyReset d.val) x t → toDie? d.val = some d → t.level d .ctrl ≠ .dead →
    t.flag d SAFE_STAT_TRIPPED = true →
    ¬(t.flag d SAFE_LIMIT_VALID = true ∧ t.flag d SAFE_LAST_VALID = true ∧
      (t.rd d SAFE_LIMIT : Int) < t.rdInt d SAFE_LAST_VALUE) →
    ((t.retest d pass).rd d SAFE_STAT_TRIP_CAUSE = 4 ∨ (t.retest d pass).rd d SAFE_STAT_TRIP_CAUSE = 5 → pass = true) →
    ∃ u, exec (.safetyReset r d.val pass) s = .next (State.replied r x (infoSafetyReset d.val) (.ok u)) ∧
      u = (let u := ((t.retest d pass).wr d SAFE_STAT_TRIPPED 0).wr d SAFE_STAT_TRIP_CAUSE 0
           let u := u.updSafe d fun y => { y with disagree := 0, m0 := none, lastConvAt := u.time.now }
           ((u.safetyClrFollow d).armFollow d).sbPush d 0 2 (.safety false))) ∧
  (∀ (s : State) (d : Die), s.pop d = true → s.armCond d = true → exec (.sfLArmed d) s = .next (s.armFollow d)) ∧
  (∀ (s : State) (d : Die) b level, s.monitorRuns d = true → s.flag d SAFE_LIMIT_VALID = true →
    tripThreshold (s.rd d SAFE_LIMIT) d b < level → exec (.emissionTrip d b level) s = .next (s.trip d 1)) ∧
  (∀ limit d b, tripThreshold limit d b ≤ limit + (limit / 100 + 13981 : Nat) ∧
    (limit : Int) - (limit / 100 + 13981 : Nat) ≤ tripThreshold limit d b) ∧
  (∀ (s : State) (d : Die) bits, s.monitorRuns d = true → periodDue (s.safe d).convAt (msU 1) s.time.now = true →
    bits.length = 11 * presetD 0 →
    ∃ t, exec (.safetyConversion d bits) s = .next t ∧ t =
      (let turn := (s.safe d).nextConv
       let n := if (s.conv d turn).act.isCal then otherConv turn else turn
       let w := (convSample false (s.calibrated d n 0 (Config.compensation 0 (Cic.run (presetD 0) 11 bits .zero).taps))).value
       let u := ((s.wr d SAFE_LAST_VALID 1).wr d SAFE_LAST_CONV n.val).wrInt d SAFE_LAST_VALUE w
       let u' := (u.updSafe d fun x => { x with
         nextConv := otherConv turn, lastConvAt := u.time.now, convAt := some (nextDue x.convAt (msU 1) u.time.now),
         below := x.below || (u.flag d SAFE_LIMIT_VALID && decide (w < (u.rd d SAFE_LIMIT : Int))) }).checkPair d n w
       if u.flag d SAFE_LIMIT_VALID && decide ((u.rd d SAFE_LIMIT : Int) * 101 < w * 100) then u'.trip d 2 else u')) ∧
  (∀ (s : State) (d : Die), s.monitorRuns d = true → (s.safe d).lastConvAt + msU 5 ≤ s.time.now →
    exec (.safetyConversionMissing d) s = .next (s.trip d 6)) ∧
  (∀ (s : State) (d : Die) hi lo, s.monitorRuns d = true → s.cmpDue d = true →
    exec (.comparatorTest d hi lo) s = .next
      (let u := (s.cmpResult d (s.safe d).nextCmpB (hi && !lo)).updSafe d fun x =>
         { x with nextCmpB := !(s.safe d).nextCmpB, cmpAt := some (nextDue x.cmpAt (msU 64) s.time.now) }
       if hi = true ∧ lo = false then u else u.trip d 4)) ∧
  (∀ (s : State) (d : Die), s.pop d = true → s.power d ≠ .off →
    exec (.safeMonFault d) s = .next (((s.wr d SAFE_STAT_MON_FAULT 1).trip d 5).raiseLane d evSAFE_MON_FAULT)) ∧
  (∀ (s : State) (d : Die), s.pop d = true → s.power d ≠ .off → (s.safe d).ldisHigh = false → (s.safe d).stuck = false →
    exec (.ldisStuck d true) s = .next (State.raiseLane (((((s.updSafe d fun x => { x with stuck := true }).wr d
      SAFE_STAT_LDIS_STUCK 1).wr d SAFE_STAT_LDIS_PIN 1)).safetyClrFollow d) d evLDIS_STUCK)) ∧
  (∀ (s : State) (d : Die), s.pop d = true → s.power d ≠ .off →
    ∃ u, u = s.updSafe d (fun x => { x with stuck := false }) ∧
      exec (.ldisStuck d false) s = .next ((u.wrB d SAFE_STAT_LDIS_PIN (u.safe d).ldisHigh).safetyClrFollow d))

/-- A trip of a lane that is not tripped sets TRIPPED and its cause, leaves LDIS_N low and puts CH0 at its clear code,
unless the monitor had cleared it before; it changes no other lane's TRIPPED, cause or LDIS_N. A trip of a tripped
lane changes nothing. LDIS_N is high exactly while SF-L is armed, not tripped, not forced low, not under test, and
the part neither shuts down nor is off. What in it the model reads or chooses is in assumption log 38. (R552, R556,
R560) -/
def Obligations.TripsLatch : Prop :=
  (∀ (s : State) (d : Die) k, s.regs.wf = true → s.flag d SAFE_STAT_TRIPPED = false → 1 ≤ k → k ≤ 6 →
    (s.trip d k).flag d SAFE_STAT_TRIPPED = true ∧ (s.trip d k).rd d SAFE_STAT_TRIP_CAUSE = k ∧
    ((s.trip d k).safe d).ldisHigh = false ∧ ((s.trip d k).die d).ana.safetyClr = true ∧
    ((s.die d).ana.safetyClr = false → s.rd d (DACB_CFG_CLEAR 0) < 4096 →
      (s.trip d k).rd d (DACB_OUT_NOW 0) = s.rd d (DACB_CFG_CLEAR 0)) ∧
    (∀ e, e ≠ d → (s.trip d k).flag e SAFE_STAT_TRIPPED = s.flag e SAFE_STAT_TRIPPED ∧
      (s.trip d k).rd e SAFE_STAT_TRIP_CAUSE = s.rd e SAFE_STAT_TRIP_CAUSE ∧
      ((s.trip d k).safe e).ldisHigh = (s.safe e).ldisHigh)) ∧
  (∀ (s : State) (d : Die) k, s.flag d SAFE_STAT_TRIPPED = true → s.trip d k = s) ∧
  (∀ (s : State) (d : Die), ((s.ldisFollow d).safe d).ldisHigh =
    (s.flag d SAFE_STAT_ARMED && !s.flag d SAFE_STAT_TRIPPED && !s.flag d SAFE_CTRL_FORCE_LDIS && !(s.safe d).underTest
      && s.phase != .shuttingDown && s.phase != .off))

/-- NODE_SET keeps the number for the next HELLO; ROUTE_GET and NEIGHBOUR_GET reply the tables; ROUTE_SET replaces the
static routes, as many as fit. A HELLO of another package that arrives enters its neighbour; one silent for
DEAD_MULT intervals is dropped; HELLO goes on every medium with carrier each interval; ROUTES from an ACTIVE
neighbour are learned, are sent again every 5 s, and age out after 15 s; a held-off message goes 50 ms after the
last; DATA of at least 12 bytes is forwarded by its DEST and shorter is dropped and counted. The tree is recomputed
after each change. What in it the model reads or chooses is in assumption log 21. (R411, R429, R433, R434, R437,
R438, R439, R440, R442, R446) -/
def Obligations.FabricRuns : Prop :=
  (∀ s t r x node, Runs s r (infoNodeSet node) x t →
    exec (.nodeSet r node) s = .next (State.replied r x (infoNodeSet node)
      (.ok (t.updFab fun f => { f with nodeNext := some node })))) ∧
  (∀ s t r x, Runs s r infoRouteGet x t →
    exec (.routeGet r) s = .next (State.replied r x infoRouteGet
      (.okWith t (t.routeEntries.map fun e => tlvRoute e.node e.hop)))) ∧
  (∀ s t r x, Runs s r infoNeighbourGet x t →
    exec (.neighbourGet r) s = .next (State.replied r x infoNeighbourGet
      (.okWith t ((t.fab.nbrs.take 64).map (tlvNeighbour t))))) ∧
  (∀ s t r x rs, Runs s r (infoRouteSet rs) x t →
    exec (.routeSet r rs) s = .next (State.replied r x (infoRouteSet rs)
      (.ok (let room := 1024 - (t.updFab fun f => { f with statics := [] }).routeEntries.length
            let u := t.updFab fun f => { f with statics := rs.take room }
            (if room < rs.length then u.tableFull else u).treeRecompute)))) ∧
  (∀ (s : State) m mac hops src h, s.arrives m = true → h.packageId ≠ s.nv.fuses.packageId →
    exec (.jeuriHello m mac hops src h) s = .next (s.enterNbr m mac h).treeRecompute) ∧
  (∀ (s : State) m pkg n, s.fab.nbrs.find? (fun n => n.medium == JMedium.index m && n.hello.packageId == pkg) = some n →
    n.lastAt + msU (s.rd 0 FAB_CFG_DEAD_MULT * s.rd 0 FAB_CFG_HELLO_INT * 100) ≤ s.time.now →
    exec (.neighbourDead m pkg) s = .next (s.dropNbr n).treeRecompute) ∧
  (∀ s : State, s.fab.lastHello + msU (s.rd 0 FAB_CFG_HELLO_INT * 100) ≤ s.time.now →
    ∃ u, u = s.each allMedia (fun s m => s.sendHello m) ∧
      exec .helloInterval s = .next (u.updFab fun f => { f with lastHello := s.time.now }).treeRecompute) ∧
  (∀ (s : State) m, (s.fab.media.get (JMedium.fin m)).routesDue = true →
    s.holdoffOver (s.fab.media.get (JMedium.fin m)).routesAt = true →
    exec (.triggerHoldoffEnd m true) s = .next
      ((s.updMedium (JMedium.fin m) fun y => { y with routesDue := false }).triggerRoutes (JMedium.fin m))) ∧
  (∀ (s : State) m, (s.fab.media.get (JMedium.fin m)).helloDue = true →
    s.holdoffOver (s.fab.media.get (JMedium.fin m)).helloAt = true →
    exec (.triggerHoldoffEnd m false) s = .next
      ((s.updMedium (JMedium.fin m) fun y => { y with helloDue := false }).triggerHello (JMedium.fin m))) ∧
  (∀ (s : State) m src ads n, s.arrives m = true → s.nbrFrom m src = some n → s.linkActive n = true →
    exec (.jeuriRoutes m src ads) s = .next (s.each ads fun s a => s.learn n a).treeRecompute) ∧
  (∀ s : State, s.fab.lastRoutes + secU 5 ≤ s.time.now →
    ∃ u, u = s.each s.activeNbrs (fun s n => s.sendRoutes n) ∧
      exec .routesRefresh s = .next (u.updFab fun f => { f with lastRoutes := s.time.now })) ∧
  (∀ (s : State) node, exec (.routeAgeOut node) s = .next (s.updFab fun f => { f with
    learned := f.learned.filter fun e => !(e.node == node && s.past e.at_ (secU 15)) }).treeRecompute) ∧
  (∀ (s : State) m hops p, s.arrives m = true →
    exec (.jeuriData m hops p) s = .next (if p.length < 12 then s.jeuriDropped (JMedium.die m) else s.forward m hops 1 p))

/-- An entry with hop count 16 removes what was learned of that node from that neighbour, and nothing else; one with 1
to 15 hops for a node unknown is added while the table has room; for a known node it takes the place of what stands
if it comes from the same neighbour or has fewer hops. No entry of another node changes. What in it the model reads
or chooses is in assumption log 21. (R438, R439) -/
def Obligations.RoutesLearned : Prop :=
  ∀ (s : State) n a,
    (∀ e, e.node ≠ a.node → (e ∈ (s.learn n a).fab.learned ↔ e ∈ s.fab.learned)) ∧
    (16 ≤ a.hops → ∀ e, e ∈ (s.learn n a).fab.learned ↔
      e ∈ s.fab.learned ∧ ¬(e.node = a.node ∧ e.medium = n.medium ∧ e.packageId = n.hello.packageId)) ∧
    (1 ≤ a.hops → a.hops < 16 → (∀ e ∈ s.fab.learned, e.node ≠ a.node) → s.routeEntries.length < 1024 →
      (⟨a.node, a.hops, n.medium, n.hello.packageId, s.time.now⟩ : Learned) ∈ (s.learn n a).fab.learned) ∧
    (∀ e, 1 ≤ a.hops → a.hops < 16 → s.fab.learned.find? (fun e => e.node == a.node) = some e →
      ((e.medium = n.medium ∧ e.packageId = n.hello.packageId) ∨ a.hops < e.hops) →
      ∀ x ∈ (s.learn n a).fab.learned, x.node = a.node →
        x = ⟨a.node, a.hops, n.medium, n.hello.packageId, s.time.now⟩)

/-- The segments that a lane takes of its first waiting message carry its bytes in order, 124 in each but the last,
START in the first and END in the last, their numbers rising by one modulo 65,536; with END the message leaves the
queue. A receiver that takes a segment out of sequence marks the lane in SEG_LOST, drops the message being rebuilt
and hands nothing on. What in it the model reads or chooses is in assumption log 21. (R432, R443, R444) -/
def Obligations.SegmentsRebuild : Prop :=
  (∀ (s : State) (l : Die) m rest, (s.inb l).txq = m :: rest → (s.inb l).txPos < m.length →
    (s.takeSegment l).1.valid = true ∧ (s.takeSegment l).1.data = (m.drop (s.inb l).txPos).take 124 ∧
    ((s.takeSegment l).1.start = true ↔ (s.inb l).txPos = 0) ∧
    ((s.takeSegment l).1.fin = true ↔ m.length ≤ (s.inb l).txPos + 124) ∧
    (s.takeSegment l).1.seq = BitVec.ofNat 16 (s.inb l).txSeq ∧
    ((s.takeSegment l).2.inb l).txSeq = ((s.inb l).txSeq + 1) % 65536 ∧
    (m.length ≤ (s.inb l).txPos + 124 → ((s.takeSegment l).2.inb l).txq = rest ∧ ((s.takeSegment l).2.inb l).txPos = 0) ∧
    ((s.inb l).txPos + 124 < m.length → ((s.takeSegment l).2.inb l).txq = m :: rest ∧
      ((s.takeSegment l).2.inb l).txPos = (s.inb l).txPos + 124)) ∧
  (∀ (s : State) (l : Die), (s.inb l).txq = [] → s.takeSegment l = (emptySegment, s)) ∧
  (∀ (s : State) (l : Die) g n, s.regs.wf = true → g.valid = true → g.start = false → (s.inb l).rxSeq = some n →
    g.seq.toNat ≠ (n + 1) % 65536 →
    ((s.takeRxSegment l g).inb l).rxPart = none ∧ (s.takeRxSegment l g).bit 0 FAB_INBAND_SEG_LOST l.val = true ∧
    (s.takeRxSegment l g).out = s.out)

/-- With the lane's transmit domain on: TX_BANK_LOAD and TX_PD_LOAD of an inactive bank write it, and swap if asked;
FIR_SWAP and PD_SWAP request a swap, or get BUSY while one waits (FIR_SWAP while EN is 1 too, but not in STANDARD);
LAUNCH_DELAY_WRITE sets the target; LINE_TX_SET, TX_ADAPT_SET and TX_MASK_SET write the fields they carry.
ADAPT_HOLD_END ends the hold after its 4,096 frames; without feedback for 1,024 frames NO_FEEDBACK is set. What in
it the model reads or chooses is in assumption log 27 and 50. (R111, R116, R117, R118, R129, R133, R136, R138, R142,
R335, R417) -/
def Obligations.TransmitterRuns : Prop :=
  (∀ s t r x (l : Die) bank c swap, Runs s r (infoTxBankLoad l.val bank c) x t → toDie? l.val = some l →
    t.txOn [l] = true → (t.flag l LTX_ADAPT_CTRL_EN && !t.standard) = false → t.rd l LTX_CTRL_FIR_ACTIVE ≠ bank →
    ∃ u, u = (t.setFirBank l bank c).keepTx l (fun k => k.setFir bank c) ∧
      exec (.txBankLoad r l.val bank c swap) s = .next (State.replied r x (infoTxBankLoad l.val bank c)
        ((Res.ok u).andThen t fun u => if swap then u.requestFirSwap l else .ok u))) ∧
  (∀ s t r x (l : Die) bank c swap, Runs s r (infoTxPdLoad l.val bank c) x t → toDie? l.val = some l →
    t.txOn [l] = true → t.rd l LTX_CTRL_PD_ACTIVE ≠ bank →
    ∃ u, u = (t.setPdTable l bank c).keepTx l (fun k => k.setPd bank c) ∧
      exec (.txPdLoad r l.val bank c swap) s = .next (State.replied r x (infoTxPdLoad l.val bank c)
        ((Res.ok u).andThen t fun u => if swap then u.requestPdSwap l else .ok u))) ∧
  (∀ s t r x l, Runs s r (regInfo l 0x07 0 true) x t → t.blockOff l 0x07 true = false →
    exec (.firSwap r l) s = .next (State.replied r x (regInfo l 0x07 0 true)
      (if (t.flag l LTX_ADAPT_CTRL_EN && !t.standard) || (t.tx l).firSwap.isSome then .fail .busy t
       else .ok ((t.updTx l fun y => { y with firSwap := some .user }).keepTx l fun k =>
         { k with firAct := 1 - t.rd l LTX_CTRL_FIR_ACTIVE })))) ∧
  (∀ s t r x l, Runs s r (regInfo l 0x07 0 true) x t → t.blockOff l 0x07 true = false →
    exec (.pdSwap r l) s = .next (State.replied r x (regInfo l 0x07 0 true)
      (if (t.tx l).pdSwap then .fail .busy t
       else .ok ((t.updTx l fun y => { y with pdSwap := true }).keepTx l fun k =>
         { k with pdAct := 1 - t.rd l LTX_CTRL_PD_ACTIVE })))) ∧
  (∀ s t r x l w, Runs s r { regInfo l 0x07 3 true with priv := some .operator } x t → t.blockOff l 0x07 true = false →
    exec (.launchDelayWrite r l w) s =
      .next (State.replied r x { regInfo l 0x07 3 true with priv := some .operator } (.ok (t.setDelay l w)))) ∧
  (∀ s t r x lanes force swing shape delay en, Runs s r (infoLineTxSet lanes force swing shape en) x t →
    t.txOn (maskDies lanes) = true →
    exec (.lineTxSet r lanes force swing shape delay en) s =
      .next (State.replied r x (infoLineTxSet lanes force swing shape en)
        (.ok (t.each (maskDies lanes) fun u l =>
          let u := match force with
            | some v => u.setForce l v
            | none => u
          let u := (u.wrOpt l LTX_DAC_CTRL_SWING swing).wrOpt l LTX_DAC_CTRL_SHAPE shape
          let u := u.wrOpt l LTX_ADAPT_CTRL_EN en
          match delay with
          | some w => u.setDelay l w
          | none => u)))) ∧
  (∀ s t r x (l : Die) w, Runs s r (infoTxAdaptSet l.val w) x t → toDie? l.val = some l → t.txOn [l] = true →
    exec (.txAdaptSet r l.val w) s = .next (State.replied r x (infoTxAdaptSet l.val w) (.ok (t.setTxAdapt l w)))) ∧
  (∀ s t r x (l : Die) lims action, Runs s r (infoTxMaskSet l.val lims action) x t → toDie? l.val = some l →
    t.txOn [l] = true →
    exec (.txMaskSet r l.val lims action) s = .next (State.replied r x (infoTxMaskSet l.val lims action)
      (.ok ((t.each (List.range 8) fun u b => u.wr l (LTX_MASK_LIM b) (lims.getD b 0)).wr l LTX_MASK_CTRL_ACTION
        action)))) ∧
  (∀ (s : State) (l : Die), s.pop l = true → (s.tx l).holdLeft = 0 →
    exec (.adaptHoldEnd l) s = .next (s.wr l LTX_ADAPT_STAT_HOLD 0)) ∧
  (∀ (s : State) (l : Die), s.pop l = true → 1024 ≤ (s.tx l).sinceFb →
    exec (.noFeedbackTimeout l) s = .next (s.wr l LTX_ADAPT_STAT_NO_FEEDBACK 1))

/-- A FIR bank written holds the coefficients given, 0 beyond them, and the other bank and the selection keep theirs;
TX_BANK_LOAD of the active bank gets BANK_BUSY and writes nothing; a requested swap leaves the selection until the
boundary, which turns it to the other bank and leaves both banks. What in it the model reads or chooses is in
assumption log 27. (R111, R116, R117, R119) -/
def Obligations.TransmitBanks : Prop :=
  (∀ (s : State) (l : Die) b c, s.regs.wf = true → b < 2 → fits8 c = true →
    (∀ i, i < 10 → (s.setFirBank l b c).rdInt l (LTX_FIR b i) = c.getD i 0) ∧
    (s.setFirBank l b c).firBank l (1 - b) = s.firBank l (1 - b) ∧
    (s.setFirBank l b c).rd l LTX_CTRL_FIR_ACTIVE = s.rd l LTX_CTRL_FIR_ACTIVE ∧
    ∀ e, e ≠ l → ∀ a, (s.setFirBank l b c).firBank e a = s.firBank e a) ∧
  (∀ s t r x (l : Die) bank c swap, Runs s r (infoTxBankLoad l.val bank c) x t → toDie? l.val = some l →
    t.txOn [l] = true → (t.flag l LTX_ADAPT_CTRL_EN && !t.standard) = false → t.rd l LTX_CTRL_FIR_ACTIVE = bank →
    exec (.txBankLoad r l.val bank c swap) s =
      .next (State.replied r x (infoTxBankLoad l.val bank c) (.fail .bankBusy t))) ∧
  (∀ (s : State) (l : Die), s.regs.wf = true → (s.tx l).firSwap = some .user → s.rd l LTX_CTRL_FIR_ACTIVE ≤ 1 →
    (s.doFirSwap l).rd l LTX_CTRL_FIR_ACTIVE = 1 - s.rd l LTX_CTRL_FIR_ACTIVE ∧
    ((s.doFirSwap l).tx l).firSwap = none ∧ ∀ b, (s.doFirSwap l).firBank l b = s.firBank l b) ∧
  (∀ (s : State) (l : Die), (s.tx l).firSwap = none → s.doFirSwap l = s)

/-- With MODE 0 a frame moves the current delay by at most 2^SLEW sixty-fourths of a symbol toward the target and never
past it; with MODE 1 it takes the target at once; BUSY then shows whether the target is still away. A target once
reached stays. (R129, R130) -/
def Obligations.LaunchDelaySteps : Prop :=
  ∀ (s : State) (l : Die), s.regs.wf = true → s.delayTarget l < 262144 → s.delayNow l < 262144 →
    (s.stepDelay l).delayTarget l = s.delayTarget l ∧
    (s.flag l LTX_DELAY_MODE = true → (s.stepDelay l).delayNow l = s.delayTarget l) ∧
    (s.flag l LTX_DELAY_MODE = false → s.delayNow l ≤ s.delayTarget l →
      (s.stepDelay l).delayNow l = min (s.delayTarget l) (s.delayNow l + 2 ^ s.rd l LTX_DELAY_SLEW)) ∧
    (s.flag l LTX_DELAY_MODE = false → s.delayTarget l ≤ s.delayNow l →
      (s.stepDelay l).delayNow l = max (s.delayTarget l) (s.delayNow l - 2 ^ s.rd l LTX_DELAY_SLEW)) ∧
    ((s.stepDelay l).flag l LTX_DELAY_BUSY = true ↔ (s.stepDelay l).delayNow l ≠ s.delayTarget l)

/-- A measurement of a lane whose transmit domain is on and that has sent 64 frames since the last shows each band's
REL, -40 log10 of its share of the power, rounded and at most 255 (free values when no band has power), and exactly
the bands whose limit is not 0 and above it; a clean one ends the run; the second violation in a row starts an
episode: MASK_VIOL is set and counter 38 counts; the first does not. Before 64 frames a measurement does nothing.
What in it the model reads or chooses is in assumption log 27 and 50. (R131, R132, R133) -/
def Obligations.MaskMeasured : Prop :=
  (∀ (s : State) (l : Die) powers, s.regs.wf = true → s.tel.ctr.wf = true → s.pop l = true → s.domainOn l .tx = true →
    64 ≤ (s.tx l).maskFrames →
    ∃ t rel, exec (.maskMeasurement l powers) s = .next t ∧
      (∀ ps, ps = (List.range 8).map (fun b => powers.getD b 0) → ps.sum ≠ 0 →
        rel = ps.map fun p => (List.range 255).countP fun k => decide (p ^ 80 * 10 ^ (2 * k + 1) ≤ ps.sum ^ 80)) ∧
      (∀ b, b < 8 → t.rd l (LTX_MASK_REL b) = rel.getD b 0) ∧
      (∀ b : Die, (t.rd l LTX_MASK_CTRL_VIOL_BANDS).testBit b.val = true ↔
        s.rd l (LTX_MASK_LIM b.val) ≠ 0 ∧ rel.getD b.val 0 < s.rd l (LTX_MASK_LIM b.val)) ∧
      ((∀ b : Die, ¬(s.rd l (LTX_MASK_LIM b.val) ≠ 0 ∧ rel.getD b.val 0 < s.rd l (LTX_MASK_LIM b.val))) →
        (t.tx l).violRun = 0 ∧ t.tel = s.tel) ∧
      ((∃ b : Die, s.rd l (LTX_MASK_LIM b.val) ≠ 0 ∧ rel.getD b.val 0 < s.rd l (LTX_MASK_LIM b.val)) →
        (t.tx l).violRun = (s.tx l).violRun + 1 ∧
        ((s.tx l).violRun = 1 → t.flag l LTX_STAT_MASK_VIOL = true ∧
          t.tel.ctr.get (l.val * 192 + 38) = (s.tel.ctr.get (l.val * 192 + 38) + 1) % 2 ^ 48) ∧
        ((s.tx l).violRun = 0 → t.flag l LTX_STAT_MASK_VIOL = s.flag l LTX_STAT_MASK_VIOL ∧ t.tel = s.tel))) ∧
  (∀ (s : State) (l : Die) powers, (s.tx l).maskFrames < 64 → exec (.maskMeasurement l powers) s = .next s)

/-- With the lane's receive domain on: RX_BANK_LOAD of a bank that is not active, target or queued writes it, sets the
fade and swaps if asked; RX_BANK_SWAP and a write of FADE_CTRL set the fade and request the swap; RX_ADAPT_SET acts
on the enables first and gets BUSY for values whose adaptation stays on; RX_PATH_SET and a write of PATH_CTRL set
the path memory; LINE_RX_SET and FRAME_LOCK_SET write the fields they carry; RX_BANK_READ replies a bank, an entry
or the DFE and NLE values; LINE_STATUS_GET a record per lane. Eight block groups below the LOS threshold end frame
lock and the lane waits for signal; 64 of them 2 dB above it start acquisition; gain, frequency and blind
equalisation lead on; a step of the power by CAP_THR restarts acquisition, or is noted in lock and forgotten after
32 frames; a state's time limit returns to GAIN; a marker within TOL becomes a candidate, is confirmed a frame later
or dropped, and the first with LOCK_N matches gives frame lock; an unsuccessful try moves to the next entry, or to
GAIN after the last. A fade begins, jumps or ends at its boundary. In frame lock a marker check within TOL clears
MISS_RUN and goes on; a failed one moves the grid to the nearest marker within SLIP_WIN, or adds to MISS_RUN, and at
LOSS_N lock is lost. In LOCKED, every 1,024 frames path memory takes what is reached, in the current entry or, where
one is due, in a free or the least recently used unpinned one; every 256 frames a suggestion goes. When ROT_PERIOD's
frames are over the spare hands over after a good test and is retired after two bad ones. What in it the model reads
or chooses is in assumption log 8, 28 and 52. (R149, R157, R162, R164, R173, R174, R178, R180, R185, R195, R209,
R396) -/
def Obligations.ReceiverRuns : Prop :=
  (∀ s t r x (l : Die) bank main c swap fade, Runs s r (infoRxBankLoad l.val bank main c fade) x t → toDie? l.val = some l →
    t.rxOn [l] = true → t.cbBusy l bank = false →
    exec (.rxBankLoad r l.val bank main c swap fade) s =
      .next (State.replied r x (infoRxBankLoad l.val bank main c fade)
        (if swap then (t.setCb l bank c main).fadeAndSwap l fade bank 1
         else .ok ((t.setCb l bank c main).setFade l fade)))) ∧
  (∀ s t r x (l : Die) bank fade, Runs s r (infoRxBankSwap l.val bank fade) x t → toDie? l.val = some l →
    t.rxOn [l] = true →
    exec (.rxBankSwap r l.val bank fade) s =
      .next (State.replied r x (infoRxBankSwap l.val bank fade) (t.fadeAndSwap l fade bank 1))) ∧
  (∀ s t r x l w, Runs s r (regInfo l 0x08 5 true) x t → t.blockOff l 0x08 true = false →
    exec (.fadeReq r l w) s = .next (State.replied r x (regInfo l 0x08 5 true) (t.writeFadeCtrl l w))) ∧
  (∀ s t r x (l : Die) adapt en dfe nle, Runs s r (infoRxAdaptSet l.val en nle) x t → toDie? l.val = some l →
    t.rxOn [l] = true →
    exec (.rxAdaptSet r l.val adapt en dfe nle) s = .next (State.replied r x (infoRxAdaptSet l.val en nle)
      (let u := match en with
         | some v => t.setRxEnables l v
         | none => t
       if (dfe.isSome && u.flag l LRX_CTRL_DFE_AD) || (nle.isSome && u.flag l LRX_CTRL_NLE_AD) then .fail .busy t
       else
         let u := match adapt with
           | some w => u.setRxAdapt l w
           | none => u
         let u := match dfe with
           | some (d1, d2) => u.setDfe l d1 d2
           | none => u
         let u := match nle with
           | some q => u.setNle l q
           | none => u
         .ok (u.updRx l fun y => { y with dfeSet := dfe.getD y.dfeSet, nleSet := nle.getD y.nleSet })))) ∧
  (∀ s t r x (l : Die) pin clear n f, Runs s r (infoRxPathSet l.val pin clear n f) x t → toDie? l.val = some l →
    t.rxOn [l] = true →
    exec (.rxPathSet r l.val pin clear n f) s =
      .next (State.replied r x (infoRxPathSet l.val pin clear n f) (t.setPath l pin clear n f 1))) ∧
  (∀ s t r x l w, Runs s r (regInfo l 0x08 13 true) x t → t.blockOff l 0x08 true = false →
    exec (.pathClear r l w) s = .next (State.replied r x (regInfo l 0x08 13 true)
      (t.setPath l (w.toNat / 2 ^ 24) (w.toNat / 2 ^ 16 % 256) (w.toNat / 16 % 16) (w.toNat % 4) 1))) ∧
  (∀ s t r x lanes a b c d e, Runs s r (infoLineRxSet lanes a b c d e) x t → t.rxOn (maskDies lanes) = true →
    exec (.lineRxSet r lanes a b c d e) s = .next (State.replied r x (infoLineRxSet lanes a b c d e)
      (.ok (t.each (maskDies lanes) fun u l =>
        ((((u.wrFF l LRX_FRONT_CAP_THR a).wrFF l LRX_FRONT_LOS_THR b).wrFF l LRX_TIMING_BW c).wrFF l LRX_CTRL_FAST_EN
          d).wrFF l LRX_CTRL_FB_SUGGEST e)))) ∧
  (∀ s t r x (l : Die) a b c d, Runs s r (infoFrameLockSet l.val a b c d) x t → toDie? l.val = some l →
    t.rxOn [l] = true →
    exec (.frameLockSet r l.val a b c d) s =
      .next (State.replied r x (infoFrameLockSet l.val a b c d) (.ok (t.setMarkCtrl l a b c d)))) ∧
  (∀ s t r x (l : Die) kind index, Runs s r (infoRxBankRead l.val kind index) x t → toDie? l.val = some l →
    t.level l .rx ≠ .dead →
    exec (.rxBankRead r l.val kind index) s = .next (State.replied r x (infoRxBankRead l.val kind index)
      (if kind = 0 then .okWith t (tlvBank (t.rd l (LRX_CB_M index)) (t.cb l index))
       else if kind = 1 then
         match (t.rx l).entries.get (Fin.ofNat 8 index) with
         | some v => .okWith t (tlvBank v.main v.coefs ++ tlvNleDfe v.d1 v.d2 v.nle)
         | none => .badParam 1 t
       else .okWith t (tlvNleDfe (t.rdInt l LRX_DFE_D1) (t.rdInt l LRX_DFE_D2)
         ((List.range 6).map fun i => t.rdInt l (LRX_NLE_Q i)))))) ∧
  (∀ s t r x lanes, Runs s r (infoLineStatusGet lanes) x t →
    exec (.lineStatusGet r lanes) s = .next (State.replied r x (infoLineStatusGet lanes)
      (.okWith t ((maskDies lanes).map (tlvLineStatus t))))) ∧
  (∀ (s : State) (l : Die) ps, s.pop l = true → s.domainOn l .rx = true → s.rxState l ≠ .down →
    s.flag l LRX_STAT_LOS = false → ps.length = 8 → (∀ p ∈ ps, 4 * s.rd l LRX_FRONT_LOS_THR < p) →
    exec (.losDeclare l ps) s = .next (State.rxEnter (((((((s.wr l LRX_FRONT_POWER (min 255 (ps.getLastD 0))).wr l
      LRX_STAT_LOS 1).wr l LRX_STAT_LOS_SEEN 1).cnt l 48).capTrigger l 1).raiseLane l evRX_LOS).frameLockLost l) l
      .signalWait)) ∧
  (∀ (s : State) (l : Die) ps, s.rxIn l [.signalWait] = true → s.flag l LRX_STAT_LOS = true →
    ps.length = 64 → (∀ p ∈ ps, p + 8 ≤ 4 * s.rd l LRX_FRONT_LOS_THR) →
    exec (.losClear l ps) s = .next (((s.wr l LRX_FRONT_POWER (min 255 (ps.getLastD 0))).wr l LRX_STAT_LOS 0).rxReacquire
      l)) ∧
  (∀ (s : State) (l : Die) g, s.rxIn l [.gain] = true →
    exec (.gainSettled l g) s = .next ((s.wr l LRX_FRONT_GAIN (min 120 g)).rxEnter l .freq)) ∧
  (∀ (s : State) (l : Die) (f : Int), s.rxIn l [.freq] = true → f.natAbs ≤ 300 * 64 →
    exec (.freqFound l f) s = .next ((s.wrInt l LRX_TIMING_FREQ_OFS f).rxEnter l .blindEq)) ∧
  (∀ (s : State) (l : Die) cs, s.rxIn l [.blindEq] = true →
    exec (.blindEqConverged l cs) s = .next
      ((if s.flag l LRX_CTRL_FFE_AD then s.setCb l (s.cbActive l) cs (s.rd l (LRX_CB_M (s.cbActive l))) else s).rxEnter l
        .marker)) ∧
  (∀ (s : State) (l : Die) before after p, s.pop l = true → s.domainOn l .rx = true →
    before.length = 16 → after.length = 2 → before.sum < 8 * after.sum →
    before.sum ^ 10 * 10 ^ s.rd l LRX_FRONT_CAP_THR ≤ (8 * after.sum) ^ 10 →
    ∃ u, u = (if s.rxState l = .down then s else s.wr l LRX_FRONT_POWER (min 255 p)) ∧
      exec (.captureStep l before after p) s = .next (match u.rxState l with
      | .gain | .freq | .blindEq | .marker =>
        (((u.wr l LRX_STAT_CAPTURE 1).cnt l 49).raiseLane l evRX_CAPTURE).rxEnter l .gain
      | .fastReacq => (((u.wr l LRX_STAT_CAPTURE 1).cnt l 49).raiseLane l evRX_CAPTURE).rxEnter l .fastReacq
      | .pilotEq | .locked => u.updRx l fun x => { x with capture := some 0 }
      | .down | .signalWait => u)) ∧
  (∀ (s : State) (l : Die) n, s.pop l = true → (s.rx l).capture = some n → 32 ≤ n →
    exec (.captureStepForget l) s = .next (s.updRx l fun x => { x with capture := none })) ∧
  (∀ (s : State) (l : Die) us, s.pop l = true → s.domainOn l .rx = true → RxState.limitUs (s.rxState l) = some us →
    (s.rx l).since + usU us ≤ s.time.now →
    exec (.acqTimeout l) s = .next (((((s.wr l LRX_STAT_ACQ_TIMEOUT 1).cnt l 50).raiseLane l evACQ_TIMEOUT).frameLockLost
      l).rxEnter l .gain)) ∧
  (∀ (s : State) (l : Die) pos window pilots (j : Die), s.searching l = true → s.standard = false →
    candidateLane (s.rx l).tol window pilots = some j → (candsAt (s.rx l).lockN pos (s.rx l).cands).length < 4 →
    (∀ c ∈ candsAt (s.rx l).lockN pos (s.rx l).cands,
      c.pos ≠ pos ∧ c.pos + 1320960 ≠ pos ∧ c.matched < (s.rx l).lockN) →
    exec (.markerCandidate l pos window pilots) s = .next (s.updRx l fun x =>
      { x with cands := candsAt (s.rx l).lockN pos (s.rx l).cands ++ [⟨pos, j.val, 1⟩] })) ∧
  (∀ (s : State) (l : Die) pos window pilots, s.searching l = true → s.standard = false →
    exec (.markerConfirmation l pos window pilots) s = .next (s.updRx l fun x => { x with
      cands := match candidateLane (s.rx l).tol window pilots with
        | some j => (candsAt (s.rx l).lockN pos (s.rx l).cands).map fun c =>
            if c.pos + 1320960 == pos && decide (c.matched < (s.rx l).lockN) then ⟨pos, j.val, c.matched + 1⟩ else c
        | none => (candsAt (s.rx l).lockN pos (s.rx l).cands).filter fun c =>
            !(c.pos + 1320960 == pos && decide (c.matched < (s.rx l).lockN)) })) ∧
  (∀ tol window pilots j, candidateLane tol window pilots = some j → bitErrs window LineFormat.marker ≤ tol) ∧
  (∀ (s : State) (l : Die) pos, s.searching l = true → s.standard = true →
    exec (.frameLock l pos) s = .next (s.declareLock l pos l.val)) ∧
  (∀ (s : State) (l : Die) pos c, s.searching l = true → s.standard = false →
    (s.rx l).cands.find? (fun c => decide ((s.rx l).lockN ≤ c.matched)) = some c → c.pos = pos →
    exec (.frameLock l pos) s = .next (s.declareLock l pos c.pilotLane)) ∧
  (∀ (s : State) (l : Die) t, s.rxIn l [.fastReacq] = true → (s.rx l).try_ = some t →
    (t.cur = none ∨ t.since + (s.rd l LRX_PATH_CTRL_TRY_FRAMES + 1) * 8 * s.frameU ≤ s.time.now) →
    exec (.fastReacqTryEnd l) s = .next (if t.left.isEmpty then
      (((s.wr l LRX_STAT_FAST_FAIL 1).cnt l 52).raiseLane l evFAST_REACQ_FAIL).rxEnter l .gain else s.nextTry l t.left)) ∧
  (∀ (s : State) (l : Die) f, s.pop l = true → (s.rx l).fade = some f → f.jump = false → f.begun = false →
    exec (.fadeStart l) s = .next ((s.beginFade l f).updRx l fun x =>
      { x with fade := some { f with begun := true, since := (s.beginFade l f).time.now } })) ∧
  (∀ (s : State) (l : Die) f, s.pop l = true → (s.rx l).fade = some f → f.jump = true →
    exec (.fadeStart l) s = .next (((((s.beginFade l f).wr l LRX_FADE_STAT_ACTIVE f.tgt).cnt l 56).updRx l fun x =>
      { x with fade := none, fineF := [] }).showFade l)) ∧
  (∀ (s : State) (l : Die) f, s.pop l = true → (s.rx l).fade = some f → f.begun = true →
    f.since + s.symbolsU f.len ≤ s.time.now →
    ∃ u, u = ((s.wr l LRX_FADE_STAT_ACTIVE f.tgt).cnt l 55).updRx l (fun x => { x with fade := none, queued := none, fineF := [] }) ∧
      exec (.fadeEnd l) s = .next (State.showFade (match (s.rx l).queued with
        | some b => if b = f.tgt then u else u.acceptFade l b
        | none => u) l)) ∧
  (∀ (s : State) (l : Die) window near, s.pop l = true → s.domainOn l .rx = true → s.flocked l = true →
    s.standard = true →
    exec (.markerCheck l window near) s = .next
      (if window = 0 then ((s.stdTags l).rxFrameCounts l).poolBoundary l else s.lockBroken l)) ∧
  (∀ (s : State) (l : Die) window near, s.pop l = true → s.domainOn l .rx = true → s.flocked l = true →
    s.standard = false →
    ∃ errs u v, errs = bitErrs window LineFormat.marker ∧ u = s.updRx l (fun x => { x with pos := x.pos + 1320960 }) ∧
      v = u.wr l DEC_MARK_STAT_LAST_ERRS (min 64 errs) ∧
      exec (.markerCheck l window near) s = .next
        (if errs ≤ u.rd l DEC_MARK_CTRL_TOL then ((v.wr l DEC_MARK_STAT_MISS_RUN 0).rxFrameCounts l).poolBoundary l
         else match slipTo (v.rd l DEC_MARK_CTRL_SLIP_WIN) (u.rd l DEC_MARK_CTRL_TOL)
             (near.map fun h => (h.1, bitErrs h.2 LineFormat.marker)) with
           | some off => (State.rxFrameCounts (State.updRx ((((v.wr l DEC_MARK_STAT_MISS_RUN 0).wr l DEC_MARK_STAT_SLIP 1).cnt
               l 66).raiseLane l evFRAME_SLIP) l fun x => { x with pos := ((x.pos : Int) + off).toNat }) l).poolBoundary l
           | none =>
             let w := (v.wr l DEC_MARK_STAT_MISS_RUN (v.rd l DEC_MARK_STAT_MISS_RUN + 1)).cnt l 65
             if w.rd l DEC_MARK_CTRL_LOSS_N ≤ v.rd l DEC_MARK_STAT_MISS_RUN + 1 then (w.poolBoundary l).lockBroken l
             else (w.rxFrameCounts l).poolBoundary l)) ∧
  (∀ (s : State) (l : Die) gain freq, s.rxIn l [.locked] = true → 1024 ≤ (s.rx l).sinceRefresh →
    ∃ u, u = ((s.wr l LRX_FRONT_GAIN (min 120 gain)).wrInt l LRX_TIMING_FREQ_OFS freq).updRx l (fun x => { x with sinceRefresh := 0 }) ∧
      exec (.pathMemoryRefresh l gain freq) s = .next
        (let put (u : State) (e : Fin 8) : State := u.updRx l fun x =>
           { x with entries := x.entries.set e.val (some (u.rxValues l)) e.isLt, order := e :: x.order.filter fun y => y != e }
         if (u.rx l).needEntry then
           let w := u.updRx l fun x => { x with needEntry := false }
           match w.pickEntry l with
           | none => (w.cnt l 53).wr l LRX_PATH_STAT_CUR_VALID 0
           | some e => put (((w.setBit l LRX_PATH_STAT_VALID e.val true).wr l LRX_PATH_STAT_CUR_VALID 1).wr l
               LRX_PATH_STAT_CURRENT e.val) e
         else match u.flag l LRX_PATH_STAT_CUR_VALID, toDie? (u.rd l LRX_PATH_STAT_CURRENT) with
           | true, some e => put u e
           | _, _ => u)) ∧
  (∀ (s : State) (l : Die), s.rxIn l [.locked] = true → s.flag l LRX_CTRL_FB_SUGGEST = true → s.standard = false →
    256 ≤ (s.rx l).lockedFrames → 256 ≤ (s.rx l).sinceSuggest →
    ∃ steps, steps = (List.range 10).map (fun k => suggestStep (s.cb l (s.cbActive l)) (s.rd l (LRX_CB_M (s.cbActive l))) k) ∧
      exec (.firSuggestion l) s = .next (s.updRx l fun x => if steps.any (fun v => v != 0) then
        { x with sinceSuggest := 0, firSeq := (x.firSeq + 1) % 256, firStep := steps } else { x with sinceSuggest := 0 })) ∧
  (∀ (s : State) (l : Die) ok, s.pop l = true → s.domainOn l .rx = true → s.rxState l ≠ .down →
    s.flag l LRX_ADC_ROT_EN = true → s.flag l LRX_ADC_NO_SPARE = false →
    (s.rx l).rotAt + 64 * 4 ^ s.rd l LRX_ADC_ROT_PERIOD * s.frameU ≤ s.time.now →
    ∃ u, u = (let u := s.updRx l fun x => { x with rotAt := s.time.now }
              if (u.rx l).adcFails = 0 then u.countSlice l ok else u) ∧
      exec (.adcSpareHandover l ok) s = .next
        (if ok then ((u.wr l LRX_ADC_SPARE (nextSub 0x7F (u.rd l LRX_ADC_SPARE))).cnt l 54).updRx l fun x =>
           { x with adcFails := 0 }
         else if 1 ≤ (u.rx l).adcFails then (u.retireSub l (u.rd l LRX_ADC_SPARE)).updRx l fun x => { x with adcFails := 0 }
         else u.updRx l fun x => { x with adcFails := x.adcFails + 1 })) ∧
  (∀ (s : State) (l : Die) i, s.pop l = true → s.domainOn l .rx = true → i < 65 →
    exec (.adcSubRetired l i) s = .next (s.retireSub l i))

/-- A swap request names a target bank, by RX_BANK_SWAP or by writing FADE_CTRL.REQ with REQ_BANK. It is refused with
BAD_PARAM if the bank is not valid, and with BUSY if the receiver is in a state other than PILOT_EQ or LOCKED; a
request that names the active bank while no fade is running or pending completes with OK and has no effect: the
receiver, its banks and its active bank stay as they are. (R164) -/
def Obligations.SwapRequests : Prop :=
  (∀ lane bank fade, (infoRxBankSwap lane bank fade).code = 0x4131 ∧ (infoRxBankSwap lane bank fade).priv = some .expert) ∧
  (∀ s t r x (l : Die) bank fade, t.regs.wf = true → Runs s r (infoRxBankSwap l.val bank fade) x t →
    toDie? l.val = some l → t.rxOn [l] = true →
    ∃ q : Res, exec (.rxBankSwap r l.val bank fade) s =
        .next (State.replied r x (infoRxBankSwap l.val bank fade) q) ∧
      (t.cbValid l bank = false → q.status = .badParam ∧ q.state = t) ∧
      (t.cbValid l bank = true → t.rxState l ≠ .pilotEq → t.rxState l ≠ .locked → q.status = .busy ∧ q.state = t) ∧
      (t.cbValid l bank = true → (t.rxState l = .pilotEq ∨ t.rxState l = .locked) → bank = t.cbActive l →
        (t.rx l).fade = none →
        q.status = .ok ∧ q.state.dies = t.dies ∧ q.state.cbActive l = t.cbActive l ∧ ∀ b, q.state.cb l b = t.cb l b)) ∧
  (∀ s t r x l w, t.regs.wf = true → Runs s r (regInfo l 0x08 5 true) x t → t.blockOff l 0x08 true = false →
    w.getLsbD 7 = true →
    ∃ q : Res, exec (.fadeReq r l w) s = .next (State.replied r x (regInfo l 0x08 5 true) q) ∧
      (t.cbValid l (w.toNat / 2 ^ 4 % 4) = false → q.status = .badParam ∧ q.state = t) ∧
      (t.cbValid l (w.toNat / 2 ^ 4 % 4) = true → t.rxState l ≠ .pilotEq → t.rxState l ≠ .locked →
        q.status = .busy ∧ q.state = t) ∧
      (t.cbValid l (w.toNat / 2 ^ 4 % 4) = true → (t.rxState l = .pilotEq ∨ t.rxState l = .locked) →
        w.toNat / 2 ^ 4 % 4 = t.cbActive l → (t.rx l).fade = none →
        q.status = .ok ∧ q.state.dies = t.dies ∧ q.state.cbActive l = t.cbActive l ∧ ∀ b, q.state.cb l b = t.cb l b))

/-- A new entry takes the lowest free place; with none free it replaces the least recently used one that is not pinned;
it finds none only if every place is taken and every used entry pinned. The tries are valid entries, at most
MAX_TRIES. A slip moves to a marker within SLIP_WIN and TOL that is nearest, the earlier of two, and is found
whenever there is one. What in it the model reads or chooses is in assumption log 28. (R180, R181, R210) -/
def Obligations.PathMemoryOrder : Prop :=
  (∀ (s : State) (l : Die) e, s.pickEntry l = some e →
    (s.entryValid l e = false ∧ ∀ k : Fin 8, k.val < e.val → s.entryValid l k = true) ∨
    ((∀ k : Fin 8, s.entryValid l k = true) ∧ s.bit l LRX_PATH_CTRL_PIN e.val = false ∧
      ∃ newer older, (s.rx l).order = newer ++ e :: older ∧ ∀ k ∈ older, s.bit l LRX_PATH_CTRL_PIN k.val = true)) ∧
  (∀ (s : State) (l : Die), s.pickEntry l = none → (∀ k : Fin 8, s.entryValid l k = true) ∧
    ∀ k ∈ (s.rx l).order, s.bit l LRX_PATH_CTRL_PIN k.val = true) ∧
  (∀ (s : State) (l : Die), (∀ e ∈ s.tryList l, s.entryValid l e = true) ∧
    (s.tryList l).length ≤ s.rd l LRX_PATH_CTRL_MAX_TRIES) ∧
  (∀ win tol hits k, slipTo win tol hits = some k →
    (∃ n, (k, n) ∈ hits ∧ n ≤ tol) ∧ k ≠ 0 ∧ k.natAbs ≤ win ∧
    ∀ h ∈ hits, h.1 ≠ 0 → h.1.natAbs ≤ win → h.2 ≤ tol → k.natAbs < h.1.natAbs ∨ k.natAbs = h.1.natAbs ∧ k ≤ h.1) ∧
  (∀ win tol hits, slipTo win tol hits = none → ∀ h ∈ hits, h.1 = 0 ∨ win < h.1.natAbs ∨ tol < h.2)

/-- DEC_POOL_SET and MAN_FENCE_WRITE act on a lane whose receive domain is on; a decode that ends within its cap leaves
its engine with its outcome, or the checker's verdict fences the engine, and in STANDARD an inner codeword is
counted; an engine that has had its codeword for more than 16 cap + 32 core cycles is fenced; the 16 codewords of a
group join the queue with their soft values, one that finds the buffer full failing; a bad checker self-test sets
CHK_FAIL; slices start on fenced engines when they are due and every 64 frames, return an engine after three passes
and make it permanent after 16 failures; trees change at the boundary after a change of health or links. What in it
the model reads or chooses is in assumption log 8, 29 and 51. (R221, R222, R227, R231, R232, R233, R238, R246, R253) -/
def Obligations.PoolRuns : Prop :=
  (∀ s t r x (l : Die) cap m, Runs s r (infoDecPoolSet l.val cap m) x t → toDie? l.val = some l → t.rxOn [l] = true →
    exec (.decPoolSet r l.val cap m) s = .next (State.replied r x (infoDecPoolSet l.val cap m)
      (t.setPoolCtrl l (if cap = 0xFF then none else some cap) (BitVec.ofNat 8 m) 1))) ∧
  (∀ s t r x l m, Runs s r (regInfo l 0x0A 2 true) x t → t.blockOff l 0x0A true = false →
    exec (.manFenceWrite r l m) s = .next (State.replied r x (regInfo l 0x0A 2 true) (t.setPoolCtrl l none m 1))) ∧
  (∀ (s : State) (l : Die) e conv it res cb j, s.standard = false → s.pop l = true → s.engineOn l e = true →
    (s.engine l e).stalled = false → (s.engine l e).job = some j → 1 ≤ it → it ≤ (s.engine l e).cap →
    (conv = true ∨ it = (s.engine l e).cap) →
    exec (.decodeDone l e conv it res cb) s = .next
      (let bad := (s.takeInject l 1 0).1
       let v := (s.takeInject l 1 0).2.noteAttempt l j it
       if !conv || bad then (v.leaveEngine l e j false 0).runPool l
       else if (LineFormat.isCodeword res != cb) || v.flag l DEC_POOL_STAT_CHK_FAIL then
         ((v.keepWord l j res).leaveEngine l e j true (correctedBits j.soft res)).runPool l
       else if j.redo then ((v.checkerFail l).leaveEngine l e j false 0).runPool l
       else v.fence l e .check)) ∧
  (∀ (s : State) (l : Die) e conv n res cb, s.standard = true → s.pop l = true → s.domainOn l .rx = true →
    s.flocked l = true →
    exec (.decodeDone l e conv n res cb) s = .next (if conv then (s.cnt l 72).cntN l 73 n else s.cnt l 74)) ∧
  (∀ (s : State) (l : Die) e, s.pop l = true → (s.engine l e).job.isSome = true → (s.engine l e).stalled = false →
    (s.engine l e).begun + 16 * (s.engine l e).cap + 32 < s.coreNow →
    exec (.engineWatchdog l e) s = .next (s.fence l e .watchdog)) ∧
  (∀ (s : State) (l : Die) g samples, s.pop l = true → s.flocked l = true → s.rxDelivers l = true →
    s.domainOn l .dataPath = true → g < 16 → s.standard = false →
    ∃ (u : State) (softs : List (List Int)), exec (.interleaverGroupQueue l g samples) s = .next (u.queueGroup l g softs) ∧ softs.length = 16 ∧
      u.tel = s.tel ∧ u.out = s.out ∧ ∀ d, u.pool d = s.pool d) ∧
  (∀ (s : State) (l : Die) g softs, s.queueGroup l g softs = State.runPool (s.each (List.range 16) fun s k =>
    let j : CwJob := ⟨(s.pool l).idx, g * 16 + k, false, softs.getD k []⟩
    let u := s.updFrame l j.frame fun f => { f with queued := f.queued ||| (1#256 <<< j.cw) }
    if 64 ≤ u.buffered l then (u.cntFrame l j.frame 77 1).failCw l j
    else u.updPool l fun p => { p with queue := p.queue ++ [j] }) l) ∧
  (∀ (s : State) (l : Die) a b, s.pop l = true → (a = false ∨ b = true) →
    exec (.checkerSelfTest l a b) s = .next (s.checkerFail l)) ∧
  (∀ (s : State) (l : Die), exec (.checkerSelfTest l true false) s = .next s) ∧
  (∀ (s : State) (l : Die) (e : Fin 8) t, s.pop l = true → s.bit l DEC_POOL_STAT_FENCED e.val = true →
    s.bit l DEC_POOL_STAT_PERM e.val = false → s.bit l DEC_POOL_CTRL_MAN_FENCE e.val = false →
    (s.engine l e).returning = false → (s.engine l e).slicing = false → (s.engine l e).sliceDue = some t → t ≤ s.time.now →
    exec (.engineSliceStart l e) s = .next (s.updEngine l e fun x =>
      { x with slicing := true, sliceDue := some (s.time.now + 64 * s.frameU) })) ∧
  (∀ (s : State) (l : Die) (e : Fin 8) pass, s.pop l = true → (s.engine l e).slicing = true →
    ∃ u t, u = (s.countSlice l pass).updEngine l e (fun x => { x with
        slicing := false, clean := if pass then x.clean + 1 else 0, failed := if pass then 0 else x.failed + 1 }) ∧
      exec (.engineSliceDone l e pass) s = .next t ∧
      t = (if 3 ≤ (u.engine l e).clean then
          if u.flocked l then u.updEngine l e fun x => { x with returning := true } else u.unfence l e
        else if 16 ≤ (u.engine l e).failed then
          ((u.setBit l DEC_POOL_STAT_PERM e.val true).updDie l fun d =>
            { d with units := { d.units with perm := d.units.perm ||| (1#8 <<< e.val) } }).raise l evDEC_ENGINE_PERMANENT
            (evArg l.val 0xFF [])
        else u)) ∧
  (∀ s : State, s.sb.pendRoutes = true → exec .treeChange s = .next s.changeTrees)

/-- Delivery hands on of a frame, in rising order and once each, exactly the run of finished codewords that begins at
the next one to deliver, stops at the first unfinished one, and goes on to the next frame only when the frame is
delivered whole. CAP_EFF is the smaller of CAP and twice the engines in service. MAN_FENCE bits that would leave no
engine in service get BAD_PARAM and change nothing. Fencing an engine in service takes it out of service, sets its
FENCED bit, records engine and cause in FENCE_INFO, counts it, and leaves it without a codeword; no other engine
leaves service. What in it the model reads or chooses is in assumption log 29 and 51. (R223, R224, R228, R229, R233) -/
def Obligations.DecoderDelivers : Prop :=
  (∀ (s : State) (l : Die) i f, s.frame? l i = some f → f.delivered ≤ 256 →
    ∃ n, f.delivered + n ≤ 256 ∧ (∀ k, k < n → f.done.getLsbD (f.delivered + k) = true) ∧
      (f.delivered + n < 256 → f.done.getLsbD (f.delivered + n) = false) ∧
      (s.deliverFrame l i).out = s.out ++ (List.range n).map (fun k =>
        Output.codeword l (f.delivered + k) (!f.failed.getLsbD (f.delivered + k))) ∧
      (s.deliverFrame l i).frame? l i = some { f with delivered := f.delivered + n }) ∧
  (∀ (s : State) (l : Die) f fs g, (s.pool l).frames = f :: fs → (s.deliverFrame l f.idx).frame? l f.idx = some g →
    g.delivered < 256 → s.deliverReady l = s.deliverFrame l f.idx) ∧
  (∀ (s : State) (l : Die), s.regs.wf = true → (s.rd l DEC_POOL_CTRL_CAP ≤ 16) →
    (s.applyCap l).rd l DEC_POOL_STAT_CAP_EFF = min (s.rd l DEC_POOL_CTRL_CAP) (2 * (s.enginesOn l).length)) ∧
  (∀ s t r x (l : Die) cap m, Runs s r (infoDecPoolSet l.val cap m) x t → toDie? l.val = some l → t.rxOn [l] = true →
    (∃ e : Die, (BitVec.ofNat 8 m).getLsbD e.val = true ∧ t.bit l DEC_POOL_CTRL_MAN_FENCE e.val = false) →
    (∀ e : Fin 8, t.engineOn l e = true → (BitVec.ofNat 8 m).getLsbD e.val = true) →
    exec (.decPoolSet r l.val cap m) s = .next (State.replied r x (infoDecPoolSet l.val cap m) (.badParam 1 t))) ∧
  (∀ (s : State) (l : Die) (e : Fin 8) c, s.regs.wf = true → s.tel.ctr.wf = true → s.pop l = true →
    s.engineOn l e = true →
    (s.fence l e c).engineOn l e = false ∧ (s.fence l e c).bit l DEC_POOL_STAT_FENCED e.val = true ∧
    (s.fence l e c).rd l DEC_FENCE_INFO_LAST_ENG = e.val ∧ (s.fence l e c).rd l DEC_FENCE_INFO_LAST_CAUSE = FenceCause.code c ∧
    ((s.fence l e c).engine l e).job = none ∧
    (s.fence l e c).tel.ctr.get (l.val * 192 + 78) = (s.tel.ctr.get (l.val * 192 + 78) + 1) % 2 ^ 48 ∧
    ∀ k, k ≠ e → (s.fence l e c).engineOn l k = s.engineOn l k)

/-- When the request passes the checks: CIPHER_POLICY_SET sets a policy that the permit allows and otherwise gets
NOT_PERMITTED; KEY_MODE_SET, KEY_PSK_SET, KEY_LIFE_SET and KEY_RETAIN_SET store what they carry on every die;
KEY_ZEROISE zeroises the session keys, and the PSK if asked; KEY_AGREE_START and KEY_RACK start an agreement, with
NOT_PERMITTED under CLEAR and BUSY while one runs; CIPHER_SF_CLEAR clears SF_C once every pipeline in service has
passed its slice; CIPHER_STATUS_GET replies a record per lane. A spent transmit key without a successor expires, and
so do keys past their time of dies not in ACTIVE; a retained key past its time is zeroised. A record that arrives by
a lane: a HELLO in order supersedes the responder's attempt and is answered; RESPONSE, CONFIRM and ACK of the
attempt they belong to go on with it; ABORT ends the attempt it names; RESYNC_REQ acts at most once in 10 s; any
other is dropped and counted. An attempt of 2 s times out; the wait's end starts the next; three-quarters of a limit
starts the next epoch's; a countdown at its end changes the lane over; 4,096 frames after the newer epoch the old
receive key goes. A pipeline whose result differs from the spare's check, once a frame, is fenced; a due slice of a
pipeline not fenced is counted, and fences it when it fails. What in it the model reads or chooses is in assumption
log 6, 32 and 54. (R275, R281, R283, R286, R291, R292, R294, R301, R303, R304, R308, R404) -/
def Obligations.KeysRun : Prop :=
  (∀ s t r x p, Runs s r (keyInfo 0x0501 .custodian true none) x t →
    exec (.cipherPolicySet r p) s = .next (State.replied r x (keyInfo 0x0501 .custodian true none)
      (if !t.nv.fuses.permit && p != .gcmRequired then .fail .notPermitted t else .ok (t.setPolicyCode p)))) ∧
  (∀ s t r x m, Runs s r (keyInfo 0x0502 .custodian true none) x t →
    exec (.keyModeSet r m) s = .next (State.replied r x (keyInfo 0x0502 .custodian true none)
      (.ok (t.each t.popDies fun u d => u.wr d CIPH_CFG_MODE (KeyMode.code m))))) ∧
  (∀ s t r x psk, Runs s r (keyInfo 0x0503 .custodian true (if psk.all fun b => b == 0#8 then some 0 else none)) x t →
    exec (.keyPskSet r psk) s = .next (State.replied r x
      (keyInfo 0x0503 .custodian true (if psk.all fun b => b == 0#8 then some 0 else none))
      (.ok (t.setPsk (some (padTo 32 psk)))))) ∧
  (∀ s t r x fl tl, Runs s r (keyInfo 0x0504 .custodian true (keyLifeBad fl tl)) x t →
    exec (.keyLifeSet r fl tl) s = .next (State.replied r x (keyInfo 0x0504 .custodian true (keyLifeBad fl tl))
      (.ok (let u := t.noteCauses.each t.popDies fun u d =>
              (u.wrOpt d CIPH_LIFE_FRAME_LOG2 fl).wrOpt d CIPH_LIFE_TIME_LIMIT tl
            (if u.cipherOn && u.keyThreshold && (u.keys u.keyHome).txNext.isNone then u.kxStart else u).showKeys)))) ∧
  (∀ s t r x en, Runs s r (keyInfo 0x0505 .custodian true none) x t →
    exec (.keyRetainSet r en) s = .next (State.replied r x (keyInfo 0x0505 .custodian true none)
      (.ok ((t.each t.popDies fun u d => u.setRetain d en).powerEval 1)))) ∧
  (∀ s t r x psk, Runs s r (keyInfo 0x0506 .custodian true none) x t →
    exec (.keyZeroise r psk) s = .next (State.replied r x (keyInfo 0x0506 .custodian true none)
      (.ok (if psk = some true then t.setPsk none else t).zeroiseAll.kxKick))) ∧
  (∀ s t r x, Runs s r { keyInfo 0x0507 .operator false none with ns := true } x t →
    exec (.keyAgreeStart r) s = .next (State.replied r x { keyInfo 0x0507 .operator false none with ns := true }
      (if t.policyCode 0 = 2 then .fail .notPermitted t else if t.kx.tx.isSome then .fail .busy t
       else .ok ((t.updKx fun y => { y with wait := 1 }).kxStart)))) ∧
  (∀ s t r x, Runs s r { keyInfo 0x0508 .operator false none with ns := true, rt := true } x t →
    exec (.keyRack r) s = .next (State.replied r x { keyInfo 0x0508 .operator false none with ns := true, rt := true }
      (if t.policyCode 0 = 2 then .fail .notPermitted t
       else if t.kx.tx.isSome || (t.keys t.keyHome).txNext.isSome then .fail .busy t else .ok t.kxStart))) ∧
  (∀ s t r x (l : Die),
    Runs s r { keyInfo 0x0509 .custodian true (numBad l.val 8 0) with ns := true, dies := oneDie l.val } x t →
    toDie? l.val = some l → t.domainOn l .dataPath = true →
    exec (.cipherSfClear r l.val) s = .next (State.replied r x
      { keyInfo 0x0509 .custodian true (numBad l.val 8 0) with ns := true, dies := oneDie l.val }
      (if !t.flag l CIPH_FLAGS_SF_C then .ok t else if !t.sfSlicesPassed l then .fail .busy t
       else .ok (t.noteCauses.wr l CIPH_FLAGS_SF_C 0)))) ∧
  (∀ s t r x lanes, Runs s r (infoCipherStatusGet lanes) x t →
    exec (.cipherStatusGet r lanes) s = .next (State.replied r x (infoCipherStatusGet lanes)
      (.okWith t ((maskDies lanes).map (tlvCipherLane t))))) ∧
  (∀ (s : State) k, (s.keys s.keyHome).txCur = some k → s.cipherOn = true → s.keySpent k = true →
    (s.keys s.keyHome).txNext = none → s.kx.expired = false → exec .keyExpired s = .next s.keyLimit.sleepLimit) ∧
  (∀ (s : State) (d : Die), s.pop d = true → s.power d = .dormant → s.retainedOld d = true →
    exec (.retainedKeyExpiry d) s = .next ((s.zeroiseDie d).showKeys.powerEval 7)) ∧
  (∀ (s : State) (l : Die) c, s.kxArrives l = true →
    exec (.kxHello l c) s = .next (if KxRec.headOk c && s.cipherOn then (s.kxEndRx .superseded).kxRespond c
      else s.kxDropped l)) ∧
  (∀ (s : State) (l : Die) c a, s.kxArrives l = true → KxRec.headOk c = true → s.kx.tx = some a → a.session = c.session →
    a.response = [] → exec (.kxResponse l c) s = .next (s.kxAnswer a c)) ∧
  (∀ (s : State) (l : Die) c a, s.kxArrives l = true → KxRec.headOk c = true → s.kx.rx = some a → a.session = c.session →
    exec (.kxConfirm l c) s = .next (s.kxInstallRx a c)) ∧
  (∀ (s : State) (l : Die) c a, s.kxArrives l = true → KxRec.headOk c = true → s.kx.tx = some a → a.session = c.session →
    a.confirm ≠ [] → exec (.kxAck l c) s = .next (s.kxInstallTx a c)) ∧
  (∀ (s : State) (l : Die) c a, s.kxArrives l = true → KxRec.headOk c = true → s.kx.tx = some a → a.session = c.session →
    exec (.kxAbort l c) s = .next (s.kxEndTx .peerAbort)) ∧
  (∀ (s : State) (l : Die) c a, s.kxArrives l = true → KxRec.headOk c = true → s.kx.tx = none → s.kx.rx = some a →
    a.session = c.session → exec (.kxAbort l c) s = .next (s.kxEndRx .peerAbort)) ∧
  (∀ (s : State) (l : Die) c, s.kxArrives l = true → (KxRec.headOk c = false ∨ s.kx.tx = none ∧ s.kx.rx = none) →
    exec (.kxResponse l c) s = .next (s.kxDropped l) ∧ exec (.kxConfirm l c) s = .next (s.kxDropped l) ∧
    exec (.kxAck l c) s = .next (s.kxDropped l) ∧ exec (.kxAbort l c) s = .next (s.kxDropped l)) ∧
  (∀ (s : State) (l : Die) c, s.kxArrives l = true → KxRec.headOk c = true → s.cipherOn = true →
    exec (.kxResyncReq l c) s = .next (match s.kx.actedAt with
      | some t => if t + secU 10 ≤ s.time.now then s.kxResync else s
      | none => s.kxResync)) ∧
  (∀ s : State, exec .keyLifeThreshold s = .next s.kxLife) ∧
  (∀ (s : State) a, s.kx.tx = some a → a.start + secU 2 ≤ s.time.now →
    exec (.keyAgreeTimeout true) s = .next (s.kxEndTx .timeout)) ∧
  (∀ (s : State) a, s.kx.rx = some a → a.start + secU 2 ≤ s.time.now →
    exec (.keyAgreeTimeout false) s = .next (s.kxEndRx .timeout)) ∧
  (∀ (s : State) t, s.kx.due = some t → t ≤ s.time.now →
    exec .keyAgreeBackoffEnd s = .next ((s.updKx fun x => { x with due := none }).kxStart)) ∧
  (∀ (s : State) (l : Die) e t m, s.kx.newer = some (e, t, m) → t + 4096 * s.frameU ≤ s.time.now →
    exec (.rxOldKeyZeroise l) s = .next ((s.each allDies fun s d => s.updKeys d fun x => { x with rx := x.rx.take 1 }).updKx
      fun x => { x with newer := none }).showKeys) ∧
  (∀ (s : State) (l : Die), s.pop l = true → (s.ciph l).announced = true → (s.ciph l).cd = 1 → (s.ciph l).onNext = false →
    (s.keys l).txNext.isSome = true → exec (.rackChangeover l) s = .next ((s.freshEpoch l true).promote).showKeys) ∧
  (∀ (s : State) (l : Die) tb rb, s.ciphRuns l = true → s.standard = false →
    periodDue (s.ciph l).checkAt s.frameU s.time.now = true →
    exec (.cipherPipeCheck l tb rb) s = .next (State.checkPipes (State.checkPipes (s.updCiph l fun c =>
      { c with checkAt := some (nextDue c.checkAt s.frameU s.time.now) }) l false tb) l true rb)) ∧
  (∀ (s : State) (l : Die) rx bad q, s.sparePipe l rx = some q → s.checkPipes l rx bad =
    s.each [0, 1, 2, 3] fun s p => if bad.getLsbD p.val && p != q then s.fencePipe l rx p else s) ∧
  (∀ (s : State) (l : Die) rx (p : Fin 4) pass, s.ciphRuns l = true → s.pipeSliceDue l rx p = true →
    (if rx then (s.die l).units.rxPipes else (s.die l).units.txPipes).getLsbD p.val = false →
    (rx = true ∨ s.flag l CIPH_FLAGS_SF_C = false) →
    (if rx then (s.ciph l).rxFenced else (s.ciph l).txFenced).getLsbD p.val = false →
    exec (.cipherSliceDone l rx p pass) s = .next
      (let u := (s.updCiph l fun c => if rx then { c with rxSliceAt := c.rxSliceAt.set p.val (some s.time.now) }
         else { c with txSliceAt := c.txSliceAt.set p.val (some s.time.now) }).countSlice l pass
       if pass then u else u.fencePipe l rx p))

/-- The direction bit is 0 when N_I is below N_R as an unsigned integer and 1 when it is above. Equal nonces are
refused: with the mode and the credential right the reason is NONCE_EQUAL; a RESPONSE with the initiator's own nonce
ends its attempt, and ABORT with that reason goes. (R278) -/
def Obligations.NoncesDecide : Prop :=
  (∀ ni nr, ni.length = 32 → nr.length = 32 →
    (ofBe ni < ofBe nr → dirBit ni nr = 0) ∧ (ofBe nr < ofBe ni → dirBit ni nr = 1) ∧ (ofBe ni = ofBe nr → ni = nr)) ∧
  (∀ (s : State) mode c nonce, c.nonce = nonce → s.kxRefuse mode c nonce ≠ none ∧
    (c.mode = KeyMode.code mode → s.kxCredential mode = true → s.kxRefuse mode c nonce = some .nonceEqual)) ∧
  (∀ (s : State) (l : Die) c a, s.kxArrives l = true → KxRec.headOk c = true → s.kx.tx = some a → a.session = c.session →
    a.response = [] → c.mode = KeyMode.code a.mode → s.kxCredential a.mode = true → c.nonce = a.nonce →
    ∃ t, exec (.kxResponse l c) s = .next t ∧ t.kx.tx = none ∧
      t = (s.kxAbortSend a.mode a.session a.epoch .nonceEqual).kxEndTx .nonceEqual)

/-- The epoch after 0xFFFF is 1 and else one more, never 0; without a key the next epoch is 1. Every die that keeps keys
holds a new receive key first, with at most one older, that one of another epoch and held before. Zeroisation leaves
no die a key and no attempt, and NEXT_VALID and KEY_VALID of every populated lane 0. What in it the model reads or
chooses is in assumption log 32. (R290, R294, R304, R309) -/
def Obligations.KeysHeld : Prop :=
  (∀ e, e ≤ 0xFFFF → epochAfter e ≠ 0 ∧ epochAfter e ≤ 0xFFFF ∧ (e < 0xFFFF → epochAfter e = e + 1)) ∧
  epochAfter 0xFFFF = 1 ∧
  (∀ s : State, (s.keys s.keyHome).txCur = none → s.nextEpoch = 1) ∧
  (∀ (s : State) k d, d ∈ s.keyDies → ((s.installRx k).keys d).rx.head? = some k ∧ ((s.installRx k).keys d).rx.length ≤ 2 ∧
    ∀ y ∈ ((s.installRx k).keys d).rx.drop 1, y.epoch ≠ k.epoch ∧ y ∈ (s.keys d).rx) ∧
  (∀ s : State, s.regs.wf = true → (∀ d, s.zeroiseAll.keys d = ⟨none, none, []⟩) ∧ s.zeroiseAll.kx.tx = none ∧
    s.zeroiseAll.kx.rx = none ∧ s.zeroiseAll.kx.outbox = [] ∧
    ∀ l, s.pop l = true → s.zeroiseAll.flag l CIPH_TX_STAT_KEY_VALID = false ∧
      s.zeroiseAll.flag l CIPH_TX_STAT_NEXT_VALID = false ∧ s.zeroiseAll.flag l CIPH_RX_STAT_KEY_VALID = false ∧
      s.zeroiseAll.flag l CIPH_RX_STAT_NEXT_VALID = false)

/-- POWER_POLICY_SET replaces the policy and chooses each die's state anew; POWER_STATE_GET replies a record per die. A
die moving deeper enters its state once its transmitter is at MUTE; a waking die wakes once its PLLs have locked,
and a change that waited takes effect; a wake source whose conditions hold wakes; a comparator trips above its
threshold, acting outside ACTIVE when enabled, and rearms below threshold less hysteresis; a conversion that is due,
of the bits of 11 samples, shows TJ; one above 155 degrees holds the die, and one second below 140 ends the hold.
What in it the model reads or chooses is in assumption log 33. (R402, R493, R496, R498, R500, R501, R502, R503,
R504) -/
def Obligations.PowerRuns : Prop :=
  (∀ s t r x gs, Runs s r (infoPowerPolicySet s gs) x t →
    exec (.powerPolicySet r gs) s = .next (State.replied r x (infoPowerPolicySet s gs)
      (.ok ((t.setPolicy gs).powerEval 1)))) ∧
  (∀ s t r x, Runs s r infoPowerStateGet x t →
    exec (.powerStateGet r) s = .next (State.replied r x infoPowerStateGet (.okWith t (t.popDies.map (tlvDiePower t))))) ∧
  (∀ (s : State) (d : Die), s.pop d = true → s.flag d PWR_STATE_TRANS = true → (s.pwr d).waking = false →
    ((s.tx d).running = false ∨ s.rd d LTX_STAT_TX_STATE = 0) →
    exec (.dieStateEntryDone d) s = .next (s.entryDone d (PowerState.ofCode (s.rd d PWR_STATE_TARGET)))) ∧
  (∀ (s : State) (d : Die), s.pop d = true → s.flag d PWR_STATE_TRANS = true → (s.pwr d).waking = true →
    s.pllsReady d (PowerState.ofCode (s.rd d PWR_STATE_TARGET)) = true →
    ∃ u, u = (s.wakeEnds d (PowerState.ofCode (s.rd d PWR_STATE_TARGET))).updPwr d (fun x => { x with evalPending := false }) ∧
      exec (.wakeDone d) s = .next (if (s.pwr d).evalPending then u.powerEval 1 else u)) ∧
  (∀ (s : State) (d : Die) src, s.pop d = true → s.srcFires d src = true →
    exec (.wakeSource d src) s = .next (s.wakeBy d src)) ∧
  (∀ (s : State) (d : Die) (n : Fin 2) level, s.pop d = true → s.power d ≠ .off → s.cmpArmed d n = true →
    s.rd d (PWR_WAKE_CMP_THR n.val) * 16 < level →
    ∃ u, u = ((s.wr d (PWR_WAKE_CMP_TRIPPED n.val) 1).wr d (PWR_WAKE_CMP_ABOVE n.val) 1).setArmed d n false ∧
      exec (.wakeCmpTrip d n level) s = .next
        (if (if n = 0 then u.flag d PWR_WAKE_EN_CMP0 else u.flag d PWR_WAKE_EN_CMP1) then
          u.wakeBy d (if n = 0 then .cmp0 else .cmp1) else u)) ∧
  (∀ (s : State) (d : Die) (n : Fin 2) level, s.pop d = true → s.power d ≠ .off →
    level < (s.rd d (PWR_WAKE_CMP_THR n.val) - s.rd d (PWR_WAKE_CMP_HYST n.val)) * 16 →
    exec (.wakeCmpRearm d n level) s = .next ((s.wr d (PWR_WAKE_CMP_ABOVE n.val) 0).setArmed d n true)) ∧
  (∀ (s : State) (d : Die) bits, s.thermalRuns d = true → periodDue (s.pwr d).tjAt (msU 8) s.time.now = true →
    bits.length = 11 * presetD 0 →
    ∃ n v, n = (if (s.conv d 0).act.isCal then (1 : Fin 2) else 0) ∧
      v = (convSample false (s.calibrated d n 0 (Config.compensation 0 (Cic.run (presetD 0) 11 bits .zero).taps))).value ∧
      exec (.thermalConversion d bits) s = .next (s.thermalResult d v)) ∧
  (∀ (s : State) (d : Die) v, ∃ u, u = (s.updPwr d fun x => { x with tjAt := some (nextDue x.tjAt (msU 8) s.time.now) }).wrInt d
      DIE_TEMP_TJ (max (-32768) (min 32767 (roundDiv (junction v) 8388608))) ∧
    (155 * 16 * 8388608 < junction v → (s.pwr d).thermalHold = false → s.thermalResult d v =
      State.powerEval (State.raise (((u.updPwr d fun x => { x with coolSince := none }).updPwr d fun x =>
        { x with thermalHold := true }).wr d PWR_STATE_CAUSE 2) d evTHERMAL_LIMIT (evArg d.val 0xFF [])) 1) ∧
    (155 * 16 * 8388608 < junction v → (s.pwr d).thermalHold = true → s.thermalResult d v =
      u.updPwr d fun x => { x with coolSince := none }) ∧
    (junction v ≤ 155 * 16 * 8388608 → (s.pwr d).thermalHold = false → s.thermalResult d v = u) ∧
    (∀ t, junction v < 140 * 16 * 8388608 → (s.pwr d).thermalHold = true → (s.pwr d).coolSince = some t →
      t + secU 1 ≤ s.time.now → s.thermalResult d v = ((u.updPwr d fun x =>
        { x with thermalHold := false, coolSince := none }).wr d PWR_STATE_CAUSE 0).powerEval 1))

/-- A WAKE_CMP_SET (0x0403) that passes the checks completes with OK. On every die of its DIE_MASK it writes the
comparator that each of its WAKE_CMP TLVs names, in their order (so of two that name one the last stands: the
model's choice); its ENABLE, if it has one, then goes to CMP0 when a TLV names it or none is there, and to CMP1
likewise. No die of another mask, no enable that the packet does not concern and no register field but those of the
comparators changes. (R402, R663) -/
def Obligations.WakeComparators : Prop :=
  (∀ dies cs, (infoWakeCmpSet dies cs).code = 0x0403) ∧
  (∀ s t r x dies cs en, Runs s r (infoWakeCmpSet dies cs) x t →
    exec (.wakeCmpSet r dies cs en) s = .next (State.replied r x (infoWakeCmpSet dies cs)
      (.ok (t.each (maskDies dies) fun u d =>
        let u := u.each cs fun u c =>
          let n := if c.ain then 1 else 0
          let v := (u.wr d (PWR_WAKE_CMP_THR n) c.thr).wr d (PWR_WAKE_CMP_HYST n) c.hyst
          if c.ain then v.wr d (PWR_WAKE_CMP_AIN_SEL 1) c.ainSel else v
        match en with
        | none => u
        | some b =>
          let u := if cs.isEmpty || cs.any fun c => !c.ain then u.wrB d PWR_WAKE_EN_CMP0 b else u
          if cs.isEmpty || cs.any fun c => c.ain then u.wrB d PWR_WAKE_EN_CMP1 b else u)))) ∧
  (∀ s t r x dies cs en, t.regs.wf = true → Runs s r (infoWakeCmpSet dies cs) x t →
    ∃ u, exec (.wakeCmpSet r dies cs en) s = .next (State.replied r x (infoWakeCmpSet dies cs) (.ok u)) ∧
      (∀ d ∈ maskDies dies, ∀ a c b, cs = a ++ c :: b → (∀ e ∈ b, e.ain ≠ c.ain) →
        u.rd d (PWR_WAKE_CMP_THR (if c.ain then 1 else 0)) = c.thr ∧
        u.rd d (PWR_WAKE_CMP_HYST (if c.ain then 1 else 0)) = c.hyst ∧
        (c.ain = true → u.rd d (PWR_WAKE_CMP_AIN_SEL 1) = c.ainSel)) ∧
      (∀ d ∈ maskDies dies, ∀ b, en = some b →
        ((cs = [] ∨ ∃ c ∈ cs, c.ain = false) → u.flag d PWR_WAKE_EN_CMP0 = b) ∧
        ((cs = [] ∨ ∃ c ∈ cs, c.ain = true) → u.flag d PWR_WAKE_EN_CMP1 = b)) ∧
      (∀ d, (d ∉ maskDies dies ∨ en = none ∨ (cs ≠ [] ∧ ∀ c ∈ cs, c.ain = true)) →
        u.rd d PWR_WAKE_EN_CMP0 = t.rd d PWR_WAKE_EN_CMP0) ∧
      (∀ d, (d ∉ maskDies dies ∨ en = none ∨ (cs ≠ [] ∧ ∀ c ∈ cs, c.ain = false)) →
        u.rd d PWR_WAKE_EN_CMP1 = t.rd d PWR_WAKE_EN_CMP1) ∧
      (∀ d f, (∀ e, f.key d ≠ PWR_WAKE_EN_CMP0.key e ∧ f.key d ≠ PWR_WAKE_EN_CMP1.key e ∧
          f.key d ≠ (PWR_WAKE_CMP_THR 0).key e ∧ f.key d ≠ (PWR_WAKE_CMP_THR 1).key e ∧
          f.key d ≠ (PWR_WAKE_CMP_HYST 0).key e ∧ f.key d ≠ (PWR_WAKE_CMP_HYST 1).key e ∧
          f.key d ≠ (PWR_WAKE_CMP_AIN_SEL 1).key e) → u.rd d f = t.rd d f) ∧
      u.dies = t.dies ∧ u.tel = t.tel)

/-- A budget of 0 chooses ACTIVE and one of all ones DORMANT; any other the deepest state whose wake time it admits:
that state's wake time is within the budget, and that of every deeper state is not, or has no bound. A policy that
overlaps or splits a port never takes effect. An empty policy puts every populated die's budget and group at 0. What
in it the model reads or chooses is in assumption log 33. (R402, R500, R501) -/
def Obligations.BudgetsAdmit : Prop :=
  (∀ (s : State) g lt b,
    (b = 0 → s.bestState g lt b = .active) ∧ (b = 0xFFFFFFFF → s.bestState g lt b = .dormant) ∧
    (b ≠ 0 → b ≠ 0xFFFFFFFF →
      (s.bestState g lt b ≠ .active → ∃ t, s.wakeTime g lt (s.bestState g lt b) = some t ∧ t ≤ b) ∧
      (∀ st, st ≠ .off → PowerState.code (s.bestState g lt b) < PowerState.code st →
        ∀ t, s.wakeTime g lt st = some t → b < t))) ∧
  (∀ s r gs x, (groupsOverlap gs = true ∨ splitsPort s.profile s.plan gs = true) →
    Executes s r (infoPowerPolicySet s gs) x = false) ∧
  (∀ (s : State) (d : Die), s.regs.wf = true → s.pop d = true →
    (s.setPolicy []).rd d PWR_BUDGET = 0 ∧ (s.setPolicy []).rd d PWR_POLICY_GROUP = 0)

/-- With its lane's receive domain on, LINE_REALIGN of an aligned group realigns it, or slews a rate-matched one;
DESKEW_SET sets the owner's GUARD; TOPPING_SET sets every die. A due retry aligns; every 8 frames a slew steps. A
host codeword is counted by the die that its number gives, and its units go to the line, error units if it was
uncorrectable; a host lane loses what is named, recovers, or exceeds its pair's offset; a port's next block is the
next of its FIFO or unit, Local Fault where the stream is unavailable or the part stops, and the PRBS or the path
through in STANDARD. The overhead codeword of a frame on a locked lane is counted and taken or lost, and alignment
follows; at its release a group's lanes release their frames in order, judged and delivered in FULL, kept for their
windows in ASSURED; an erasure notice starts a rebuild and goes along the tree; at its window's end a failed
codeword has its outcome. At its boundary a lane's transmitter sends a frame in the state that its causes require,
or stands idle; a contribution missing at a hold's end is noted. What in it the model reads or chooses is in
assumption log 8, 24, 26, 30, 31 and 48 to 51. (R43, R47, R48, R99, R122, R215, R217, R219, R220, R234, R247, R257) -/
def Obligations.DataPathRuns : Prop :=
  (∀ (s : State) (o k : Die) t, s.groupKeys.find? (fun k => s.groupOwner k == o) = some k → s.aligned k = false →
    (s.dsk k).retryAt = some t → t ≤ s.time.now → exec (.deskewAlignRetry o) s = .next (s.tryAlign k)) ∧
  (∀ (s : State) (o k : Die), s.groupKeys.find? (fun k => s.groupOwner k == o) = some k → (s.dsk k).slew ≠ 0 →
    (s.dsk k).slewAt + 8 * s.frameU ≤ s.time.now → exec (.deskewSlewStep o) s = .next (s.slewStep k)) ∧
  (∀ s t r x (l : Die), Runs s r (infoLineRealign l.val) x t → toDie? l.val = some l →
    (t.alignGroup l).isEmpty = false → t.rxOn [l] = true → (t.dsk (t.groupKey l)).slew = 0 → t.aligned l = true →
    t.rateMatched = false →
    exec (.lineRealign r l.val) s = .next (State.replied r x (infoLineRealign l.val) (.ok ((t.unalign l).tryAlign l)))) ∧
  (∀ s t r x (l : Die) v, Runs s r (infoLineRealign l.val) x t → toDie? l.val = some l →
    (t.alignGroup l).isEmpty = false → t.rxOn [l] = true → (t.dsk (t.groupKey l)).slew = 0 → t.aligned l = true →
    t.rateMatched = true → t.leastSlack l = some v →
    ∃ g u, g = t.takeGuard l ∧
      u = g.startSlew l ((g.alignGroup l).filter fun d => !g.flag d DEC_DSK_STAT_EXCLUDED) ((g.guardOf l : Int) - v) ∧
      exec (.lineRealign r l.val) s = .next (State.replied r x (infoLineRealign l.val)
        (if (g.guardOf l : Int) - v = 0 then .ok g else if (u.dsk (t.groupKey l)).slew = 0 then .ok u
        else .pending (.realign (t.groupKey l)) u))) ∧
  (∀ s t r x (l : Die) g, Runs s r (infoDeskewSet l.val g) x t → toDie? l.val = some l → t.rxOn [l] = true →
    exec (.deskewSet r l.val g) s = .next (State.replied r x (infoDeskewSet l.val g)
      (.ok (t.wr (t.groupOwner l) DEC_DSK_CTRL_GUARD g)))) ∧
  (∀ s t r x en hold, Runs s r { infoToppingSet en hold with insts := s.popDies.map Fin.val } x t →
    (t.popDies.all fun d => t.domainOn d .dataPath) = true →
    exec (.toppingSet r en hold) s = .next (State.replied r x { infoToppingSet en hold with insts := s.popDies.map Fin.val }
      (.ok (t.setTopping en hold)))) ∧
  (∀ (s : State) h uncorr n units p d, s.portAt h = some p → s.hostLoops h = false → s.standard = false → s.phase = .ready →
    s.hostOk p = true → units.length = 20 → ((s.startCount p units).portQ h).counting = true →
    d = (s.startCount p units).codewordDie p ((s.startCount p units).portQ h).cwNum → s.domainOn d .host = true →
    ∃ (bad : Bool) (u v w : State), (bad, u) = (s.startCount p units).takeInject (HostLane.die h) 3 (portNo h) ∧
      v = (u.cnt d (4 * portNo h)).updPortQ h (fun q => { q with cwNum := q.cwNum + 1 }) ∧
      w = (if uncorr then (v.cnt d (4 * portNo h + 2)).wr d (HFEC_STAT_UNCORR_SEEN (portNo h)) 1
        else (v.cntN d (4 * portNo h + 1) (if bad then n + 1 else n)).updPortQ (Fin.ofNat 16 (2 * d.val + portNo h)) fun q =>
            { q with symbols := q.symbols + (if bad then n + 1 else n) }) ∧
      exec (.hostCodewordReceive h uncorr n units) s = .next
        (w.unitsToLine p d ((s.startCount p units).portQ h).cwNum
          (if uncorr then List.replicate 20 Blocks.errorUnit else units))) ∧
  (∀ (s : State) h uncorr n units, s.hostLoops h = true → s.domainOn (HostLane.die h) .host = true → s.portAt h = none →
    exec (.hostCodewordReceive h uncorr n units) s = .next (s.each units fun s u => s.emit (.hostBlock h (.looped u)))) ∧
  (∀ (s : State) h cdr p, s.portOf h = some p → s.domainOn (HostLane.die h) .host = true →
    ∃ u v w, u = s.fall (HostLane.die h) (HOST_LANE_STAT_SIG_DET (portNo h)) (HOST_LANE_STAT_SIG_LOST (portNo h)) ∧
      v = (if cdr then u.fall (HostLane.die h) (HOST_LANE_STAT_CDR_LOCK (portNo h)) (HOST_LANE_STAT_CDR_LOST (portNo h)) else u) ∧
      w = (v.fall (HostLane.die h) (HOST_LANE_STAT_AM_LOCK (portNo h)) (HOST_LANE_STAT_AM_LOST (portNo h))).stdHost h false ∧
      exec (.hostLaneLoss h true cdr true true) s = .next ((w.each (w.portLanes p) fun s g =>
        s.fall (HostLane.die g) (HOST_LANE_STAT_ALIGN_OK (portNo g)) (HOST_LANE_STAT_ALIGN_LOST (portNo g))).updPortQ p.first
          fun q => { q with runs := false, counting := false, fifo := [], part := [] })) ∧
  (∀ (s : State) h p, s.portOf h = some p → s.domainOn (HostLane.die h) .host = true →
    ∃ u, u = (((s.wr (HostLane.die h) (HOST_LANE_STAT_SIG_DET (portNo h)) 1).wr (HostLane.die h)
        (HOST_LANE_STAT_CDR_LOCK (portNo h)) 1).wr (HostLane.die h) (HOST_LANE_STAT_AM_LOCK (portNo h)) 1).stdHost h true ∧
      exec (.hostLaneRecover h) s = .next
        (if (u.portLanes p).all fun g => u.flag (HostLane.die g) (HOST_LANE_STAT_AM_LOCK (portNo g)) then
          u.each (u.portLanes p) fun s g => s.wr (HostLane.die g) (HOST_LANE_STAT_ALIGN_OK (portNo g)) 1
        else u)) ∧
  (∀ (s : State) (d : Die) b, s.pop d = true → s.paired d = true → (s.portQ (Fin.ofNat 16 (2 * d.val + 1))).pairBad = !b →
    ∃ u, u = s.updPortQ (Fin.ofNat 16 (2 * d.val + 1)) (fun q => { q with pairBad := b }) ∧
      exec (.hostPairOffset d b) s = .next (if b then u.raiseLane d evHOST_PAIR_OFFSET else u)) ∧
  (∀ (s : State) h p, s.portAt h = some p → s.dataRuns = true →
    ((s.portDies p).all fun d => s.domainOn d .host && s.healthy d && !(s.die d).safe.underTest) = true →
    s.hostLoops h = false →
    exec (.hostTxBlockDue h) s = .next
      (if s.phase = .stopping ∨ s.phase = .shuttingDown then (s.dropToHost h).emit (.hostBlock h .localFault)
      else if s.standard then s.each (s.portDies p) fun s d =>
        s.emit (.hostBlock h (if s.flag d LFR_STD_STAT_PRBS_HOST then .prbs d else .through d))
      else if (s.portDies p).all s.active = false ∨ s.portAvail p = false then
        (s.dropToHost h).emit (.hostBlock h .localFault)
      else if s.rateMatched then s.blockToHost p else s.unitToHost p)) ∧
  (∀ (s : State) (l : Die) f, s.pop l = true → s.flocked l = true → s.rxDelivers l = true →
    s.domainOn l .dataPath = true → s.standard = false → (s.pool l).frames.find? (fun f => !f.ohSeen) = some f →
    f.done.getLsbD 0 = true →
    ∃ u, u = (match f.overhead l with
        | .decFail => (s.cnt l 64).ohLost l f.idx false
        | .crcFail => (s.cnt l 64).ohLost l f.idx true
        | .ok v => (s.cnt l 64).ohGood l f v) ∧
      exec (.frameReceiveOverhead l) s = .next ((u.alignFollow l).unprotRise)) ∧
  (∀ (s : State) (o k : Die) fc, s.groupKeys.find? (fun k => s.groupOwner k == o) = some k →
    s.aligned k = true → (s.dsk k).next = fc → (s.releaseNext k).1 ≤ s.coreNow →
    ∃ (at_ : Int) (u w : State) (used : List Die), (at_, u) = s.releaseNext k ∧
      (used, w) = u.lanesRelease fc at_ (s.alignGroup k) ∧
      exec (.frameRelease o fc) s = .next
        (if w.assured then
          (((w.dropCopies fc used).followSet fc).each (s.alignGroup k) fun s l => s.releaseAssured fc used l).unprotRise.unprotFall
        else
          let v := w.each (s.alignGroup k) fun s l => s.releaseFull fc used l
          if v.mustRealign k then (v.unalign k).tryAlign k else v)) ∧
  (∀ (s : State) (die src : Die) cw f, (s.top src).rel = some f → s.assured = true →
    s.inTree die = true → s.inTree src = true → die ≠ src → 1 ≤ cw → cw < 256 → s.cwFailed src cw = true →
    ∃ u v, u = (if (s.top src).rebuilds.contains cw = true ∨ (s.top src).noRoom.contains cw = true then s
        else s.updTop src fun x =>
          if 32 ≤ x.rebuilds.length then { x with noRoom := x.noRoom ++ [cw] } else { x with rebuilds := x.rebuilds ++ [cw] }) ∧
      v = (match u.parent src die with
        | some e => u.d2dSend e die true 1
        | none => u) ∧
      exec (.erasureNotice die src cw) s = .next
        (if ((die == u.topLane || u.inclMask.getLsbD die.val) && !v.cwFailed die cw) = true then
          match v.parent src die with
          | some e => (v.d2dSend die e true 1).cnt die 101
          | none => v
        else v)) ∧
  (∀ (s : State) (l : Die) fc cw got f h, s.pop l = true → s.assured = true → (s.top l).rel = some f →
    f.header = some h → h.frameCount.toNat = fc → 1 ≤ cw → cw < 256 → (s.top l).relAt + 362 ≤ s.coreNow →
    ∃ u v, u = (if s.cwFailed l cw = true then
          (s.updTop l fun x => { x with rel := x.rel.map fun f => { f with failed := f.failed ||| (1#256 <<< cw) } }).noteRebuild l
            fc cw (s.rebuildOutcome l cw got)
        else s) ∧
      v = u.updTop l (fun x => { x with rebuilds := x.rebuilds.filter (· != cw), noRoom := x.noRoom.filter (· != cw) }) ∧
      exec (.toppingWindowEnd l fc cw got) s = .next
        (if cw < 255 then v else match (v.top l).rel with
          | some f => v.settle l f (f.own || (v.copyFor l fc).isSome)
          | none => v)) ∧
  (∀ (s : State) (l : Die) bypass, s.pop l = true → s.dataRuns = true → s.domainOn l .tx = true →
    ∃ z, z = (if s.isTop l then s.flushTop else s) ∧
      (z.txRuns l = false → exec (.frameTransmit l bypass) s = .next (z.txIdle l).shutFollow) ∧
      (z.txRuns l = true → ∃ (t a b u v : State) (st : TxState),
        t = z.each (z.portsOn l) (fun s p => s.drainNow p) ∧
        a = (if (t.tx l).running then t.txAdvance l else t.txStart l) ∧
        b = (if (a.assured && a.countsWindow l) = true then a.toppingWindow else a) ∧
        u = (b.rackStep l (t.lastGcm l)).txBoundary l ∧
        st = (if (t.tx l).running then
          nextTxState (TxState.ofCode (t.rd l LTX_STAT_TX_STATE)) (u.txWant l) (u.tx l).held else u.txWant l) ∧
        v = ((u.holdCauses l).showTx l st).kxKick ∧
        exec (.frameTransmit l bypass) s = .next
          (((if TxState.code st < 2 then v else v.kxFlush).sendFrame l st bypass).showKeys).shutFollow)) ∧
  (∀ (s : State) fc (m : Die) w, s.assured = true → s.healthy s.topLane = true →
    (s.top s.topLane).waiting = some w → w.fc = fc → s.coreCycle (s.tx s.topLane).sentAt + 362 ≤ s.coreNow →
    s.dataLanes.contains m = true → (s.tx m).running = true → 2 ≤ s.rd m LTX_STAT_TX_STATE →
    (s.top s.topLane).missing = none →
    exec (.txHoldEnd fc m) s = .next
      ((((s.updTop s.topLane fun x => { x with missing := some (fc, 0#8 ||| (1#8 <<< m.val)) }).wr s.topLane
        TOP_STAT_TX_MISSING 1).cnt s.topLane 100).raise s.topLane evTOP_TX_MISSING (evArg m.val 0xFF [])))

/-- When no profile change or restore runs, PROFILE_SET and PORT_PLAN_SET take effect, the one with PENDING where
profile or clock mode change, until every lane is down; HOST_LANE_SET sets a host lane; LINE_UP and LINE_DOWN take
lanes up and down. Signal detect takes a port from DOWN to TRAINING and its loss back to DOWN; training completes,
fails into PRESET_WAIT, and is tried again after the back-off; lock brings the port up and its loss down; idle and
the partner's LPI show. MGMT_PORT_SET sets a port, which restarts after the reply, as MGMT_RESTART makes it;
MGMT_STATUS_GET replies both. A frame in order for this part's address is counted and taken; a request packet in
order for this part is admitted. What in it the model reads or chooses is in assumption log 22, 23, 49 and 53. (R17,
R40, R65, R122, R397, R398, R411, R421, R422, R424, R425, R426) -/
def Obligations.PortsAndLanesRun : Prop :=
  (∀ s t r x prof clock ps, Runs s r (infoProfileSet s prof clock ps) x t → t.lanesBusy = false →
    exec (.profileSet r prof clock ps) s = .next (State.replied r x (infoProfileSet s prof clock ps)
      (if t.profile = prof ∧ t.clockMode = clockAsked clock then .ok (t.setProfile prof (clockAsked clock) ps)
       else .pending .profile (t.setProfile prof (clockAsked clock) ps)))) ∧
  (∀ s : State, s.allDown = true → exec .profileChangeDone s = .next (s.finishPend .profile .ok [])) ∧
  (∀ s t r x ps, Runs s r (infoPortPlanSet s ps) x t → t.lanesBusy = false →
    exec (.portPlanSet r ps) s = .next (State.replied r x (infoPortPlanSet s ps) (.ok (t.usePlan ps)))) ∧
  (∀ s t r x (h : HostLane) eq pol, Runs s r (infoHostLaneSet h.val eq) x t → t.domainOn (HostLane.die h) .host = true →
    exec (.hostLaneSet r h.val eq pol) s = .next (State.replied r x (infoHostLaneSet h.val eq)
      (.ok (t.setHostLane h eq pol)))) ∧
  (∀ s t r x lanes, Runs s r (infoLineUpDown 0x0102 lanes) x t → t.linesOn (maskDies lanes) = true → t.lanesBusy = false →
    exec (.lineUp r lanes) s = .next (State.replied r x (infoLineUpDown 0x0102 lanes)
      (.ok ((t.each (maskDies lanes) fun u l => u.laneUp l).kxKick.showKeys)))) ∧
  (∀ s t r x lanes, Runs s r (infoLineUpDown 0x0106 lanes) x t → t.linesOn (maskDies lanes) = true →
    exec (.lineDown r lanes) s = .next (State.replied r x (infoLineUpDown 0x0106 lanes)
      (.ok (t.each (maskDies lanes) fun u l => u.laneDown l)))) ∧
  (∀ (s : State) p, s.portRuns p = true → s.portState p = 0 → exec (.mgmtSignalDetect p) s = .next (s.portTo p 1)) ∧
  (∀ (s : State) p, s.portRuns p = true → s.portState p = 1 ∨ s.portState p = 3 →
    exec (.mgmtSignalLoss p) s = .next (((s.portTo p 0).endMrxHold p).powerEval 1)) ∧
  (∀ (s : State) p, s.portRuns p = true → s.portState p = 1 → s.portFixed p = false → (s.mport p).trained = false →
    exec (.mgmtTrainingComplete p) s = .next (s.updPort p fun x => { x with trained := true, since := s.time.now })) ∧
  (∀ (s : State) p, s.portRuns p = true → s.portState p = 1 → s.portFixed p = false →
    (s.mport p).since + msU (if (s.mport p).trained then 100 else 500) ≤ s.time.now →
    ∃ u, u = (s.portTo p 3).updPort p (fun x => { x with retries := x.retries + 1 }) ∧
      exec (.mgmtTrainFail p) s = .next (((((u.wr (MPort.die p) MGMT_STAT_TRAIN_FAIL 1).incSat (MPort.die p)
        MGMT_STAT_TRAIN_FAILS 1).wr (MPort.die p) MGMT_STAT_BACKOFF (min (2 ^ ((u.mport p).retries - 1)) 64)).cnt (MPort.die p)
          150).raise (MPort.die p) evMGMT_TRAIN_FAIL (portArg p))) ∧
  (∀ (s : State) p, s.portRuns p = true → s.portState p = 3 →
    (s.mport p).since + secU (min (2 ^ ((s.mport p).retries - 1)) 64) ≤ s.time.now →
    exec (.mgmtBackoffEnd p) s = .next (s.portTo p 1)) ∧
  (∀ (s : State) p, s.portRuns p = true → s.mayLock p = true → exec (.mgmtLinkUp p) s = .next (s.portComesUp p)) ∧
  (∀ (s : State) p, s.portRuns p = true → s.portUp p = true →
    exec (.mgmtLinkDown p) s = .next (((((s.wr (MPort.die p) MGMT_STAT_LINK_LOST 1).cnt (MPort.die p) 151).portTo p
      (if s.flag (MPort.die p) MGMT_STAT_ON_PRESET then 3 else 1)).raise (MPort.die p) evMGMT_LINK_DOWN
        (portArg p)).powerEval 1)) ∧
  (∀ (s : State) p, s.portRuns p = true → s.portUp p = true → s.flag (MPort.die p) MGMT_CTRL_EEE_EN = true →
    (s.mport p).idleSince + usU (s.rd (MPort.die p) MGMT_CTRL_LPI_IDLE) ≤ s.time.now →
    exec (.lpiIdleTimer p) s = .next (s.wr (MPort.die p) MGMT_STAT_LPI_TX 1)) ∧
  (∀ (s : State) p b, s.portRuns p = true → s.portUp p = true → s.flag (MPort.die p) MGMT_CTRL_EEE_EN = true →
    exec (.mgmtPartnerLpi p b) s = .next (s.wrB (MPort.die p) MGMT_STAT_LPI_RX b)) ∧
  (∀ s t r x p fixed fec eee, Runs s r (infoMgmtPortSet p) x t → t.domainOn (MPort.die p) .mgmt = true →
    exec (.mgmtPortSet r p fixed fec eee) s = .next (State.replied r x (infoMgmtPortSet p)
      (.ok ((t.setMgmtPort p fixed fec eee).restartLater p))).doRestarts) ∧
  (∀ s t r x, Runs s r infoMgmtStatusGet x t →
    exec (.mgmtStatusGet r) s = .next (State.replied r x infoMgmtStatusGet
      (.okWith t [tlvMgmtStatus t .a, tlvMgmtStatus t .b]))) ∧
  (∀ s t r x p, Runs s r (regInfo (MPort.die p) 0x0E 0 true) x t → t.blockOff (MPort.die p) 0x0E true = false →
    exec (.mgmtRestart r p) s = .next (State.replied r x (regInfo (MPort.die p) 0x0E 0 true)
      (.ok (t.restartLater p))).doRestarts) ∧
  (∀ (s : State) p (f : EthFrame), s.portRuns p = true → s.portUp p = true → f.fcsOk = true → 64 ≤ f.len → f.len ≤ 1522 →
    f.ethertype = s.sl.etherType → f.dst = s.ownMac p ∨ f.dst = BitVec.allOnes 48 → f.dst ≠ jeuriMac → f.ethertype ≠ 0x8808#16 →
    exec (.mgmtFrameReceive p f) s = .next ((s.cnt (MPort.die p) 144).takeSlostan p f)) ∧
  (∀ (s : State) m mac vlan p, s.open? = true → s.mediumUp m = true → packetWellFormed p = true → s.ownPacket p = true →
    ∃ u, u = (s.noteSender m mac vlan p).admitPacket m mac vlan p ∧
      exec (.slostanRequestArrival m mac vlan p) s = .next (u.drainUndefined u.sl.execQ.length)) ∧
  (∀ (s : State) m mac vlan p, s.open? = true → s.mediumUp m = true → packetWellFormed p = false →
    exec (.slostanRequestArrival m mac vlan p) s = .next (s.countMalformed m))

/-- The slow clock is calibrated, switches to the crystal and back; REFCLK goes, its holdover of 10 ms ends with every
PLL unlocked and every die unhealthy, it returns; PLLs lock and unlock. A supply fault resets its die; a lockstep
mismatch resets the cores, and a leader resigns; memory errors are counted, and an uncorrectable one resets its
unit. SELFTEST_RUN with the lanes down puts dies under test until their outcomes come; SELFTEST_RESULT_GET replies
the records; an overdue test is announced once a day of service. With the lane's data path on: PATTERN_SET to a free
point, or off, sets it; ERROR_INJECT with none under way arms one; LOOPBACK_SET where it can be set sets it;
CAPTURE_SET with none under way arms a capture and replies PENDING; CAPTURE_READ replies the samples;
PATTERN_STATUS_GET and a read of a count's low word reply what is counted. A running checker's lock and counts
follow; a triggered capture that is full ends. What in it the model reads or chooses is in assumption log 34, 39, 40
and 41. (R414, R415, R416, R508, R510, R511, R514, R564, R566, R567, R569, R658) -/
def Obligations.ClocksFaultsTestsRun : Prop :=
  (∀ (s : State) n, s.time.refclk = true → (s.popDies.any fun d => s.flag d CLK_PLL_STAT_SYS_LOCK) = true →
    s.time.slowCalAt + 16 * n * (64 * nsU / 10) ≤ s.time.now →
    ∃ u : State, u = { s with time := { s.time with slowCalAt := s.time.now } } ∧
      exec (.slowClockCalibrated n) s = .next ((u.wr 0 CLK_SLOW_RATIO n).wr 0 CLK_SLOW_CAL_VALID 1)) ∧
  (∀ s : State, exec .crystalStart s = .next (s.wr 0 CLK_SLOW_SRC 1)) ∧
  (∀ s : State, s.flag 0 CLK_SLOW_SRC = true →
    ∃ u, u = (s.wr 0 CLK_SLOW_SRC 0).wr 0 CLK_SLOW_XTAL_FAIL 1 ∧
      exec .crystalFail s = .next ({ u with time := { u.time with periodRc := true } }.raisePkg evSLOW_CLK_FAIL noArg)) ∧
  (∀ s : State, s.time.refclk = true →
    ∃ u, u = (({ s with time := { s.time with refclk := false, refLostAt := some s.time.now } } : State).each s.popDies
        fun s d => s.wr d CLK_PLL_STAT_REF_OK 0).updExtrap ∧
      exec .refclkLost s = .next (if u.refNeeded then
        (u.each u.popDies fun s d => s.wr d CLK_PLL_STAT_REF_LOST 1).raisePkg evREFCLK_LOST noArg else u)) ∧
  (∀ (s : State) t, s.time.refclk = false → s.time.refLostAt = some t → t + msU 10 ≤ s.time.now → s.refNeeded = true →
    ∃ u, u = s.each s.popDies (fun s d => s.each allPlls fun s p => s.pllUnlock d p) ∧
      exec .refclkHoldoverEnd s = .next ((u.each u.popDies State.refUnhealthy).chooseSuccessor)) ∧
  (∀ s : State, s.time.refclk = false →
    exec .refclkReturn s = .next ((({ s with time := { s.time with refclk := true, refLostAt := none } } : State).each
      s.popDies fun s d => s.wr d CLK_PLL_STAT_REF_OK 1).updExtrap)) ∧
  (∀ (s : State) (d : Die) p, s.pop d = true → s.flag d (pllFld p) = false → pllRuns d p (s.power d) = true ∨ pllRuns d p (s.heading d) = true → s.pllHasRef d p = true →
    ∃ u, u = s.noteCauses.wr d (pllFld p) 1 ∧
      exec (.pllLock d p) s = .next (if p = .sys then u.sysRelocked d else u)) ∧
  (∀ (s : State) (d : Die) p, s.pop d = true → s.flag d (pllFld p) = true →
    exec (.pllLockLost d p) s = .next (if p = .sys then
        ((s.pllUnlock d p).updDie d fun x => { x with sb := { x.sb with clockFault := true } }).dieFails d 1
      else s.pllUnlock d p)) ∧
  (∀ (s : State) (d : Die) cut, s.pop d = true → s.phase ≠ .powerOff → s.power d ≠ .off →
    ∃ t u v w, t = ((s.incomplete d).raiseAt s.leader d evSUPPLY_FAULT (evArg d.val 0xFF [])).cutCommit.cutLimit cut ∧
      u = ((if d == s.leader then t.electIn d true else t).fabricOff d).portFails d ∧
      v = (((((u.dieReset d).updDie d fun x => { x with sb := { x.sb with supplyFault := true } }).wr d PWR_STATE_CUR 5).wr d
        PWR_STATE_TARGET 5).wr d PWR_STATE_CAUSE 1).ldisFollow d ∧
      w = ([Endpoint.core, .key, .safe, .pwr].foldl (fun s e => s.mbReset d e) (v.endPendOn d).showKeys).dieFails d 1 ∧
      exec (.supplyFault d cut) s = .next (if w.popDies.all fun e => (w.die e).sb.supplyFault then
        { w.endAllSessions with phase := .powerOff } else w)) ∧
  (∀ (s : State) (d : Die), s.pop d = true → s.level d .ctrl ≠ .dead → s.phase ≠ .powerOff →
    ∃ u, u = ((s.wr d SAFE_STAT_LOCKSTEP_SEEN 1).raise d evLOCKSTEP_MISMATCH (evArg d.val 0xFF [])).mbReset d .core ∧
      exec (.lockstepMismatch d) s = .next (if d = u.leader then u.sbPush d 1 2 (.elect true (u.fwValid d)) else u)) ∧
  (∀ (s : State) (d : Die) n us, s.memRuns d = true → periodDue (s.die d).safe.scrubAt (secU 1) s.time.now = true →
    ∃ v, v = s.updSafe d (fun x => { x with scrubAt := some (nextDue x.scrubAt (secU 1) s.time.now) }) ∧
      exec (.memScrub d n us) s = .next ((v.each us fun s u => s.eccUncorrectable d u).eccCorrected d n)) ∧
  (∀ (s : State) (d : Die) u b, s.memRuns d = true →
    exec (.eccErrorAtAccess d u b) s = .next (if b then s.eccUncorrectable d u else s.eccCorrected d 1)) ∧
  (∀ s t r x dies, Runs s r (infoSelftestRun dies) x t → ((maskDies dies).any fun d => t.level d .ctrl == .dead) = false →
    ((maskDies dies).all fun d => (t.testLanes d).all t.laneIsDown) = true →
    exec (.selftestRun r dies) s = .next (State.replied r x (infoSelftestRun dies)
      (.pending (.selftest (maskDies dies)) (t.each (maskDies dies) State.beginTest)))) ∧
  (∀ (s : State) os ds, s.phase ≠ .shuttingDown → s.phase ≠ .stopping → s.testing = some ds → coverDies os ds = true →
    ∃ u, u = s.finishTest 2 os ds ∧
      exec (.selftestDone os) s = .next (u.finishPend (.selftest ds) .ok
        (ds.filterMap fun d => (u.nv.safety.tests.get d).map (tlvTest d)))) ∧
  (∀ s t r x dies, Runs s r (infoSelftestResultGet dies) x t →
    exec (.selftestResultGet r dies) s = .next (State.replied r x (infoSelftestResultGet dies)
      (.okWith t ((maskDies dies).filterMap fun d => (t.nv.safety.tests.get d).map (tlvTest d))))) ∧
  (∀ s : State, s.started = true → s.popDies.any s.overdue = true →
    (∀ t, s.nv.safety.overdueAt = some t → t + dayU ≤ s.nv.safety.service) →
    exec .selftestOverdue s = .next
      (({ s with nv := { s.nv with safety := { s.nv.safety with overdueAt := some s.nv.safety.service } } } : State).raisePkg
        evSELFTEST_OVERDUE noArg)) ∧
  (∀ s t r x p pattern lane, Runs s r (infoPatternSet p pattern lane) x t →
    ((Point.die p lane).toList.all fun d => t.domainOn d .dataPath) = true → pattern = 0 ∨ t.pointFree p lane = true →
    exec (.patternSet r p pattern lane) s = .next (State.replied r x (infoPatternSet p pattern lane)
      (.ok (t.setPattern p lane pattern)))) ∧
  (∀ s t r x p lane d, Runs s r (infoPatternStatusGet p lane) x t → Point.die p lane = some d → t.domainOn d .dataPath = true →
    exec (.patternStatusGet r p lane) s = .next (State.replied r x (infoPatternStatusGet p lane)
      (let c : Nat × Nat := match Point.checker p lane with
         | some c => t.checkCounts d c.val
         | none => (0, 0)
       .okWith t [⟨0x01D2, be 1 (Point.code p) ++ be 8 c.1 ++ be 8 c.2⟩]))) ∧
  (∀ (s : State) (l : Die) c lock bits errs, s.pop l = true → s.domainOn l .dataPath = true → s.rd l (checkerFld c) ≠ 0 →
    ∃ v, v = (((s.checkCounts l c.val).1 + bits) % 2 ^ 64, ((s.checkCounts l c.val).2 + errs) % 2 ^ 64) ∧
      exec (.patternCheckerSync l c lock bits errs) s = .next
        ((s.updDiag l fun x => { x with checks := x.checks.set c.val v }).wrB l (checkerLock c) lock)) ∧
  (∀ s t r x (d : Die) err, Runs s r (regInfo d 0x19 (if err then 4 else 2) false) x t → t.blockOff d 0x19 false = false →
    exec (.patgCountLoRead r d err) s = .next (State.replied r x (regInfo d 0x19 (if err then 4 else 2) false)
      (let v := if err then (t.checkCounts d (t.rd d PATG_SEL_CHECKER)).2 else (t.checkCounts d (t.rd d PATG_SEL_CHECKER)).1
       .okWith (t.wr d (if err then PATG_ERR_HI else PATG_BITS_HI) (v / 2 ^ 32)) [tlvData [v % 2 ^ 32]]))) ∧
  (∀ s t r x kind lane count d, Runs s r (infoErrorInject kind lane) x t → injectDie kind lane = some d →
    t.domainOn d .dataPath = true → t.flag d PATG_STAT_INJ_BUSY = false →
    exec (.errorInject r kind lane count) s = .next (State.replied r x (infoErrorInject kind lane)
      (.ok (if count = 0 then t else t.setInject d (some (kind, if kind = 3 then lane % 2 else 0, count)))))) ∧
  (∀ s t r x (l : Die) mode, Runs s r (infoLoopbackSet l.val mode) x t → toDie? l.val = some l →
    t.domainOn l .dataPath = true → t.loopFree l mode = true →
    exec (.loopbackSet r l.val mode) s = .next (State.replied r x (infoLoopbackSet l.val mode)
      (.ok (t.wr l PATG_CFG_LOOPBACK mode)))) ∧
  (∀ s t r x (l : Die) c, Runs s r (infoCaptureSet l.val c) x t → toDie? l.val = some l → t.domainOn l .dataPath = true →
    (t.diag l).capture = none →
    exec (.captureSet r l.val c) s = .next (State.replied r x (infoCaptureSet l.val c) (.pending (.capture l)
      (((t.updDiag l fun x => { x with capture := some c }).wrB l PATG_STAT_CAP_ARMED (c.trigger != 0)).wr l
        PATG_STAT_CAP_DONE 0)))) ∧
  (∀ (s : State) (l : Die) c samples, (s.diag l).capture = some c → s.flag l PATG_STAT_CAP_ARMED = false →
    samples.length = c.len * 1024 → s.domainOn l .dataPath = true →
    exec (.captureDone l samples) s = .next
      (((s.updDiag l fun x => { x with capture := none, samples := samples }).wr l PATG_STAT_CAP_DONE 1).finishPend
        (.capture l) .ok [])) ∧
  (∀ s t r x (l : Die), Runs s r (infoCaptureRead l.val) x t → toDie? l.val = some l → t.domainOn l .dataPath = true →
    exec (.captureRead r l.val) s = .next (State.replied r x (infoCaptureRead l.val)
      (.okWith t [⟨0x01D6, (t.diag l).samples⟩])))

/-- REG_READ replies the words read in order, with what reading them does; REG_WRITE under a mask acts as the word's
rules say, then command triggers and restarts follow; a read of a frame count's low word copies the upper half; a
sideband REQ of a register that exists does the same access and pushes its RSP. With no commit or restore under way,
VINTAGE_COMMIT starts a commit of the active configuration, VINTAGE_RESTORE of a slot that holds one applies it
whole or not at all, VINTAGE_PREFER and VINTAGE_DELETE set and clear; VINTAGE_LIST replies all slots. A command on
the channel of an open transaction runs as staging says; COMMIT executes what is staged. SHUTDOWN takes every lane
down and ends when they are; RESET_N resets the part; a part released from its power-on reset is reset; START_UP on
the quick path brings it to the interpreter. What in it the model reads or chooses is in assumption log 12, 14, 18,
43 and 45. (R105, R363, R375, R401, R403, R417, R419, R462, R604, R608, R622, R647) -/
def Obligations.SettingsAndRegistersRun : Prop :=
  (∀ s t r x a n, Runs s r (infoRegRead a n) x t → t.blockOff (addrDie a) (addrBlk a) false = false →
    exec (.regRead r a n) s = .next (State.replied r x (infoRegRead a n)
      (let q := State.readWords (addrDie a) (addrBlk a) (n.getD 1) (addrWord a) t
       .okWith q.2 [tlvData q.1]))) ∧
  (∀ s t r x a v mask, Runs s r (infoRegWrite s a v mask) x t → t.blockOff (addrDie a) (addrBlk a) true = false →
    exec (.regWrite r a v mask) s = .next ((State.replied r x (infoRegWrite s a v mask)
      (t.writeWord (addrDie a) (addrBlk a) (addrWord a) v (mask.getD (BitVec.allOnes 32)))).fireCommand).doRestarts) ∧
  (∀ s t r x (d : Die) rx, Runs s r (regInfo d 0x09 (if rx then 4 else 2) false) x t → t.blockOff d 0x09 false = false →
    exec (.frameCountLoRead r d rx) s = .next (State.replied r x (regInfo d 0x09 (if rx then 4 else 2) false)
      (let v := (if rx then (t.pool d).rxFc else (t.tx d).fc) % 2 ^ 48
       .okWith (t.wr d (if rx then LFR_RX_FC_HI_FC_HI else LFR_TX_FC_HI_FC_HI) (v / 2 ^ 32)) [tlvData [v % 2 ^ 32]]))) ∧
  (∀ (s t : State) (src dst : Die) tag write a v m, s.takeSlot dst src (fun m => m == .req dst tag write a v) = some (m, t) →
    collectAsked write a = none → addrBad a = false → Part.cipher t.part = true ∨ addrBlk a ≠ 0x0C ∧ addrBlk a ≠ 0x0D →
    t.blockOff dst (addrBlk a) write = false →
    exec (.sbReq src dst tag write a v) s = .next
      (if write then
        (((t.writeWord dst (addrBlk a) (addrWord a) v (BitVec.allOnes 32)).state.fireCommand).doRestarts).sbPush dst 2 1
          (.rsp src tag false 0#32)
       else (t.readWord dst (addrBlk a) (addrWord a)).2.sbPush dst 2 1
          (.rsp src tag false (BitVec.ofNat 32 (t.readWord dst (addrBlk a) (addrWord a)).1)))) ∧
  (∀ (s t : State) (src dst : Die) tag write a v m, s.takeSlot dst src (fun m => m == .req dst tag write a v) = some (m, t) →
    collectAsked write a = none → addrBad a = true ∨ Part.cipher t.part = false ∧ (addrBlk a = 0x0C ∨ addrBlk a = 0x0D) →
    exec (.sbReq src dst tag write a v) s = .next (t.sbPush dst 2 1 (.rsp src tag false 0#32))) ∧
  (∀ s t r x slot label, Runs s r (vintageInfo 0x0301 (numBad slot 8 0)) x t → t.storeBusy = false →
    ∃ (v : Nat) (u : State), (v, u) = t.fresh ∧
      exec (.vintageCommit r slot label) s = .next (State.replied r x (vintageInfo 0x0301 (numBad slot 8 0))
        (.pending (.commit slot) (State.syncNvm { u with nv := { u.nv with
          commits := u.nv.commits + 1
          committing := some { die := 0, second := false, slot, part := u.part, commit := u.nv.commits + 1,
                               timeNs := u.ns, label := label.getD [], body := captureConfig u,
                               crc := BitVec.ofNat 32 v, crcOk := true } } })))) ∧
  (∀ s : State, exec .vintageCommitDone s = .next s.commitDone) ∧
  (∀ s t r x slot body, Runs s r (infoVintageRestore s slot) x t → t.storeBusy = false → t.bodyOf slot = some body →
    ∃ q, q = t.applyBody (some x) body ∧
      exec (.vintageRestore r slot) s = .next ((State.replied r x (infoVintageRestore s slot)
        (match q.failed with
         | some (st, n) => { status := st, err := some n, state := t }
         | none => .pending (.restore q.adjusted)
            (({ q.state with nv := { q.state.nv with restored := body } } : State).lanesTo (upSet body)
              (q.state.profile != t.profile || q.state.clockMode != t.clockMode)))).fireCommand).doRestarts) ∧
  (∀ (s : State) m, s.restoring = some m →
    (s.popDies.all fun l => (s.tx l).up || (s.rxState l == .down && s.rd l LTX_STAT_TX_STATE == 0)) = true →
    exec .vintageRestoreDone s = .next (State.endRestore { s.bringUp m with restoring := none })) ∧
  (∀ s t r x, Runs s r infoVintageList x t →
    exec (.vintageList r) s = .next (State.replied r x infoVintageList
      (.okWith t ((List.range 8).map fun k => tlvVintage t k (t.best k))))) ∧
  (∀ s t r x slot, Runs s r (vintageInfo 0x0304 (if slot < 8 ∨ slot = 0xFF then none else some 0)) x t →
    t.storeBusy = false → slot = 0xFF ∨ t.slotUsed slot = true →
    exec (.vintagePrefer r slot) s = .next
      (State.replied r x (vintageInfo 0x0304 (if slot < 8 ∨ slot = 0xFF then none else some 0))
        (.ok (State.syncNvm { t with nv := { t.nv with preferred := if slot = 0xFF then none else some slot } })))) ∧
  (∀ s t r x slot, Runs s r (vintageInfo 0x0305 (numBad slot 8 0)) x t → t.storeBusy = false →
    exec (.vintageDelete r slot) s = .next (State.replied r x (vintageInfo 0x0305 (numBad slot 8 0))
      (.ok (State.syncNvm { t with nv := { t.nv with
        copies := t.nv.copies.filter fun c => c.slot != slot
        preferred := if t.nv.preferred = some slot then none else t.nv.preferred } })))) ∧
  (∀ (s : State) c r i body, req? c = some r → opAll s c = some (i, body) →
    ((s.session? r.channel).any fun x => x.txn.isSome) = true →
    exec (.stagedCommand c) s = .next ((Slostan.run r c i body s).fireCommand).doRestarts) ∧
  (∀ s t r x k, Runs s r infoCommit x t → x.txn = some k → k.doomed = none → k.mode = .sequence →
    ∃ u, u = t.updSession x.channel (fun y => { y with txn := none }) ∧
      exec (.commit r) s = .next ((State.replied r x infoCommit
        (let q := State.runAll x false k.staged u
         .okWith (q.2.foldl (fun u p => u.auditOne x p.1 p.2) q.1) (q.2.map fun p => tlvOutcome p.1 p.2))).fireCommand).doRestarts) ∧
  (∀ s t r x test, Runs s r (infoShutdown s) x t →
    ∃ u : State, u = (t.auditOwn 2 0).each (t.auditOwn 2 0).popDies (fun s l => s.laneDown l) ∧
      exec (.shutdown r test) s = .next (State.replied r x (infoShutdown s)
        (.pending (.shutdown (test.getD true)) { u with phase := .stopping })).shutFollow) ∧
  (∀ s : State, s.phase = .shuttingDown → s.allDown = true → s.underTest = [] →
    ∃ u, u = s.commitDone ∧
      exec (.shutdownComplete []) s = .next
        ((((u.finishTest 0 [] []).each ((u.finishTest 0 [] []).popDies.filter fun d => !([] : List Die).contains d)
          fun s d => s.skipTest d).finishPend (.shutdown true) .ok []).finishPend (.shutdown false) .ok []).enterOff) ∧
  (∀ (s : State) cut, s.phase ≠ .powerOff → exec (.resetNFall cut) s = .next (s.packageReset (s.phase = .off) cut)) ∧
  (∀ s : State, s.phase = .powerOff ∨ s.phase = .inReset ∨ s.supplyLost = true →
    ∃ (v : Nat) (u : State), (v, u) = s.fresh ∧ exec .powerOnResetRelease s = .next (u.packageReset (v % 2 = 0) none)) ∧
  (∀ (s : State) fwOk tests, s.phase = .inReset → s.time.refclk = true → s.supplyLost = false →
    (s.popDies.all fun d => !s.fwFound fwOk d) = false → s.quickPath = true →
    ∃ t u, t = ((s.startElect fwOk).startLoad).each (((s.startElect fwOk).startLoad).popDies) (fun s d => s.safePowered d) ∧
      u = t.startVintage ∧
      exec (.startUp fwOk tests) s = .next (u.each u.popDies fun s d => s.quickRecord d).startOpen)

/-- A REQ whose target register lies in a domain without clock or power changes nothing but for its RSP, which carries
status DOMAIN_OFF and data 0; a write is dropped. (R463) -/
def Obligations.DomainOff : Prop :=
  ∀ (s t : State) (src dst : Die) tag write a v m, s.takeSlot dst src (fun m => m == .req dst tag write a v) = some (m, t) →
    addrBad a = false → Part.cipher t.part = true ∨ addrBlk a ≠ 0x0C ∧ addrBlk a ≠ 0x0D →
    t.blockOff dst (addrBlk a) write = true →
    exec (.sbReq src dst tag write a v) s = .next (t.sbPush dst 2 1 (.rsp src tag true 0#32))

/-- A CLAIM that is executed adds exactly the claims it names, if they rise by class and instance, each above all that
the session holds, and no other session holds one. If the order is breached it completes with ORDER_VIOLATION, and
if another session holds one of claims in order, with OWNED_BY_OTHER; nothing is claimed then. RELEASE, whatever its
order, takes exactly the claims named from the session. No other session's claims change. (R371) -/
def Obligations.ClaimOrder : Prop :=
  (∀ s t r x cs lease, Runs s r (infoClaim cs lease) x t →
    ∃ q : Res, exec (.claim r cs lease) s = .next (State.replied r x (infoClaim cs lease) q) ∧
      ((claimsRise cs = true ∧ (∀ c ∈ cs, ∀ h ∈ x.claims, claimLt h c = true) ∧
          ∀ c ∈ cs, t.heldByOther r.channel c = false) → q.status = .ok ∧
        q.state.sl.sessions = t.sl.sessions.map fun y => if y.channel = r.channel then
          { y with claims := y.claims ++ cs, leaseMs := lease.getD x.leaseMs,
                   leaseUntil := t.time.now + msU (lease.getD x.leaseMs) } else y) ∧
      ((claimsRise cs = false ∨ ∃ c ∈ cs, ∃ h ∈ x.claims, claimLt h c = false) →
        q.status = .orderViolation ∧ q.state = t) ∧
      ((claimsRise cs = true ∧ (∀ c ∈ cs, ∀ h ∈ x.claims, claimLt h c = true) ∧
          ∃ c ∈ cs, ∃ y ∈ t.sl.sessions, y.channel ≠ r.channel ∧ c ∈ y.claims) →
        q.status = .ownedByOther ∧ q.state = t)) ∧
  (∀ s t r x cs, Runs s r (infoRelease cs) x t → cs ≠ [] →
    ∃ q : Res, exec (.release r cs) s = .next (State.replied r x (infoRelease cs) q) ∧ q.status = .ok ∧
      q.state.sl.sessions = t.sl.sessions.map fun y => if y.channel = r.channel then
        { y with claims := y.claims.filter fun c => !cs.contains c } else y)

/-- No active cause requires a more restrictive state than the one wanted, which is LIVE exactly when no cause is
active; SQ_CAUSE shows the lowest code among the active causes that require it. At a frame boundary a more
restrictive state is taken at once; a less restrictive one is taken unless a cause at the boundary before, or one
noted as active since, required the state as it is. The boundary keeps the states that its causes require, and
noting adds those that the causes of a populated lane require then. What in it the model reads or chooses is in
assumption log 26 and 50. (R122, R123, R124) -/
def Obligations.TransmitStates : Prop :=
  (∀ (s : State) (l : Die) c, s.causeOn l c = true →
    TxState.code (s.txWant l) ≤ TxState.code (s.causeState l c) ∧
    (s.causeState l c = s.txWant l → s.txCause l ≤ Cause.code c)) ∧
  (∀ (s : State) (l : Die), (s.txWant l = .live ↔ ∀ c, s.causeOn l c = false) ∧
    (s.txWant l = .live → s.txCause l = 0) ∧
    (s.txWant l ≠ .live → ∃ c, s.causeOn l c = true ∧ s.causeState l c = s.txWant l ∧ s.txCause l = Cause.code c)) ∧
  (∀ (now want : TxState) held,
    (TxState.code want ≤ TxState.code now → nextTxState now want held = want) ∧
    (TxState.code now < TxState.code want → nextTxState now want held = if now ∈ held then now else want)) ∧
  (∀ (s : State) (l : Die), ((s.holdCauses l).tx l).held = (s.txCauses l).map (s.causeState l)) ∧
  (∀ (s : State) (l : Die) c, s.pop l = true → s.causeOn l c = true → s.causeState l c ∈ (s.noteCauses.tx l).held)

/-- A codeword made of any 35 information blocks keeps them and satisfies the parity-check matrix; the place of a
codeword symbol in the frame and the codeword symbol at a place are inverse; scrambling twice, and precoding then
its inverse, give back what went in. What in it the model reads or chooses is in assumption log 25. (R78, R79, R80,
R82, R83, R86) -/
def Obligations.LineCode : Prop :=
  (∀ info : List (BitVec 256), info.length = 35 →
    LineFormat.isCodeword (LineFormat.encode info) = true ∧ (LineFormat.encode info).take 35 = info ∧
    (LineFormat.encode info).length = 40) ∧
  (∀ g t, g < 320 → t < 4096 →
    LineFormat.symbolPos (LineFormat.codewordOf g t).1 (LineFormat.codewordOf g t).2 = LineFormat.dataStart g + t ∧
    (LineFormat.codewordOf g t).1 < 256 ∧ (LineFormat.codewordOf g t).2 < 5120) ∧
  (∀ c n, c < 256 → n < 5120 → ∃ g t, g < 320 ∧ t < 4096 ∧ LineFormat.codewordOf g t = (c, n)) ∧
  (∀ r bits, LineFormat.scramble r (LineFormat.scramble r bits) = bits) ∧
  (∀ v us, (∀ u ∈ us, u < 4) → LineFormat.unprecode v (LineFormat.precode v us) = us)

/-- COMMIT of an ATOMIC transaction that is doomed, or that has a command that would be refused, replies the status of
the first failing command with its sequence, and leaves every die, setting, counter, stored record and output as
they were but for the audit records of its commands. What in it the model reads or chooses is in assumption log 14.
(R374, R375, R376) -/
def Obligations.AtomicAppliesNothing : Prop :=
  ∀ s t r x k st seq, t.regs.wf = true → Runs s r infoCommit x t → x.txn = some k → k.mode = .atomic →
    (k.doomed = some (st, seq) ∨ (k.doomed = none ∧ ∃ c, c.seq = seq ∧
      (State.runAll x true k.staged (t.updSession x.channel fun y => { y with txn := none })).2.find?
        (fun p => !Status.good p.2) = some (c, st))) →
    ∃ q : Res, exec (.commit r) s = .next ((State.replied r x infoCommit q).fireCommand).doRestarts ∧
      q.status = st ∧ q.err = some seq.toNat ∧ q.state.dies = t.dies ∧ q.state.tel = t.tel ∧ q.state.out = t.out ∧
      q.state.time = t.time ∧ q.state.plan = t.plan ∧ q.state.profile = t.profile ∧ q.state.clockMode = t.clockMode ∧
      q.state.fab = t.fab ∧ q.state.sb = t.sb ∧ q.state.kx = t.kx ∧ q.state.policy = t.policy ∧ q.state.phase = t.phase ∧
      q.state.nv.copies = t.nv.copies ∧ q.state.nv.fuses = t.nv.fuses ∧ q.state.nv.active = t.nv.active ∧
      q.state.nv.standby = t.nv.standby ∧
      ∀ d f, f.key d ≠ NVM_AUDIT_NEXT_SEQ.key 0 → q.state.rd d f = t.rd d f

/-- For a frame of phase p, at most 256: the units that begin in it and the next frame's phase account for every payload
bit, and the next phase is at most 256; the units that end in it number one for each that begins, plus the one begun
before, less the one it leaves unfinished; exactly the units that touch a spoilt codeword, or had begun so, are
error units marked so, and every other unit is the 257 payload bits of its place, the one begun before joined to
what the frame before held of it. What in it the model reads or chooses is in assumption log 24 and 48. (R46, R53,
R54, R81) -/
def Obligations.UnitsOfFrames : Prop :=
  (∀ p, p ≤ 256 → phaseAfter p ≤ 256 ∧ p + 257 * unitsBegun p = payloadBits + phaseAfter p ∧
    unitsBegun p = (2284799 - p) / 257 + 1) ∧
  (∀ bad p carry tail bits, p ≤ 256 →
    (frameUnits bad p carry tail bits).length + (if phaseAfter p = 0 then 0 else 1) =
      unitsBegun p + (if p = 0 then 0 else 1) ∧
    (∀ u ∈ frameUnits bad p carry tail bits, u.1 = true → u.2 = Blocks.errorUnit) ∧
    (p ≠ 0 → ∃ b, (frameUnits bad p carry tail bits).head? = some b ∧
      (b.1 = true ↔ tail = true ∨ carry.length + p ≠ 257 ∨ ∃ i, i < p ∧ bad.getLsbD (i / 8960 + 1) = true) ∧
      (b.1 = false → b.2 = Blocks.unitOf (carry ++ bits.take p))) ∧
    (∀ n, n < (payloadBits - p) / 257 →
      ∃ u, (frameUnits bad p carry tail bits)[n + (if p = 0 then 0 else 1)]? = some u ∧
        (u.1 = true ↔ ∃ i, p + 257 * n ≤ i ∧ i < p + 257 * n + 257 ∧ bad.getLsbD (i / 8960 + 1) = true) ∧
        (u.1 = false → u.2 = Blocks.unitOf ((bits.drop (p + 257 * n)).take 257))))

/-- A write of a word with no rule beyond its access codes sets each of its read-write fields to the bits written,
clears exactly the bits written 1 of its write-1-to-clear fields, and changes no other field of any die; a REG_WRITE
under a mask presents the masked bits of its value over the read-write bits as they stand. What in it the model
reads or chooses is in assumption log 18. (R6, R7, R363, R419) -/
def Obligations.RegisterWrites : Prop :=
  (∀ (s : State) (d : Die) blk word m, s.regs.wf = true → blk < 26 → ∀ f ∈ blockRows blk, f.word = word →
    (f.acc = .rw → f.fixedAt d = false → (s.writeFields d blk word m).rd d f = f.of m) ∧
    (f.acc = .w1c → ∀ i, i < f.width →
      ((s.writeFields d blk word m).rd d f).testBit i = ((s.rd d f).testBit i && !(f.of m).testBit i)) ∧
    (f.acc ≠ .rw → f.acc ≠ .w1c → (s.writeFields d blk word m).rd d f = s.rd d f)) ∧
  (∀ (s : State) (d : Die) blk word m, s.regs.wf = true → ∀ e g,
    (∀ f ∈ blockRows blk, f.word = word → g.key e ≠ f.key d) → (s.writeFields d blk word m).rd e g = s.rd e g) ∧
  (∀ (s : State) (d : Die) blk word m, (s.writeFields d blk word m).dies = s.dies ∧
    (s.writeFields d blk word m).tel = s.tel ∧ (s.writeFields d blk word m).out = s.out) ∧
  (∀ (s : State) (d : Die) blk word v mask i, i < 32 →
    (s.merge d blk word v mask).getLsbD i =
      if mask.getLsbD i then v.getLsbD i else (s.rwWord d blk word).getLsbD i)
end

