-- ==== Sys2Proof/Laws/Tables.lean ====
section
/-! SUPPORT. Laws of the sparse tables: a write keeps the canonical form, a read after a write to the same key gives the
value written, a write leaves every other key alone. -/

namespace Sys2Proof.Machine

theorem NMap.wfAbove_mono {a b : Nat} {m : NMap} (h : a ≤ b) (w : NMap.wfAbove b m = true) : NMap.wfAbove a m = true := by
  cases m with
  | nil => rfl
  | cons x m => 
    obtain ⟨k, v⟩ := x
    simp only [NMap.wfAbove, Bool.and_eq_true, decide_eq_true_eq] at *
    exact ⟨⟨by omega, w.1.2⟩, w.2⟩

theorem NMap.set_wfAbove {b k v : Nat} {m : NMap} (w : NMap.wfAbove b m = true) (h : b ≤ k) :
    NMap.wfAbove b (NMap.set m k v) = true := by
  induction m generalizing b with
  | nil => by_cases hv : v = 0 <;> simp [NMap.set, NMap.wfAbove, hv, h]
  | cons x m ih =>
    obtain ⟨a, u⟩ := x
    simp only [NMap.wfAbove, Bool.and_eq_true, decide_eq_true_eq] at w
    obtain ⟨⟨h1, h2⟩, h3⟩ := w
    unfold NMap.set
    by_cases hak : a < k
    · simp [hak, NMap.wfAbove, h1, h2, ih h3 hak]
    · by_cases hek : a = k
      · by_cases hv : v = 0
        · simp [hek, hv]; subst hek; exact NMap.wfAbove_mono (by omega) h3
        · subst hek; simp [hv, NMap.wfAbove, h1, h3]
      · by_cases hv : v = 0
        · simp [hak, hek, hv, NMap.wfAbove, h1, h2, h3]
        · simp [hak, hek, hv, NMap.wfAbove, h, h2, h3]; omega

theorem NMap.set_wf {m : NMap} (k v : Nat) (w : m.wf = true) : (m.set k v).wf = true :=
  NMap.set_wfAbove w (Nat.zero_le _)

theorem NMap.drop_wfAbove {b : Nat} {m : NMap} (p : Nat → Bool) (w : NMap.wfAbove b m = true) :
    NMap.wfAbove b (NMap.drop m p) = true := by
  induction m generalizing b with
  | nil => rfl
  | cons x m ih =>
    obtain ⟨a, u⟩ := x
    simp only [NMap.wfAbove, Bool.and_eq_true, decide_eq_true_eq] at w
    by_cases hp : p a
    · simp [NMap.drop, hp]; exact ih (NMap.wfAbove_mono (by omega) w.2)
    · simp [NMap.drop, hp, NMap.wfAbove, w.1.1, w.1.2]; exact ih w.2

theorem NMap.drop_wf {m : NMap} (p : Nat → Bool) (w : m.wf = true) : (NMap.drop m p).wf = true :=
  NMap.drop_wfAbove p w

theorem NMap.set_bits {m : NMap} {b k v : Nat} (w : m.bits b = true) (h : v < 2 ^ b) : (m.set k v).bits b = true := by
  induction m with
  | nil => by_cases hv : v = 0 <;> simp [NMap.set, NMap.bits, hv, h]
  | cons x m ih =>
    obtain ⟨a, u⟩ := x
    simp only [NMap.bits, List.all_cons, Bool.and_eq_true, decide_eq_true_eq] at w
    obtain ⟨h1, h2⟩ := w
    unfold NMap.set
    have ih := ih h2
    split
    · simp only [NMap.bits, List.all_cons, Bool.and_eq_true, decide_eq_true_eq]; exact ⟨h1, ih⟩
    · split
      · split
        · exact h2
        · simp only [NMap.bits, List.all_cons, Bool.and_eq_true, decide_eq_true_eq]; exact ⟨h, h2⟩
      · split
        · simp only [NMap.bits, List.all_cons, Bool.and_eq_true, decide_eq_true_eq]; exact ⟨h1, h2⟩
        · simp only [NMap.bits, List.all_cons, Bool.and_eq_true, decide_eq_true_eq]; exact ⟨h, h1, h2⟩

theorem NMap.drop_bits {m : NMap} {b : Nat} (p : Nat → Bool) (w : m.bits b = true) :
    (NMap.drop m p).bits b = true := by
  simp only [NMap.bits, NMap.drop, List.all_eq_true, List.mem_filter] at *
  intro x hx; exact w x hx.1

theorem NMap.sets_wf {α : Type} {l : List α} {f g : α → Nat} {m : NMap} (w : m.wf = true) :
    (l.foldl (fun m k => m.set (f k) (g k)) m).wf = true := by
  induction l generalizing m with
  | nil => exact w
  | cons a l ih => exact ih (NMap.set_wf _ _ w)

theorem NMap.get_below {b k : Nat} {m : NMap} (w : NMap.wfAbove b m = true) (h : k < b) : NMap.get m k = 0 := by
  induction m generalizing b with
  | nil => rfl
  | cons x m ih =>
    obtain ⟨a, u⟩ := x
    simp only [NMap.wfAbove, Bool.and_eq_true, decide_eq_true_eq] at w
    have hne : a ≠ k := by omega
    simp only [NMap.get, hne, if_false]
    exact ih w.2 (by omega)

theorem NMap.get_set_above {b k v j : Nat} {m : NMap} (w : NMap.wfAbove b m = true) :
    NMap.get (NMap.set m k v) j = if j = k then v else NMap.get m j := by
  induction m generalizing b with
  | nil =>
    by_cases hv : v = 0
    · simp only [NMap.set, hv, if_true, NMap.get]; split <;> rfl
    · simp only [NMap.set, hv, if_false, NMap.get, eq_comm (a := k)]
  | cons x m ih =>
    obtain ⟨a, u⟩ := x
    simp only [NMap.wfAbove, Bool.and_eq_true, decide_eq_true_eq] at w
    have e := ih w.2
    by_cases hak : a < k
    · simp only [NMap.set, hak, if_true, NMap.get, e]
      by_cases haj : a = j
      · have hjk : ¬ j = k := by omega
        simp [haj, hjk]
      · simp [haj]
    · by_cases hek : a = k
      · by_cases hv : v = 0
        · simp only [NMap.set, hak, hek, hv, if_true, if_false, NMap.get, Nat.lt_irrefl]
          by_cases hjk : j = k
          · simp [hjk, NMap.get_below w.2 (show k < a + 1 by omega)]
          · simp [hjk, eq_comm (a := k)]
        · simp only [NMap.set, hek, hv, if_true, if_false, NMap.get, Nat.lt_irrefl]
          by_cases hjk : k = j
          · simp [hjk]
          · simp [hjk, eq_comm (a := j)]
      · by_cases hv : v = 0
        · simp only [NMap.set, hak, hek, hv, if_true, if_false]
          by_cases hjk : j = k
          · have haj : ¬ a = j := by omega
            simp [hjk, NMap.get, hek, NMap.get_below w.2 (show k < a + 1 by omega)]
          · simp [hjk]
        · simp only [NMap.set, hak, hek, hv, if_false, NMap.get]
          by_cases hjk : k = j
          · simp [hjk]
          · simp [hjk, eq_comm (a := j)]

/-- What a table reads as after a write. -/
theorem NMap.get_set {m : NMap} {k v j : Nat} (w : m.wf = true) :
    (m.set k v).get j = if j = k then v else m.get j := NMap.get_set_above w

end Sys2Proof.Machine
end

