-- ==== Sys2Proof/Laws/Sound.lean ====
section
/-! SUPPORT. Soundness and permanence, carried together: the form of them that each operation is shown to keep, the rules
of the operations that write what they speak of, and the rules of the control forms. -/

namespace Sys2Proof.Machine

/-- The parts of a state that `Good` speaks of. -/
structure Flat (s0 : State) (part : Part) (pending : List Instr) (out : List Output) (regs ctr cal : NMap)
    (audit : List AuditRec) (next commits : Nat) (fuses : Fuses) (active standby : FwBank) (loading : Option FwBank) :
    Prop where
  part : part = s0.part
  pending : pending = s0.pending
  out : s0.out <+: out
  regs : regs.wf = true
  ctr48 : ctr.bits 48 = true
  ctr : ctr.wf = true
  cal : cal.wf = true
  ring : ringOk audit = true
  run : auditRun audit next = true
  commits : s0.nv.commits ≤ commits
  lifecycle : fuses.lifecycle ≤ 3
  ownerSlot : fuses.ownerSlot ≤ 3
  secver : fuses.secver ≤ 63
  since : Fuses.Since s0.nv.fuses fuses
  active : active.ok = true
  standby : standby.ok = true
  loading : loading.all FwBank.ok = true

/-- `s` is sound, its queue is that of `s0`, and it takes back nothing that `s0` holds. -/
def Good (s0 s : State) : Prop :=
  Flat s0 s.part s.pending s.out s.regs s.tel.ctr s.nv.cal s.nv.audit s.nv.auditNext s.nv.commits s.nv.fuses
    s.nv.active s.nv.standby s.nv.loading

variable {s0 s t : State}

theorem Good.mk' {part phase profile clockMode plan pending out free regs sl nv time tel sb policy fab cmdTrigger kx topPkg restoring dies}
    (h : Flat s0 part pending out regs tel.ctr nv.cal nv.audit nv.auditNext nv.commits nv.fuses nv.active nv.standby nv.loading) :
    Good s0 ⟨part, phase, profile, clockMode, plan, pending, out, free, regs, sl, nv, time, tel, sb, policy, fab,
      cmdTrigger, kx, topPkg, restoring, dies⟩ := h

theorem Good.flat (h : Good s0 s) :
    Flat s0 s.part s.pending s.out s.regs s.tel.ctr s.nv.cal s.nv.audit s.nv.auditNext s.nv.commits s.nv.fuses
      s.nv.active s.nv.standby s.nv.loading := h

theorem Fuses.Since.trans {a b c : Fuses} (h : Fuses.Since a b) (k : Fuses.Since b c) : Fuses.Since a c where
  lifecycle := Nat.le_trans h.lifecycle k.lifecycle
  secver := Nat.le_trans h.secver k.secver
  ownerSlot := Nat.le_trans h.ownerSlot k.ownerSlot
  permit := fun p => h.permit (k.permit p)
  identity := fun p => (k.identity (by rw [h.identity p]; exact p)).trans (h.identity p)
  packageId := k.packageId.trans h.packageId
  macA := k.macA.trans h.macA
  macB := k.macB.trans h.macB

theorem Fuses.Since.same {a b : Fuses} (h1 : b.lifecycle = a.lifecycle) (h2 : b.secver = a.secver) (h3 : b.ownerSlot = a.ownerSlot)
    (h4 : b.permit = a.permit) (h5 : b.identity = a.identity) (h6 : b.packageId = a.packageId) (h7 : b.macA = a.macA)
    (h8 : b.macB = a.macB) : Fuses.Since a b :=
  ⟨Nat.le_of_eq h1.symm, Nat.le_of_eq h2.symm, Nat.le_of_eq h3.symm, fun p => h4 ▸ p, fun _ => h5, h6, h7, h8⟩

theorem Good.refl (h : s.Sound) : Good s s :=
  ⟨rfl, rfl, List.prefix_refl _, h.regs, h.ctr48, h.ctr, h.cal, h.ring, h.run, Nat.le_refl _, h.lifecycle, h.ownerSlot, h.secver,
   ⟨Nat.le_refl _, Nat.le_refl _, Nat.le_refl _, id, fun _ => rfl, rfl, rfl, rfl⟩, h.active, h.standby, h.loading⟩

/-! Changing one field -/
theorem Flat.setRegs {part pending out regs ctr cal audit next commits fuses active standby loading regs'}
    (h : Flat s0 part pending out regs ctr cal audit next commits fuses active standby loading) (w : regs'.wf = true) :
    Flat s0 part pending out regs' ctr cal audit next commits fuses active standby loading :=
  { h with regs := w }

theorem Flat.setCtr {part pending out regs ctr cal audit next commits fuses active standby loading ctr'}
    (h : Flat s0 part pending out regs ctr cal audit next commits fuses active standby loading) (b : ctr'.bits 48 = true) (w : ctr'.wf = true) :
    Flat s0 part pending out regs ctr' cal audit next commits fuses active standby loading :=
  { h with ctr := w, ctr48 := b }

theorem Flat.setCal {part pending out regs ctr cal audit next commits fuses active standby loading cal'}
    (h : Flat s0 part pending out regs ctr cal audit next commits fuses active standby loading) (w : cal'.wf = true) :
    Flat s0 part pending out regs ctr cal' audit next commits fuses active standby loading :=
  { h with cal := w }

theorem Flat.setAudit {part pending out regs ctr cal audit next commits fuses active standby loading audit' next'}
    (h : Flat s0 part pending out regs ctr cal audit next commits fuses active standby loading) (w : ringOk audit' = true)
    (r : auditRun audit' next' = true) : Flat s0 part pending out regs ctr cal audit' next' commits fuses active standby loading :=
  { h with ring := w, run := r }

theorem wr_good (d f v) (h : Good s0 s) : Good s0 (s.wr d f v) := Good.mk' (Flat.setRegs h.flat (NMap.set_wf _ _ h.regs))

theorem emit_good (o) (h : Good s0 s) : Good s0 (s.emit o) := Good.mk' { h.flat with out := h.out.trans (List.prefix_append _ _) }

theorem setCtr_good (k v) (h : Good s0 s) : Good s0 (s.setCtr k v) := by
  unfold State.setCtr
  exact Good.mk' (Flat.setCtr h.flat (NMap.set_bits h.ctr48 (Nat.mod_lt _ (Nat.two_pow_pos 48))) (NMap.set_wf _ _ h.ctr))

theorem addCtr_good (k n) (h : Good s0 s) : Good s0 (s.addCtr k n) := by
  unfold State.addCtr
  exact Good.mk' (Flat.setCtr h.flat (NMap.set_bits h.ctr48 (Nat.mod_lt _ (Nat.two_pow_pos 48))) (NMap.set_wf _ _ h.ctr))

theorem clearCounters_good (d) (h : Good s0 s) : Good s0 (s.clearCounters d) := by
  unfold State.clearCounters
  exact Good.mk' (Flat.setCtr h.flat
    (NMap.drop_bits (fun k => decide (k / 192 = d.val ∧ k < 1536)) h.ctr48)
    (NMap.drop_wf (fun k => decide (k / 192 = d.val ∧ k < 1536)) h.ctr))

theorem ring_ok (l : List AuditRec) (x : AuditRec) : ringOk ((l ++ [x]).drop ((l.length + 1) - 4096)) = true := by
  simp only [ringOk, List.length_drop, List.length_append, List.length_cons, List.length_nil, decide_eq_true_eq]; omega

theorem run_append (l : List AuditRec) (x : AuditRec) (n : Nat) (h : auditRun l n = true) (e : x.seq = n) :
    auditRun (l ++ [x]) ((n + 1) % 2 ^ 32) = true := by
  induction l with
  | nil => simp [auditRun, e]
  | cons a l ih =>
    simp only [auditRun, Bool.and_eq_true, decide_eq_true_eq, List.cons_append, List.length_append, List.length_cons, List.length_nil] at *
    refine ⟨?_, ih h.2⟩
    rw [← h.1]; omega

theorem run_drop (l : List AuditRec) (n k : Nat) (h : auditRun l n = true) : auditRun (l.drop k) n = true := by
  induction k generalizing l with
  | zero => exact h
  | succ k ih =>
    cases l with
    | nil => exact h
    | cons a l =>
      simp only [auditRun, Bool.and_eq_true] at h
      exact ih l h.2

theorem State_addAudit_good (g) (hg : ∀ n, (g n).seq = n) (h : Good s0 s) : Good s0 (s.addAudit g) := by
  have w := ring_ok s.nv.audit (g s.nv.auditNext)
  have r := run_drop _ _ ((s.nv.audit.length + 1) - 4096) (run_append _ _ _ h.run (hg s.nv.auditNext))
  unfold State.addAudit
  dsimp only
  generalize (s.nv.audit ++ [g s.nv.auditNext]).drop ((s.nv.audit.length + 1) - 4096) = ring at *
  exact wr_good _ _ _ (Good.mk' (Flat.setAudit h.flat w r))

theorem saveCal_good (d n) (h : Good s0 s) : Good s0 (s.saveCal d n) := by
  unfold State.saveCal
  exact Good.mk' (Flat.setCal h.flat (NMap.sets_wf h.cal))

theorem loadCal_good (d) (h : Good s0 s) : Good s0 (s.loadCal d) := by
  unfold State.loadCal
  exact Good.mk' (Flat.setRegs h.flat (NMap.sets_wf h.regs))

theorem each_good {α : Type} {l : List α} {g : State → α → State} (hg : ∀ s a, Good s0 s → Good s0 (g s a)) (h : Good s0 s) :
    Good s0 (s.each l g) := by
  unfold State.each
  induction l generalizing s with
  | nil => exact h
  | cons a l ih => exact ih (hg _ _ h)

theorem foldl_good {α : Type} {l : List α} {g : State → α → State} (hg : ∀ s a, Good s0 s → Good s0 (g s a)) (h : Good s0 s) :
    Good s0 (l.foldl g s) := each_good hg h

theorem ite_good {c : Prop} [Decidable c] {a b : State} (ha : Good s0 a) (hb : Good s0 b) : Good s0 (if c then a else b) := by
  split <;> assumption

theorem iteR_good {c : Prop} [Decidable c] {a b : Res} (ha : Good s0 a.state) (hb : Good s0 b.state) : Good s0 (if c then a else b).state := by
  split <;> assumption

theorem iteP_good {α : Type} {c : Prop} [Decidable c] {a b : α × State} (ha : Good s0 a.2) (hb : Good s0 b.2) : Good s0 (if c then a else b).2 := by
  split <;> assumption

/-- An outcome whose next state is good. -/
def GoodO (s0 : State) (o : Host.Outcome State Fault Refusal) : Prop := ∀ t, o = .next t → Good s0 t

theorem next_good (h : Good s0 t) : GoodO s0 (.next t) := by intro u e; cases e; exact h

theorem iteO_good {c : Prop} [Decidable c] {a b} (ha : GoodO s0 a) (hb : GoodO s0 b) : GoodO s0 (if c then a else b) := by
  split <;> assumption

end Sys2Proof.Machine
end

