-- ==== Sys2Proof/Laws/State.lean ====
section
/-! SUPPORT. What each elementary update of a state leaves: one lemma for each field and update, and what a register field,
a counter and a die read as afterwards. -/

namespace Sys2Proof.Machine

variable (s : State)

@[simp] theorem State.wr_part (d : Die) (f : Fld) (v : Nat) : (s.wr d f v).part = s.part := rfl
@[simp] theorem State.wr_phase (d : Die) (f : Fld) (v : Nat) : (s.wr d f v).phase = s.phase := rfl
@[simp] theorem State.wr_profile (d : Die) (f : Fld) (v : Nat) : (s.wr d f v).profile = s.profile := rfl
@[simp] theorem State.wr_clockMode (d : Die) (f : Fld) (v : Nat) : (s.wr d f v).clockMode = s.clockMode := rfl
@[simp] theorem State.wr_plan (d : Die) (f : Fld) (v : Nat) : (s.wr d f v).plan = s.plan := rfl
@[simp] theorem State.wr_pending (d : Die) (f : Fld) (v : Nat) : (s.wr d f v).pending = s.pending := rfl
@[simp] theorem State.wr_out (d : Die) (f : Fld) (v : Nat) : (s.wr d f v).out = s.out := rfl
@[simp] theorem State.wr_free (d : Die) (f : Fld) (v : Nat) : (s.wr d f v).free = s.free := rfl
@[simp] theorem State.wr_sl (d : Die) (f : Fld) (v : Nat) : (s.wr d f v).sl = s.sl := rfl
@[simp] theorem State.wr_nv (d : Die) (f : Fld) (v : Nat) : (s.wr d f v).nv = s.nv := rfl
@[simp] theorem State.wr_time (d : Die) (f : Fld) (v : Nat) : (s.wr d f v).time = s.time := rfl
@[simp] theorem State.wr_tel (d : Die) (f : Fld) (v : Nat) : (s.wr d f v).tel = s.tel := rfl
@[simp] theorem State.wr_sb (d : Die) (f : Fld) (v : Nat) : (s.wr d f v).sb = s.sb := rfl
@[simp] theorem State.wr_policy (d : Die) (f : Fld) (v : Nat) : (s.wr d f v).policy = s.policy := rfl
@[simp] theorem State.wr_fab (d : Die) (f : Fld) (v : Nat) : (s.wr d f v).fab = s.fab := rfl
@[simp] theorem State.wr_cmdTrigger (d : Die) (f : Fld) (v : Nat) : (s.wr d f v).cmdTrigger = s.cmdTrigger := rfl
@[simp] theorem State.wr_kx (d : Die) (f : Fld) (v : Nat) : (s.wr d f v).kx = s.kx := rfl
@[simp] theorem State.wr_topPkg (d : Die) (f : Fld) (v : Nat) : (s.wr d f v).topPkg = s.topPkg := rfl
@[simp] theorem State.wr_restoring (d : Die) (f : Fld) (v : Nat) : (s.wr d f v).restoring = s.restoring := rfl
@[simp] theorem State.wr_dies (d : Die) (f : Fld) (v : Nat) : (s.wr d f v).dies = s.dies := rfl

@[simp] theorem State.wrB_part (d : Die) (f : Fld) (b : Bool) : (s.wrB d f b).part = s.part := rfl
@[simp] theorem State.wrB_phase (d : Die) (f : Fld) (b : Bool) : (s.wrB d f b).phase = s.phase := rfl
@[simp] theorem State.wrB_profile (d : Die) (f : Fld) (b : Bool) : (s.wrB d f b).profile = s.profile := rfl
@[simp] theorem State.wrB_clockMode (d : Die) (f : Fld) (b : Bool) : (s.wrB d f b).clockMode = s.clockMode := rfl
@[simp] theorem State.wrB_plan (d : Die) (f : Fld) (b : Bool) : (s.wrB d f b).plan = s.plan := rfl
@[simp] theorem State.wrB_pending (d : Die) (f : Fld) (b : Bool) : (s.wrB d f b).pending = s.pending := rfl
@[simp] theorem State.wrB_out (d : Die) (f : Fld) (b : Bool) : (s.wrB d f b).out = s.out := rfl
@[simp] theorem State.wrB_free (d : Die) (f : Fld) (b : Bool) : (s.wrB d f b).free = s.free := rfl
@[simp] theorem State.wrB_sl (d : Die) (f : Fld) (b : Bool) : (s.wrB d f b).sl = s.sl := rfl
@[simp] theorem State.wrB_nv (d : Die) (f : Fld) (b : Bool) : (s.wrB d f b).nv = s.nv := rfl
@[simp] theorem State.wrB_time (d : Die) (f : Fld) (b : Bool) : (s.wrB d f b).time = s.time := rfl
@[simp] theorem State.wrB_tel (d : Die) (f : Fld) (b : Bool) : (s.wrB d f b).tel = s.tel := rfl
@[simp] theorem State.wrB_sb (d : Die) (f : Fld) (b : Bool) : (s.wrB d f b).sb = s.sb := rfl
@[simp] theorem State.wrB_policy (d : Die) (f : Fld) (b : Bool) : (s.wrB d f b).policy = s.policy := rfl
@[simp] theorem State.wrB_fab (d : Die) (f : Fld) (b : Bool) : (s.wrB d f b).fab = s.fab := rfl
@[simp] theorem State.wrB_cmdTrigger (d : Die) (f : Fld) (b : Bool) : (s.wrB d f b).cmdTrigger = s.cmdTrigger := rfl
@[simp] theorem State.wrB_kx (d : Die) (f : Fld) (b : Bool) : (s.wrB d f b).kx = s.kx := rfl
@[simp] theorem State.wrB_topPkg (d : Die) (f : Fld) (b : Bool) : (s.wrB d f b).topPkg = s.topPkg := rfl
@[simp] theorem State.wrB_restoring (d : Die) (f : Fld) (b : Bool) : (s.wrB d f b).restoring = s.restoring := rfl
@[simp] theorem State.wrB_dies (d : Die) (f : Fld) (b : Bool) : (s.wrB d f b).dies = s.dies := rfl

@[simp] theorem State.updDie_part (d : Die) (g : DieSt → DieSt) : (s.updDie d g).part = s.part := rfl
@[simp] theorem State.updDie_phase (d : Die) (g : DieSt → DieSt) : (s.updDie d g).phase = s.phase := rfl
@[simp] theorem State.updDie_profile (d : Die) (g : DieSt → DieSt) : (s.updDie d g).profile = s.profile := rfl
@[simp] theorem State.updDie_clockMode (d : Die) (g : DieSt → DieSt) : (s.updDie d g).clockMode = s.clockMode := rfl
@[simp] theorem State.updDie_plan (d : Die) (g : DieSt → DieSt) : (s.updDie d g).plan = s.plan := rfl
@[simp] theorem State.updDie_pending (d : Die) (g : DieSt → DieSt) : (s.updDie d g).pending = s.pending := rfl
@[simp] theorem State.updDie_out (d : Die) (g : DieSt → DieSt) : (s.updDie d g).out = s.out := rfl
@[simp] theorem State.updDie_free (d : Die) (g : DieSt → DieSt) : (s.updDie d g).free = s.free := rfl
@[simp] theorem State.updDie_regs (d : Die) (g : DieSt → DieSt) : (s.updDie d g).regs = s.regs := rfl
@[simp] theorem State.updDie_sl (d : Die) (g : DieSt → DieSt) : (s.updDie d g).sl = s.sl := rfl
@[simp] theorem State.updDie_nv (d : Die) (g : DieSt → DieSt) : (s.updDie d g).nv = s.nv := rfl
@[simp] theorem State.updDie_time (d : Die) (g : DieSt → DieSt) : (s.updDie d g).time = s.time := rfl
@[simp] theorem State.updDie_tel (d : Die) (g : DieSt → DieSt) : (s.updDie d g).tel = s.tel := rfl
@[simp] theorem State.updDie_sb (d : Die) (g : DieSt → DieSt) : (s.updDie d g).sb = s.sb := rfl
@[simp] theorem State.updDie_policy (d : Die) (g : DieSt → DieSt) : (s.updDie d g).policy = s.policy := rfl
@[simp] theorem State.updDie_fab (d : Die) (g : DieSt → DieSt) : (s.updDie d g).fab = s.fab := rfl
@[simp] theorem State.updDie_cmdTrigger (d : Die) (g : DieSt → DieSt) : (s.updDie d g).cmdTrigger = s.cmdTrigger := rfl
@[simp] theorem State.updDie_kx (d : Die) (g : DieSt → DieSt) : (s.updDie d g).kx = s.kx := rfl
@[simp] theorem State.updDie_topPkg (d : Die) (g : DieSt → DieSt) : (s.updDie d g).topPkg = s.topPkg := rfl
@[simp] theorem State.updDie_restoring (d : Die) (g : DieSt → DieSt) : (s.updDie d g).restoring = s.restoring := rfl

@[simp] theorem State.addCtr_part (k n : Nat) : (s.addCtr k n).part = s.part := rfl
@[simp] theorem State.addCtr_phase (k n : Nat) : (s.addCtr k n).phase = s.phase := rfl
@[simp] theorem State.addCtr_profile (k n : Nat) : (s.addCtr k n).profile = s.profile := rfl
@[simp] theorem State.addCtr_clockMode (k n : Nat) : (s.addCtr k n).clockMode = s.clockMode := rfl
@[simp] theorem State.addCtr_plan (k n : Nat) : (s.addCtr k n).plan = s.plan := rfl
@[simp] theorem State.addCtr_pending (k n : Nat) : (s.addCtr k n).pending = s.pending := rfl
@[simp] theorem State.addCtr_out (k n : Nat) : (s.addCtr k n).out = s.out := rfl
@[simp] theorem State.addCtr_free (k n : Nat) : (s.addCtr k n).free = s.free := rfl
@[simp] theorem State.addCtr_regs (k n : Nat) : (s.addCtr k n).regs = s.regs := rfl
@[simp] theorem State.addCtr_sl (k n : Nat) : (s.addCtr k n).sl = s.sl := rfl
@[simp] theorem State.addCtr_nv (k n : Nat) : (s.addCtr k n).nv = s.nv := rfl
@[simp] theorem State.addCtr_time (k n : Nat) : (s.addCtr k n).time = s.time := rfl
@[simp] theorem State.addCtr_sb (k n : Nat) : (s.addCtr k n).sb = s.sb := rfl
@[simp] theorem State.addCtr_policy (k n : Nat) : (s.addCtr k n).policy = s.policy := rfl
@[simp] theorem State.addCtr_fab (k n : Nat) : (s.addCtr k n).fab = s.fab := rfl
@[simp] theorem State.addCtr_cmdTrigger (k n : Nat) : (s.addCtr k n).cmdTrigger = s.cmdTrigger := rfl
@[simp] theorem State.addCtr_kx (k n : Nat) : (s.addCtr k n).kx = s.kx := rfl
@[simp] theorem State.addCtr_topPkg (k n : Nat) : (s.addCtr k n).topPkg = s.topPkg := rfl
@[simp] theorem State.addCtr_restoring (k n : Nat) : (s.addCtr k n).restoring = s.restoring := rfl
@[simp] theorem State.addCtr_dies (k n : Nat) : (s.addCtr k n).dies = s.dies := rfl

@[simp] theorem State.setCtr_part (k v : Nat) : (s.setCtr k v).part = s.part := rfl
@[simp] theorem State.setCtr_phase (k v : Nat) : (s.setCtr k v).phase = s.phase := rfl
@[simp] theorem State.setCtr_profile (k v : Nat) : (s.setCtr k v).profile = s.profile := rfl
@[simp] theorem State.setCtr_clockMode (k v : Nat) : (s.setCtr k v).clockMode = s.clockMode := rfl
@[simp] theorem State.setCtr_plan (k v : Nat) : (s.setCtr k v).plan = s.plan := rfl
@[simp] theorem State.setCtr_pending (k v : Nat) : (s.setCtr k v).pending = s.pending := rfl
@[simp] theorem State.setCtr_out (k v : Nat) : (s.setCtr k v).out = s.out := rfl
@[simp] theorem State.setCtr_free (k v : Nat) : (s.setCtr k v).free = s.free := rfl
@[simp] theorem State.setCtr_regs (k v : Nat) : (s.setCtr k v).regs = s.regs := rfl
@[simp] theorem State.setCtr_sl (k v : Nat) : (s.setCtr k v).sl = s.sl := rfl
@[simp] theorem State.setCtr_nv (k v : Nat) : (s.setCtr k v).nv = s.nv := rfl
@[simp] theorem State.setCtr_time (k v : Nat) : (s.setCtr k v).time = s.time := rfl
@[simp] theorem State.setCtr_sb (k v : Nat) : (s.setCtr k v).sb = s.sb := rfl
@[simp] theorem State.setCtr_policy (k v : Nat) : (s.setCtr k v).policy = s.policy := rfl
@[simp] theorem State.setCtr_fab (k v : Nat) : (s.setCtr k v).fab = s.fab := rfl
@[simp] theorem State.setCtr_cmdTrigger (k v : Nat) : (s.setCtr k v).cmdTrigger = s.cmdTrigger := rfl
@[simp] theorem State.setCtr_kx (k v : Nat) : (s.setCtr k v).kx = s.kx := rfl
@[simp] theorem State.setCtr_topPkg (k v : Nat) : (s.setCtr k v).topPkg = s.topPkg := rfl
@[simp] theorem State.setCtr_restoring (k v : Nat) : (s.setCtr k v).restoring = s.restoring := rfl
@[simp] theorem State.setCtr_dies (k v : Nat) : (s.setCtr k v).dies = s.dies := rfl

@[simp] theorem State.emit_part (o : Output) : (s.emit o).part = s.part := rfl
@[simp] theorem State.emit_phase (o : Output) : (s.emit o).phase = s.phase := rfl
@[simp] theorem State.emit_profile (o : Output) : (s.emit o).profile = s.profile := rfl
@[simp] theorem State.emit_clockMode (o : Output) : (s.emit o).clockMode = s.clockMode := rfl
@[simp] theorem State.emit_plan (o : Output) : (s.emit o).plan = s.plan := rfl
@[simp] theorem State.emit_pending (o : Output) : (s.emit o).pending = s.pending := rfl
@[simp] theorem State.emit_free (o : Output) : (s.emit o).free = s.free := rfl
@[simp] theorem State.emit_regs (o : Output) : (s.emit o).regs = s.regs := rfl
@[simp] theorem State.emit_sl (o : Output) : (s.emit o).sl = s.sl := rfl
@[simp] theorem State.emit_nv (o : Output) : (s.emit o).nv = s.nv := rfl
@[simp] theorem State.emit_time (o : Output) : (s.emit o).time = s.time := rfl
@[simp] theorem State.emit_tel (o : Output) : (s.emit o).tel = s.tel := rfl
@[simp] theorem State.emit_sb (o : Output) : (s.emit o).sb = s.sb := rfl
@[simp] theorem State.emit_policy (o : Output) : (s.emit o).policy = s.policy := rfl
@[simp] theorem State.emit_fab (o : Output) : (s.emit o).fab = s.fab := rfl
@[simp] theorem State.emit_cmdTrigger (o : Output) : (s.emit o).cmdTrigger = s.cmdTrigger := rfl
@[simp] theorem State.emit_kx (o : Output) : (s.emit o).kx = s.kx := rfl
@[simp] theorem State.emit_topPkg (o : Output) : (s.emit o).topPkg = s.topPkg := rfl
@[simp] theorem State.emit_restoring (o : Output) : (s.emit o).restoring = s.restoring := rfl
@[simp] theorem State.emit_dies (o : Output) : (s.emit o).dies = s.dies := rfl

/-! ### Register fields -/

/-- A field read after it was written gives the value cut to the field's width. -/
theorem State.rd_wr (h : s.regs.wf = true) (d : Die) (f : Fld) (v : Nat) : (s.wr d f v).rd d f = v % 2 ^ f.width := by
  simp only [State.rd, State.wr, NMap.get_set h, if_true, Nat.xor_assoc, Nat.xor_self, Nat.xor_zero]

/-- A field of another key reads as before. -/
theorem State.rd_wr_ne (h : s.regs.wf = true) {d e : Die} {f g : Fld} (v : Nat) (hk : g.key e ≠ f.key d) :
    (s.wr d f v).rd e g = s.rd e g := by
  simp only [State.rd, State.wr, NMap.get_set h, hk, if_false]

theorem State.wr_wf (h : s.regs.wf = true) (d : Die) (f : Fld) (v : Nat) : (s.wr d f v).regs.wf = true :=
  NMap.set_wf _ _ h

@[simp] theorem State.rd_updDie (e : Die) (g : DieSt → DieSt) (d : Die) (f : Fld) :
    (s.updDie e g).rd d f = s.rd d f := rfl
@[simp] theorem State.rd_addCtr (k n : Nat) (d : Die) (f : Fld) : (s.addCtr k n).rd d f = s.rd d f := rfl
@[simp] theorem State.rd_setCtr (k v : Nat) (d : Die) (f : Fld) : (s.setCtr k v).rd d f = s.rd d f := rfl
@[simp] theorem State.rd_emit (o : Output) (d : Die) (f : Fld) : (s.emit o).rd d f = s.rd d f := rfl

/-! ### Dies -/

@[simp] theorem State.die_wr (d e : Die) (f : Fld) (v : Nat) : (s.wr d f v).die e = s.die e := rfl
@[simp] theorem State.die_addCtr (k n : Nat) (e : Die) : (s.addCtr k n).die e = s.die e := rfl
@[simp] theorem State.die_emit (o : Output) (e : Die) : (s.emit o).die e = s.die e := rfl

@[simp] theorem State.die_updDie (d : Die) (g : DieSt → DieSt) : (s.updDie d g).die d = g (s.die d) := by
  simp only [State.die, State.updDie]
  exact Vector.getElem_set_self d.isLt

theorem State.die_updDie_ne {d e : Die} (g : DieSt → DieSt) (h : d ≠ e) : (s.updDie d g).die e = s.die e := by
  have k : ¬ d.val = e.val := fun x => h (Fin.ext x)
  simp only [State.die, State.updDie]
  exact Vector.getElem_set_ne d.isLt e.isLt k

/-! ### Counters -/

/-- A counter after an addition: the sum modulo 2^48; every other counter as before. -/
theorem State.ctr_addCtr (h : s.tel.ctr.wf = true) (k n j : Nat) :
    (s.addCtr k n).tel.ctr.get j = if j = k then (s.tel.ctr.get k + n) % 2 ^ 48 else s.tel.ctr.get j :=
  NMap.get_set h

theorem State.ctr_setCtr (h : s.tel.ctr.wf = true) (k v j : Nat) :
    (s.setCtr k v).tel.ctr.get j = if j = k then v % 2 ^ 48 else s.tel.ctr.get j := NMap.get_set h

/-! ### Outputs -/

@[simp] theorem State.emit_out (o : Output) : (s.emit o).out = s.out ++ [o] := rfl

end Sys2Proof.Machine
end

