-- ==== Sys2Proof/Laws/Interpreter.lean ====
section
/-! SUPPORT. What the request interpreter does with a request that reaches its effect. -/

namespace Sys2Proof.Machine

/-- A request that passes every check is executed in the state `runAt`, and its reply follows. -/
theorem Slostan.run_of_executes {s : State} {r : Req} {i : CmdInfo} {x : Session} (h : Executes s r i x = true) (c : Instr)
    (body : Req → Session → State → Res) :
    Slostan.run r c i body s = State.replied r x i (body r x (s.runAt r)) := by
  simp only [Executes, Bool.and_eq_true, Bool.or_eq_true, Bool.not_eq_true', beq_iff_eq, Bool.and_eq_false_iff] at h
  obtain ⟨⟨⟨⟨⟨⟨⟨⟨⟨⟨⟨⟨h0, h1⟩, h2⟩, h3⟩, h4⟩, h5⟩, h6⟩, h7⟩, h8⟩, h9⟩, h10⟩, h11⟩, h12⟩ := h
  unfold Slostan.run Slostan.receive State.atHead
  simp only [h0, if_true]
  unfold Slostan.take
  have e : (s.dequeue r).open? = true := h1
  simp only [e, Bool.not_true, Bool.false_eq_true, if_false, h2, h3, h4, h5]
  change Slostan.execute r c i body x _ = _
  unfold Slostan.execute
  split
  · rename_i st e3
    exact absurd (h6.symm.trans e3) (by simp)
  · change State.checks7to8 _ _ _ = none at h7
    simp only [State.taken] at h7 h10 h11 h12
    dsimp only
    rw [h7]
    dsimp only
    have ht : ∀ t, (x.txn, i.stages) ≠ (some t, true) := by
      intro t e
      cases h9 with
      | inl k => rw [(Prod.mk.inj e).1] at k; cases k
      | inr k => rw [(Prod.mk.inj e).2] at k; cases k
    split
    · rename_i t e1 e2
      exact absurd (Prod.ext e1 e2) (ht t)
    · rw [h8]
      dsimp only
      rw [if_neg, if_neg]
      · rfl
      · intro e
        rcases h12 with k | k <;> simp [k] at e
      · intro e
        rcases h10 with k | k <;> simp_all

end Sys2Proof.Machine
end

