-- ==== Sys2Proof/Laws/KeepsSlostan.lean ====
section
/-! SUPPORT. A sound state stays sound, and takes back nothing, through every operation and command of:
what the request interpreter rests on. Proved alike for each operation, from the lemmas of those it calls. -/

namespace Sys2Proof.Machine

theorem State_updDie_good {s0 : State} {a0 a1 a2} (ha0 : Good s0 a0) : Good s0 (@State.updDie a0 a1 a2) := by
  unfold State.updDie
  repeat' first
    | with_reducible (first
        | assumption | intro _ | apply next_good | apply ite_good | apply iteR_good | apply iteP_good
        | apply iteO_good)
    | split
    | (with_reducible refine Good.mk' (Good.flat ?_))

theorem State_wrB_good {s0 : State} {a0 a1 a2 a3} (ha0 : Good s0 a0) : Good s0 (@State.wrB a0 a1 a2 a3) := by
  unfold State.wrB
  repeat' first
    | with_reducible (first
        | assumption | intro _ | apply wr_good | apply next_good | apply ite_good | apply iteR_good
        | apply iteP_good | apply iteO_good)
    | split
    | (with_reducible refine Good.mk' (Good.flat ?_))

theorem State_wrInt_good {s0 : State} {a0 a1 a2 a3} (ha0 : Good s0 a0) : Good s0 (@State.wrInt a0 a1 a2 a3) := by
  unfold State.wrInt
  repeat' first
    | with_reducible (first
        | assumption | intro _ | apply wr_good | apply next_good | apply ite_good | apply iteR_good
        | apply iteP_good | apply iteO_good)
    | split
    | (with_reducible refine Good.mk' (Good.flat ?_))

theorem State_incSat_good {s0 : State} {a0 a1 a2 a3} (ha0 : Good s0 a0) : Good s0 (@State.incSat a0 a1 a2 a3) := by
  unfold State.incSat
  repeat' first
    | with_reducible (first
        | assumption | intro _ | apply wr_good | apply next_good | apply ite_good | apply iteR_good
        | apply iteP_good | apply iteO_good)
    | split
    | (with_reducible refine Good.mk' (Good.flat ?_))

theorem State_cntN_good {s0 : State} {a0 a1 a2 a3} (ha0 : Good s0 a0) : Good s0 (@State.cntN a0 a1 a2 a3) := by
  unfold State.cntN
  repeat' first
    | with_reducible (first
        | assumption | intro _ | apply addCtr_good | apply next_good | apply ite_good | apply iteR_good
        | apply iteP_good | apply iteO_good)
    | split
    | (with_reducible refine Good.mk' (Good.flat ?_))

theorem State_cnt_good {s0 : State} {a0 a1 a2} (ha0 : Good s0 a0) : Good s0 (@State.cnt a0 a1 a2) := by
  unfold State.cnt
  repeat' first
    | with_reducible (first
        | assumption | intro _ | apply State_cntN_good | apply next_good | apply ite_good | apply iteR_good
        | apply iteP_good | apply iteO_good)
    | split
    | (with_reducible refine Good.mk' (Good.flat ?_))

theorem State_cntPkg_good {s0 : State} {a0 a1} (ha0 : Good s0 a0) : Good s0 (@State.cntPkg a0 a1) := by
  unfold State.cntPkg
  repeat' first
    | with_reducible (first
        | assumption | intro _ | apply addCtr_good | apply next_good | apply ite_good | apply iteR_good
        | apply iteP_good | apply iteO_good)
    | split
    | (with_reducible refine Good.mk' (Good.flat ?_))

theorem State_setHealthy_good {s0 : State} {a0 a1 a2} (ha0 : Good s0 a0) : Good s0 (@State.setHealthy a0 a1 a2) := by
  unfold State.setHealthy
  repeat' first
    | with_reducible (first
        | assumption | intro _ | apply wr_good | apply next_good | apply ite_good | apply iteR_good
        | apply iteP_good | apply iteO_good)
    | split
    | (with_reducible refine Good.mk' (Good.flat ?_))

theorem State_setBit_good {s0 : State} {a0 a1 a2 a3 a4} (ha0 : Good s0 a0) :
    Good s0 (@State.setBit a0 a1 a2 a3 a4) := by
  unfold State.setBit
  repeat' first
    | with_reducible (first
        | assumption | intro _ | apply wr_good | apply next_good | apply ite_good | apply iteR_good
        | apply iteP_good | apply iteO_good)
    | split
    | (with_reducible refine Good.mk' (Good.flat ?_))

theorem State_fresh_good {s0 : State} {a0} (ha0 : Good s0 a0) : Good s0 (@State.fresh a0).2 := by
  unfold State.fresh
  repeat' first
    | with_reducible (first
        | assumption | intro _ | apply next_good | apply ite_good | apply iteR_good | apply iteP_good
        | apply iteO_good)
    | split
    | (with_reducible refine Good.mk' (Good.flat ?_))

theorem State_setInject_good {s0 : State} {a0 a1 a2} (ha0 : Good s0 a0) : Good s0 (@State.setInject a0 a1 a2) := by
  unfold State.setInject
  repeat' first
    | with_reducible (first
        | assumption | intro _ | apply State_wrB_good | apply State_updDie_good | apply next_good | apply ite_good
        | apply iteR_good | apply iteP_good | apply iteO_good)
    | split
    | (with_reducible refine Good.mk' (Good.flat ?_))

theorem State_takeInject_good {s0 : State} {a0 a1 a2 a3} (ha0 : Good s0 a0) :
    Good s0 (@State.takeInject a0 a1 a2 a3).2 := by
  unfold State.takeInject
  repeat' first
    | with_reducible (first
        | assumption | intro _ | apply State_setInject_good | apply next_good | apply ite_good | apply iteR_good
        | apply iteP_good | apply iteO_good)
    | split
    | (with_reducible refine Good.mk' (Good.flat ?_))

theorem State_injectLineBits_good {s0 : State} {a0 a1} (ha0 : Good s0 a0) :
    Good s0 (@State.injectLineBits a0 a1) := by
  unfold State.injectLineBits
  repeat' first
    | with_reducible (first
        | assumption | intro _ | apply emit_good | apply State_setInject_good | apply next_good | apply ite_good
        | apply iteR_good | apply iteP_good | apply iteO_good)
    | split
    | (with_reducible refine Good.mk' (Good.flat ?_))

theorem State_capTrigger_good {s0 : State} {a0 a1 a2} (ha0 : Good s0 a0) : Good s0 (@State.capTrigger a0 a1 a2) := by
  unfold State.capTrigger
  repeat' first
    | with_reducible (first
        | assumption | intro _ | apply wr_good | apply next_good | apply ite_good | apply iteR_good
        | apply iteP_good | apply iteO_good)
    | split
    | (with_reducible refine Good.mk' (Good.flat ?_))

theorem State_updPool_good {s0 : State} {a0 a1 a2} (ha0 : Good s0 a0) : Good s0 (@State.updPool a0 a1 a2) := by
  unfold State.updPool
  repeat' first
    | with_reducible (first
        | assumption | intro _ | apply State_updDie_good | apply next_good | apply ite_good | apply iteR_good
        | apply iteP_good | apply iteO_good)
    | split
    | (with_reducible refine Good.mk' (Good.flat ?_))

theorem State_updEngine_good {s0 : State} {a0 a1 a2 a3} (ha0 : Good s0 a0) :
    Good s0 (@State.updEngine a0 a1 a2 a3) := by
  unfold State.updEngine
  repeat' first
    | with_reducible (first
        | assumption | intro _ | apply State_updPool_good | apply next_good | apply ite_good | apply iteR_good
        | apply iteP_good | apply iteO_good)
    | split
    | (with_reducible refine Good.mk' (Good.flat ?_))

theorem State_charge_good {s0 : State} {a0 a1 a2 a3} (ha0 : Good s0 a0) : Good s0 (@State.charge a0 a1 a2 a3) := by
  unfold State.charge
  repeat' first
    | with_reducible (first
        | assumption | intro _ | apply State_updEngine_good | apply State_cntN_good | apply next_good
        | apply ite_good | apply iteR_good | apply iteP_good | apply iteO_good)
    | split
    | (with_reducible refine Good.mk' (Good.flat ?_))

theorem State_chargeAll_good {s0 : State} {a0 a1} (ha0 : Good s0 a0) : Good s0 (@State.chargeAll a0 a1) := by
  unfold State.chargeAll
  repeat' first
    | with_reducible (first
        | assumption | intro _ | apply State_updEngine_good | apply State_cntN_good | apply State_charge_good
        | apply each_good | apply next_good | apply ite_good | apply iteR_good | apply iteP_good | apply iteO_good)
    | split
    | (with_reducible refine Good.mk' (Good.flat ?_))

theorem State_chargePipes_good {s0 : State} {a0 a1 a2 a3 a4} (ha0 : Good s0 a0) :
    Good s0 (@State.chargePipes a0 a1 a2 a3 a4) := by
  unfold State.chargePipes
  repeat' first
    | with_reducible (first
        | assumption | intro _ | apply State_updDie_good | apply State_cntN_good | apply next_good | apply ite_good
        | apply iteR_good | apply iteP_good | apply iteO_good)
    | split
    | (with_reducible refine Good.mk' (Good.flat ?_))

theorem State_chargeCipher_good {s0 : State} {a0 a1} (ha0 : Good s0 a0) : Good s0 (@State.chargeCipher a0 a1) := by
  unfold State.chargeCipher
  repeat' first
    | with_reducible (first
        | assumption | intro _ | apply State_updDie_good | apply State_cntN_good | apply next_good | apply ite_good
        | apply iteR_good | apply iteP_good | apply iteO_good)
    | split
    | (with_reducible refine Good.mk' (Good.flat ?_))

theorem State_restartCharge_good {s0 : State} {a0 a1} (ha0 : Good s0 a0) : Good s0 (@State.restartCharge a0 a1) := by
  unfold State.restartCharge
  repeat' first
    | with_reducible (first
        | assumption | intro _ | apply State_updDie_good | apply State_updEngine_good | apply each_good
        | apply next_good | apply ite_good | apply iteR_good | apply iteP_good | apply iteO_good)
    | split
    | (with_reducible refine Good.mk' (Good.flat ?_))

theorem State_updInb_good {s0 : State} {a0 a1 a2} (ha0 : Good s0 a0) : Good s0 (@State.updInb a0 a1 a2) := by
  unfold State.updInb
  repeat' first
    | with_reducible (first
        | assumption | intro _ | apply State_updDie_good | apply next_good | apply ite_good | apply iteR_good
        | apply iteP_good | apply iteO_good)
    | split
    | (with_reducible refine Good.mk' (Good.flat ?_))

theorem State_inbPush_good {s0 : State} {a0 a1 a2} (ha0 : Good s0 a0) : Good s0 (@State.inbPush a0 a1 a2) := by
  unfold State.inbPush
  repeat' first
    | with_reducible (first
        | assumption | intro _ | apply State_updInb_good | apply next_good | apply ite_good | apply iteR_good
        | apply iteP_good | apply iteO_good)
    | split
    | (with_reducible refine Good.mk' (Good.flat ?_))

theorem State_jeuriDropped_good {s0 : State} {a0 a1} (ha0 : Good s0 a0) : Good s0 (@State.jeuriDropped a0 a1) := by
  unfold State.jeuriDropped
  repeat' first
    | with_reducible (first
        | assumption | intro _ | apply State_cnt_good | apply next_good | apply ite_good | apply iteR_good
        | apply iteP_good | apply iteO_good)
    | split
    | (with_reducible refine Good.mk' (Good.flat ?_))

theorem State_portSent_good {s0 : State} {a0 a1} (ha0 : Good s0 a0) : Good s0 (@State.portSent a0 a1) := by
  unfold State.portSent
  repeat' first
    | with_reducible (first
        | assumption | intro _ | apply wr_good | apply State_cnt_good | apply next_good | apply ite_good
        | apply iteR_good | apply iteP_good | apply iteO_good)
    | split
    | (with_reducible refine Good.mk' (Good.flat ?_))

theorem State_sendEth_good {s0 : State} {a0 a1 a2 a3 a4} (ha0 : Good s0 a0) :
    Good s0 (@State.sendEth a0 a1 a2 a3 a4) := by
  unfold State.sendEth
  repeat' first
    | with_reducible (first
        | assumption | intro _ | apply emit_good | apply State_portSent_good | apply next_good | apply ite_good
        | apply iteR_good | apply iteP_good | apply iteO_good)
    | split
    | (with_reducible refine Good.mk' (Good.flat ?_))

theorem State_sendPort_good {s0 : State} {a0 a1 a2} (ha0 : Good s0 a0) : Good s0 (@State.sendPort a0 a1 a2) := by
  unfold State.sendPort
  repeat' first
    | with_reducible (first
        | assumption | intro _ | apply State_sendEth_good | apply next_good | apply ite_good | apply iteR_good
        | apply iteP_good | apply iteO_good)
    | split
    | (with_reducible refine Good.mk' (Good.flat ?_))

theorem State_sendLink_good {s0 : State} {a0 a1 a2} (ha0 : Good s0 a0) : Good s0 (@State.sendLink a0 a1 a2) := by
  unfold State.sendLink
  repeat' first
    | with_reducible (first
        | assumption | intro _ | apply State_inbPush_good | apply State_jeuriDropped_good | apply next_good
        | apply ite_good | apply iteR_good | apply iteP_good | apply iteO_good)
    | split
    | (with_reducible refine Good.mk' (Good.flat ?_))

theorem State_sendNbr_good {s0 : State} {a0 a1 a2} (ha0 : Good s0 a0) : Good s0 (@State.sendNbr a0 a1 a2) := by
  unfold State.sendNbr
  repeat' first
    | with_reducible (first
        | assumption | intro _ | apply State_sendPort_good | apply State_sendLink_good | apply next_good
        | apply ite_good | apply iteR_good | apply iteP_good | apply iteO_good)
    | split
    | (with_reducible refine Good.mk' (Good.flat ?_))

theorem State_sendLane_good {s0 : State} {a0 a1 a2} (ha0 : Good s0 a0) : Good s0 (@State.sendLane a0 a1 a2) := by
  unfold State.sendLane
  repeat' first
    | with_reducible (first
        | assumption | intro _ | apply State_sendLink_good | apply State_inbPush_good
        | apply State_jeuriDropped_good | apply next_good | apply ite_good | apply iteR_good | apply iteP_good
        | apply iteO_good)
    | split
    | (with_reducible refine Good.mk' (Good.flat ?_))

theorem State_sendVia_good {s0 : State} {a0 a1 a2 a3 a4 a5} (ha0 : Good s0 a0) :
    Good s0 (@State.sendVia a0 a1 a2 a3 a4 a5) := by
  unfold State.sendVia
  repeat' first
    | with_reducible (first
        | assumption | intro _ | apply State_sendEth_good | apply State_sendPort_good | apply State_sendLane_good
        | apply next_good | apply ite_good | apply iteR_good | apply iteP_good | apply iteO_good)
    | split
    | (with_reducible refine Good.mk' (Good.flat ?_))

theorem State_sendBy_good {s0 : State} {a0 a1 a2 a3 a4} (ha0 : Good s0 a0) :
    Good s0 (@State.sendBy a0 a1 a2 a3 a4) := by
  unfold State.sendBy
  repeat' first
    | with_reducible (first
        | assumption | intro _ | apply State_sendLane_good | apply State_sendEth_good | apply next_good
        | apply ite_good | apply iteR_good | apply iteP_good | apply iteO_good)
    | split
    | (with_reducible refine Good.mk' (Good.flat ?_))

theorem State_sendOwn_good {s0 : State} {a0 a1 a2 a3 a4 a5} (ha0 : Good s0 a0) :
    Good s0 (@State.sendOwn a0 a1 a2 a3 a4 a5) := by
  unfold State.sendOwn
  repeat' first
    | with_reducible (first
        | assumption | intro _ | apply State_sendBy_good | apply State_sendVia_good | apply next_good
        | apply ite_good | apply iteR_good | apply iteP_good | apply iteO_good)
    | split
    | (with_reducible refine Good.mk' (Good.flat ?_))

theorem State_updFabDown_good {s0 : State} {a0 a1} (ha0 : Good s0 a0) : Good s0 (@State.updFabDown a0 a1) := by
  unfold State.updFabDown
  repeat' first
    | with_reducible (first
        | assumption | intro _ | apply next_good | apply ite_good | apply iteR_good | apply iteP_good
        | apply iteO_good)
    | split
    | (with_reducible refine Good.mk' (Good.flat ?_))

theorem State_followLinks_good {s0 : State} {a0} (ha0 : Good s0 a0) : Good s0 (@State.followLinks a0) := by
  unfold State.followLinks
  repeat' first
    | with_reducible (first
        | assumption | intro _ | apply State_updFabDown_good | apply next_good | apply ite_good | apply iteR_good
        | apply iteP_good | apply iteO_good)
    | split
    | (with_reducible refine Good.mk' (Good.flat ?_))

theorem State_updSession_good {s0 : State} {a0 a1 a2} (ha0 : Good s0 a0) : Good s0 (@State.updSession a0 a1 a2) := by
  unfold State.updSession
  repeat' first
    | with_reducible (first
        | assumption | intro _ | apply next_good | apply ite_good | apply iteR_good | apply iteP_good
        | apply iteO_good)
    | split
    | (with_reducible refine Good.mk' (Good.flat ?_))

theorem State_takeNonce_good {s0 : State} {a0 a1} (ha0 : Good s0 a0) : Good s0 (@State.takeNonce a0 a1).2 := by
  unfold State.takeNonce
  repeat' first
    | with_reducible (first
        | assumption | intro _ | apply State_updSession_good | apply next_good | apply ite_good | apply iteR_good
        | apply iteP_good | apply iteO_good)
    | split
    | (with_reducible refine Good.mk' (Good.flat ?_))

theorem State_updSub_good {s0 : State} {a0 a1 a2} (ha0 : Good s0 a0) : Good s0 (@State.updSub a0 a1 a2) := by
  unfold State.updSub
  repeat' first
    | with_reducible (first
        | assumption | intro _ | apply next_good | apply ite_good | apply iteR_good | apply iteP_good
        | apply iteO_good)
    | split
    | (with_reducible refine Good.mk' (Good.flat ?_))

theorem State_sendEvent_good {s0 : State} {a0 a1 a2 a3 a4} (ha0 : Good s0 a0) :
    Good s0 (@State.sendEvent a0 a1 a2 a3 a4) := by
  unfold State.sendEvent
  repeat' first
    | with_reducible (first
        | assumption | intro _ | apply State_takeNonce_good | apply emit_good | apply State_sendOwn_good
        | apply next_good | apply ite_good | apply iteR_good | apply iteP_good | apply iteO_good)
    | split
    | (with_reducible refine Good.mk' (Good.flat ?_))

theorem State_sendEvents_good {s0 : State} {a0 a1 a2} (ha0 : Good s0 a0) : Good s0 (@State.sendEvents a0 a1 a2) := by
  unfold State.sendEvents
  repeat' first
    | with_reducible (first
        | assumption | intro _ | apply State_sendEvent_good | apply State_updSub_good | apply next_good
        | apply ite_good | apply iteR_good | apply iteP_good | apply iteO_good)
    | split
    | (with_reducible refine Good.mk' (Good.flat ?_))

theorem State_flushSub_good {s0 : State} {n ch s} (h : Good s0 s) : Good s0 (State.flushSub n s ch) := by
  induction n generalizing s with
  | zero => exact h
  | succ n ih =>
    unfold State.flushSub
    split
    · exact ite_good h (ih (State_sendEvents_good h))
    · exact h

theorem State_flushAll_good {s0 : State} {a0} (ha0 : Good s0 a0) : Good s0 (@State.flushAll a0) := by
  unfold State.flushAll
  repeat' first
    | with_reducible (first
        | assumption | intro _ | apply State_flushSub_good | apply each_good | apply next_good | apply ite_good
        | apply iteR_good | apply iteP_good | apply iteO_good)
    | split
    | (with_reducible refine Good.mk' (Good.flat ?_))

theorem State_offerTo_good {s0 : State} {a0 a1 a2} (ha0 : Good s0 a0) : Good s0 (@State.offerTo a0 a1 a2) := by
  unfold State.offerTo
  repeat' first
    | with_reducible (first
        | assumption | intro _ | apply addCtr_good | apply State_updSub_good | apply next_good | apply ite_good
        | apply iteR_good | apply iteP_good | apply iteO_good)
    | split
    | (with_reducible refine Good.mk' (Good.flat ?_))

theorem State_deliver_good {s0 : State} {a0 a1} (ha0 : Good s0 a0) : Good s0 (@State.deliver a0 a1) := by
  unfold State.deliver
  repeat' first
    | with_reducible (first
        | assumption | intro _ | apply wr_good | apply State_flushAll_good | apply State_offerTo_good
        | apply foldl_good | apply next_good | apply ite_good | apply iteR_good | apply iteP_good | apply iteO_good)
    | split
    | (with_reducible refine Good.mk' (Good.flat ?_))

theorem State_logEvent_good {s0 : State} {a0 a1 a2} (ha0 : Good s0 a0) : Good s0 (@State.logEvent a0 a1 a2) := by
  unfold State.logEvent
  repeat' first
    | with_reducible (first
        | assumption | intro _ | apply State_updDie_good | apply next_good | apply ite_good | apply iteR_good
        | apply iteP_good | apply iteO_good)
    | split
    | (with_reducible refine Good.mk' (Good.flat ?_))

theorem State_raiseAt_good {s0 : State} {a0 a1 a2 a3 a4} (ha0 : Good s0 a0) :
    Good s0 (@State.raiseAt a0 a1 a2 a3 a4) := by
  unfold State.raiseAt
  repeat' first
    | with_reducible (first
        | assumption | intro _ | apply State_deliver_good | apply wr_good | apply State_logEvent_good
        | apply addCtr_good | apply next_good | apply ite_good | apply iteR_good | apply iteP_good | apply iteO_good)
    | split
    | (with_reducible refine Good.mk' (Good.flat ?_))

theorem State_raise_good {s0 : State} {a0 a1 a2 a3} (ha0 : Good s0 a0) : Good s0 (@State.raise a0 a1 a2 a3) := by
  unfold State.raise
  repeat' first
    | with_reducible (first
        | assumption | intro _ | apply State_raiseAt_good | apply next_good | apply ite_good | apply iteR_good
        | apply iteP_good | apply iteO_good)
    | split
    | (with_reducible refine Good.mk' (Good.flat ?_))

theorem State_raiseLane_good {s0 : State} {a0 a1 a2} (ha0 : Good s0 a0) : Good s0 (@State.raiseLane a0 a1 a2) := by
  unfold State.raiseLane
  repeat' first
    | with_reducible (first
        | assumption | intro _ | apply State_raise_good | apply next_good | apply ite_good | apply iteR_good
        | apply iteP_good | apply iteO_good)
    | split
    | (with_reducible refine Good.mk' (Good.flat ?_))

theorem State_raisePkg_good {s0 : State} {a0 a1 a2} (ha0 : Good s0 a0) : Good s0 (@State.raisePkg a0 a1 a2) := by
  unfold State.raisePkg
  repeat' first
    | with_reducible (first
        | assumption | intro _ | apply State_deliver_good | apply State_logEvent_good | apply addCtr_good
        | apply next_good | apply ite_good | apply iteR_good | apply iteP_good | apply iteO_good)
    | split
    | (with_reducible refine Good.mk' (Good.flat ?_))

theorem State_condition_good {s0 : State} {a0 a1 a2 a3 a4} (ha0 : Good s0 a0) :
    Good s0 (@State.condition a0 a1 a2 a3 a4) := by
  unfold State.condition
  repeat' first
    | with_reducible (first
        | assumption | intro _ | apply wr_good | apply State_raiseLane_good | apply next_good | apply ite_good
        | apply iteR_good | apply iteP_good | apply iteO_good)
    | split
    | (with_reducible refine Good.mk' (Good.flat ?_))

theorem Res_state_good {s0 : State} {a0} (ha0 : Good s0 a0.state) : Good s0 (@Res.state a0) := by
  unfold Res.state
  repeat' first
    | with_reducible (first
        | assumption | intro _ | apply next_good | apply ite_good | apply iteR_good | apply iteP_good
        | apply iteO_good)
    | split
    | (with_reducible refine Good.mk' (Good.flat ?_))

theorem Res_ok_good {s0 : State} {a0} (ha0 : Good s0 a0) : Good s0 (@Res.ok a0).state := by
  unfold Res.ok
  repeat' first
    | with_reducible (first
        | assumption | intro _ | apply next_good | apply ite_good | apply iteR_good | apply iteP_good
        | apply iteO_good)
    | split
    | (with_reducible refine Good.mk' (Good.flat ?_))

theorem Res_okWith_good {s0 : State} {a0 a1} (ha0 : Good s0 a0) : Good s0 (@Res.okWith a0 a1).state := by
  unfold Res.okWith
  repeat' first
    | with_reducible (first
        | assumption | intro _ | apply next_good | apply ite_good | apply iteR_good | apply iteP_good
        | apply iteO_good)
    | split
    | (with_reducible refine Good.mk' (Good.flat ?_))

theorem Res_fail_good {s0 : State} {a0 a1} (ha1 : Good s0 a1) : Good s0 (@Res.fail a0 a1).state := by
  unfold Res.fail
  repeat' first
    | with_reducible (first
        | assumption | intro _ | apply next_good | apply ite_good | apply iteR_good | apply iteP_good
        | apply iteO_good)
    | split
    | (with_reducible refine Good.mk' (Good.flat ?_))

theorem Res_badParam_good {s0 : State} {a0 a1} (ha1 : Good s0 a1) : Good s0 (@Res.badParam a0 a1).state := by
  unfold Res.badParam
  repeat' first
    | with_reducible (first
        | assumption | intro _ | apply next_good | apply ite_good | apply iteR_good | apply iteP_good
        | apply iteO_good)
    | split
    | (with_reducible refine Good.mk' (Good.flat ?_))

theorem Res_pending_good {s0 : State} {a0 a1} (ha1 : Good s0 a1) : Good s0 (@Res.pending a0 a1).state := by
  unfold Res.pending
  repeat' first
    | with_reducible (first
        | assumption | intro _ | apply next_good | apply ite_good | apply iteR_good | apply iteP_good
        | apply iteO_good)
    | split
    | (with_reducible refine Good.mk' (Good.flat ?_))

theorem State_auditOwn_good {s0 : State} {a0 a1 a2} (ha0 : Good s0 a0) : Good s0 (@State.auditOwn a0 a1 a2) := by
  unfold State.auditOwn
  repeat' first
    | exact fun _ => rfl
    | with_reducible (first
        | assumption | intro _ | apply State_addAudit_good | apply next_good | apply ite_good | apply iteR_good
        | apply iteP_good | apply iteO_good)
    | split
    | (with_reducible refine Good.mk' (Good.flat ?_))

theorem State_auditCode_good {s0 : State} {a0 a1 a2 a3 a4 a5 a6} (ha0 : Good s0 a0) :
    Good s0 (@State.auditCode a0 a1 a2 a3 a4 a5 a6) := by
  unfold State.auditCode
  repeat' first
    | exact fun _ => rfl
    | with_reducible (first
        | assumption | intro _ | apply State_addAudit_good | apply next_good | apply ite_good | apply iteR_good
        | apply iteP_good | apply iteO_good)
    | split
    | (with_reducible refine Good.mk' (Good.flat ?_))

theorem State_auditReq_good {s0 : State} {a0 a1 a2 a3 a4 a5 a6} (ha0 : Good s0 a0) :
    Good s0 (@State.auditReq a0 a1 a2 a3 a4 a5 a6) := by
  unfold State.auditReq
  repeat' first
    | with_reducible (first
        | assumption | intro _ | apply State_auditCode_good | apply next_good | apply ite_good | apply iteR_good
        | apply iteP_good | apply iteO_good)
    | split
    | (with_reducible refine Good.mk' (Good.flat ?_))

theorem State_takeEther_good {s0 : State} {a0} (ha0 : Good s0 a0) : Good s0 (@State.takeEther a0) := by
  unfold State.takeEther
  repeat' first
    | with_reducible (first
        | assumption | intro _ | apply next_good | apply ite_good | apply iteR_good | apply iteP_good
        | apply iteO_good)
    | split
    | (with_reducible refine Good.mk' (Good.flat ?_))

theorem State_sendReplyPacket_good {s0 : State} {a0 a1 a2 a3 a4 a5} (ha0 : Good s0 a0) :
    Good s0 (@State.sendReplyPacket a0 a1 a2 a3 a4 a5) := by
  unfold State.sendReplyPacket
  repeat' first
    | with_reducible (first
        | assumption | intro _ | apply State_takeNonce_good | apply State_sendOwn_good | apply emit_good
        | apply State_takeEther_good | apply next_good | apply ite_good | apply iteR_good | apply iteP_good
        | apply iteO_good)
    | split
    | (with_reducible refine Good.mk' (Good.flat ?_))

theorem State_sendChunks_good {s0 : State} {r opcode n all at_ fuel s} (h : Good s0 s) :
    Good s0 (State.sendChunks r opcode n all fuel at_ s) := by
  induction fuel generalizing at_ s with
  | zero => exact h
  | succ fuel ih =>
    unfold State.sendChunks
    repeat' first
      | with_reducible (first
          | assumption | intro _ | apply ih | apply State_sendReplyPacket_good | apply ite_good)

theorem State_sendReply_good {s0 : State} {a0 a1 a2 a3} (ha0 : Good s0 a0) :
    Good s0 (@State.sendReply a0 a1 a2 a3) := by
  unfold State.sendReply
  repeat' first
    | with_reducible (first
        | assumption | intro _ | apply State_sendReplyPacket_good | apply State_fresh_good
        | apply State_sendChunks_good | apply next_good | apply ite_good | apply iteR_good | apply iteP_good
        | apply iteO_good)
    | split
    | (with_reducible refine Good.mk' (Good.flat ?_))

theorem State_mirrorNow_good {s0 : State} {a0} (ha0 : Good s0 a0) : Good s0 (@State.mirrorNow a0) := by
  unfold State.mirrorNow
  repeat' first
    | with_reducible (first
        | assumption | intro _ | apply next_good | apply ite_good | apply iteR_good | apply iteP_good
        | apply iteO_good)
    | split
    | (with_reducible refine Good.mk' (Good.flat ?_))

theorem State_replyCached_good {s0 : State} {a0 a1 a2 a3} (ha0 : Good s0 a0) :
    Good s0 (@State.replyCached a0 a1 a2 a3) := by
  unfold State.replyCached
  repeat' first
    | with_reducible (first
        | assumption | intro _ | apply State_sendReply_good | apply State_mirrorNow_good
        | apply State_updSession_good | apply next_good | apply ite_good | apply iteR_good | apply iteP_good
        | apply iteO_good)
    | split
    | (with_reducible refine Good.mk' (Good.flat ?_))

theorem State_countDropped_good {s0 : State} {a0 a1} (ha0 : Good s0 a0) : Good s0 (@State.countDropped a0 a1) := by
  unfold State.countDropped
  repeat' first
    | with_reducible (first
        | assumption | intro _ | apply State_cnt_good | apply next_good | apply ite_good | apply iteR_good
        | apply iteP_good | apply iteO_good)
    | split
    | (with_reducible refine Good.mk' (Good.flat ?_))

theorem State_countMalformed_good {s0 : State} {a0 a1} (ha0 : Good s0 a0) :
    Good s0 (@State.countMalformed a0 a1) := by
  unfold State.countMalformed
  repeat' first
    | with_reducible (first
        | assumption | intro _ | apply State_cnt_good | apply next_good | apply ite_good | apply iteR_good
        | apply iteP_good | apply iteO_good)
    | split
    | (with_reducible refine Good.mk' (Good.flat ?_))

theorem State_auditStaged_good {s0 : State} {a0 a1 a2 a3} (ha0 : Good s0 a0) :
    Good s0 (@State.auditStaged a0 a1 a2 a3) := by
  unfold State.auditStaged
  repeat' first
    | with_reducible (first
        | assumption | intro _ | apply State_auditCode_good | apply foldl_good | apply next_good | apply ite_good
        | apply iteR_good | apply iteP_good | apply iteO_good)
    | split
    | (with_reducible refine Good.mk' (Good.flat ?_))

theorem State_rollback_good {s0 : State} {a0 a1} (ha0 : Good s0 a0) : Good s0 (@State.rollback a0 a1) := by
  unfold State.rollback
  repeat' first
    | with_reducible (first
        | assumption | intro _ | apply State_fresh_good | apply State_updSession_good | apply State_auditStaged_good
        | apply next_good | apply ite_good | apply iteR_good | apply iteP_good | apply iteO_good)
    | split
    | (with_reducible refine Good.mk' (Good.flat ?_))

theorem State_expireClaims_good {s0 : State} {a0 a1} (ha0 : Good s0 a0) : Good s0 (@State.expireClaims a0 a1) := by
  unfold State.expireClaims
  repeat' first
    | with_reducible (first
        | assumption | intro _ | apply State_updSession_good | apply State_rollback_good | apply State_raisePkg_good
        | apply State_cntPkg_good | apply foldl_good | apply next_good | apply ite_good | apply iteR_good
        | apply iteP_good | apply iteO_good)
    | split
    | (with_reducible refine Good.mk' (Good.flat ?_))

theorem State_renew_good {s0 : State} {a0 a1} (ha0 : Good s0 a0) : Good s0 (@State.renew a0 a1) := by
  unfold State.renew
  repeat' first
    | with_reducible (first
        | assumption | intro _ | apply State_updSession_good | apply next_good | apply ite_good | apply iteR_good
        | apply iteP_good | apply iteO_good)
    | split
    | (with_reducible refine Good.mk' (Good.flat ?_))

theorem State_doom_good {s0 : State} {a0 a1 a2 a3} (ha0 : Good s0 a0) : Good s0 (@State.doom a0 a1 a2 a3) := by
  unfold State.doom
  repeat' first
    | with_reducible (first
        | assumption | intro _ | apply State_updSession_good | apply next_good | apply ite_good | apply iteR_good
        | apply iteP_good | apply iteO_good)
    | split
    | (with_reducible refine Good.mk' (Good.flat ?_))

theorem State_stageCommand_good {s0 : State} {a0 a1 a2 a3 a4 a5} (ha0 : Good s0 a0) :
    Good s0 (@State.stageCommand a0 a1 a2 a3 a4 a5).state := by
  unfold State.stageCommand
  repeat' first
    | with_reducible (first
        | assumption | intro _ | apply Res_fail_good | apply State_doom_good | apply Res_badParam_good
        | apply Res_ok_good | apply State_updSession_good | apply next_good | apply ite_good | apply iteR_good
        | apply iteP_good | apply iteO_good)
    | split
    | (with_reducible refine Good.mk' (Good.flat ?_))

theorem State_endSub_good {s0 : State} {a0 a1} (ha0 : Good s0 a0) : Good s0 (@State.endSub a0 a1) := by
  unfold State.endSub
  repeat' first
    | with_reducible (first
        | assumption | intro _ | apply State_flushAll_good | apply next_good | apply ite_good | apply iteR_good
        | apply iteP_good | apply iteO_good)
    | split
    | (with_reducible refine Good.mk' (Good.flat ?_))

theorem State_endSession_good {s0 : State} {a0 a1} (ha0 : Good s0 a0) : Good s0 (@State.endSession a0 a1) := by
  unfold State.endSession
  repeat' first
    | with_reducible (first
        | assumption | intro _ | apply State_rollback_good | apply State_endSub_good | apply next_good
        | apply ite_good | apply iteR_good | apply iteP_good | apply iteO_good)
    | split
    | (with_reducible refine Good.mk' (Good.flat ?_))

theorem State_expireDue_good {s0 : State} {a0} (ha0 : Good s0 a0) : Good s0 (@State.expireDue a0) := by
  unfold State.expireDue
  repeat' first
    | with_reducible (first
        | assumption | intro _ | apply State_endSession_good | apply State_expireClaims_good | apply foldl_good
        | apply next_good | apply ite_good | apply iteR_good | apply iteP_good | apply iteO_good)
    | split
    | (with_reducible refine Good.mk' (Good.flat ?_))

theorem State_conclude_good {s0 : State} {a0 a1 a2 a3 a4} (ha4 : Good s0 a4.state) :
    Good s0 (@State.conclude a0 a1 a2 a3 a4) := by
  unfold State.conclude
  repeat' first
    | with_reducible (first
        | assumption | intro _ | apply Res_state_good | apply State_auditReq_good | apply State_cntPkg_good
        | apply State_replyCached_good | apply next_good | apply ite_good | apply iteR_good | apply iteP_good
        | apply iteO_good)
    | split
    | (with_reducible refine Good.mk' (Good.flat ?_))

theorem State_dequeue_good {s0 : State} {a0 a1} (ha0 : Good s0 a0) : Good s0 (@State.dequeue a0 a1) := by
  unfold State.dequeue
  repeat' first
    | with_reducible (first
        | assumption | intro _ | apply next_good | apply ite_good | apply iteR_good | apply iteP_good
        | apply iteO_good)
    | split
    | (with_reducible refine Good.mk' (Good.flat ?_))

theorem Slostan_execute_good {s0 s : State} {r c i body x} (hb : ∀ r x s, Good s0 s → Good s0 (body r x s).state)
    (h : Good s0 s) : Good s0 (Slostan.execute r c i body x s) := by
  unfold Slostan.execute
  split
  · refine State_conclude_good (ite_good (State_doom_good h) h)
  · extract_lets s1
    have h1 : Good s0 s1 := State_renew_good h
    clear_value s1
    split
    · extract_lets s2
      have h2 : Good s0 s2 := ite_good (State_updSession_good (State_rollback_good h1)) h1
      clear_value s2
      exact State_conclude_good (ite_good (State_doom_good h2) h2)
    · split
      · exact State_conclude_good (State_stageCommand_good h1)
      · split
        · exact State_conclude_good h1
        · refine ite_good (State_conclude_good h1) (ite_good (State_conclude_good h1) (State_conclude_good (hb _ _ _ (State_cntPkg_good h1))))

theorem State_refuseOpcode_good {s0 : State} {a0 a1 a2 a3} (ha0 : Good s0 a0) :
    Good s0 (@State.refuseOpcode a0 a1 a2 a3) := by
  unfold State.refuseOpcode
  repeat' first
    | with_reducible (first
        | assumption | intro _ | apply State_replyCached_good | apply State_doom_good | apply next_good
        | apply ite_good | apply iteR_good | apply iteP_good | apply iteO_good)
    | split
    | (with_reducible refine Good.mk' (Good.flat ?_))

theorem State_doomEarly_good {s0 : State} {a0 a1 a2 a3 a4} (ha0 : Good s0 a0) :
    Good s0 (@State.doomEarly a0 a1 a2 a3 a4) := by
  unfold State.doomEarly
  repeat' first
    | with_reducible (first
        | assumption | intro _ | apply State_doom_good | apply next_good | apply ite_good | apply iteR_good
        | apply iteP_good | apply iteO_good)
    | split
    | (with_reducible refine Good.mk' (Good.flat ?_))

theorem Slostan_take_good {s0 s : State} {r code} {k : Session → State → State} (hk : ∀ x s, Good s0 s → Good s0 (k x s))
    (h : Good s0 s) : Good s0 (Slostan.take r code k s) := by
  unfold Slostan.take
  extract_lets s1 s2
  have h1 : Good s0 s1 := State_dequeue_good h
  have h2 : Good s0 s2 := State_expireDue_good h1
  clear_value s2
  clear_value s1
  refine ite_good h1 ?_
  split
  · exact ite_good (State_sendReply_good h2) (State_countDropped_good h2)
  · refine ite_good (State_countDropped_good h2) ?_
    split
    · exact State_sendReply_good (State_doomEarly_good h2)
    · split
      · exact State_sendReply_good h2
      · exact State_sendReply_good (State_cntPkg_good (State_doomEarly_good h2))
      · exact hk _ _ (State_updSession_good h2)

theorem State_drainUndefined_good {s0 : State} {n s} (h : Good s0 s) : Good s0 (State.drainUndefined n s) := by
  induction n generalizing s with
  | zero => exact h
  | succ n ih =>
    unfold State.drainUndefined
    split
    · exact ite_good h (ih (Slostan_take_good (fun _ _ h => State_refuseOpcode_good h) h))
    · exact h

theorem State_atHead_good {s0 : State} {a0 a1} (ha0 : Good s0 a0) : Good s0 (@State.atHead a0 a1) := by
  unfold State.atHead
  repeat' first
    | with_reducible (first
        | assumption | intro _ | apply State_drainUndefined_good | apply next_good | apply ite_good
        | apply iteR_good | apply iteP_good | apply iteO_good)
    | split
    | (with_reducible refine Good.mk' (Good.flat ?_))

theorem Slostan_receive_good {s0 s : State} {r code} {k : Session → State → State} (hk : ∀ x s, Good s0 s → Good s0 (k x s))
    (h : Good s0 s) : Good s0 (Slostan.receive r code k s) := by
  unfold Slostan.receive
  extract_lets s1
  have h1 : Good s0 s1 := State_atHead_good h
  clear_value s1
  exact ite_good (Slostan_take_good hk h1) h1

theorem Slostan_run_good {s0 s : State} {r c i body} (hb : ∀ r x s, Good s0 s → Good s0 (body r x s).state)
    (h : Good s0 s) : Good s0 (Slostan.run r c i body s) :=
  Slostan_receive_good (fun _ _ h => Slostan_execute_good hb h) h

theorem Slostan_run0_good {s0 s : State} {r code body} (hb : ∀ r s, Good s0 s → Good s0 (body r s).state)
    (h : Good s0 s) : Good s0 (Slostan.run0 r code body s) := by
  unfold Slostan.run0
  extract_lets s1 s2 q
  have h1 : Good s0 s1 := State_atHead_good h
  split
  · exact h1
  have h2 : Good s0 s2 := State_dequeue_good h1
  refine ite_good h2 ?_
  split
  · exact State_sendReply_good h2
  · exact State_sendReply_good h2
  · refine ite_good (State_sendReply_good h2) ?_
    exact State_sendReply_good (hb _ _ (State_cntPkg_good h2))

theorem State_finalReply_good {s0 : State} {a0 a1 a2} (ha0 : Good s0 a0) (ha2 : Good s0 a2.state) :
    Good s0 (@State.finalReply a0 a1 a2) := by
  unfold State.finalReply
  repeat' first
    | with_reducible (first
        | assumption | intro _ | apply State_auditReq_good | apply State_replyCached_good | apply next_good
        | apply ite_good | apply iteR_good | apply iteP_good | apply iteO_good)
    | split
    | (with_reducible refine Good.mk' (Good.flat ?_))

theorem State_finishPend_good {s0 : State} {a0 a1 a2 a3} (ha0 : Good s0 a0) :
    Good s0 (@State.finishPend a0 a1 a2 a3) := by
  unfold State.finishPend
  repeat' first
    | with_reducible (first
        | assumption | intro _ | apply State_finalReply_good | apply next_good | apply ite_good | apply iteR_good
        | apply iteP_good | apply iteO_good)
    | split
    | (with_reducible refine Good.mk' (Good.flat ?_))

theorem State_endAllSessions_good {s0 : State} {a0} (ha0 : Good s0 a0) : Good s0 (@State.endAllSessions a0) := by
  unfold State.endAllSessions
  repeat' first
    | with_reducible (first
        | assumption | intro _ | apply next_good | apply ite_good | apply iteR_good | apply iteP_good
        | apply iteO_good)
    | split
    | (with_reducible refine Good.mk' (Good.flat ?_))

end Sys2Proof.Machine
end

