-- ==== Sys2Proof/Laws/KeepsServices.lean ====
section
/-! SUPPORT. A sound state stays sound, and takes back nothing, through every operation and command of:
sideband, telemetry, lifecycle and sessions. Proved alike for each operation, from the lemmas of those it calls. -/

namespace Sys2Proof.Machine

theorem regGuard_good {s0 s : State} {d b w q} (h : Good s0 s) (hq : Good s0 q.state) :
    Good s0 (regGuard d b w s q).state := by
  unfold regGuard
  split
  · exact h
  · exact hq

theorem State_sbQueue_good {s0 : State} {a0 a1 a2 a3 a4 a5} (ha0 : Good s0 a0) :
    Good s0 (@State.sbQueue a0 a1 a2 a3 a4 a5) := by
  unfold State.sbQueue
  repeat' first
    | with_reducible (first
        | assumption | intro _ | apply State_updDie_good | apply next_good | apply ite_good | apply iteR_good
        | apply iteP_good | apply iteO_good)
    | split
    | (with_reducible refine Good.mk' (Good.flat ?_))

theorem State_sbPush_good {s0 : State} {a0 a1 a2 a3 a4} (ha0 : Good s0 a0) :
    Good s0 (@State.sbPush a0 a1 a2 a3 a4) := by
  unfold State.sbPush
  repeat' first
    | with_reducible (first
        | assumption | intro _ | apply State_sbQueue_good | apply next_good | apply ite_good | apply iteR_good
        | apply iteP_good | apply iteO_good)
    | split
    | (with_reducible refine Good.mk' (Good.flat ?_))

theorem State_mbSet_good {s0 : State} {a0 a1 a2 a3 a4 a5} (ha0 : Good s0 a0) :
    Good s0 (@State.mbSet a0 a1 a2 a3 a4 a5) := by
  unfold State.mbSet
  repeat' first
    | with_reducible (first
        | assumption | intro _ | apply next_good | apply ite_good | apply iteR_good | apply iteP_good
        | apply iteO_good)
    | split
    | (with_reducible refine Good.mk' (Good.flat ?_))

theorem State_mbAckSend_good {s0 : State} {a0 a1 a2 a3 a4 a5} (ha0 : Good s0 a0) :
    Good s0 (@State.mbAckSend a0 a1 a2 a3 a4 a5) := by
  unfold State.mbAckSend
  repeat' first
    | with_reducible (first
        | assumption | intro _ | apply State_sbPush_good | apply next_good | apply ite_good | apply iteR_good
        | apply iteP_good | apply iteO_good)
    | split
    | (with_reducible refine Good.mk' (Good.flat ?_))

theorem State_secViol_good {s0 : State} {a0 a1} (ha0 : Good s0 a0) : Good s0 (@State.secViol a0 a1) := by
  unfold State.secViol
  repeat' first
    | with_reducible (first
        | assumption | intro _ | apply wr_good | apply State_cnt_good | apply next_good | apply ite_good
        | apply iteR_good | apply iteP_good | apply iteO_good)
    | split
    | (with_reducible refine Good.mk' (Good.flat ?_))

theorem State_mbOutcome_good {s0 : State} {a0 a1 a2 a3 a4 a5} (ha0 : Good s0 a0) :
    Good s0 (@State.mbOutcome a0 a1 a2 a3 a4 a5) := by
  unfold State.mbOutcome
  repeat' first
    | with_reducible (first
        | assumption | intro _ | apply State_mbAckSend_good | apply wr_good | apply next_good | apply ite_good
        | apply iteR_good | apply iteP_good | apply iteO_good)
    | split
    | (with_reducible refine Good.mk' (Good.flat ?_))

theorem State_mbStore_good {s0 : State} {a0 a1 a2 a3 a4 a5} (ha0 : Good s0 a0) :
    Good s0 (@State.mbStore a0 a1 a2 a3 a4 a5) := by
  unfold State.mbStore
  repeat' first
    | with_reducible (first
        | assumption | intro _ | apply State_mbOutcome_good | apply State_cnt_good | apply State_mbSet_good
        | apply next_good | apply ite_good | apply iteR_good | apply iteP_good | apply iteO_good)
    | split
    | (with_reducible refine Good.mk' (Good.flat ?_))

theorem State_mbWord_good {s0 : State} {a0 a1 a2 a3 a4 a5 a6 a7 a8} (ha0 : Good s0 a0) :
    Good s0 (@State.mbWord a0 a1 a2 a3 a4 a5 a6 a7 a8) := by
  unfold State.mbWord
  repeat' first
    | with_reducible (first
        | assumption | intro _ | apply State_secViol_good | apply State_mbStore_good | apply next_good
        | apply ite_good | apply iteR_good | apply iteP_good | apply iteO_good)
    | split
    | (with_reducible refine Good.mk' (Good.flat ?_))

theorem State_mbQueue_good {s0 : State} {a0 a1 a2 a3 a4} (ha0 : Good s0 a0) :
    Good s0 (@State.mbQueue a0 a1 a2 a3 a4) := by
  unfold State.mbQueue
  repeat' first
    | with_reducible (first
        | assumption | intro _ | apply State_updDie_good | apply State_sbQueue_good | apply next_good
        | apply ite_good | apply iteR_good | apply iteP_good | apply iteO_good)
    | split
    | (with_reducible refine Good.mk' (Good.flat ?_))

theorem State_afterGrant_good {s0 : State} {a0 a1 a2 a3} (ha0 : Good s0 a0) :
    Good s0 (@State.afterGrant a0 a1 a2 a3) := by
  unfold State.afterGrant
  repeat' first
    | with_reducible (first
        | assumption | intro _ | apply State_updDie_good | apply next_good | apply ite_good | apply iteR_good
        | apply iteP_good | apply iteO_good)
    | split
    | (with_reducible refine Good.mk' (Good.flat ?_))

theorem State_slotBegins_good {s0 : State} {a0} (ha0 : Good s0 a0) : Good s0 (@State.slotBegins a0) := by
  unfold State.slotBegins
  repeat' first
    | with_reducible (first
        | assumption | intro _ | apply State_updDie_good | apply each_good | apply next_good | apply ite_good
        | apply iteR_good | apply iteP_good | apply iteO_good)
    | split
    | (with_reducible refine Good.mk' (Good.flat ?_))

theorem State_slotArrives_good {s0 : State} {a0 a1 a2 a3} (ha0 : Good s0 a0) :
    Good s0 (@State.slotArrives a0 a1 a2 a3) := by
  unfold State.slotArrives
  repeat' first
    | with_reducible (first
        | assumption | intro _ | apply State_mbWord_good | apply next_good | apply ite_good | apply iteR_good
        | apply iteP_good | apply iteO_good)
    | split
    | (with_reducible refine Good.mk' (Good.flat ?_))

theorem State_sendSlot_good {s0 : State} {a0 a1 a2 a3} (ha0 : Good s0 a0) :
    Good s0 (@State.sendSlot a0 a1 a2 a3) := by
  unfold State.sendSlot
  repeat' first
    | with_reducible (first
        | assumption | intro _ | apply State_fresh_good | apply State_slotArrives_good | apply emit_good
        | apply State_cnt_good | apply State_afterGrant_good | apply next_good | apply ite_good | apply iteR_good
        | apply iteP_good | apply iteO_good)
    | split
    | (with_reducible refine Good.mk' (Good.flat ?_))

theorem State_sbSlot_good {s0 : State} {a0 a1} (ha0 : Good s0 a0) : Good s0 (@State.sbSlot a0 a1) := by
  unfold State.sbSlot
  repeat' first
    | with_reducible (first
        | assumption | intro _ | apply State_slotBegins_good | apply State_updDie_good | apply State_cntPkg_good
        | apply State_sendSlot_good | apply each_good | apply next_good | apply ite_good | apply iteR_good
        | apply iteP_good | apply iteO_good)
    | split
    | (with_reducible refine Good.mk' (Good.flat ?_))

theorem State_sbDiscard_good {s0 : State} {a0 a1} (ha0 : Good s0 a0) : Good s0 (@State.sbDiscard a0 a1) := by
  unfold State.sbDiscard
  repeat' first
    | with_reducible (first
        | assumption | intro _ | apply wr_good | apply State_cnt_good | apply each_good | apply next_good
        | apply ite_good | apply iteR_good | apply iteP_good | apply iteO_good)
    | split
    | (with_reducible refine Good.mk' (Good.flat ?_))

theorem execSbSlotArbitration_good {s0 : State} {a0 a1} (ha1 : Good s0 a1) :
    GoodO s0 (@execSbSlotArbitration a0 a1) := by
  unfold execSbSlotArbitration
  repeat' first
    | with_reducible (first
        | assumption | intro _ | apply State_sbSlot_good | apply State_sbDiscard_good | apply next_good
        | apply ite_good | apply iteR_good | apply iteP_good | apply iteO_good)
    | split
    | (with_reducible refine Good.mk' (Good.flat ?_))

theorem State_takeSlot_good {s0 s t : State} {d e p m} (h : Good s0 s) (k : s.takeSlot d e p = some (m, t)) :
    Good s0 t := by
  unfold State.takeSlot at k
  split at k
  · cases k
  · cases k; exact Good.mk' h.flat

theorem State_markReq_good {s0 s t : State} {d p} (h : Good s0 s) (e : s.markReq d p = some t) : Good s0 t := by
  unfold State.markReq at e
  split at e
  · cases e
  · cases e; exact State_updDie_good h

theorem execSbDeadlineMissed_good {s0 : State} {d c s} (h : Good s0 s) : GoodO s0 (execSbDeadlineMissed d c s) := by
  unfold execSbDeadlineMissed
  split
  · rename_i e
    exact next_good (State_raise_good (wr_good _ _ _ (State_cnt_good (State_updDie_good (State_markReq_good h e)))))
  · exact next_good h

theorem execSbStarvation_good {s0 : State} {d c s} (h : Good s0 s) : GoodO s0 (execSbStarvation d c s) := by
  unfold execSbStarvation
  split
  · rename_i e
    exact next_good (State_raise_good (wr_good _ _ _ (State_cnt_good (State_updDie_good (State_markReq_good h e)))))
  · exact next_good h

theorem State_creditBack_good {s0 : State} {a0 a1 a2} (ha0 : Good s0 a0) : Good s0 (@State.creditBack a0 a1 a2) := by
  unfold State.creditBack
  repeat' first
    | with_reducible (first
        | assumption | intro _ | apply State_updDie_good | apply next_good | apply ite_good | apply iteR_good
        | apply iteP_good | apply iteO_good)
    | split
    | (with_reducible refine Good.mk' (Good.flat ?_))

theorem State_gotPart_good {s0 : State} {a0 a1 a2 a3} (ha0 : Good s0 a0) : Good s0 (@State.gotPart a0 a1 a2 a3) := by
  unfold State.gotPart
  repeat' first
    | with_reducible (first
        | assumption | intro _ | apply next_good | apply ite_good | apply iteR_good | apply iteP_good
        | apply iteO_good)
    | split
    | (with_reducible refine Good.mk' (Good.flat ?_))

theorem execSbRsp_good {s0 s : State} {a b c} (h : Good s0 s) : GoodO s0 (execSbRsp a b c s) := by
  unfold execSbRsp
  split
  · exact next_good h
  · rename_i m t e
    have h1 : Good s0 t := State_takeSlot_good h e
    refine iteO_good (next_good h1) ?_
    extract_lets t1 t2
    have h2 : Good s0 t1 := State_updDie_good h1
    clear_value t1
    have h3 : Good s0 t2 := by
      simp only [t2]
      split
      · exact State_gotPart_good h2
      · exact h2
    exact next_good (State_creditBack_good h3)

theorem execSbReqResend_good {s0 : State} {a0 a1 a2} (ha2 : Good s0 a2) : GoodO s0 (@execSbReqResend a0 a1 a2) := by
  unfold execSbReqResend
  repeat' first
    | with_reducible (first
        | assumption | intro _ | apply State_updDie_good | apply State_sbPush_good | apply State_cnt_good
        | apply State_creditBack_good | apply next_good | apply ite_good | apply iteR_good | apply iteP_good
        | apply iteO_good)
    | split
    | (with_reducible refine Good.mk' (Good.flat ?_))

theorem execMailboxPost_good {s0 : State} {a0 a1 a2 a3 a4 a5 a6} (ha6 : Good s0 a6) :
    GoodO s0 (@execMailboxPost a0 a1 a2 a3 a4 a5 a6) := by
  unfold execMailboxPost
  repeat' first
    | with_reducible (first
        | assumption | intro _ | apply State_mbQueue_good | apply State_secViol_good | apply State_mbStore_good
        | apply next_good | apply ite_good | apply iteR_good | apply iteP_good | apply iteO_good)
    | split
    | (with_reducible refine Good.mk' (Good.flat ?_))

theorem execMbAck_good {s0 s : State} {a b c d o} (h : Good s0 s) : GoodO s0 (execMbAck a b c d o s) := by
  unfold execMbAck
  split
  · exact next_good h
  · rename_i m t e
    have h1 : Good s0 t := State_takeSlot_good h e
    refine next_good ?_
    split
    · exact h1
    · exact wr_good _ _ _ (State_creditBack_good h1)
    · exact State_creditBack_good h1

theorem State_settleOwed_good {s0 : State} {a0} (ha0 : Good s0 a0) : Good s0 (@State.settleOwed a0) := by
  unfold State.settleOwed
  repeat' first
    | with_reducible (first
        | assumption | intro _ | apply State_wrB_good | apply each_good | apply next_good | apply ite_good
        | apply iteR_good | apply iteP_good | apply iteO_good)
    | split
    | (with_reducible refine Good.mk' (Good.flat ?_))

theorem State_mbReset_good {s0 : State} {a0 a1 a2} (ha0 : Good s0 a0) : Good s0 (@State.mbReset a0 a1 a2) := by
  unfold State.mbReset
  repeat' first
    | with_reducible (first
        | assumption | intro _ | apply wr_good | apply State_cntN_good | apply State_mbAckSend_good
        | apply State_settleOwed_good | apply foldl_good | apply next_good | apply ite_good | apply iteR_good
        | apply iteP_good | apply iteO_good)
    | split
    | (with_reducible refine Good.mk' (Good.flat ?_))

theorem execMailboxReceiverReset_good {s0 : State} {a0 a1 a2} (ha2 : Good s0 a2) :
    GoodO s0 (@execMailboxReceiverReset a0 a1 a2) := by
  unfold execMailboxReceiverReset
  repeat' first
    | with_reducible (first
        | assumption | intro _ | apply State_mbReset_good | apply next_good | apply ite_good | apply iteR_good
        | apply iteP_good | apply iteO_good)
    | split
    | (with_reducible refine Good.mk' (Good.flat ?_))

theorem execMbMutualFull_good {s0 : State} {a0 a1 a2 a3 a4} (ha4 : Good s0 a4) :
    GoodO s0 (@execMbMutualFull a0 a1 a2 a3 a4) := by
  unfold execMbMutualFull
  repeat' first
    | with_reducible (first
        | assumption | intro _ | apply State_raise_good | apply wr_good | apply State_settleOwed_good
        | apply each_good | apply next_good | apply ite_good | apply iteR_good | apply iteP_good | apply iteO_good)
    | split
    | (with_reducible refine Good.mk' (Good.flat ?_))

theorem execMailboxMessageRead_good {s0 : State} {a0 a1 a2 a3 a4} (ha4 : Good s0 a4) :
    GoodO s0 (@execMailboxMessageRead a0 a1 a2 a3 a4) := by
  unfold execMailboxMessageRead
  repeat' first
    | with_reducible (first
        | assumption | intro _ | apply State_settleOwed_good | apply State_mbSet_good | apply next_good
        | apply ite_good | apply iteR_good | apply iteP_good | apply iteO_good)
    | split
    | (with_reducible refine Good.mk' (Good.flat ?_))

theorem State_chooseSuccessor_good {s0 : State} {a0} (ha0 : Good s0 a0) : Good s0 (@State.chooseSuccessor a0) := by
  unfold State.chooseSuccessor
  repeat' first
    | with_reducible (first
        | assumption | intro _ | apply wr_good | apply State_mirrorNow_good | apply next_good | apply ite_good
        | apply iteR_good | apply iteP_good | apply iteO_good)
    | split
    | (with_reducible refine Good.mk' (Good.flat ?_))

theorem State_markUnhealthy_good {s0 : State} {a0 a1 a2} (ha0 : Good s0 a0) :
    Good s0 (@State.markUnhealthy a0 a1 a2) := by
  unfold State.markUnhealthy
  repeat' first
    | with_reducible (first
        | assumption | intro _ | apply State_setHealthy_good | apply State_raiseAt_good
        | apply State_chooseSuccessor_good | apply next_good | apply ite_good | apply iteR_good | apply iteP_good
        | apply iteO_good)
    | split
    | (with_reducible refine Good.mk' (Good.flat ?_))

theorem execHeartbeat_good {s0 : State} {a0 a1} (ha1 : Good s0 a1) : GoodO s0 (@execHeartbeat a0 a1) := by
  unfold execHeartbeat
  repeat' first
    | with_reducible (first
        | assumption | intro _ | apply State_updDie_good | apply State_sbPush_good | apply next_good
        | apply ite_good | apply iteR_good | apply iteP_good | apply iteO_good)
    | split
    | (with_reducible refine Good.mk' (Good.flat ?_))

theorem execSbSafetyBroadcast_good {s0 : State} {a0 a1 a2} (ha2 : Good s0 a2) :
    GoodO s0 (@execSbSafetyBroadcast a0 a1 a2) := by
  unfold execSbSafetyBroadcast
  repeat' first
    | with_reducible (first
        | assumption | intro _ | apply next_good | apply ite_good | apply iteR_good | apply iteP_good
        | apply iteO_good)
    | split
    | (with_reducible refine Good.mk' (Good.flat ?_))

theorem execMirror_good {s0 : State} {a0} (ha0 : Good s0 a0) : GoodO s0 (@execMirror a0) := by
  unfold execMirror
  repeat' first
    | with_reducible (first
        | assumption | intro _ | apply State_mirrorNow_good | apply next_good | apply ite_good | apply iteR_good
        | apply iteP_good | apply iteO_good)
    | split
    | (with_reducible refine Good.mk' (Good.flat ?_))

theorem State_d2dSend_good {s0 : State} {a0 a1 a2 a3 a4} (ha0 : Good s0 a0) :
    Good s0 (@State.d2dSend a0 a1 a2 a3 a4) := by
  unfold State.d2dSend
  repeat' first
    | with_reducible (first
        | assumption | intro _ | apply State_updDie_good | apply next_good | apply ite_good | apply iteR_good
        | apply iteP_good | apply iteO_good)
    | split
    | (with_reducible refine Good.mk' (Good.flat ?_))

theorem execD2dTransferReceive_good {s0 : State} {a0 a1 a2 a3} (ha3 : Good s0 a3) :
    GoodO s0 (@execD2dTransferReceive a0 a1 a2 a3) := by
  unfold execD2dTransferReceive
  repeat' first
    | with_reducible (first
        | assumption | intro _ | apply State_updDie_good | apply State_cnt_good | apply next_good | apply ite_good
        | apply iteR_good | apply iteP_good | apply iteO_good)
    | split
    | (with_reducible refine Good.mk' (Good.flat ?_))

theorem execD2dRetrain_good {s0 : State} {a0 a1 a2} (ha2 : Good s0 a2) : GoodO s0 (@execD2dRetrain a0 a1 a2) := by
  unfold execD2dRetrain
  repeat' first
    | with_reducible (first
        | assumption | intro _ | apply State_updDie_good | apply each_good | apply next_good | apply ite_good
        | apply iteR_good | apply iteP_good | apply iteO_good)
    | split
    | (with_reducible refine Good.mk' (Good.flat ?_))

theorem execD2dLinkUp_good {s0 : State} {a0 a1 a2} (ha2 : Good s0 a2) : GoodO s0 (@execD2dLinkUp a0 a1 a2) := by
  unfold execD2dLinkUp
  repeat' first
    | with_reducible (first
        | assumption | intro _ | apply State_setBit_good | apply each_good | apply next_good | apply ite_good
        | apply iteR_good | apply iteP_good | apply iteO_good)
    | split
    | (with_reducible refine Good.mk' (Good.flat ?_))

theorem applyArbSet_good {s0 : State} {a0 a1 a2 a3 a4} (ha4 : Good s0 a4) :
    Good s0 (@applyArbSet a0 a1 a2 a3 a4).state := by
  unfold applyArbSet
  repeat' first
    | with_reducible (first
        | assumption | intro _ | apply Res_ok_good | apply wr_good | apply each_good | apply foldl_good
        | apply next_good | apply ite_good | apply iteR_good | apply iteP_good | apply iteO_good)
    | split
    | (with_reducible refine Good.mk' (Good.flat ?_))

theorem execArbSet_good {s0 : State} {a0 a1 a2 a3} (ha3 : Good s0 a3) : GoodO s0 (@execArbSet a0 a1 a2 a3) := by
  unfold execArbSet
  repeat' first
    | with_reducible (first
        | assumption | intro _ | apply Slostan_run_good | apply applyArbSet_good | apply next_good | apply ite_good
        | apply iteR_good | apply iteP_good | apply iteO_good)
    | split
    | (with_reducible refine Good.mk' (Good.flat ?_))

theorem execArbStatusGet_good {s0 : State} {a0 a1} (ha1 : Good s0 a1) : GoodO s0 (@execArbStatusGet a0 a1) := by
  unfold execArbStatusGet
  repeat' first
    | with_reducible (first
        | assumption | intro _ | apply Slostan_run_good | apply Res_okWith_good | apply next_good | apply ite_good
        | apply iteR_good | apply iteP_good | apply iteO_good)
    | split
    | (with_reducible refine Good.mk' (Good.flat ?_))

theorem applyEventSubscribe_good {s0 : State} {a0 a1 a2 a3 a4 a5} (ha5 : Good s0 a5) :
    Good s0 (@applyEventSubscribe a0 a1 a2 a3 a4 a5).state := by
  unfold applyEventSubscribe
  repeat' first
    | with_reducible (first
        | assumption | intro _ | apply Res_ok_good | apply State_updSub_good | apply Res_fail_good | apply next_good
        | apply ite_good | apply iteR_good | apply iteP_good | apply iteO_good)
    | split
    | (with_reducible refine Good.mk' (Good.flat ?_))

theorem execEventSubscribe_good {s0 : State} {a0 a1 a2 a3 a4} (ha4 : Good s0 a4) :
    GoodO s0 (@execEventSubscribe a0 a1 a2 a3 a4) := by
  unfold execEventSubscribe
  repeat' first
    | with_reducible (first
        | assumption | intro _ | apply State_flushAll_good | apply Slostan_run_good | apply applyEventSubscribe_good
        | apply next_good | apply ite_good | apply iteR_good | apply iteP_good | apply iteO_good)
    | split
    | (with_reducible refine Good.mk' (Good.flat ?_))

theorem applyEventAck_good {s0 : State} {a0 a1 a2 a3} (ha3 : Good s0 a3) :
    Good s0 (@applyEventAck a0 a1 a2 a3).state := by
  unfold applyEventAck
  repeat' first
    | with_reducible (first
        | assumption | intro _ | apply Res_fail_good | apply Res_ok_good | apply State_updSub_good | apply next_good
        | apply ite_good | apply iteR_good | apply iteP_good | apply iteO_good)
    | split
    | (with_reducible refine Good.mk' (Good.flat ?_))

theorem execEventAck_good {s0 : State} {a0 a1 a2} (ha2 : Good s0 a2) : GoodO s0 (@execEventAck a0 a1 a2) := by
  unfold execEventAck
  repeat' first
    | with_reducible (first
        | assumption | intro _ | apply Slostan_run_good | apply applyEventAck_good | apply next_good
        | apply ite_good | apply iteR_good | apply iteP_good | apply iteO_good)
    | split
    | (with_reducible refine Good.mk' (Good.flat ?_))

theorem applyEventFilterSet_good {s0 : State} {a0 a1 a2 a3 a4 a5} (ha5 : Good s0 a5) :
    Good s0 (@applyEventFilterSet a0 a1 a2 a3 a4 a5).state := by
  unfold applyEventFilterSet
  repeat' first
    | with_reducible (first
        | assumption | intro _ | apply Res_fail_good | apply Res_ok_good | apply State_updSub_good | apply next_good
        | apply ite_good | apply iteR_good | apply iteP_good | apply iteO_good)
    | split
    | (with_reducible refine Good.mk' (Good.flat ?_))

theorem execEventFilterSet_good {s0 : State} {a0 a1 a2 a3 a4} (ha4 : Good s0 a4) :
    GoodO s0 (@execEventFilterSet a0 a1 a2 a3 a4) := by
  unfold execEventFilterSet
  repeat' first
    | with_reducible (first
        | assumption | intro _ | apply Slostan_run_good | apply applyEventFilterSet_good | apply next_good
        | apply ite_good | apply iteR_good | apply iteP_good | apply iteO_good)
    | split
    | (with_reducible refine Good.mk' (Good.flat ?_))

theorem applyEventUnsubscribe_good {s0 : State} {a0 a1 a2} (ha2 : Good s0 a2) :
    Good s0 (@applyEventUnsubscribe a0 a1 a2).state := by
  unfold applyEventUnsubscribe
  repeat' first
    | with_reducible (first
        | assumption | intro _ | apply Res_fail_good | apply Res_ok_good | apply State_endSub_good | apply next_good
        | apply ite_good | apply iteR_good | apply iteP_good | apply iteO_good)
    | split
    | (with_reducible refine Good.mk' (Good.flat ?_))

theorem execEventUnsubscribe_good {s0 : State} {a0 a1} (ha1 : Good s0 a1) :
    GoodO s0 (@execEventUnsubscribe a0 a1) := by
  unfold execEventUnsubscribe
  repeat' first
    | with_reducible (first
        | assumption | intro _ | apply Slostan_run_good | apply applyEventUnsubscribe_good | apply next_good
        | apply ite_good | apply iteR_good | apply iteP_good | apply iteO_good)
    | split
    | (with_reducible refine Good.mk' (Good.flat ?_))

theorem execEventNotify_good {s0 s : State} {r} (h : Good s0 s) : GoodO s0 (execEventNotify r s) :=
  next_good (Slostan_receive_good (fun _ _ h => State_replyCached_good h) h)

theorem execSafetyEventResend_good {s0 : State} {a0 a1 a2} (ha2 : Good s0 a2) :
    GoodO s0 (@execSafetyEventResend a0 a1 a2) := by
  unfold execSafetyEventResend
  repeat' first
    | with_reducible (first
        | assumption | intro _ | apply State_sendEvent_good | apply State_updSub_good | apply next_good
        | apply ite_good | apply iteR_good | apply iteP_good | apply iteO_good)
    | split
    | (with_reducible refine Good.mk' (Good.flat ?_))

theorem execCounterRead_good {s0 : State} {a0 a1 a2 a3} (ha3 : Good s0 a3) :
    GoodO s0 (@execCounterRead a0 a1 a2 a3) := by
  unfold execCounterRead
  repeat' first
    | with_reducible (first
        | assumption | intro _ | apply Slostan_run_good | apply Res_okWith_good | apply next_good | apply ite_good
        | apply iteR_good | apply iteP_good | apply iteO_good)
    | split
    | (with_reducible refine Good.mk' (Good.flat ?_))

theorem execTopdownRead_good {s0 : State} {a0 a1 a2} (ha2 : Good s0 a2) : GoodO s0 (@execTopdownRead a0 a1 a2) := by
  unfold execTopdownRead
  repeat' first
    | with_reducible (first
        | assumption | intro _ | apply Slostan_run_good | apply Res_okWith_good | apply next_good | apply ite_good
        | apply iteR_good | apply iteP_good | apply iteO_good)
    | split
    | (with_reducible refine Good.mk' (Good.flat ?_))

theorem execClearAll_good {s0 : State} {a0 a1 a2} (ha2 : Good s0 a2) : GoodO s0 (@execClearAll a0 a1 a2) := by
  unfold execClearAll
  repeat' first
    | with_reducible (first
        | assumption | intro _ | apply Slostan_run_good | apply regGuard_good | apply Res_ok_good
        | apply clearCounters_good | apply next_good | apply ite_good | apply iteR_good | apply iteP_good
        | apply iteO_good)
    | split
    | (with_reducible refine Good.mk' (Good.flat ?_))

theorem State_commitCounter_good {s0 : State} {a0 a1 a2} (ha0 : Good s0 a0) :
    Good s0 (@State.commitCounter a0 a1 a2) := by
  unfold State.commitCounter
  repeat' first
    | with_reducible (first
        | assumption | intro _ | apply setCtr_good | apply next_good | apply ite_good | apply iteR_good
        | apply iteP_good | apply iteO_good)
    | split
    | (with_reducible refine Good.mk' (Good.flat ?_))

theorem execCounterWriteCommit_good {s0 : State} {a0 a1 a2 a3} (ha3 : Good s0 a3) :
    GoodO s0 (@execCounterWriteCommit a0 a1 a2 a3) := by
  unfold execCounterWriteCommit
  repeat' first
    | with_reducible (first
        | assumption | intro _ | apply Slostan_run_good | apply regGuard_good | apply Res_ok_good
        | apply State_commitCounter_good | apply next_good | apply ite_good | apply iteR_good | apply iteP_good
        | apply iteO_good)
    | split
    | (with_reducible refine Good.mk' (Good.flat ?_))

theorem State_readLatLo_good {s0 : State} {a0 a1} (ha0 : Good s0 a0) : Good s0 (@State.readLatLo a0 a1).2 := by
  unfold State.readLatLo
  repeat' first
    | with_reducible (first
        | assumption | intro _ | apply State_wrB_good | apply wr_good | apply next_good | apply ite_good
        | apply iteR_good | apply iteP_good | apply iteO_good)
    | split
    | (with_reducible refine Good.mk' (Good.flat ?_))

theorem execCntLatLoRead_good {s0 : State} {a0 a1 a2} (ha2 : Good s0 a2) : GoodO s0 (@execCntLatLoRead a0 a1 a2) := by
  unfold execCntLatLoRead
  repeat' first
    | with_reducible (first
        | assumption | intro _ | apply Slostan_run_good | apply regGuard_good | apply Res_okWith_good
        | apply State_readLatLo_good | apply next_good | apply ite_good | apply iteR_good | apply iteP_good
        | apply iteO_good)
    | split
    | (with_reducible refine Good.mk' (Good.flat ?_))

theorem applyTagSet_good {s0 : State} {a0 a1 a2 a3 a4} (ha4 : Good s0 a4) :
    Good s0 (@applyTagSet a0 a1 a2 a3 a4).state := by
  unfold applyTagSet
  repeat' first
    | with_reducible (first
        | assumption | intro _ | apply Res_ok_good | apply next_good | apply ite_good | apply iteR_good
        | apply iteP_good | apply iteO_good)
    | split
    | (with_reducible refine Good.mk' (Good.flat ?_))

theorem execTagSet_good {s0 : State} {a0 a1 a2 a3} (ha3 : Good s0 a3) : GoodO s0 (@execTagSet a0 a1 a2 a3) := by
  unfold execTagSet
  repeat' first
    | with_reducible (first
        | assumption | intro _ | apply Slostan_run_good | apply applyTagSet_good | apply next_good | apply ite_good
        | apply iteR_good | apply iteP_good | apply iteO_good)
    | split
    | (with_reducible refine Good.mk' (Good.flat ?_))

theorem State_addTag_good {s0 : State} {a0 a1 a2} (ha0 : Good s0 a0) : Good s0 (@State.addTag a0 a1 a2) := by
  unfold State.addTag
  repeat' first
    | with_reducible (first
        | assumption | intro _ | apply State_cnt_good | apply State_updDie_good | apply wr_good
        | apply State_raiseLane_good | apply next_good | apply ite_good | apply iteR_good | apply iteP_good
        | apply iteO_good)
    | split
    | (with_reducible refine Good.mk' (Good.flat ?_))

theorem execTagRead_good {s0 : State} {a0 a1 a2 a3} (ha3 : Good s0 a3) : GoodO s0 (@execTagRead a0 a1 a2 a3) := by
  unfold execTagRead
  repeat' first
    | with_reducible (first
        | assumption | intro _ | apply Slostan_run_good | apply Res_fail_good | apply Res_okWith_good
        | apply State_updDie_good | apply Res_badParam_good | apply next_good | apply ite_good | apply iteR_good
        | apply iteP_good | apply iteO_good)
    | split
    | (with_reducible refine Good.mk' (Good.flat ?_))

theorem execTimeGet_good {s0 : State} {a0 a1} (ha1 : Good s0 a1) : GoodO s0 (@execTimeGet a0 a1) := by
  unfold execTimeGet
  repeat' first
    | with_reducible (first
        | assumption | intro _ | apply Slostan_run_good | apply Res_okWith_good | apply next_good | apply ite_good
        | apply iteR_good | apply iteP_good | apply iteO_good)
    | split
    | (with_reducible refine Good.mk' (Good.flat ?_))

theorem State_readTimeLo_good {s0 : State} {a0 a1} (ha0 : Good s0 a0) : Good s0 (@State.readTimeLo a0 a1).2 := by
  unfold State.readTimeLo
  repeat' first
    | with_reducible (first
        | assumption | intro _ | apply State_wrB_good | apply wr_good | apply next_good | apply ite_good
        | apply iteR_good | apply iteP_good | apply iteO_good)
    | split
    | (with_reducible refine Good.mk' (Good.flat ?_))

theorem execTimeLoRead_good {s0 : State} {a0 a1 a2} (ha2 : Good s0 a2) : GoodO s0 (@execTimeLoRead a0 a1 a2) := by
  unfold execTimeLoRead
  repeat' first
    | with_reducible (first
        | assumption | intro _ | apply Slostan_run_good | apply regGuard_good | apply Res_okWith_good
        | apply State_readTimeLo_good | apply next_good | apply ite_good | apply iteR_good | apply iteP_good
        | apply iteO_good)
    | split
    | (with_reducible refine Good.mk' (Good.flat ?_))

theorem applyTimebaseSet_good {s0 : State} {a0 a1 a2 a3 a4} (ha4 : Good s0 a4) :
    Good s0 (@applyTimebaseSet a0 a1 a2 a3 a4).state := by
  unfold applyTimebaseSet
  repeat' first
    | with_reducible (first
        | assumption | intro _ | apply Res_ok_good | apply next_good | apply ite_good | apply iteR_good
        | apply iteP_good | apply iteO_good)
    | split
    | (with_reducible refine Good.mk' (Good.flat ?_))

theorem execTimebaseSet_good {s0 : State} {a0 a1 a2 a3} (ha3 : Good s0 a3) :
    GoodO s0 (@execTimebaseSet a0 a1 a2 a3) := by
  unfold execTimebaseSet
  repeat' first
    | with_reducible (first
        | assumption | intro _ | apply Slostan_run_good | apply applyTimebaseSet_good | apply next_good
        | apply ite_good | apply iteR_good | apply iteP_good | apply iteO_good)
    | split
    | (with_reducible refine Good.mk' (Good.flat ?_))

theorem State_beginExtrap_good {s0 : State} {a0} (ha0 : Good s0 a0) : Good s0 (@State.beginExtrap a0) := by
  unfold State.beginExtrap
  repeat' first
    | with_reducible (first
        | assumption | intro _ | apply next_good | apply ite_good | apply iteR_good | apply iteP_good
        | apply iteO_good)
    | split
    | (with_reducible refine Good.mk' (Good.flat ?_))

theorem State_endExtrap_good {s0 : State} {a0} (ha0 : Good s0 a0) : Good s0 (@State.endExtrap a0) := by
  unfold State.endExtrap
  repeat' first
    | with_reducible (first
        | assumption | intro _ | apply next_good | apply ite_good | apply iteR_good | apply iteP_good
        | apply iteO_good)
    | split
    | (with_reducible refine Good.mk' (Good.flat ?_))

theorem State_updExtrap_good {s0 : State} {a0} (ha0 : Good s0 a0) : Good s0 (@State.updExtrap a0) := by
  unfold State.updExtrap
  repeat' first
    | with_reducible (first
        | assumption | intro _ | apply State_beginExtrap_good | apply State_endExtrap_good | apply next_good
        | apply ite_good | apply iteR_good | apply iteP_good | apply iteO_good)
    | split
    | (with_reducible refine Good.mk' (Good.flat ?_))

theorem State_tick_good {s0 : State} {a0} (ha0 : Good s0 a0) : Good s0 (@State.tick a0) := by
  unfold State.tick
  repeat' first
    | with_reducible (first
        | assumption | intro _ | apply next_good | apply ite_good | apply iteR_good | apply iteP_good
        | apply iteO_good)
    | split
    | (with_reducible refine Good.mk' (Good.flat ?_))

theorem applyIntervalSet_good {s0 : State} {a0 a1 a2 a3 a4} (ha4 : Good s0 a4) :
    Good s0 (@applyIntervalSet a0 a1 a2 a3 a4).state := by
  unfold applyIntervalSet
  repeat' first
    | with_reducible (first
        | assumption | intro _ | apply wr_good | apply Res_ok_good | apply State_wrB_good | apply next_good
        | apply ite_good | apply iteR_good | apply iteP_good | apply iteO_good)
    | split
    | (with_reducible refine Good.mk' (Good.flat ?_))

theorem execIntervalSet_good {s0 : State} {a0 a1 a2 a3} (ha3 : Good s0 a3) :
    GoodO s0 (@execIntervalSet a0 a1 a2 a3) := by
  unfold execIntervalSet
  repeat' first
    | with_reducible (first
        | assumption | intro _ | apply Slostan_run_good | apply applyIntervalSet_good | apply next_good
        | apply ite_good | apply iteR_good | apply iteP_good | apply iteO_good)
    | split
    | (with_reducible refine Good.mk' (Good.flat ?_))

theorem State_closeSbLoad_good {s0 : State} {a0} (ha0 : Good s0 a0) : Good s0 (@State.closeSbLoad a0) := by
  unfold State.closeSbLoad
  repeat' first
    | with_reducible (first
        | assumption | intro _ | apply wr_good | apply State_updDie_good | apply State_raisePkg_good
        | apply each_good | apply next_good | apply ite_good | apply iteR_good | apply iteP_good | apply iteO_good)
    | split
    | (with_reducible refine Good.mk' (Good.flat ?_))

theorem State_takeBoundary_good {s0 : State} {a0 a1} (ha0 : Good s0 a0) : Good s0 (@State.takeBoundary a0 a1) := by
  unfold State.takeBoundary
  repeat' first
    | with_reducible (first
        | assumption | intro _ | apply State_closeSbLoad_good | apply State_wrB_good | apply State_sbPush_good
        | apply next_good | apply ite_good | apply iteR_good | apply iteP_good | apply iteO_good)
    | split
    | (with_reducible refine Good.mk' (Good.flat ?_))

theorem execTelemetryBoundary_good {s0 : State} {a0} (ha0 : Good s0 a0) : GoodO s0 (@execTelemetryBoundary a0) := by
  unfold execTelemetryBoundary
  repeat' first
    | with_reducible (first
        | assumption | intro _ | apply State_takeBoundary_good | apply next_good | apply ite_good | apply iteR_good
        | apply iteP_good | apply iteO_good)
    | split
    | (with_reducible refine Good.mk' (Good.flat ?_))

theorem State_abandon_good {s0 : State} {a0 a1} (ha0 : Good s0 a0) : Good s0 (@State.abandon a0 a1) := by
  unfold State.abandon
  repeat' first
    | with_reducible (first
        | assumption | intro _ | apply State_raisePkg_good | apply wr_good | apply State_cntPkg_good
        | apply next_good | apply ite_good | apply iteR_good | apply iteP_good | apply iteO_good)
    | split
    | (with_reducible refine Good.mk' (Good.flat ?_))

theorem State_addSet_good {s0 : State} {a0 a1} (ha0 : Good s0 a0) : Good s0 (@State.addSet a0 a1) := by
  unfold State.addSet
  repeat' first
    | with_reducible (first
        | assumption | intro _ | apply next_good | apply ite_good | apply iteR_good | apply iteP_good
        | apply iteO_good)
    | split
    | (with_reducible refine Good.mk' (Good.flat ?_))

theorem State_latchDie_good {s0 : State} {a0 a1 a2} (ha0 : Good s0 a0) : Good s0 (@State.latchDie a0 a1 a2) := by
  unfold State.latchDie
  repeat' first
    | with_reducible (first
        | assumption | intro _ | apply State_abandon_good | apply State_addSet_good | apply State_updDie_good
        | apply next_good | apply ite_good | apply iteR_good | apply iteP_good | apply iteO_good)
    | split
    | (with_reducible refine Good.mk' (Good.flat ?_))

theorem State_closeHfec_good {s0 : State} {a0 a1} (ha0 : Good s0 a0) : Good s0 (@State.closeHfec a0 a1) := by
  unfold State.closeHfec
  repeat' first
    | with_reducible (first
        | assumption | intro _ | apply wr_good | apply State_updDie_good | apply State_wrB_good | apply each_good
        | apply next_good | apply ite_good | apply iteR_good | apply iteP_good | apply iteO_good)
    | split
    | (with_reducible refine Good.mk' (Good.flat ?_))

theorem State_latchPkg_good {s0 : State} {a0 a1} (ha0 : Good s0 a0) : Good s0 (@State.latchPkg a0 a1) := by
  unfold State.latchPkg
  repeat' first
    | with_reducible (first
        | assumption | intro _ | apply State_addSet_good | apply next_good | apply ite_good | apply iteR_good
        | apply iteP_good | apply iteO_good)
    | split
    | (with_reducible refine Good.mk' (Good.flat ?_))

theorem State_pushCollection_good {s0 : State} {a0 a1 a2} (ha0 : Good s0 a0) :
    Good s0 (@State.pushCollection a0 a1 a2) := by
  unfold State.pushCollection
  repeat' first
    | with_reducible (first
        | assumption | intro _ | apply State_sbPush_good | apply foldl_good | apply next_good | apply ite_good
        | apply iteR_good | apply iteP_good | apply iteO_good)
    | split
    | (with_reducible refine Good.mk' (Good.flat ?_))

theorem execLatch_good {s0 : State} {a0 a1} (ha1 : Good s0 a1) : GoodO s0 (@execLatch a0 a1) := by
  unfold execLatch
  repeat' first
    | with_reducible (first
        | assumption | intro _ | apply State_latchDie_good | apply State_chargeCipher_good
        | apply State_chargeAll_good | apply State_closeHfec_good | apply State_latchPkg_good
        | apply State_pushCollection_good | apply next_good | apply ite_good | apply iteR_good | apply iteP_good
        | apply iteO_good)
    | split
    | (with_reducible refine Good.mk' (Good.flat ?_))

theorem execSnapshotComplete_good {s0 : State} {a0} (ha0 : Good s0 a0) : GoodO s0 (@execSnapshotComplete a0) := by
  unfold execSnapshotComplete
  repeat' first
    | with_reducible (first
        | assumption | intro _ | apply next_good | apply ite_good | apply iteR_good | apply iteP_good
        | apply iteO_good)
    | split
    | (with_reducible refine Good.mk' (Good.flat ?_))

theorem State_syncEdge_good {s0 : State} {a0} (ha0 : Good s0 a0) : Good s0 (@State.syncEdge a0) := by
  unfold State.syncEdge
  repeat' first
    | with_reducible (first
        | assumption | intro _ | apply wr_good | apply State_cntPkg_good | apply next_good | apply ite_good
        | apply iteR_good | apply iteP_good | apply iteO_good)
    | split
    | (with_reducible refine Good.mk' (Good.flat ?_))

theorem State_syncBoundary_good {s0 : State} {a0} (ha0 : Good s0 a0) : Good s0 (@State.syncBoundary a0) := by
  unfold State.syncBoundary
  repeat' first
    | with_reducible (first
        | assumption | intro _ | apply State_cntPkg_good | apply wr_good | apply State_incSat_good
        | apply State_syncEdge_good | apply next_good | apply ite_good | apply iteR_good | apply iteP_good
        | apply iteO_good)
    | split
    | (with_reducible refine Good.mk' (Good.flat ?_))

theorem State_syncFuse_good {s0 : State} {a0} (ha0 : Good s0 a0) : Good s0 (@State.syncFuse a0) := by
  unfold State.syncFuse
  repeat' first
    | with_reducible (first
        | assumption | intro _ | apply wr_good | apply State_wrB_good | apply each_good | apply next_good
        | apply ite_good | apply iteR_good | apply iteP_good | apply iteO_good)
    | split
    | (with_reducible refine Good.mk' (Good.flat ?_))

theorem State_updFuses_good {s0 s : State} {g} (h : Good s0 s) (hl : (g s.nv.fuses).lifecycle ≤ 3)
    (ho : (g s.nv.fuses).ownerSlot ≤ 3) (hv : (g s.nv.fuses).secver ≤ 63) (hs : Fuses.Since s.nv.fuses (g s.nv.fuses)) :
    Good s0 (s.updFuses g) :=
  State_syncFuse_good (Good.mk' { h.flat with lifecycle := hl, ownerSlot := ho, secver := hv, since := h.since.trans hs })

theorem State_syncNvm_good {s0 : State} {a0} (ha0 : Good s0 a0) : Good s0 (@State.syncNvm a0) := by
  unfold State.syncNvm
  repeat' first
    | with_reducible (first
        | assumption | intro _ | apply State_wrB_good | apply wr_good | apply foldl_good | apply next_good
        | apply ite_good | apply iteR_good | apply iteP_good | apply iteO_good)
    | split
    | (with_reducible refine Good.mk' (Good.flat ?_))

theorem applyLaserCeilingSet_good {s0 s : State} {cs r x} (h : Good s0 s) :
    Good s0 (applyLaserCeilingSet cs r x s).state := by
  unfold applyLaserCeilingSet
  refine iteR_good h (Res_ok_good ?_)
  refine State_updFuses_good h ?_ ?_ ?_ ?_
  · exact h.lifecycle
  · exact h.ownerSlot
  · exact h.secver
  · exact .same rfl rfl rfl rfl rfl rfl rfl rfl

theorem execLaserCeilingSet_good {s0 : State} {a0 a1 a2} (ha2 : Good s0 a2) :
    GoodO s0 (@execLaserCeilingSet a0 a1 a2) := by
  unfold execLaserCeilingSet
  repeat' first
    | with_reducible (first
        | assumption | intro _ | apply Slostan_run_good | apply applyLaserCeilingSet_good | apply next_good
        | apply ite_good | apply iteR_good | apply iteP_good | apply iteO_good)
    | split
    | (with_reducible refine Good.mk' (Good.flat ?_))

theorem applyNodeIdentitySet_good {s0 s : State} {r x} (h : Good s0 s) :
    Good s0 (applyNodeIdentitySet r x s).state := by
  unfold applyNodeIdentitySet
  split
  · exact h
  · rename_i e
    refine Res_okWith_good (State_updFuses_good h ?_ ?_ ?_ ?_)
    · exact h.lifecycle
    · exact h.ownerSlot
    · exact h.secver
    · exact ⟨Nat.le_refl _, Nat.le_refl _, Nat.le_refl _, id, fun k => absurd k (by simp_all), rfl, rfl, rfl⟩

theorem execNodeIdentitySet_good {s0 : State} {a0 a1 a2} (ha2 : Good s0 a2) :
    GoodO s0 (@execNodeIdentitySet a0 a1 a2) := by
  unfold execNodeIdentitySet
  repeat' first
    | with_reducible (first
        | assumption | intro _ | apply Slostan_run_good | apply applyNodeIdentitySet_good | apply next_good
        | apply ite_good | apply iteR_good | apply iteP_good | apply iteO_good)
    | split
    | (with_reducible refine Good.mk' (Good.flat ?_))

theorem applyOwnerKeySet_good {s0 s : State} {k r x} (h : Good s0 s) : Good s0 (applyOwnerKeySet k r x s).state := by
  unfold applyOwnerKeySet
  refine iteR_good h (Res_okWith_good ?_)
  refine State_updFuses_good h ?_ ?_ ?_ ?_
  · exact h.lifecycle
  · exact h.ownerSlot
  · exact h.secver
  · exact .same rfl rfl rfl rfl rfl rfl rfl rfl

theorem execOwnerKeySet_good {s0 : State} {a0 a1 a2} (ha2 : Good s0 a2) : GoodO s0 (@execOwnerKeySet a0 a1 a2) := by
  unfold execOwnerKeySet
  repeat' first
    | with_reducible (first
        | assumption | intro _ | apply Slostan_run_good | apply applyOwnerKeySet_good | apply next_good
        | apply ite_good | apply iteR_good | apply iteP_good | apply iteO_good)
    | split
    | (with_reducible refine Good.mk' (Good.flat ?_))

theorem applyOwnerKeyRevoke_good {s0 s : State} {r x} (h : Good s0 s) :
    Good s0 (applyOwnerKeyRevoke r x s).state := by
  unfold applyOwnerKeyRevoke
  split
  · exact h
  · rename_i e
    have k : s.nv.fuses.ownerSlot ≤ s.slotsUsed := Nat.le_add_right _ _
    refine Res_okWith_good (State_updFuses_good h ?_ ?_ ?_ ?_)
    · exact h.lifecycle
    · dsimp only; omega
    · exact h.secver
    · exact ⟨Nat.le_refl _, Nat.le_refl _, Nat.le_succ _, id, fun _ => rfl, rfl, rfl, rfl⟩

theorem execOwnerKeyRevoke_good {s0 : State} {a0 a1 a2} (ha2 : Good s0 a2) :
    GoodO s0 (@execOwnerKeyRevoke a0 a1 a2) := by
  unfold execOwnerKeyRevoke
  repeat' first
    | with_reducible (first
        | assumption | intro _ | apply Slostan_run_good | apply applyOwnerKeyRevoke_good | apply next_good
        | apply ite_good | apply iteR_good | apply iteP_good | apply iteO_good)
    | split
    | (with_reducible refine Good.mk' (Good.flat ?_))

theorem applyFwLoad_good {s0 s : State} {i r x} (h : Good s0 s) : Good s0 (applyFwLoad i r x s).state := by
  unfold applyFwLoad
  refine iteR_good h ?_
  split
  · exact h
  · rename_i e
    refine Good.mk' { h.flat with loading := ?_ }
    have k : (parseFw i).secver ≤ 63 := by
      unfold fwCheck at e
      dsimp only at e
      by_contra hc
      split at e
      · cases e
      · rw [if_pos (by simp; omega)] at e; cases e
    simpa [FwBank.ok, fwBankOf] using k

theorem execFwLoad_good {s0 : State} {a0 a1 a2} (ha2 : Good s0 a2) : GoodO s0 (@execFwLoad a0 a1 a2) := by
  unfold execFwLoad
  repeat' first
    | with_reducible (first
        | assumption | intro _ | apply Slostan_run_good | apply applyFwLoad_good | apply next_good | apply ite_good
        | apply iteR_good | apply iteP_good | apply iteO_good)
    | split
    | (with_reducible refine Good.mk' (Good.flat ?_))

theorem State_syncFw_good {s0 : State} {a0} (ha0 : Good s0 a0) : Good s0 (@State.syncFw a0) := by
  unfold State.syncFw
  repeat' first
    | with_reducible (first
        | assumption | intro _ | apply wr_good | apply State_wrB_good | apply next_good | apply ite_good
        | apply iteR_good | apply iteP_good | apply iteO_good)
    | split
    | (with_reducible refine Good.mk' (Good.flat ?_))

theorem execFwLoadDone_good {s0 s : State} (h : Good s0 s) : GoodO s0 (execFwLoadDone s) := by
  unfold execFwLoadDone
  split
  · exact next_good h
  · rename_i b e
    refine next_good (State_finishPend_good (State_syncFw_good (Good.mk' { h.flat with standby := ?_, loading := rfl })))
    have k := h.loading
    rw [e] at k; exact k

theorem execAuditRead_good {s0 : State} {a0 a1 a2 a3} (ha3 : Good s0 a3) : GoodO s0 (@execAuditRead a0 a1 a2 a3) := by
  unfold execAuditRead
  repeat' first
    | with_reducible (first
        | assumption | intro _ | apply Slostan_run_good | apply Res_okWith_good | apply next_good | apply ite_good
        | apply iteR_good | apply iteP_good | apply iteO_good)
    | split
    | (with_reducible refine Good.mk' (Good.flat ?_))

theorem execLimitsGet_good {s0 : State} {a0 a1} (ha1 : Good s0 a1) : GoodO s0 (@execLimitsGet a0 a1) := by
  unfold execLimitsGet
  repeat' first
    | with_reducible (first
        | assumption | intro _ | apply Slostan_run_good | apply Res_okWith_good | apply next_good | apply ite_good
        | apply iteR_good | apply iteP_good | apply iteO_good)
    | split
    | (with_reducible refine Good.mk' (Good.flat ?_))

theorem applyPing_good {s0 : State} {a0 a1 a2} (ha2 : Good s0 a2) : Good s0 (@applyPing a0 a1 a2).state := by
  unfold applyPing
  repeat' first
    | with_reducible (first
        | assumption | intro _ | apply Res_okWith_good | apply next_good | apply ite_good | apply iteR_good
        | apply iteP_good | apply iteO_good)
    | split
    | (with_reducible refine Good.mk' (Good.flat ?_))

theorem execPing_good {s0 : State} {a0 a1 a2} (ha2 : Good s0 a2) : GoodO s0 (@execPing a0 a1 a2) := by
  unfold execPing
  repeat' first
    | with_reducible (first
        | assumption | intro _ | apply Slostan_run0_good | apply applyPing_good | apply Slostan_run_good
        | apply next_good | apply ite_good | apply iteR_good | apply iteP_good | apply iteO_good)
    | split
    | (with_reducible refine Good.mk' (Good.flat ?_))

theorem State_pickChannel_good {s0 : State} {a0 a1 a2} (ha0 : Good s0 a0) :
    Good s0 (@State.pickChannel a0 a1 a2).2 := by
  unfold State.pickChannel
  repeat' first
    | with_reducible (first
        | assumption | intro _ | apply State_fresh_good | apply next_good | apply ite_good | apply iteR_good
        | apply iteP_good | apply iteO_good)
    | split
    | (with_reducible refine Good.mk' (Good.flat ?_))

theorem applySessionOpen_good {s0 s : State} {p r} (h : Good s0 s) : Good s0 (applySessionOpen p r s).state := by
  unfold applySessionOpen
  refine iteR_good h ?_
  have k := State_pickChannel_good (a1 := 0x01) (a2 := 0x7F) h
  generalize s.pickChannel 0x01 0x7F = q at k
  obtain ⟨_ | ch, t⟩ := q
  · exact k
  · exact Good.mk' k.flat

theorem execSessionOpen_good {s0 : State} {a0 a1 a2} (ha2 : Good s0 a2) : GoodO s0 (@execSessionOpen a0 a1 a2) := by
  unfold execSessionOpen
  repeat' first
    | with_reducible (first
        | assumption | intro _ | apply Slostan_run0_good | apply applySessionOpen_good | apply Slostan_run_good
        | apply Res_fail_good | apply next_good | apply ite_good | apply iteR_good | apply iteP_good
        | apply iteO_good)
    | split
    | (with_reducible refine Good.mk' (Good.flat ?_))

theorem applySecureHello_good {s0 s : State} {n q c p r} (h : Good s0 s) :
    Good s0 (applySecureHello n q c p r s).state := by
  unfold applySecureHello
  refine iteR_good h (iteR_good h ?_)
  split
  · exact h
  · have k := State_pickChannel_good (a1 := 0x80) (a2 := 0xFE) h
    generalize s.pickChannel 0x80 0xFE = q at k
    obtain ⟨_ | ch, t⟩ := q
    · exact k
    · exact Good.mk' k.flat

theorem execSecureHello_good {s0 : State} {a0 a1 a2 a3 a4 a5} (ha5 : Good s0 a5) :
    GoodO s0 (@execSecureHello a0 a1 a2 a3 a4 a5) := by
  unfold execSecureHello
  repeat' first
    | with_reducible (first
        | assumption | intro _ | apply Slostan_run0_good | apply applySecureHello_good | apply Slostan_run_good
        | apply Res_fail_good | apply next_good | apply ite_good | apply iteR_good | apply iteP_good
        | apply iteO_good)
    | split
    | (with_reducible refine Good.mk' (Good.flat ?_))

theorem State_dropHandshake_good {s0 : State} {a0 a1} (ha0 : Good s0 a0) : Good s0 (@State.dropHandshake a0 a1) := by
  unfold State.dropHandshake
  repeat' first
    | with_reducible (first
        | assumption | intro _ | apply next_good | apply ite_good | apply iteR_good | apply iteP_good
        | apply iteO_good)
    | split
    | (with_reducible refine Good.mk' (Good.flat ?_))

theorem State_finishSecure_good {s0 : State} {a0 a1 a2 a3 a4} (ha0 : Good s0 a0) :
    Good s0 (@State.finishSecure a0 a1 a2 a3 a4) := by
  unfold State.finishSecure
  repeat' first
    | with_reducible (first
        | assumption | intro _ | apply State_sendReply_good | apply State_dropHandshake_good
        | apply State_mirrorNow_good | apply next_good | apply ite_good | apply iteR_good | apply iteP_good
        | apply iteO_good)
    | split
    | (with_reducible refine Good.mk' (Good.flat ?_))

theorem execSecureFinish_good {s0 : State} {a0 a1 a2 a3 a4} (ha4 : Good s0 a4) :
    GoodO s0 (@execSecureFinish a0 a1 a2 a3 a4) := by
  unfold execSecureFinish
  repeat' first
    | with_reducible (first
        | assumption | intro _ | apply State_atHead_good | apply State_dequeue_good | apply State_sendReply_good
        | apply State_finishSecure_good | apply State_cntPkg_good | apply Slostan_run_good | apply Res_fail_good
        | apply next_good | apply ite_good | apply iteR_good | apply iteP_good | apply iteO_good)
    | split
    | (with_reducible refine Good.mk' (Good.flat ?_))

theorem execSecureHelloTimeout_good {s0 : State} {a0 a1} (ha1 : Good s0 a1) :
    GoodO s0 (@execSecureHelloTimeout a0 a1) := by
  unfold execSecureHelloTimeout
  repeat' first
    | with_reducible (first
        | assumption | intro _ | apply State_sendReply_good | apply State_dropHandshake_good | apply next_good
        | apply ite_good | apply iteR_good | apply iteP_good | apply iteO_good)
    | split
    | (with_reducible refine Good.mk' (Good.flat ?_))

theorem execSessionClose_good {s0 : State} {a0 a1} (ha1 : Good s0 a1) : GoodO s0 (@execSessionClose a0 a1) := by
  unfold execSessionClose
  repeat' first
    | with_reducible (first
        | assumption | intro _ | apply Slostan_run_good | apply Res_ok_good | apply State_updSession_good
        | apply State_endSession_good | apply foldl_good | apply next_good | apply ite_good | apply iteR_good
        | apply iteP_good | apply iteO_good)
    | split
    | (with_reducible refine Good.mk' (Good.flat ?_))

theorem execSessionIdleTimeout_good {s0 : State} {a0 a1} (ha1 : Good s0 a1) :
    GoodO s0 (@execSessionIdleTimeout a0 a1) := by
  unfold execSessionIdleTimeout
  repeat' first
    | with_reducible (first
        | assumption | intro _ | apply State_endSession_good | apply next_good | apply ite_good | apply iteR_good
        | apply iteP_good | apply iteO_good)
    | split
    | (with_reducible refine Good.mk' (Good.flat ?_))

theorem applySlostanCfgSet_good {s0 : State} {a0 a1 a2 a3 a4 a5} (ha5 : Good s0 a5) :
    Good s0 (@applySlostanCfgSet a0 a1 a2 a3 a4 a5).state := by
  unfold applySlostanCfgSet
  repeat' first
    | with_reducible (first
        | assumption | intro _ | apply Res_fail_good | apply Res_ok_good | apply next_good | apply ite_good
        | apply iteR_good | apply iteP_good | apply iteO_good)
    | split
    | (with_reducible refine Good.mk' (Good.flat ?_))

theorem execSlostanCfgSet_good {s0 : State} {a0 a1 a2 a3 a4} (ha4 : Good s0 a4) :
    GoodO s0 (@execSlostanCfgSet a0 a1 a2 a3 a4) := by
  unfold execSlostanCfgSet
  repeat' first
    | with_reducible (first
        | assumption | intro _ | apply Slostan_run_good | apply applySlostanCfgSet_good | apply next_good
        | apply ite_good | apply iteR_good | apply iteP_good | apply iteO_good)
    | split
    | (with_reducible refine Good.mk' (Good.flat ?_))

theorem applyClaim_good {s0 : State} {a0 a1 a2 a3 a4} (ha4 : Good s0 a4) :
    Good s0 (@applyClaim a0 a1 a2 a3 a4).state := by
  unfold applyClaim
  repeat' first
    | with_reducible (first
        | assumption | intro _ | apply Res_fail_good | apply Res_ok_good | apply State_updSession_good
        | apply next_good | apply ite_good | apply iteR_good | apply iteP_good | apply iteO_good)
    | split
    | (with_reducible refine Good.mk' (Good.flat ?_))

theorem execClaim_good {s0 : State} {a0 a1 a2 a3} (ha3 : Good s0 a3) : GoodO s0 (@execClaim a0 a1 a2 a3) := by
  unfold execClaim
  repeat' first
    | with_reducible (first
        | assumption | intro _ | apply Slostan_run_good | apply applyClaim_good | apply next_good | apply ite_good
        | apply iteR_good | apply iteP_good | apply iteO_good)
    | split
    | (with_reducible refine Good.mk' (Good.flat ?_))

theorem applyRelease_good {s0 : State} {a0 a1 a2 a3} (ha3 : Good s0 a3) :
    Good s0 (@applyRelease a0 a1 a2 a3).state := by
  unfold applyRelease
  repeat' first
    | with_reducible (first
        | assumption | intro _ | apply Res_ok_good | apply State_updSession_good | apply next_good | apply ite_good
        | apply iteR_good | apply iteP_good | apply iteO_good)
    | split
    | (with_reducible refine Good.mk' (Good.flat ?_))

theorem execRelease_good {s0 : State} {a0 a1 a2} (ha2 : Good s0 a2) : GoodO s0 (@execRelease a0 a1 a2) := by
  unfold execRelease
  repeat' first
    | with_reducible (first
        | assumption | intro _ | apply Slostan_run_good | apply applyRelease_good | apply next_good | apply ite_good
        | apply iteR_good | apply iteP_good | apply iteO_good)
    | split
    | (with_reducible refine Good.mk' (Good.flat ?_))

theorem execLeaseRenew_good {s0 : State} {a0 a1} (ha1 : Good s0 a1) : GoodO s0 (@execLeaseRenew a0 a1) := by
  unfold execLeaseRenew
  repeat' first
    | with_reducible (first
        | assumption | intro _ | apply Slostan_run_good | apply Res_ok_good | apply next_good | apply ite_good
        | apply iteR_good | apply iteP_good | apply iteO_good)
    | split
    | (with_reducible refine Good.mk' (Good.flat ?_))

theorem execLeaseExpiry_good {s0 : State} {a0 a1} (ha1 : Good s0 a1) : GoodO s0 (@execLeaseExpiry a0 a1) := by
  unfold execLeaseExpiry
  repeat' first
    | with_reducible (first
        | assumption | intro _ | apply State_expireClaims_good | apply next_good | apply ite_good | apply iteR_good
        | apply iteP_good | apply iteO_good)
    | split
    | (with_reducible refine Good.mk' (Good.flat ?_))

theorem execPortDownClaimRelease_good {s0 : State} {a0 a1} (ha1 : Good s0 a1) :
    GoodO s0 (@execPortDownClaimRelease a0 a1) := by
  unfold execPortDownClaimRelease
  repeat' first
    | with_reducible (first
        | assumption | intro _ | apply State_expireClaims_good | apply next_good | apply ite_good | apply iteR_good
        | apply iteP_good | apply iteO_good)
    | split
    | (with_reducible refine Good.mk' (Good.flat ?_))

theorem applyBegin_good {s0 : State} {a0 a1 a2 a3} (ha3 : Good s0 a3) : Good s0 (@applyBegin a0 a1 a2 a3).state := by
  unfold applyBegin
  repeat' first
    | with_reducible (first
        | assumption | intro _ | apply Res_fail_good | apply Res_ok_good | apply State_updSession_good
        | apply next_good | apply ite_good | apply iteR_good | apply iteP_good | apply iteO_good)
    | split
    | (with_reducible refine Good.mk' (Good.flat ?_))

theorem execBegin_good {s0 : State} {a0 a1 a2} (ha2 : Good s0 a2) : GoodO s0 (@execBegin a0 a1 a2) := by
  unfold execBegin
  repeat' first
    | with_reducible (first
        | assumption | intro _ | apply Slostan_run_good | apply applyBegin_good | apply next_good | apply ite_good
        | apply iteR_good | apply iteP_good | apply iteO_good)
    | split
    | (with_reducible refine Good.mk' (Good.flat ?_))

theorem applyAbort_good {s0 : State} {a0 a1 a2} (ha2 : Good s0 a2) : Good s0 (@applyAbort a0 a1 a2).state := by
  unfold applyAbort
  repeat' first
    | with_reducible (first
        | assumption | intro _ | apply Res_ok_good | apply State_rollback_good | apply Res_fail_good
        | apply next_good | apply ite_good | apply iteR_good | apply iteP_good | apply iteO_good)
    | split
    | (with_reducible refine Good.mk' (Good.flat ?_))

theorem execAbort_good {s0 : State} {a0 a1} (ha1 : Good s0 a1) : GoodO s0 (@execAbort a0 a1) := by
  unfold execAbort
  repeat' first
    | with_reducible (first
        | assumption | intro _ | apply Slostan_run_good | apply applyAbort_good | apply next_good | apply ite_good
        | apply iteR_good | apply iteP_good | apply iteO_good)
    | split
    | (with_reducible refine Good.mk' (Good.flat ?_))

theorem State_setChunk_good {s0 : State} {a0 a1 a2} (ha0 : Good s0 a0) : Good s0 (@State.setChunk a0 a1 a2) := by
  unfold State.setChunk
  repeat' first
    | with_reducible (first
        | assumption | intro _ | apply State_updSession_good | apply next_good | apply ite_good | apply iteR_good
        | apply iteP_good | apply iteO_good)
    | split
    | (with_reducible refine Good.mk' (Good.flat ?_))

theorem chunkStep_good {s0 : State} {a0 a1 a2 a3 a4 a5 a6 a7} (ha7 : Good s0 a7) :
    Good s0 (@chunkStep a0 a1 a2 a3 a4 a5 a6 a7) := by
  unfold chunkStep
  repeat' first
    | with_reducible (first
        | assumption | intro _ | apply State_replyCached_good | apply State_setChunk_good
        | apply State_refuseOpcode_good | apply State_doomEarly_good | apply State_doom_good
        | apply Slostan_execute_good | apply applyFwLoad_good | apply next_good | apply ite_good | apply iteR_good
        | apply iteP_good | apply iteO_good)
    | split
    | (with_reducible refine Good.mk' (Good.flat ?_))

theorem execChunk_good {s0 s : State} {r o f t d c} (h : Good s0 s) : GoodO s0 (execChunk r o f t d c s) :=
  next_good (Slostan_receive_good (fun _ _ h => chunkStep_good h) h)

theorem execChunkTransferTimeout_good {s0 : State} {a0 a1} (ha1 : Good s0 a1) :
    GoodO s0 (@execChunkTransferTimeout a0 a1) := by
  unfold execChunkTransferTimeout
  repeat' first
    | with_reducible (first
        | assumption | intro _ | apply State_setChunk_good | apply next_good | apply ite_good | apply iteR_good
        | apply iteP_good | apply iteO_good)
    | split
    | (with_reducible refine Good.mk' (Good.flat ?_))

end Sys2Proof.Machine
end

