-- ==== Sys2Proof/Laws/KeepsAnalogue.lean ====
section
/-! SUPPORT. A sound state stays sound, and takes back nothing, through every operation and command of:
the analogue blocks and the emission limit. Proved alike for each operation, from the lemmas of those it calls. -/

namespace Sys2Proof.Machine

theorem State_updDac_good {s0 : State} {a0 a1 a2 a3} (ha0 : Good s0 a0) : Good s0 (@State.updDac a0 a1 a2 a3) := by
  unfold State.updDac
  repeat' first
    | with_reducible (first
        | assumption | intro _ | apply State_updDie_good | apply next_good | apply ite_good | apply iteR_good
        | apply iteP_good | apply iteO_good)
    | split
    | (with_reducible refine Good.mk' (Good.flat ?_))

theorem State_endDacPend_good {s0 : State} {a0 a1 a2 a3} (ha0 : Good s0 a0) :
    Good s0 (@State.endDacPend a0 a1 a2 a3) := by
  unfold State.endDacPend
  repeat' first
    | with_reducible (first
        | assumption | intro _ | apply State_finishPend_good | apply next_good | apply ite_good | apply iteR_good
        | apply iteP_good | apply iteO_good)
    | split
    | (with_reducible refine Good.mk' (Good.flat ?_))

theorem State_outFollow_good {s0 : State} {a0 a1 a2 a3} (ha0 : Good s0 a0) (ha1 : Good s0 a1) :
    Good s0 (@State.outFollow a0 a1 a2 a3) := by
  unfold State.outFollow
  repeat' first
    | with_reducible (first
        | assumption | intro _ | apply emit_good | apply next_good | apply ite_good | apply iteR_good
        | apply iteP_good | apply iteO_good)
    | split
    | (with_reducible refine Good.mk' (Good.flat ?_))

theorem State_setOut_good {s0 : State} {a0 a1 a2 a3} (ha0 : Good s0 a0) : Good s0 (@State.setOut a0 a1 a2 a3) := by
  unfold State.setOut
  repeat' first
    | with_reducible (first
        | assumption | intro _ | apply State_outFollow_good | apply wr_good | apply next_good | apply ite_good
        | apply iteR_good | apply iteP_good | apply iteO_good)
    | split
    | (with_reducible refine Good.mk' (Good.flat ?_))

theorem State_setRange_good {s0 : State} {a0 a1 a2 a3} (ha0 : Good s0 a0) :
    Good s0 (@State.setRange a0 a1 a2 a3) := by
  unfold State.setRange
  repeat' first
    | with_reducible (first
        | assumption | intro _ | apply State_outFollow_good | apply wr_good | apply next_good | apply ite_good
        | apply iteR_good | apply iteP_good | apply iteO_good)
    | split
    | (with_reducible refine Good.mk' (Good.flat ?_))

theorem State_dacClear_good {s0 : State} {a0 a1 a2} (ha0 : Good s0 a0) : Good s0 (@State.dacClear a0 a1 a2) := by
  unfold State.dacClear
  repeat' first
    | with_reducible (first
        | assumption | intro _ | apply State_updDac_good | apply wr_good | apply State_setOut_good
        | apply State_endDacPend_good | apply State_setRange_good | apply next_good | apply ite_good
        | apply iteR_good | apply iteP_good | apply iteO_good)
    | split
    | (with_reducible refine Good.mk' (Good.flat ?_))

theorem State_dacClearAll_good {s0 : State} {a0 a1} (ha0 : Good s0 a0) : Good s0 (@State.dacClearAll a0 a1) := by
  unfold State.dacClearAll
  repeat' first
    | with_reducible (first
        | assumption | intro _ | apply State_dacClear_good | apply each_good | apply next_good | apply ite_good
        | apply iteR_good | apply iteP_good | apply iteO_good)
    | split
    | (with_reducible refine Good.mk' (Good.flat ?_))

theorem State_dacSetCfg_good {s0 : State} {a0 a1 a2 a3} (ha0 : Good s0 a0) :
    Good s0 (@State.dacSetCfg a0 a1 a2 a3) := by
  unfold State.dacSetCfg
  repeat' first
    | with_reducible (first
        | assumption | intro _ | apply wr_good | apply State_setOut_good | apply State_updDac_good | apply next_good
        | apply ite_good | apply iteR_good | apply iteP_good | apply iteO_good)
    | split
    | (with_reducible refine Good.mk' (Good.flat ?_))

theorem Res_refuse_good {s0 : State} {a0 a1 a2} (ha2 : Good s0 a2) : Good s0 (@Res.refuse a0 a1 a2).state := by
  unfold Res.refuse
  repeat' first
    | with_reducible (first
        | assumption | intro _ | apply Res_badParam_good | apply Res_fail_good | apply next_good | apply ite_good
        | apply iteR_good | apply iteP_good | apply iteO_good)
    | split
    | (with_reducible refine Good.mk' (Good.flat ?_))

theorem applyDacChSet_good {s0 : State} {a0 a1 a2 a3 a4 a5} (ha5 : Good s0 a5) :
    Good s0 (@applyDacChSet a0 a1 a2 a3 a4 a5).state := by
  unfold applyDacChSet
  repeat' first
    | with_reducible (first
        | assumption | intro _ | apply Res_fail_good | apply Res_refuse_good | apply State_dacSetCfg_good
        | apply Res_pending_good | apply Res_ok_good | apply each_good | apply next_good | apply ite_good
        | apply iteR_good | apply iteP_good | apply iteO_good)
    | split
    | (with_reducible refine Good.mk' (Good.flat ?_))

theorem execDacChSet_good {s0 : State} {a0 a1 a2 a3 a4} (ha4 : Good s0 a4) :
    GoodO s0 (@execDacChSet a0 a1 a2 a3 a4) := by
  unfold execDacChSet
  repeat' first
    | with_reducible (first
        | assumption | intro _ | apply Slostan_run_good | apply applyDacChSet_good | apply next_good
        | apply ite_good | apply iteR_good | apply iteP_good | apply iteO_good)
    | split
    | (with_reducible refine Good.mk' (Good.flat ?_))

theorem execDacRangeSwitch_good {s0 : State} {a0 a1 a2} (ha2 : Good s0 a2) :
    GoodO s0 (@execDacRangeSwitch a0 a1 a2) := by
  unfold execDacRangeSwitch
  repeat' first
    | with_reducible (first
        | assumption | intro _ | apply State_updDac_good | apply State_setRange_good | apply next_good
        | apply ite_good | apply iteR_good | apply iteP_good | apply iteO_good)
    | split
    | (with_reducible refine Good.mk' (Good.flat ?_))

theorem execDacParkEnd_good {s0 : State} {a0 a1 a2} (ha2 : Good s0 a2) : GoodO s0 (@execDacParkEnd a0 a1 a2) := by
  unfold execDacParkEnd
  repeat' first
    | with_reducible (first
        | assumption | intro _ | apply State_updDac_good | apply State_endDacPend_good | apply wr_good
        | apply next_good | apply ite_good | apply iteR_good | apply iteP_good | apply iteO_good)
    | split
    | (with_reducible refine Good.mk' (Good.flat ?_))

theorem State_dacAccepted_good {s0 : State} {a0 a1 a2} (ha0 : Good s0 a0) :
    Good s0 (@State.dacAccepted a0 a1 a2) := by
  unfold State.dacAccepted
  repeat' first
    | with_reducible (first
        | assumption | intro _ | apply State_updDac_good | apply wr_good | apply next_good | apply ite_good
        | apply iteR_good | apply iteP_good | apply iteO_good)
    | split
    | (with_reducible refine Good.mk' (Good.flat ?_))

theorem State_dacPut_good {s0 : State} {a0 a1 a2 a3} (ha0 : Good s0 a0) : Good s0 (@State.dacPut a0 a1 a2 a3) := by
  unfold State.dacPut
  repeat' first
    | with_reducible (first
        | assumption | intro _ | apply State_dacAccepted_good | apply wr_good | apply State_updDac_good
        | apply next_good | apply ite_good | apply iteR_good | apply iteP_good | apply iteO_good)
    | split
    | (with_reducible refine Good.mk' (Good.flat ?_))

theorem applyDacWrite_good {s0 : State} {a0 a1 a2 a3 a4 a5} (ha5 : Good s0 a5) :
    Good s0 (@applyDacWrite a0 a1 a2 a3 a4 a5).state := by
  unfold applyDacWrite
  repeat' first
    | with_reducible (first
        | assumption | intro _ | apply Res_fail_good | apply Res_refuse_good | apply Res_ok_good
        | apply State_dacPut_good | apply each_good | apply next_good | apply ite_good | apply iteR_good
        | apply iteP_good | apply iteO_good)
    | split
    | (with_reducible refine Good.mk' (Good.flat ?_))

theorem execDacWrite_good {s0 : State} {a0 a1 a2 a3 a4} (ha4 : Good s0 a4) :
    GoodO s0 (@execDacWrite a0 a1 a2 a3 a4) := by
  unfold execDacWrite
  repeat' first
    | with_reducible (first
        | assumption | intro _ | apply Slostan_run_good | apply applyDacWrite_good | apply next_good
        | apply ite_good | apply iteR_good | apply iteP_good | apply iteO_good)
    | split
    | (with_reducible refine Good.mk' (Good.flat ?_))

theorem regDacCode_good {s0 : State} {a0 a1 a2 a3} (ha3 : Good s0 a3) : Good s0 (@regDacCode a0 a1 a2 a3).state := by
  unfold regDacCode
  repeat' first
    | with_reducible (first
        | assumption | intro _ | apply Res_fail_good | apply Res_refuse_good | apply Res_ok_good
        | apply State_dacPut_good | apply next_good | apply ite_good | apply iteR_good | apply iteP_good
        | apply iteO_good)
    | split
    | (with_reducible refine Good.mk' (Good.flat ?_))

theorem execDacCodeWrite_good {s0 : State} {a0 a1 a2 a3 a4} (ha4 : Good s0 a4) :
    GoodO s0 (@execDacCodeWrite a0 a1 a2 a3 a4) := by
  unfold execDacCodeWrite
  repeat' first
    | with_reducible (first
        | assumption | intro _ | apply Slostan_run_good | apply regDacCode_good | apply next_good | apply ite_good
        | apply iteR_good | apply iteP_good | apply iteO_good)
    | split
    | (with_reducible refine Good.mk' (Good.flat ?_))

theorem regDacPush_good {s0 : State} {a0 a1 a2 a3} (ha3 : Good s0 a3) : Good s0 (@regDacPush a0 a1 a2 a3).state := by
  unfold regDacPush
  repeat' first
    | with_reducible (first
        | assumption | intro _ | apply Res_fail_good | apply Res_badParam_good | apply Res_ok_good
        | apply State_updDac_good | apply State_dacAccepted_good | apply next_good | apply ite_good
        | apply iteR_good | apply iteP_good | apply iteO_good)
    | split
    | (with_reducible refine Good.mk' (Good.flat ?_))

theorem execDacQueuePush_good {s0 : State} {a0 a1 a2 a3 a4} (ha4 : Good s0 a4) :
    GoodO s0 (@execDacQueuePush a0 a1 a2 a3 a4) := by
  unfold execDacQueuePush
  repeat' first
    | with_reducible (first
        | assumption | intro _ | apply Slostan_run_good | apply regDacPush_good | apply next_good | apply ite_good
        | apply iteR_good | apply iteP_good | apply iteO_good)
    | split
    | (with_reducible refine Good.mk' (Good.flat ?_))

theorem State_dacWave_good {s0 : State} {a0 a1 a2 a3} (ha0 : Good s0 a0) : Good s0 (@State.dacWave a0 a1 a2 a3) := by
  unfold State.dacWave
  repeat' first
    | with_reducible (first
        | assumption | intro _ | apply wr_good | apply State_updDac_good | apply State_updDie_good | apply next_good
        | apply ite_good | apply iteR_good | apply iteP_good | apply iteO_good)
    | split
    | (with_reducible refine Good.mk' (Good.flat ?_))

theorem applyDacWaveSet_good {s0 : State} {a0 a1 a2 a3 a4 a5} (ha5 : Good s0 a5) :
    Good s0 (@applyDacWaveSet a0 a1 a2 a3 a4 a5).state := by
  unfold applyDacWaveSet
  repeat' first
    | with_reducible (first
        | assumption | intro _ | apply Res_fail_good | apply Res_refuse_good | apply Res_ok_good
        | apply State_dacWave_good | apply each_good | apply next_good | apply ite_good | apply iteR_good
        | apply iteP_good | apply iteO_good)
    | split
    | (with_reducible refine Good.mk' (Good.flat ?_))

theorem execDacWaveSet_good {s0 : State} {a0 a1 a2 a3 a4} (ha4 : Good s0 a4) :
    GoodO s0 (@execDacWaveSet a0 a1 a2 a3 a4) := by
  unfold execDacWaveSet
  repeat' first
    | with_reducible (first
        | assumption | intro _ | apply Slostan_run_good | apply applyDacWaveSet_good | apply next_good
        | apply ite_good | apply iteR_good | apply iteP_good | apply iteO_good)
    | split
    | (with_reducible refine Good.mk' (Good.flat ?_))

theorem State_waveCode_good {s0 : State} {a0 a1 a2} (ha0 : Good s0 a0) : Good s0 (@State.waveCode a0 a1 a2).2 := by
  unfold State.waveCode
  repeat' first
    | with_reducible (first
        | assumption | intro _ | apply State_fresh_good | apply next_good | apply ite_good | apply iteR_good
        | apply iteP_good | apply iteO_good)
    | split
    | (with_reducible refine Good.mk' (Good.flat ?_))

theorem State_dacStep_good {s0 : State} {a0 a1 a2} (ha0 : Good s0 a0) : Good s0 (@State.dacStep a0 a1 a2) := by
  unfold State.dacStep
  repeat' first
    | with_reducible (first
        | assumption | intro _ | apply State_setOut_good | apply State_updDac_good | apply State_waveCode_good
        | apply next_good | apply ite_good | apply iteR_good | apply iteP_good | apply iteO_good)
    | split
    | (with_reducible refine Good.mk' (Good.flat ?_))

theorem State_dacClearDie_good {s0 : State} {a0 a1} (ha0 : Good s0 a0) : Good s0 (@State.dacClearDie a0 a1) := by
  unfold State.dacClearDie
  repeat' first
    | with_reducible (first
        | assumption | intro _ | apply State_raiseLane_good | apply State_dacClearAll_good | apply wr_good
        | apply next_good | apply ite_good | apply iteR_good | apply iteP_good | apply iteO_good)
    | split
    | (with_reducible refine Good.mk' (Good.flat ?_))

theorem regSwClr_good {s0 : State} {a0 a1 a2} (ha2 : Good s0 a2) : Good s0 (@regSwClr a0 a1 a2).state := by
  unfold regSwClr
  repeat' first
    | with_reducible (first
        | assumption | intro _ | apply Res_fail_good | apply State_wrB_good | apply Res_ok_good
        | apply State_dacClearDie_good | apply next_good | apply ite_good | apply iteR_good | apply iteP_good
        | apply iteO_good)
    | split
    | (with_reducible refine Good.mk' (Good.flat ?_))

theorem execSwClr_good {s0 : State} {a0 a1 a2 a3} (ha3 : Good s0 a3) : GoodO s0 (@execSwClr a0 a1 a2 a3) := by
  unfold execSwClr
  repeat' first
    | with_reducible (first
        | assumption | intro _ | apply Slostan_run_good | apply regSwClr_good | apply next_good | apply ite_good
        | apply iteR_good | apply iteP_good | apply iteO_good)
    | split
    | (with_reducible refine Good.mk' (Good.flat ?_))

theorem execClrNAssert_good {s0 : State} {a0} (ha0 : Good s0 a0) : GoodO s0 (@execClrNAssert a0) := by
  unfold execClrNAssert
  repeat' first
    | with_reducible (first
        | assumption | intro _ | apply wr_good | apply State_dacClearDie_good | apply each_good | apply next_good
        | apply ite_good | apply iteR_good | apply iteP_good | apply iteO_good)
    | split
    | (with_reducible refine Good.mk' (Good.flat ?_))

theorem execClrNRelease_good {s0 : State} {a0} (ha0 : Good s0 a0) : GoodO s0 (@execClrNRelease a0) := by
  unfold execClrNRelease
  repeat' first
    | with_reducible (first
        | assumption | intro _ | apply wr_good | apply each_good | apply next_good | apply ite_good
        | apply iteR_good | apply iteP_good | apply iteO_good)
    | split
    | (with_reducible refine Good.mk' (Good.flat ?_))

theorem execDacShort_good {s0 : State} {a0 a1 a2 a3} (ha3 : Good s0 a3) : GoodO s0 (@execDacShort a0 a1 a2 a3) := by
  unfold execDacShort
  repeat' first
    | with_reducible (first
        | assumption | intro _ | apply wr_good | apply State_raiseLane_good | apply State_cnt_good | apply next_good
        | apply ite_good | apply iteR_good | apply iteP_good | apply iteO_good)
    | split
    | (with_reducible refine Good.mk' (Good.flat ?_))

theorem execDacStatusGet_good {s0 : State} {a0 a1 a2} (ha2 : Good s0 a2) : GoodO s0 (@execDacStatusGet a0 a1 a2) := by
  unfold execDacStatusGet
  repeat' first
    | with_reducible (first
        | assumption | intro _ | apply Slostan_run_good | apply Res_fail_good | apply Res_okWith_good
        | apply next_good | apply ite_good | apply iteR_good | apply iteP_good | apply iteO_good)
    | split
    | (with_reducible refine Good.mk' (Good.flat ?_))

theorem State_dacNap_good {s0 : State} {a0 a1} (ha0 : Good s0 a0) : Good s0 (@State.dacNap a0 a1) := by
  unfold State.dacNap
  repeat' first
    | with_reducible (first
        | assumption | intro _ | apply State_dacClear_good | apply State_updDac_good | apply State_setOut_good
        | apply each_good | apply next_good | apply ite_good | apply iteR_good | apply iteP_good | apply iteO_good)
    | split
    | (with_reducible refine Good.mk' (Good.flat ?_))

theorem State_updConv_good {s0 : State} {a0 a1 a2 a3} (ha0 : Good s0 a0) : Good s0 (@State.updConv a0 a1 a2 a3) := by
  unfold State.updConv
  repeat' first
    | with_reducible (first
        | assumption | intro _ | apply State_updDie_good | apply next_good | apply ite_good | apply iteR_good
        | apply iteP_good | apply iteO_good)
    | split
    | (with_reducible refine Good.mk' (Good.flat ?_))

theorem State_convStart_good {s0 : State} {a0 a1 a2 a3 a4} (ha0 : Good s0 a0) :
    Good s0 (@State.convStart a0 a1 a2 a3 a4) := by
  unfold State.convStart
  repeat' first
    | with_reducible (first
        | assumption | intro _ | apply State_updConv_good | apply next_good | apply ite_good | apply iteR_good
        | apply iteP_good | apply iteO_good)
    | split
    | (with_reducible refine Good.mk' (Good.flat ?_))

theorem State_convRun_good {s0 : State} {a0 a1 a2 a3 a4 a5 a6} (ha0 : Good s0 a0) :
    Good s0 (@State.convRun a0 a1 a2 a3 a4 a5 a6) := by
  unfold State.convRun
  repeat' first
    | with_reducible (first
        | assumption | intro _ | apply State_updConv_good | apply State_convStart_good | apply next_good
        | apply ite_good | apply iteR_good | apply iteP_good | apply iteO_good)
    | split
    | (with_reducible refine Good.mk' (Good.flat ?_))

theorem State_startRegular_good {s0 : State} {a0 a1 a2 a3} (ha0 : Good s0 a0) :
    Good s0 (@State.startRegular a0 a1 a2 a3) := by
  unfold State.startRegular
  repeat' first
    | with_reducible (first
        | assumption | intro _ | apply State_convRun_good | apply State_updConv_good | apply next_good
        | apply ite_good | apply iteR_good | apply iteP_good | apply iteO_good)
    | split
    | (with_reducible refine Good.mk' (Good.flat ?_))

theorem State_startInjected_good {s0 : State} {a0 a1 a2 a3} (ha0 : Good s0 a0) :
    Good s0 (@State.startInjected a0 a1 a2 a3) := by
  unfold State.startInjected
  repeat' first
    | with_reducible (first
        | assumption | intro _ | apply State_convRun_good | apply next_good | apply ite_good | apply iteR_good
        | apply iteP_good | apply iteO_good)
    | split
    | (with_reducible refine Good.mk' (Good.flat ?_))

theorem State_convFree_good {s0 : State} {a0 a1 a2} (ha0 : Good s0 a0) : Good s0 (@State.convFree a0 a1 a2) := by
  unfold State.convFree
  repeat' first
    | with_reducible (first
        | assumption | intro _ | apply State_startInjected_good | apply State_updConv_good
        | apply State_startRegular_good | apply State_convStart_good | apply next_good | apply ite_good
        | apply iteR_good | apply iteP_good | apply iteO_good)
    | split
    | (with_reducible refine Good.mk' (Good.flat ?_))

theorem State_fifoPush_good {s0 : State} {a0 a1 a2 a3} (ha0 : Good s0 a0) :
    Good s0 (@State.fifoPush a0 a1 a2 a3) := by
  unfold State.fifoPush
  repeat' first
    | with_reducible (first
        | assumption | intro _ | apply State_updConv_good | apply State_cnt_good | apply wr_good
        | apply State_raiseLane_good | apply next_good | apply ite_good | apply iteR_good | apply iteP_good
        | apply iteO_good)
    | split
    | (with_reducible refine Good.mk' (Good.flat ?_))

theorem State_regTrigger_good {s0 : State} {a0 a1 a2} (ha0 : Good s0 a0) : Good s0 (@State.regTrigger a0 a1 a2) := by
  unfold State.regTrigger
  repeat' first
    | with_reducible (first
        | assumption | intro _ | apply State_cnt_good | apply State_incSat_good | apply State_updConv_good
        | apply State_raiseLane_good | apply next_good | apply ite_good | apply iteR_good | apply iteP_good
        | apply iteO_good)
    | split
    | (with_reducible refine Good.mk' (Good.flat ?_))

theorem State_ownNow_good {s0 : State} {a0 a1 a2} (ha0 : Good s0 a0) : Good s0 (@State.ownNow a0 a1 a2) := by
  unfold State.ownNow
  repeat' first
    | with_reducible (first
        | assumption | intro _ | apply State_updConv_good | apply State_startInjected_good | apply next_good
        | apply ite_good | apply iteR_good | apply iteP_good | apply iteO_good)
    | split
    | (with_reducible refine Good.mk' (Good.flat ?_))

theorem State_ownTrigger_good {s0 : State} {a0 a1 a2} (ha0 : Good s0 a0) : Good s0 (@State.ownTrigger a0 a1 a2) := by
  unfold State.ownTrigger
  repeat' first
    | with_reducible (first
        | assumption | intro _ | apply State_cnt_good | apply State_incSat_good | apply State_ownNow_good
        | apply State_updConv_good | apply next_good | apply ite_good | apply iteR_good | apply iteP_good
        | apply iteO_good)
    | split
    | (with_reducible refine Good.mk' (Good.flat ?_))

theorem State_safetyOn_good {s0 : State} {a0 a1 a2} (ha0 : Good s0 a0) : Good s0 (@State.safetyOn a0 a1 a2) := by
  unfold State.safetyOn
  repeat' first
    | with_reducible (first
        | assumption | intro _ | apply State_cnt_good | apply State_incSat_good | apply State_startInjected_good
        | apply State_updConv_good | apply next_good | apply ite_good | apply iteR_good | apply iteP_good
        | apply iteO_good)
    | split
    | (with_reducible refine Good.mk' (Good.flat ?_))

theorem State_safetyTrigger_good {s0 : State} {a0 a1 a2} (ha0 : Good s0 a0) :
    Good s0 (@State.safetyTrigger a0 a1 a2) := by
  unfold State.safetyTrigger
  repeat' first
    | with_reducible (first
        | assumption | intro _ | apply State_safetyOn_good | apply next_good | apply ite_good | apply iteR_good
        | apply iteP_good | apply iteO_good)
    | split
    | (with_reducible refine Good.mk' (Good.flat ?_))

theorem execMadcInjectedTrigger_good {s0 : State} {a0 a1 a2 a3} (ha3 : Good s0 a3) :
    GoodO s0 (@execMadcInjectedTrigger a0 a1 a2 a3) := by
  unfold execMadcInjectedTrigger
  repeat' first
    | with_reducible (first
        | assumption | intro _ | apply State_safetyTrigger_good | apply State_ownTrigger_good | apply next_good
        | apply ite_good | apply iteR_good | apply iteP_good | apply iteO_good)
    | split
    | (with_reducible refine Good.mk' (Good.flat ?_))

theorem State_sourceTrigger_good {s0 : State} {a0 a1 a2 a3} (ha0 : Good s0 a0) :
    Good s0 (@State.sourceTrigger a0 a1 a2 a3) := by
  unfold State.sourceTrigger
  repeat' first
    | with_reducible (first
        | assumption | intro _ | apply State_ownTrigger_good | apply State_regTrigger_good | apply next_good
        | apply ite_good | apply iteR_good | apply iteP_good | apply iteO_good)
    | split
    | (with_reducible refine Good.mk' (Good.flat ?_))

theorem State_dieTrigger_good {s0 : State} {a0 a1 a2} (ha0 : Good s0 a0) : Good s0 (@State.dieTrigger a0 a1 a2) := by
  unfold State.dieTrigger
  repeat' first
    | with_reducible (first
        | assumption | intro _ | apply State_sourceTrigger_good | apply next_good | apply ite_good | apply iteR_good
        | apply iteP_good | apply iteO_good)
    | split
    | (with_reducible refine Good.mk' (Good.flat ?_))

theorem State_lineTrigger_good {s0 : State} {a0 a1} (ha0 : Good s0 a0) : Good s0 (@State.lineTrigger a0 a1) := by
  unfold State.lineTrigger
  repeat' first
    | with_reducible (first
        | assumption | intro _ | apply State_dieTrigger_good | apply each_good | apply next_good | apply ite_good
        | apply iteR_good | apply iteP_good | apply iteO_good)
    | split
    | (with_reducible refine Good.mk' (Good.flat ?_))

theorem State_fireCommand_good {s0 : State} {a0} (ha0 : Good s0 a0) : Good s0 (@State.fireCommand a0) := by
  unfold State.fireCommand
  repeat' first
    | with_reducible (first
        | assumption | intro _ | apply State_lineTrigger_good | apply next_good | apply ite_good | apply iteR_good
        | apply iteP_good | apply iteO_good)
    | split
    | (with_reducible refine Good.mk' (Good.flat ?_))

theorem execDacUpdate_good {s0 : State} {a0 a1} (ha1 : Good s0 a1) : GoodO s0 (@execDacUpdate a0 a1) := by
  unfold execDacUpdate
  repeat' first
    | with_reducible (first
        | assumption | intro _ | apply State_updDie_good | apply State_dacStep_good | apply State_updDac_good
        | apply State_dieTrigger_good | apply each_good | apply next_good | apply ite_good | apply iteR_good
        | apply iteP_good | apply iteO_good)
    | split
    | (with_reducible refine Good.mk' (Good.flat ?_))

theorem execMadcTimer_good {s0 : State} {a0 a1 a2} (ha2 : Good s0 a2) : GoodO s0 (@execMadcTimer a0 a1 a2) := by
  unfold execMadcTimer
  repeat' first
    | with_reducible (first
        | assumption | intro _ | apply State_sourceTrigger_good | apply State_updConv_good | apply next_good
        | apply ite_good | apply iteR_good | apply iteP_good | apply iteO_good)
    | split
    | (with_reducible refine Good.mk' (Good.flat ?_))

theorem execMadcTriggerDelayEnd_good {s0 : State} {a0 a1 a2} (ha2 : Good s0 a2) :
    GoodO s0 (@execMadcTriggerDelayEnd a0 a1 a2) := by
  unfold execMadcTriggerDelayEnd
  repeat' first
    | with_reducible (first
        | assumption | intro _ | apply State_ownNow_good | apply State_updConv_good | apply State_startRegular_good
        | apply next_good | apply ite_good | apply iteR_good | apply iteP_good | apply iteO_good)
    | split
    | (with_reducible refine Good.mk' (Good.flat ?_))

theorem State_syncTrigger_good {s0 : State} {a0} (ha0 : Good s0 a0) : Good s0 (@State.syncTrigger a0) := by
  unfold State.syncTrigger
  repeat' first
    | with_reducible (first
        | assumption | intro _ | apply State_lineTrigger_good | apply next_good | apply ite_good | apply iteR_good
        | apply iteP_good | apply iteO_good)
    | split
    | (with_reducible refine Good.mk' (Good.flat ?_))

theorem execSyncInEdge_good {s0 : State} {a0} (ha0 : Good s0 a0) : GoodO s0 (@execSyncInEdge a0) := by
  unfold execSyncInEdge
  repeat' first
    | with_reducible (first
        | assumption | intro _ | apply State_syncTrigger_good | apply State_syncBoundary_good | apply next_good
        | apply ite_good | apply iteR_good | apply iteP_good | apply iteO_good)
    | split
    | (with_reducible refine Good.mk' (Good.flat ?_))

theorem State_convDone_good {s0 : State} {a0 a1 a2 a3} (ha0 : Good s0 a0) :
    Good s0 (@State.convDone a0 a1 a2 a3) := by
  unfold State.convDone
  repeat' first
    | with_reducible (first
        | assumption | intro _ | apply State_fifoPush_good | apply State_startRegular_good
        | apply State_convFree_good | apply State_finishPend_good | apply State_wrB_good | apply wr_good
        | apply State_wrInt_good | apply each_good | apply next_good | apply ite_good | apply iteR_good
        | apply iteP_good | apply iteO_good)
    | split
    | (with_reducible refine Good.mk' (Good.flat ?_))

theorem execMadcConversionDone_good {s0 : State} {a0 a1 a2 a3 a4} (ha4 : Good s0 a4) :
    GoodO s0 (@execMadcConversionDone a0 a1 a2 a3 a4) := by
  unfold execMadcConversionDone
  repeat' first
    | with_reducible (first
        | assumption | intro _ | apply State_convDone_good | apply State_updConv_good | apply next_good
        | apply ite_good | apply iteR_good | apply iteP_good | apply iteO_good)
    | split
    | (with_reducible refine Good.mk' (Good.flat ?_))

theorem applyMadcConvert_good {s0 : State} {a0 a1 a2 a3 a4 a5 a6} (ha6 : Good s0 a6) :
    Good s0 (@applyMadcConvert a0 a1 a2 a3 a4 a5 a6).state := by
  unfold applyMadcConvert
  repeat' first
    | with_reducible (first
        | assumption | intro _ | apply Res_fail_good | apply wr_good | apply State_updConv_good
        | apply Res_pending_good | apply State_startRegular_good | apply Res_badParam_good | apply next_good
        | apply ite_good | apply iteR_good | apply iteP_good | apply iteO_good)
    | split
    | (with_reducible refine Good.mk' (Good.flat ?_))

theorem execMadcConvert_good {s0 : State} {a0 a1 a2 a3 a4 a5} (ha5 : Good s0 a5) :
    GoodO s0 (@execMadcConvert a0 a1 a2 a3 a4 a5) := by
  unfold execMadcConvert
  repeat' first
    | with_reducible (first
        | assumption | intro _ | apply Slostan_run_good | apply applyMadcConvert_good | apply next_good
        | apply ite_good | apply iteR_good | apply iteP_good | apply iteO_good)
    | split
    | (with_reducible refine Good.mk' (Good.flat ?_))

theorem State_writeSeq_good {s0 s : State} {d n k l} (h : Good s0 s) : Good s0 (s.writeSeq d n k l) := by
  induction l generalizing s k with
  | nil => exact h
  | cons a l ih =>
    unfold State.writeSeq
    exact ih (wr_good _ _ _ (wr_good _ _ _ (wr_good _ _ _ h)))

theorem applyMadcSeqSet_good {s0 : State} {a0 a1 a2 a3 a4 a5 a6} (ha6 : Good s0 a6) :
    Good s0 (@applyMadcSeqSet a0 a1 a2 a3 a4 a5 a6).state := by
  unfold applyMadcSeqSet
  repeat' first
    | with_reducible (first
        | assumption | intro _ | apply Res_fail_good | apply Res_ok_good | apply wr_good | apply State_writeSeq_good
        | apply each_good | apply next_good | apply ite_good | apply iteR_good | apply iteP_good | apply iteO_good)
    | split
    | (with_reducible refine Good.mk' (Good.flat ?_))

theorem execMadcSeqSet_good {s0 : State} {a0 a1 a2 a3 a4 a5} (ha5 : Good s0 a5) :
    GoodO s0 (@execMadcSeqSet a0 a1 a2 a3 a4 a5) := by
  unfold execMadcSeqSet
  repeat' first
    | with_reducible (first
        | assumption | intro _ | apply Slostan_run_good | apply applyMadcSeqSet_good | apply next_good
        | apply ite_good | apply iteR_good | apply iteP_good | apply iteO_good)
    | split
    | (with_reducible refine Good.mk' (Good.flat ?_))

theorem applyMadcTriggerSet_good {s0 : State} {a0 a1 a2 a3 a4 a5 a6 a7} (ha7 : Good s0 a7) :
    Good s0 (@applyMadcTriggerSet a0 a1 a2 a3 a4 a5 a6 a7).state := by
  unfold applyMadcTriggerSet
  repeat' first
    | with_reducible (first
        | assumption | intro _ | apply Res_fail_good | apply wr_good | apply State_updConv_good | apply Res_ok_good
        | apply each_good | apply next_good | apply ite_good | apply iteR_good | apply iteP_good | apply iteO_good)
    | split
    | (with_reducible refine Good.mk' (Good.flat ?_))

theorem execMadcTriggerSet_good {s0 : State} {a0 a1 a2 a3 a4 a5 a6} (ha6 : Good s0 a6) :
    GoodO s0 (@execMadcTriggerSet a0 a1 a2 a3 a4 a5 a6) := by
  unfold execMadcTriggerSet
  repeat' first
    | with_reducible (first
        | assumption | intro _ | apply State_fireCommand_good | apply Slostan_run_good
        | apply applyMadcTriggerSet_good | apply next_good | apply ite_good | apply iteR_good | apply iteP_good
        | apply iteO_good)
    | split
    | (with_reducible refine Good.mk' (Good.flat ?_))

theorem State_calRequest_good {s0 : State} {a0 a1 a2 a3} (ha0 : Good s0 a0) :
    Good s0 (@State.calRequest a0 a1 a2 a3) := by
  unfold State.calRequest
  repeat' first
    | with_reducible (first
        | assumption | intro _ | apply State_updConv_good | apply State_convStart_good | apply next_good
        | apply ite_good | apply iteR_good | apply iteP_good | apply iteO_good)
    | split
    | (with_reducible refine Good.mk' (Good.flat ?_))

theorem applyMadcCalibrate_good {s0 : State} {a0 a1 a2 a3 a4 a5} (ha5 : Good s0 a5) :
    Good s0 (@applyMadcCalibrate a0 a1 a2 a3 a4 a5).state := by
  unfold applyMadcCalibrate
  repeat' first
    | with_reducible (first
        | assumption | intro _ | apply Res_fail_good | apply State_calRequest_good | apply Res_pending_good
        | apply each_good | apply foldl_good | apply next_good | apply ite_good | apply iteR_good | apply iteP_good
        | apply iteO_good)
    | split
    | (with_reducible refine Good.mk' (Good.flat ?_))

theorem execMadcCalibrate_good {s0 : State} {a0 a1 a2 a3 a4} (ha4 : Good s0 a4) :
    GoodO s0 (@execMadcCalibrate a0 a1 a2 a3 a4) := by
  unfold execMadcCalibrate
  repeat' first
    | with_reducible (first
        | assumption | intro _ | apply Slostan_run_good | apply applyMadcCalibrate_good | apply next_good
        | apply ite_good | apply iteR_good | apply iteP_good | apply iteO_good)
    | split
    | (with_reducible refine Good.mk' (Good.flat ?_))

theorem State_endCal_good {s0 : State} {a0 a1 a2} (ha0 : Good s0 a0) : Good s0 (@State.endCal a0 a1 a2) := by
  unfold State.endCal
  repeat' first
    | with_reducible (first
        | assumption | intro _ | apply State_finishPend_good | apply next_good | apply ite_good | apply iteR_good
        | apply iteP_good | apply iteO_good)
    | split
    | (with_reducible refine Good.mk' (Good.flat ?_))

theorem execMadcCalibrationDone_good {s0 : State} {a0 a1 a2 a3} (ha3 : Good s0 a3) :
    GoodO s0 (@execMadcCalibrationDone a0 a1 a2 a3) := by
  unfold execMadcCalibrationDone
  repeat' first
    | with_reducible (first
        | assumption | intro _ | apply saveCal_good | apply State_wrInt_good | apply State_raiseLane_good
        | apply State_updConv_good | apply wr_good | apply State_convFree_good | apply State_endCal_good
        | apply each_good | apply next_good | apply ite_good | apply iteR_good | apply iteP_good | apply iteO_good)
    | split
    | (with_reducible refine Good.mk' (Good.flat ?_))

theorem execMadcRead_good {s0 : State} {a0 a1 a2 a3 a4} (ha4 : Good s0 a4) :
    GoodO s0 (@execMadcRead a0 a1 a2 a3 a4) := by
  unfold execMadcRead
  repeat' first
    | with_reducible (first
        | assumption | intro _ | apply Slostan_run_good | apply Res_fail_good | apply Res_okWith_good
        | apply State_updConv_good | apply Res_badParam_good | apply next_good | apply ite_good | apply iteR_good
        | apply iteP_good | apply iteO_good)
    | split
    | (with_reducible refine Good.mk' (Good.flat ?_))

theorem applyMadcTestdacSet_good {s0 : State} {a0 a1 a2 a3 a4 a5} (ha5 : Good s0 a5) :
    Good s0 (@applyMadcTestdacSet a0 a1 a2 a3 a4 a5).state := by
  unfold applyMadcTestdacSet
  repeat' first
    | with_reducible (first
        | assumption | intro _ | apply Res_fail_good | apply Res_ok_good | apply wr_good | apply each_good
        | apply next_good | apply ite_good | apply iteR_good | apply iteP_good | apply iteO_good)
    | split
    | (with_reducible refine Good.mk' (Good.flat ?_))

theorem execMadcTestdacSet_good {s0 : State} {a0 a1 a2 a3 a4} (ha4 : Good s0 a4) :
    GoodO s0 (@execMadcTestdacSet a0 a1 a2 a3 a4) := by
  unfold execMadcTestdacSet
  repeat' first
    | with_reducible (first
        | assumption | intro _ | apply Slostan_run_good | apply applyMadcTestdacSet_good | apply next_good
        | apply ite_good | apply iteR_good | apply iteP_good | apply iteO_good)
    | split
    | (with_reducible refine Good.mk' (Good.flat ?_))

theorem execInjStart_good {s0 : State} {a0 a1 a2 a3} (ha3 : Good s0 a3) : GoodO s0 (@execInjStart a0 a1 a2 a3) := by
  unfold execInjStart
  repeat' first
    | with_reducible (first
        | assumption | intro _ | apply Slostan_run_good | apply regGuard_good | apply Res_ok_good
        | apply State_ownTrigger_good | apply next_good | apply ite_good | apply iteR_good | apply iteP_good
        | apply iteO_good)
    | split
    | (with_reducible refine Good.mk' (Good.flat ?_))

theorem State_readFifo_good {s0 : State} {a0 a1 a2} (ha0 : Good s0 a0) : Good s0 (@State.readFifo a0 a1 a2).2 := by
  unfold State.readFifo
  repeat' first
    | with_reducible (first
        | assumption | intro _ | apply State_updConv_good | apply next_good | apply ite_good | apply iteR_good
        | apply iteP_good | apply iteO_good)
    | split
    | (with_reducible refine Good.mk' (Good.flat ?_))

theorem execMadcFifoRead_good {s0 : State} {a0 a1 a2 a3} (ha3 : Good s0 a3) :
    GoodO s0 (@execMadcFifoRead a0 a1 a2 a3) := by
  unfold execMadcFifoRead
  repeat' first
    | with_reducible (first
        | assumption | intro _ | apply Slostan_run_good | apply regGuard_good | apply Res_okWith_good
        | apply State_readFifo_good | apply next_good | apply ite_good | apply iteR_good | apply iteP_good
        | apply iteO_good)
    | split
    | (with_reducible refine Good.mk' (Good.flat ?_))

theorem State_readInjRes_good {s0 : State} {a0 a1 a2} (ha0 : Good s0 a0) :
    Good s0 (@State.readInjRes a0 a1 a2).2 := by
  unfold State.readInjRes
  repeat' first
    | with_reducible (first
        | assumption | intro _ | apply wr_good | apply next_good | apply ite_good | apply iteR_good
        | apply iteP_good | apply iteO_good)
    | split
    | (with_reducible refine Good.mk' (Good.flat ?_))

theorem execInjResRead_good {s0 : State} {a0 a1 a2 a3} (ha3 : Good s0 a3) :
    GoodO s0 (@execInjResRead a0 a1 a2 a3) := by
  unfold execInjResRead
  repeat' first
    | with_reducible (first
        | assumption | intro _ | apply Slostan_run_good | apply regGuard_good | apply Res_okWith_good
        | apply State_readInjRes_good | apply next_good | apply ite_good | apply iteR_good | apply iteP_good
        | apply iteO_good)
    | split
    | (with_reducible refine Good.mk' (Good.flat ?_))

theorem State_stopConvs_good {s0 : State} {a0 a1} (ha0 : Good s0 a0) : Good s0 (@State.stopConvs a0 a1) := by
  unfold State.stopConvs
  repeat' first
    | with_reducible (first
        | assumption | intro _ | apply State_updConv_good | apply State_finishPend_good | apply each_good
        | apply next_good | apply ite_good | apply iteR_good | apply iteP_good | apply iteO_good)
    | split
    | (with_reducible refine Good.mk' (Good.flat ?_))

theorem State_updSafe_good {s0 : State} {a0 a1 a2} (ha0 : Good s0 a0) : Good s0 (@State.updSafe a0 a1 a2) := by
  unfold State.updSafe
  repeat' first
    | with_reducible (first
        | assumption | intro _ | apply State_updDie_good | apply next_good | apply ite_good | apply iteR_good
        | apply iteP_good | apply iteO_good)
    | split
    | (with_reducible refine Good.mk' (Good.flat ?_))

theorem State_ldisFollow_good {s0 : State} {a0 a1} (ha0 : Good s0 a0) : Good s0 (@State.ldisFollow a0 a1) := by
  unfold State.ldisFollow
  repeat' first
    | with_reducible (first
        | assumption | intro _ | apply State_wrB_good | apply State_updSafe_good | apply emit_good | apply next_good
        | apply ite_good | apply iteR_good | apply iteP_good | apply iteO_good)
    | split
    | (with_reducible refine Good.mk' (Good.flat ?_))

theorem State_armFollow_good {s0 : State} {a0 a1} (ha0 : Good s0 a0) : Good s0 (@State.armFollow a0 a1) := by
  unfold State.armFollow
  repeat' first
    | with_reducible (first
        | assumption | intro _ | apply State_ldisFollow_good | apply State_wrB_good | apply State_updSafe_good
        | apply next_good | apply ite_good | apply iteR_good | apply iteP_good | apply iteO_good)
    | split
    | (with_reducible refine Good.mk' (Good.flat ?_))

theorem execSfLArmed_good {s0 : State} {a0 a1} (ha1 : Good s0 a1) : GoodO s0 (@execSfLArmed a0 a1) := by
  unfold execSfLArmed
  repeat' first
    | with_reducible (first
        | assumption | intro _ | apply State_armFollow_good | apply next_good | apply ite_good | apply iteR_good
        | apply iteP_good | apply iteO_good)
    | split
    | (with_reducible refine Good.mk' (Good.flat ?_))

theorem State_safetyClrFollow_good {s0 : State} {a0 a1} (ha0 : Good s0 a0) :
    Good s0 (@State.safetyClrFollow a0 a1) := by
  unfold State.safetyClrFollow
  repeat' first
    | with_reducible (first
        | assumption | intro _ | apply State_updDie_good | apply State_dacClear_good | apply next_good
        | apply ite_good | apply iteR_good | apply iteP_good | apply iteO_good)
    | split
    | (with_reducible refine Good.mk' (Good.flat ?_))

theorem State_trip_good {s0 : State} {a0 a1 a2} (ha0 : Good s0 a0) : Good s0 (@State.trip a0 a1 a2) := by
  unfold State.trip
  repeat' first
    | with_reducible (first
        | assumption | intro _ | apply wr_good | apply State_safetyClrFollow_good | apply State_ldisFollow_good
        | apply State_sbPush_good | apply State_cnt_good | apply State_updSafe_good | apply State_raise_good
        | apply next_good | apply ite_good | apply iteR_good | apply iteP_good | apply iteO_good)
    | split
    | (with_reducible refine Good.mk' (Good.flat ?_))

theorem execEmissionTrip_good {s0 : State} {a0 a1 a2 a3} (ha3 : Good s0 a3) :
    GoodO s0 (@execEmissionTrip a0 a1 a2 a3) := by
  unfold execEmissionTrip
  repeat' first
    | with_reducible (first
        | assumption | intro _ | apply State_trip_good | apply next_good | apply ite_good | apply iteR_good
        | apply iteP_good | apply iteO_good)
    | split
    | (with_reducible refine Good.mk' (Good.flat ?_))

theorem State_checkPair_good {s0 : State} {a0 a1 a2 a3} (ha0 : Good s0 a0) :
    Good s0 (@State.checkPair a0 a1 a2 a3) := by
  unfold State.checkPair
  repeat' first
    | with_reducible (first
        | assumption | intro _ | apply State_updSafe_good | apply State_trip_good | apply next_good | apply ite_good
        | apply iteR_good | apply iteP_good | apply iteO_good)
    | split
    | (with_reducible refine Good.mk' (Good.flat ?_))

theorem State_safetyResult_good {s0 : State} {a0 a1 a2 a3 a4} (ha0 : Good s0 a0) :
    Good s0 (@State.safetyResult a0 a1 a2 a3 a4) := by
  unfold State.safetyResult
  repeat' first
    | with_reducible (first
        | assumption | intro _ | apply State_wrInt_good | apply wr_good | apply State_updSafe_good
        | apply State_checkPair_good | apply State_trip_good | apply next_good | apply ite_good | apply iteR_good
        | apply iteP_good | apply iteO_good)
    | split
    | (with_reducible refine Good.mk' (Good.flat ?_))

theorem execSafetyConversion_good {s0 s : State} {d b} (h : Good s0 s) : GoodO s0 (execSafetyConversion d b s) := by
  unfold execSafetyConversion
  split
  · exact next_good h
  · extract_lets turn n
    split
    · exact next_good (State_safetyResult_good h)
    · exact next_good h

theorem execSafetyConversionMissing_good {s0 : State} {a0 a1} (ha1 : Good s0 a1) :
    GoodO s0 (@execSafetyConversionMissing a0 a1) := by
  unfold execSafetyConversionMissing
  repeat' first
    | with_reducible (first
        | assumption | intro _ | apply State_trip_good | apply next_good | apply ite_good | apply iteR_good
        | apply iteP_good | apply iteO_good)
    | split
    | (with_reducible refine Good.mk' (Good.flat ?_))

theorem State_cmpResult_good {s0 : State} {a0 a1 a2 a3} (ha0 : Good s0 a0) :
    Good s0 (@State.cmpResult a0 a1 a2 a3) := by
  unfold State.cmpResult
  repeat' first
    | with_reducible (first
        | assumption | intro _ | apply State_updSafe_good | apply State_wrB_good | apply next_good | apply ite_good
        | apply iteR_good | apply iteP_good | apply iteO_good)
    | split
    | (with_reducible refine Good.mk' (Good.flat ?_))

theorem execComparatorTest_good {s0 : State} {a0 a1 a2 a3} (ha3 : Good s0 a3) :
    GoodO s0 (@execComparatorTest a0 a1 a2 a3) := by
  unfold execComparatorTest
  repeat' first
    | with_reducible (first
        | assumption | intro _ | apply State_updSafe_good | apply State_cmpResult_good | apply State_trip_good
        | apply next_good | apply ite_good | apply iteR_good | apply iteP_good | apply iteO_good)
    | split
    | (with_reducible refine Good.mk' (Good.flat ?_))

theorem execSafeMonFault_good {s0 : State} {a0 a1} (ha1 : Good s0 a1) : GoodO s0 (@execSafeMonFault a0 a1) := by
  unfold execSafeMonFault
  repeat' first
    | with_reducible (first
        | assumption | intro _ | apply State_raiseLane_good | apply State_trip_good | apply wr_good
        | apply next_good | apply ite_good | apply iteR_good | apply iteP_good | apply iteO_good)
    | split
    | (with_reducible refine Good.mk' (Good.flat ?_))

theorem execLdisStuck_good {s0 : State} {a0 a1 a2} (ha2 : Good s0 a2) : GoodO s0 (@execLdisStuck a0 a1 a2) := by
  unfold execLdisStuck
  repeat' first
    | with_reducible (first
        | assumption | intro _ | apply wr_good | apply State_updSafe_good | apply State_safetyClrFollow_good
        | apply State_raiseLane_good | apply State_wrB_good | apply next_good | apply ite_good | apply iteR_good
        | apply iteP_good | apply iteO_good)
    | split
    | (with_reducible refine Good.mk' (Good.flat ?_))

theorem State_loadLimit_good {s0 : State} {a0 a1} (ha0 : Good s0 a0) : Good s0 (@State.loadLimit a0 a1) := by
  unfold State.loadLimit
  repeat' first
    | with_reducible (first
        | assumption | intro _ | apply wr_good | apply next_good | apply ite_good | apply iteR_good
        | apply iteP_good | apply iteO_good)
    | split
    | (with_reducible refine Good.mk' (Good.flat ?_))

theorem State_setLimit_good {s0 : State} {a0 a1 a2 a3} (ha0 : Good s0 a0) :
    Good s0 (@State.setLimit a0 a1 a2 a3) := by
  unfold State.setLimit
  repeat' first
    | with_reducible (first
        | assumption | intro _ | apply State_updSafe_good | apply State_loadLimit_good | apply State_armFollow_good
        | apply State_trip_good | apply next_good | apply ite_good | apply iteR_good | apply iteP_good
        | apply iteO_good)
    | split
    | (with_reducible refine Good.mk' (Good.flat ?_))

theorem applySafetyLimitSet_good {s0 : State} {a0 a1 a2 a3} (ha3 : Good s0 a3) :
    Good s0 (@applySafetyLimitSet a0 a1 a2 a3).state := by
  unfold applySafetyLimitSet
  repeat' first
    | with_reducible (first
        | assumption | intro _ | apply Res_fail_good | apply Res_ok_good | apply State_setLimit_good
        | apply each_good | apply next_good | apply ite_good | apply iteR_good | apply iteP_good | apply iteO_good)
    | split
    | (with_reducible refine Good.mk' (Good.flat ?_))

theorem execSafetyLimitSet_good {s0 : State} {a0 a1 a2} (ha2 : Good s0 a2) :
    GoodO s0 (@execSafetyLimitSet a0 a1 a2) := by
  unfold execSafetyLimitSet
  repeat' first
    | with_reducible (first
        | assumption | intro _ | apply Slostan_run_good | apply applySafetyLimitSet_good | apply next_good
        | apply ite_good | apply iteR_good | apply iteP_good | apply iteO_good)
    | split
    | (with_reducible refine Good.mk' (Good.flat ?_))

theorem execSafetyStatusGet_good {s0 : State} {a0 a1} (ha1 : Good s0 a1) : GoodO s0 (@execSafetyStatusGet a0 a1) := by
  unfold execSafetyStatusGet
  repeat' first
    | with_reducible (first
        | assumption | intro _ | apply Slostan_run_good | apply Res_okWith_good | apply next_good | apply ite_good
        | apply iteR_good | apply iteP_good | apply iteO_good)
    | split
    | (with_reducible refine Good.mk' (Good.flat ?_))

theorem State_retest_good {s0 : State} {a0 a1 a2} (ha0 : Good s0 a0) : Good s0 (@State.retest a0 a1 a2) := by
  unfold State.retest
  repeat' first
    | with_reducible (first
        | assumption | intro _ | apply State_cmpResult_good | apply wr_good | apply next_good | apply ite_good
        | apply iteR_good | apply iteP_good | apply iteO_good)
    | split
    | (with_reducible refine Good.mk' (Good.flat ?_))

theorem applySafetyReset_good {s0 : State} {a0 a1 a2 a3 a4} (ha4 : Good s0 a4) :
    Good s0 (@applySafetyReset a0 a1 a2 a3 a4).state := by
  unfold applySafetyReset
  repeat' first
    | with_reducible (first
        | assumption | intro _ | apply Res_badParam_good | apply Res_fail_good | apply Res_ok_good
        | apply State_retest_good | apply wr_good | apply State_updSafe_good | apply State_sbPush_good
        | apply State_armFollow_good | apply State_safetyClrFollow_good | apply next_good | apply ite_good
        | apply iteR_good | apply iteP_good | apply iteO_good)
    | split
    | (with_reducible refine Good.mk' (Good.flat ?_))

theorem execSafetyReset_good {s0 : State} {a0 a1 a2 a3} (ha3 : Good s0 a3) :
    GoodO s0 (@execSafetyReset a0 a1 a2 a3) := by
  unfold execSafetyReset
  repeat' first
    | with_reducible (first
        | assumption | intro _ | apply Slostan_run_good | apply applySafetyReset_good | apply next_good
        | apply ite_good | apply iteR_good | apply iteP_good | apply iteO_good)
    | split
    | (with_reducible refine Good.mk' (Good.flat ?_))

theorem State_safeSleep_good {s0 : State} {a0 a1} (ha0 : Good s0 a0) : Good s0 (@State.safeSleep a0 a1) := by
  unfold State.safeSleep
  repeat' first
    | with_reducible (first
        | assumption | intro _ | apply State_ldisFollow_good | apply wr_good | apply State_updSafe_good
        | apply next_good | apply ite_good | apply iteR_good | apply iteP_good | apply iteO_good)
    | split
    | (with_reducible refine Good.mk' (Good.flat ?_))

theorem State_safePowered_good {s0 : State} {a0 a1} (ha0 : Good s0 a0) : Good s0 (@State.safePowered a0 a1) := by
  unfold State.safePowered
  repeat' first
    | with_reducible (first
        | assumption | intro _ | apply State_armFollow_good | apply State_updSafe_good | apply State_dacClear_good
        | apply next_good | apply ite_good | apply iteR_good | apply iteP_good | apply iteO_good)
    | split
    | (with_reducible refine Good.mk' (Good.flat ?_))

theorem State_safeWoken_good {s0 : State} {a0 a1} (ha0 : Good s0 a0) : Good s0 (@State.safeWoken a0 a1) := by
  unfold State.safeWoken
  repeat' first
    | with_reducible (first
        | assumption | intro _ | apply State_armFollow_good | apply State_updSafe_good | apply next_good
        | apply ite_good | apply iteR_good | apply iteP_good | apply iteO_good)
    | split
    | (with_reducible refine Good.mk' (Good.flat ?_))

theorem State_sfdCatch_good {s0 : State} {a0 a1} (ha0 : Good s0 a0) : Good s0 (@State.sfdCatch a0 a1) := by
  unfold State.sfdCatch
  repeat' first
    | with_reducible (first
        | assumption | intro _ | apply State_raiseLane_good | apply State_cnt_good | apply State_updSafe_good
        | apply wr_good | apply next_good | apply ite_good | apply iteR_good | apply iteP_good | apply iteO_good)
    | split
    | (with_reducible refine Good.mk' (Good.flat ?_))

end Sys2Proof.Machine
end

