-- ==== Sys2Proof/Laws/KeepsFabric.lean ====
section
/-! SUPPORT. A sound state stays sound, and takes back nothing, through every operation and command of:
the fabric and the transmitters. Proved alike for each operation, from the lemmas of those it calls. -/

namespace Sys2Proof.Machine

theorem State_updFab_good {s0 : State} {a0 a1} (ha0 : Good s0 a0) : Good s0 (@State.updFab a0 a1) := by
  unfold State.updFab
  repeat' first
    | with_reducible (first
        | assumption | intro _ | apply next_good | apply ite_good | apply iteR_good | apply iteP_good
        | apply iteO_good)
    | split
    | (with_reducible refine Good.mk' (Good.flat ?_))

theorem State_updMedium_good {s0 : State} {a0 a1 a2} (ha0 : Good s0 a0) : Good s0 (@State.updMedium a0 a1 a2) := by
  unfold State.updMedium
  repeat' first
    | with_reducible (first
        | assumption | intro _ | apply State_updFab_good | apply next_good | apply ite_good | apply iteR_good
        | apply iteP_good | apply iteO_good)
    | split
    | (with_reducible refine Good.mk' (Good.flat ?_))

theorem State_takeNode_good {s0 : State} {a0} (ha0 : Good s0 a0) : Good s0 (@State.takeNode a0) := by
  unfold State.takeNode
  repeat' first
    | with_reducible (first
        | assumption | intro _ | apply State_updFab_good | apply wr_good | apply next_good | apply ite_good
        | apply iteR_good | apply iteP_good | apply iteO_good)
    | split
    | (with_reducible refine Good.mk' (Good.flat ?_))

theorem State_sendHello_good {s0 : State} {a0 a1} (ha0 : Good s0 a0) : Good s0 (@State.sendHello a0 a1) := by
  unfold State.sendHello
  repeat' first
    | with_reducible (first
        | assumption | intro _ | apply State_takeNode_good | apply State_updMedium_good | apply State_sendPort_good
        | apply State_inbPush_good | apply each_good | apply next_good | apply ite_good | apply iteR_good
        | apply iteP_good | apply iteO_good)
    | split
    | (with_reducible refine Good.mk' (Good.flat ?_))

theorem State_sendRoutes_good {s0 : State} {a0 a1} (ha0 : Good s0 a0) : Good s0 (@State.sendRoutes a0 a1) := by
  unfold State.sendRoutes
  repeat' first
    | with_reducible (first
        | assumption | intro _ | apply State_sendNbr_good | apply State_updFab_good | apply next_good
        | apply ite_good | apply iteR_good | apply iteP_good | apply iteO_good)
    | split
    | (with_reducible refine Good.mk' (Good.flat ?_))

theorem State_sendChanged_good {s0 : State} {a0 a1} (ha0 : Good s0 a0) : Good s0 (@State.sendChanged a0 a1) := by
  unfold State.sendChanged
  repeat' first
    | with_reducible (first
        | assumption | intro _ | apply State_updMedium_good | apply State_sendRoutes_good | apply each_good
        | apply next_good | apply ite_good | apply iteR_good | apply iteP_good | apply iteO_good)
    | split
    | (with_reducible refine Good.mk' (Good.flat ?_))

theorem State_triggerHello_good {s0 : State} {a0 a1} (ha0 : Good s0 a0) : Good s0 (@State.triggerHello a0 a1) := by
  unfold State.triggerHello
  repeat' first
    | with_reducible (first
        | assumption | intro _ | apply State_updMedium_good | apply State_sendHello_good | apply next_good
        | apply ite_good | apply iteR_good | apply iteP_good | apply iteO_good)
    | split
    | (with_reducible refine Good.mk' (Good.flat ?_))

theorem State_triggerRoutes_good {s0 : State} {a0 a1} (ha0 : Good s0 a0) : Good s0 (@State.triggerRoutes a0 a1) := by
  unfold State.triggerRoutes
  repeat' first
    | with_reducible (first
        | assumption | intro _ | apply State_updMedium_good | apply State_sendChanged_good | apply next_good
        | apply ite_good | apply iteR_good | apply iteP_good | apply iteO_good)
    | split
    | (with_reducible refine Good.mk' (Good.flat ?_))

theorem State_trackRoutes_good {s0 : State} {a0} (ha0 : Good s0 a0) : Good s0 (@State.trackRoutes a0) := by
  unfold State.trackRoutes
  repeat' first
    | with_reducible (first
        | assumption | intro _ | apply next_good | apply ite_good | apply iteR_good | apply iteP_good
        | apply iteO_good)
    | split
    | (with_reducible refine Good.mk' (Good.flat ?_))

theorem State_treeRecompute_good {s0 : State} {a0} (ha0 : Good s0 a0) : Good s0 (@State.treeRecompute a0) := by
  unfold State.treeRecompute
  repeat' first
    | with_reducible (first
        | assumption | intro _ | apply State_updFab_good | apply wr_good | apply State_sendRoutes_good
        | apply State_triggerRoutes_good | apply State_triggerHello_good | apply State_trackRoutes_good
        | apply each_good | apply next_good | apply ite_good | apply iteR_good | apply iteP_good | apply iteO_good)
    | split
    | (with_reducible refine Good.mk' (Good.flat ?_))

theorem State_tableFull_good {s0 : State} {a0} (ha0 : Good s0 a0) : Good s0 (@State.tableFull a0) := by
  unfold State.tableFull
  repeat' first
    | with_reducible (first
        | assumption | intro _ | apply State_raisePkg_good | apply wr_good | apply next_good | apply ite_good
        | apply iteR_good | apply iteP_good | apply iteO_good)
    | split
    | (with_reducible refine Good.mk' (Good.flat ?_))

theorem State_dropNbr_good {s0 : State} {a0 a1} (ha0 : Good s0 a0) : Good s0 (@State.dropNbr a0 a1) := by
  unfold State.dropNbr
  repeat' first
    | with_reducible (first
        | assumption | intro _ | apply State_raisePkg_good | apply State_updFab_good | apply next_good
        | apply ite_good | apply iteR_good | apply iteP_good | apply iteO_good)
    | split
    | (with_reducible refine Good.mk' (Good.flat ?_))

theorem State_mediumDown_good {s0 : State} {a0 a1} (ha0 : Good s0 a0) : Good s0 (@State.mediumDown a0 a1) := by
  unfold State.mediumDown
  repeat' first
    | with_reducible (first
        | assumption | intro _ | apply State_dropNbr_good | apply State_treeRecompute_good
        | apply State_updMedium_good | apply each_good | apply next_good | apply ite_good | apply iteR_good
        | apply iteP_good | apply iteO_good)
    | split
    | (with_reducible refine Good.mk' (Good.flat ?_))

theorem State_enterNbr_good {s0 : State} {a0 a1 a2 a3} (ha0 : Good s0 a0) :
    Good s0 (@State.enterNbr a0 a1 a2 a3) := by
  unfold State.enterNbr
  repeat' first
    | with_reducible (first
        | assumption | intro _ | apply State_updFab_good | apply State_followLinks_good | apply State_tableFull_good
        | apply State_updMedium_good | apply State_raisePkg_good | apply wr_good | apply next_good | apply ite_good
        | apply iteR_good | apply iteP_good | apply iteO_good)
    | split
    | (with_reducible refine Good.mk' (Good.flat ?_))

theorem execJeuriHello_good {s0 : State} {a0 a1 a2 a3 a4 a5} (ha5 : Good s0 a5) :
    GoodO s0 (@execJeuriHello a0 a1 a2 a3 a4 a5) := by
  unfold execJeuriHello
  repeat' first
    | with_reducible (first
        | assumption | intro _ | apply State_treeRecompute_good | apply State_enterNbr_good | apply next_good
        | apply ite_good | apply iteR_good | apply iteP_good | apply iteO_good)
    | split
    | (with_reducible refine Good.mk' (Good.flat ?_))

theorem execNeighbourDead_good {s0 : State} {a0 a1 a2} (ha2 : Good s0 a2) :
    GoodO s0 (@execNeighbourDead a0 a1 a2) := by
  unfold execNeighbourDead
  repeat' first
    | with_reducible (first
        | assumption | intro _ | apply State_treeRecompute_good | apply State_dropNbr_good | apply next_good
        | apply ite_good | apply iteR_good | apply iteP_good | apply iteO_good)
    | split
    | (with_reducible refine Good.mk' (Good.flat ?_))

theorem execHelloInterval_good {s0 : State} {a0} (ha0 : Good s0 a0) : GoodO s0 (@execHelloInterval a0) := by
  unfold execHelloInterval
  repeat' first
    | with_reducible (first
        | assumption | intro _ | apply State_treeRecompute_good | apply State_updFab_good
        | apply State_sendHello_good | apply each_good | apply next_good | apply ite_good | apply iteR_good
        | apply iteP_good | apply iteO_good)
    | split
    | (with_reducible refine Good.mk' (Good.flat ?_))

theorem execTriggerHoldoffEnd_good {s0 : State} {a0 a1 a2} (ha2 : Good s0 a2) :
    GoodO s0 (@execTriggerHoldoffEnd a0 a1 a2) := by
  unfold execTriggerHoldoffEnd
  repeat' first
    | with_reducible (first
        | assumption | intro _ | apply State_triggerRoutes_good | apply State_updMedium_good
        | apply State_triggerHello_good | apply next_good | apply ite_good | apply iteR_good | apply iteP_good
        | apply iteO_good)
    | split
    | (with_reducible refine Good.mk' (Good.flat ?_))

theorem State_learn_good {s0 : State} {a0 a1 a2} (ha0 : Good s0 a0) : Good s0 (@State.learn a0 a1 a2) := by
  unfold State.learn
  repeat' first
    | with_reducible (first
        | assumption | intro _ | apply State_updFab_good | apply State_tableFull_good | apply next_good
        | apply ite_good | apply iteR_good | apply iteP_good | apply iteO_good)
    | split
    | (with_reducible refine Good.mk' (Good.flat ?_))

theorem execJeuriRoutes_good {s0 : State} {a0 a1 a2 a3} (ha3 : Good s0 a3) :
    GoodO s0 (@execJeuriRoutes a0 a1 a2 a3) := by
  unfold execJeuriRoutes
  repeat' first
    | with_reducible (first
        | assumption | intro _ | apply State_treeRecompute_good | apply State_learn_good | apply each_good
        | apply next_good | apply ite_good | apply iteR_good | apply iteP_good | apply iteO_good)
    | split
    | (with_reducible refine Good.mk' (Good.flat ?_))

theorem execRoutesRefresh_good {s0 : State} {a0} (ha0 : Good s0 a0) : GoodO s0 (@execRoutesRefresh a0) := by
  unfold execRoutesRefresh
  repeat' first
    | with_reducible (first
        | assumption | intro _ | apply State_updFab_good | apply State_sendRoutes_good | apply each_good
        | apply next_good | apply ite_good | apply iteR_good | apply iteP_good | apply iteO_good)
    | split
    | (with_reducible refine Good.mk' (Good.flat ?_))

theorem execRouteAgeOut_good {s0 : State} {a0 a1} (ha1 : Good s0 a1) : GoodO s0 (@execRouteAgeOut a0 a1) := by
  unfold execRouteAgeOut
  repeat' first
    | with_reducible (first
        | assumption | intro _ | apply State_treeRecompute_good | apply State_updFab_good | apply next_good
        | apply ite_good | apply iteR_good | apply iteP_good | apply iteO_good)
    | split
    | (with_reducible refine Good.mk' (Good.flat ?_))

theorem State_dropPacket_good {s0 : State} {a0 a1 a2} (ha0 : Good s0 a0) : Good s0 (@State.dropPacket a0 a1 a2) := by
  unfold State.dropPacket
  repeat' first
    | with_reducible (first
        | assumption | intro _ | apply State_jeuriDropped_good | apply wr_good | apply next_good | apply ite_good
        | apply iteR_good | apply iteP_good | apply iteO_good)
    | split
    | (with_reducible refine Good.mk' (Good.flat ?_))

theorem State_forward_good {s0 : State} {a0 a1 a2 a3 a4} (ha0 : Good s0 a0) :
    Good s0 (@State.forward a0 a1 a2 a3 a4) := by
  unfold State.forward
  repeat' first
    | with_reducible (first
        | assumption | intro _ | apply State_dropPacket_good | apply State_sendNbr_good | apply State_sendVia_good
        | apply each_good | apply next_good | apply ite_good | apply iteR_good | apply iteP_good | apply iteO_good)
    | split
    | (with_reducible refine Good.mk' (Good.flat ?_))

theorem execJeuriData_good {s0 : State} {a0 a1 a2 a3} (ha3 : Good s0 a3) : GoodO s0 (@execJeuriData a0 a1 a2 a3) := by
  unfold execJeuriData
  repeat' first
    | with_reducible (first
        | assumption | intro _ | apply State_jeuriDropped_good | apply State_forward_good | apply next_good
        | apply ite_good | apply iteR_good | apply iteP_good | apply iteO_good)
    | split
    | (with_reducible refine Good.mk' (Good.flat ?_))

theorem State_inbandFollow_good {s0 : State} {a0 a1} (ha0 : Good s0 a0) : Good s0 (@State.inbandFollow a0 a1) := by
  unfold State.inbandFollow
  repeat' first
    | with_reducible (first
        | assumption | intro _ | apply State_setBit_good | apply State_treeRecompute_good
        | apply State_sendHello_good | apply State_followLinks_good | apply State_cntN_good
        | apply State_updInb_good | apply State_dropNbr_good | apply State_updMedium_good | apply each_good
        | apply next_good | apply ite_good | apply iteR_good | apply iteP_good | apply iteO_good)
    | split
    | (with_reducible refine Good.mk' (Good.flat ?_))

theorem State_takeSegment_good {s0 s : State} {l} (h : Good s0 s) : Good s0 (s.takeSegment l).2 := by
  unfold State.takeSegment
  extract_lets x
  split
  · exact h
  · exact State_updInb_good (State_cnt_good h)

theorem State_segLost_good {s0 : State} {a0 a1} (ha0 : Good s0 a0) : Good s0 (@State.segLost a0 a1) := by
  unfold State.segLost
  repeat' first
    | with_reducible (first
        | assumption | intro _ | apply State_updInb_good | apply State_setBit_good | apply State_cnt_good
        | apply next_good | apply ite_good | apply iteR_good | apply iteP_good | apply iteO_good)
    | split
    | (with_reducible refine Good.mk' (Good.flat ?_))

theorem State_segDiscarded_good {s0 : State} {a0 a1} (ha0 : Good s0 a0) : Good s0 (@State.segDiscarded a0 a1) := by
  unfold State.segDiscarded
  repeat' first
    | with_reducible (first
        | assumption | intro _ | apply State_segLost_good | apply next_good | apply ite_good | apply iteR_good
        | apply iteP_good | apply iteO_good)
    | split
    | (with_reducible refine Good.mk' (Good.flat ?_))

theorem State_takeMessage_good {s0 : State} {a0 a1 a2} (ha0 : Good s0 a0) :
    Good s0 (@State.takeMessage a0 a1 a2) := by
  unfold State.takeMessage
  repeat' first
    | with_reducible (first
        | assumption | intro _ | apply State_jeuriDropped_good | apply emit_good | apply next_good | apply ite_good
        | apply iteR_good | apply iteP_good | apply iteO_good)
    | split
    | (with_reducible refine Good.mk' (Good.flat ?_))

theorem State_takeRxSegment_good {s0 : State} {a0 a1 a2} (ha0 : Good s0 a0) :
    Good s0 (@State.takeRxSegment a0 a1 a2) := by
  unfold State.takeRxSegment
  repeat' first
    | with_reducible (first
        | assumption | intro _ | apply State_segLost_good | apply State_updInb_good | apply State_takeMessage_good
        | apply next_good | apply ite_good | apply iteR_good | apply iteP_good | apply iteO_good)
    | split
    | (with_reducible refine Good.mk' (Good.flat ?_))

theorem execNodeSet_good {s0 : State} {a0 a1 a2} (ha2 : Good s0 a2) : GoodO s0 (@execNodeSet a0 a1 a2) := by
  unfold execNodeSet
  repeat' first
    | with_reducible (first
        | assumption | intro _ | apply Slostan_run_good | apply Res_ok_good | apply State_updFab_good
        | apply next_good | apply ite_good | apply iteR_good | apply iteP_good | apply iteO_good)
    | split
    | (with_reducible refine Good.mk' (Good.flat ?_))

theorem execRouteGet_good {s0 : State} {a0 a1} (ha1 : Good s0 a1) : GoodO s0 (@execRouteGet a0 a1) := by
  unfold execRouteGet
  repeat' first
    | with_reducible (first
        | assumption | intro _ | apply Slostan_run_good | apply Res_okWith_good | apply next_good | apply ite_good
        | apply iteR_good | apply iteP_good | apply iteO_good)
    | split
    | (with_reducible refine Good.mk' (Good.flat ?_))

theorem applyRouteSet_good {s0 : State} {a0 a1 a2 a3} (ha3 : Good s0 a3) :
    Good s0 (@applyRouteSet a0 a1 a2 a3).state := by
  unfold applyRouteSet
  repeat' first
    | with_reducible (first
        | assumption | intro _ | apply State_updFab_good | apply Res_ok_good | apply State_treeRecompute_good
        | apply State_tableFull_good | apply next_good | apply ite_good | apply iteR_good | apply iteP_good
        | apply iteO_good)
    | split
    | (with_reducible refine Good.mk' (Good.flat ?_))

theorem execRouteSet_good {s0 : State} {a0 a1 a2} (ha2 : Good s0 a2) : GoodO s0 (@execRouteSet a0 a1 a2) := by
  unfold execRouteSet
  repeat' first
    | with_reducible (first
        | assumption | intro _ | apply Slostan_run_good | apply applyRouteSet_good | apply next_good
        | apply ite_good | apply iteR_good | apply iteP_good | apply iteO_good)
    | split
    | (with_reducible refine Good.mk' (Good.flat ?_))

theorem execNeighbourGet_good {s0 : State} {a0 a1} (ha1 : Good s0 a1) : GoodO s0 (@execNeighbourGet a0 a1) := by
  unfold execNeighbourGet
  repeat' first
    | with_reducible (first
        | assumption | intro _ | apply Slostan_run_good | apply Res_okWith_good | apply next_good | apply ite_good
        | apply iteR_good | apply iteP_good | apply iteO_good)
    | split
    | (with_reducible refine Good.mk' (Good.flat ?_))

theorem State_updTx_good {s0 : State} {a0 a1 a2} (ha0 : Good s0 a0) : Good s0 (@State.updTx a0 a1 a2) := by
  unfold State.updTx
  repeat' first
    | with_reducible (first
        | assumption | intro _ | apply State_updDie_good | apply next_good | apply ite_good | apply iteR_good
        | apply iteP_good | apply iteO_good)
    | split
    | (with_reducible refine Good.mk' (Good.flat ?_))

theorem State_holdTx_good {s0 : State} {a0 a1 a2 a3} (ha0 : Good s0 a0) : Good s0 (@State.holdTx a0 a1 a2 a3) := by
  unfold State.holdTx
  repeat' first
    | with_reducible (first
        | assumption | intro _ | apply State_updTx_good | apply next_good | apply ite_good | apply iteR_good
        | apply iteP_good | apply iteO_good)
    | split
    | (with_reducible refine Good.mk' (Good.flat ?_))

theorem State_setForce_good {s0 : State} {a0 a1 a2} (ha0 : Good s0 a0) : Good s0 (@State.setForce a0 a1 a2) := by
  unfold State.setForce
  repeat' first
    | with_reducible (first
        | assumption | intro _ | apply wr_good | apply State_holdTx_good | apply next_good | apply ite_good
        | apply iteR_good | apply iteP_good | apply iteO_good)
    | split
    | (with_reducible refine Good.mk' (Good.flat ?_))

theorem State_noteFir_good {s0 : State} {a0 a1 a2} (ha0 : Good s0 a0) : Good s0 (@State.noteFir a0 a1 a2) := by
  unfold State.noteFir
  repeat' first
    | with_reducible (first
        | assumption | intro _ | apply State_updTx_good | apply next_good | apply ite_good | apply iteR_good
        | apply iteP_good | apply iteO_good)
    | split
    | (with_reducible refine Good.mk' (Good.flat ?_))

theorem State_notePd_good {s0 : State} {a0 a1 a2} (ha0 : Good s0 a0) : Good s0 (@State.notePd a0 a1 a2) := by
  unfold State.notePd
  repeat' first
    | with_reducible (first
        | assumption | intro _ | apply State_updTx_good | apply next_good | apply ite_good | apply iteR_good
        | apply iteP_good | apply iteO_good)
    | split
    | (with_reducible refine Good.mk' (Good.flat ?_))

theorem State_setFirBank_good {s0 : State} {a0 a1 a2 a3} (ha0 : Good s0 a0) :
    Good s0 (@State.setFirBank a0 a1 a2 a3) := by
  unfold State.setFirBank
  repeat' first
    | with_reducible (first
        | assumption | intro _ | apply State_noteFir_good | apply State_wrInt_good | apply each_good
        | apply next_good | apply ite_good | apply iteR_good | apply iteP_good | apply iteO_good)
    | split
    | (with_reducible refine Good.mk' (Good.flat ?_))

theorem State_setPdTable_good {s0 : State} {a0 a1 a2 a3} (ha0 : Good s0 a0) :
    Good s0 (@State.setPdTable a0 a1 a2 a3) := by
  unfold State.setPdTable
  repeat' first
    | with_reducible (first
        | assumption | intro _ | apply State_notePd_good | apply State_wrInt_good | apply each_good
        | apply next_good | apply ite_good | apply iteR_good | apply iteP_good | apply iteO_good)
    | split
    | (with_reducible refine Good.mk' (Good.flat ?_))

theorem State_keepTx_good {s0 : State} {a0 a1 a2} (ha0 : Good s0 a0) : Good s0 (@State.keepTx a0 a1 a2) := by
  unfold State.keepTx
  repeat' first
    | with_reducible (first
        | assumption | intro _ | apply State_updTx_good | apply next_good | apply ite_good | apply iteR_good
        | apply iteP_good | apply iteO_good)
    | split
    | (with_reducible refine Good.mk' (Good.flat ?_))

theorem State_loadFir_good {s0 : State} {a0 a1 a2 a3} (ha0 : Good s0 a0) :
    Good s0 (@State.loadFir a0 a1 a2 a3).state := by
  unfold State.loadFir
  repeat' first
    | with_reducible (first
        | assumption | intro _ | apply Res_fail_good | apply Res_ok_good | apply State_keepTx_good
        | apply State_setFirBank_good | apply next_good | apply ite_good | apply iteR_good | apply iteP_good
        | apply iteO_good)
    | split
    | (with_reducible refine Good.mk' (Good.flat ?_))

theorem State_requestFirSwap_good {s0 : State} {a0 a1} (ha0 : Good s0 a0) :
    Good s0 (@State.requestFirSwap a0 a1).state := by
  unfold State.requestFirSwap
  repeat' first
    | with_reducible (first
        | assumption | intro _ | apply Res_fail_good | apply Res_ok_good | apply State_keepTx_good
        | apply State_updTx_good | apply next_good | apply ite_good | apply iteR_good | apply iteP_good
        | apply iteO_good)
    | split
    | (with_reducible refine Good.mk' (Good.flat ?_))

theorem State_requestPdSwap_good {s0 : State} {a0 a1} (ha0 : Good s0 a0) :
    Good s0 (@State.requestPdSwap a0 a1).state := by
  unfold State.requestPdSwap
  repeat' first
    | with_reducible (first
        | assumption | intro _ | apply Res_fail_good | apply Res_ok_good | apply State_keepTx_good
        | apply State_updTx_good | apply next_good | apply ite_good | apply iteR_good | apply iteP_good
        | apply iteO_good)
    | split
    | (with_reducible refine Good.mk' (Good.flat ?_))

theorem Res_andThen_good {s0 s : State} {q k} (h : Good s0 s) (hq : Good s0 q.state)
    (hk : ∀ t, Good s0 t → Good s0 (k t).state) : Good s0 (Res.andThen q s k).state := by
  unfold Res.andThen
  exact iteR_good (iteR_good (hk _ hq) h) h

theorem applyTxBankLoad_good {s0 : State} {a0 a1 a2 a3 a4 a5 a6} (ha6 : Good s0 a6) :
    Good s0 (@applyTxBankLoad a0 a1 a2 a3 a4 a5 a6).state := by
  unfold applyTxBankLoad
  repeat' first
    | with_reducible (first
        | assumption | intro _ | apply Res_badParam_good | apply Res_fail_good | apply Res_andThen_good
        | apply State_loadFir_good | apply State_requestFirSwap_good | apply Res_ok_good | apply next_good
        | apply ite_good | apply iteR_good | apply iteP_good | apply iteO_good)
    | split
    | (with_reducible refine Good.mk' (Good.flat ?_))

theorem execTxBankLoad_good {s0 : State} {a0 a1 a2 a3 a4 a5} (ha5 : Good s0 a5) :
    GoodO s0 (@execTxBankLoad a0 a1 a2 a3 a4 a5) := by
  unfold execTxBankLoad
  repeat' first
    | with_reducible (first
        | assumption | intro _ | apply Slostan_run_good | apply applyTxBankLoad_good | apply next_good
        | apply ite_good | apply iteR_good | apply iteP_good | apply iteO_good)
    | split
    | (with_reducible refine Good.mk' (Good.flat ?_))

theorem applyTxPdLoad_good {s0 : State} {a0 a1 a2 a3 a4 a5 a6} (ha6 : Good s0 a6) :
    Good s0 (@applyTxPdLoad a0 a1 a2 a3 a4 a5 a6).state := by
  unfold applyTxPdLoad
  repeat' first
    | with_reducible (first
        | assumption | intro _ | apply Res_badParam_good | apply Res_fail_good | apply Res_andThen_good
        | apply Res_ok_good | apply State_keepTx_good | apply State_setPdTable_good | apply State_requestPdSwap_good
        | apply next_good | apply ite_good | apply iteR_good | apply iteP_good | apply iteO_good)
    | split
    | (with_reducible refine Good.mk' (Good.flat ?_))

theorem execTxPdLoad_good {s0 : State} {a0 a1 a2 a3 a4 a5} (ha5 : Good s0 a5) :
    GoodO s0 (@execTxPdLoad a0 a1 a2 a3 a4 a5) := by
  unfold execTxPdLoad
  repeat' first
    | with_reducible (first
        | assumption | intro _ | apply Slostan_run_good | apply applyTxPdLoad_good | apply next_good
        | apply ite_good | apply iteR_good | apply iteP_good | apply iteO_good)
    | split
    | (with_reducible refine Good.mk' (Good.flat ?_))

theorem execFirSwap_good {s0 : State} {a0 a1 a2} (ha2 : Good s0 a2) : GoodO s0 (@execFirSwap a0 a1 a2) := by
  unfold execFirSwap
  repeat' first
    | with_reducible (first
        | assumption | intro _ | apply Slostan_run_good | apply regGuard_good | apply State_requestFirSwap_good
        | apply next_good | apply ite_good | apply iteR_good | apply iteP_good | apply iteO_good)
    | split
    | (with_reducible refine Good.mk' (Good.flat ?_))

theorem execPdSwap_good {s0 : State} {a0 a1 a2} (ha2 : Good s0 a2) : GoodO s0 (@execPdSwap a0 a1 a2) := by
  unfold execPdSwap
  repeat' first
    | with_reducible (first
        | assumption | intro _ | apply Slostan_run_good | apply regGuard_good | apply State_requestPdSwap_good
        | apply next_good | apply ite_good | apply iteR_good | apply iteP_good | apply iteO_good)
    | split
    | (with_reducible refine Good.mk' (Good.flat ?_))

theorem State_doFirSwap_good {s0 : State} {a0 a1} (ha0 : Good s0 a0) : Good s0 (@State.doFirSwap a0 a1) := by
  unfold State.doFirSwap
  repeat' first
    | with_reducible (first
        | assumption | intro _ | apply State_cnt_good | apply wr_good | apply State_setFirBank_good
        | apply State_updTx_good | apply next_good | apply ite_good | apply iteR_good | apply iteP_good
        | apply iteO_good)
    | split
    | (with_reducible refine Good.mk' (Good.flat ?_))

theorem State_doTxLoad_good {s0 : State} {a0 a1} (ha0 : Good s0 a0) : Good s0 (@State.doTxLoad a0 a1) := by
  unfold State.doTxLoad
  repeat' first
    | with_reducible (first
        | assumption | intro _ | apply State_updTx_good | apply State_setFirBank_good | apply State_setPdTable_good
        | apply wr_good | apply next_good | apply ite_good | apply iteR_good | apply iteP_good | apply iteO_good)
    | split
    | (with_reducible refine Good.mk' (Good.flat ?_))

theorem State_doPdSwap_good {s0 : State} {a0 a1} (ha0 : Good s0 a0) : Good s0 (@State.doPdSwap a0 a1) := by
  unfold State.doPdSwap
  repeat' first
    | with_reducible (first
        | assumption | intro _ | apply wr_good | apply State_updTx_good | apply next_good | apply ite_good
        | apply iteR_good | apply iteP_good | apply iteO_good)
    | split
    | (with_reducible refine Good.mk' (Good.flat ?_))

theorem State_setDelay_good {s0 : State} {a0 a1 a2} (ha0 : Good s0 a0) : Good s0 (@State.setDelay a0 a1 a2) := by
  unfold State.setDelay
  repeat' first
    | with_reducible (first
        | assumption | intro _ | apply wr_good | apply State_wrB_good | apply next_good | apply ite_good
        | apply iteR_good | apply iteP_good | apply iteO_good)
    | split
    | (with_reducible refine Good.mk' (Good.flat ?_))

theorem execLaunchDelayWrite_good {s0 : State} {a0 a1 a2 a3} (ha3 : Good s0 a3) :
    GoodO s0 (@execLaunchDelayWrite a0 a1 a2 a3) := by
  unfold execLaunchDelayWrite
  repeat' first
    | with_reducible (first
        | assumption | intro _ | apply Slostan_run_good | apply regGuard_good | apply Res_ok_good
        | apply State_setDelay_good | apply next_good | apply ite_good | apply iteR_good | apply iteP_good
        | apply iteO_good)
    | split
    | (with_reducible refine Good.mk' (Good.flat ?_))

theorem State_stepDelay_good {s0 : State} {a0 a1} (ha0 : Good s0 a0) : Good s0 (@State.stepDelay a0 a1) := by
  unfold State.stepDelay
  repeat' first
    | with_reducible (first
        | assumption | intro _ | apply wr_good | apply State_wrB_good | apply next_good | apply ite_good
        | apply iteR_good | apply iteP_good | apply iteO_good)
    | split
    | (with_reducible refine Good.mk' (Good.flat ?_))

theorem State_wrOpt_good {s0 : State} {a0 a1 a2 a3} (ha0 : Good s0 a0) : Good s0 (@State.wrOpt a0 a1 a2 a3) := by
  unfold State.wrOpt
  repeat' first
    | with_reducible (first
        | assumption | intro _ | apply wr_good | apply next_good | apply ite_good | apply iteR_good
        | apply iteP_good | apply iteO_good)
    | split
    | (with_reducible refine Good.mk' (Good.flat ?_))

theorem applyLineTxSet_good {s0 : State} {a0 a1 a2 a3 a4 a5 a6 a7 a8} (ha8 : Good s0 a8) :
    Good s0 (@applyLineTxSet a0 a1 a2 a3 a4 a5 a6 a7 a8).state := by
  unfold applyLineTxSet
  repeat' first
    | with_reducible (first
        | assumption | intro _ | apply Res_fail_good | apply Res_ok_good | apply State_setForce_good
        | apply State_wrOpt_good | apply State_setDelay_good | apply each_good | apply next_good | apply ite_good
        | apply iteR_good | apply iteP_good | apply iteO_good)
    | split
    | (with_reducible refine Good.mk' (Good.flat ?_))

theorem execLineTxSet_good {s0 : State} {a0 a1 a2 a3 a4 a5 a6 a7} (ha7 : Good s0 a7) :
    GoodO s0 (@execLineTxSet a0 a1 a2 a3 a4 a5 a6 a7) := by
  unfold execLineTxSet
  repeat' first
    | with_reducible (first
        | assumption | intro _ | apply Slostan_run_good | apply applyLineTxSet_good | apply next_good
        | apply ite_good | apply iteR_good | apply iteP_good | apply iteO_good)
    | split
    | (with_reducible refine Good.mk' (Good.flat ?_))

theorem State_setTxAdapt_good {s0 : State} {a0 a1 a2} (ha0 : Good s0 a0) : Good s0 (@State.setTxAdapt a0 a1 a2) := by
  unfold State.setTxAdapt
  repeat' first
    | with_reducible (first
        | assumption | intro _ | apply wr_good | apply next_good | apply ite_good | apply iteR_good
        | apply iteP_good | apply iteO_good)
    | split
    | (with_reducible refine Good.mk' (Good.flat ?_))

theorem applyTxAdaptSet_good {s0 : State} {a0 a1 a2 a3 a4} (ha4 : Good s0 a4) :
    Good s0 (@applyTxAdaptSet a0 a1 a2 a3 a4).state := by
  unfold applyTxAdaptSet
  repeat' first
    | with_reducible (first
        | assumption | intro _ | apply Res_badParam_good | apply Res_fail_good | apply Res_ok_good
        | apply State_setTxAdapt_good | apply next_good | apply ite_good | apply iteR_good | apply iteP_good
        | apply iteO_good)
    | split
    | (with_reducible refine Good.mk' (Good.flat ?_))

theorem execTxAdaptSet_good {s0 : State} {a0 a1 a2 a3} (ha3 : Good s0 a3) :
    GoodO s0 (@execTxAdaptSet a0 a1 a2 a3) := by
  unfold execTxAdaptSet
  repeat' first
    | with_reducible (first
        | assumption | intro _ | apply Slostan_run_good | apply applyTxAdaptSet_good | apply next_good
        | apply ite_good | apply iteR_good | apply iteP_good | apply iteO_good)
    | split
    | (with_reducible refine Good.mk' (Good.flat ?_))

theorem applyTxMaskSet_good {s0 : State} {a0 a1 a2 a3 a4 a5} (ha5 : Good s0 a5) :
    Good s0 (@applyTxMaskSet a0 a1 a2 a3 a4 a5).state := by
  unfold applyTxMaskSet
  repeat' first
    | with_reducible (first
        | assumption | intro _ | apply Res_badParam_good | apply Res_fail_good | apply Res_ok_good | apply wr_good
        | apply each_good | apply next_good | apply ite_good | apply iteR_good | apply iteP_good | apply iteO_good)
    | split
    | (with_reducible refine Good.mk' (Good.flat ?_))

theorem execTxMaskSet_good {s0 : State} {a0 a1 a2 a3 a4} (ha4 : Good s0 a4) :
    GoodO s0 (@execTxMaskSet a0 a1 a2 a3 a4) := by
  unfold execTxMaskSet
  repeat' first
    | with_reducible (first
        | assumption | intro _ | apply Slostan_run_good | apply applyTxMaskSet_good | apply next_good
        | apply ite_good | apply iteR_good | apply iteP_good | apply iteO_good)
    | split
    | (with_reducible refine Good.mk' (Good.flat ?_))

theorem State_holdAdapt_good {s0 : State} {a0 a1} (ha0 : Good s0 a0) : Good s0 (@State.holdAdapt a0 a1) := by
  unfold State.holdAdapt
  repeat' first
    | with_reducible (first
        | assumption | intro _ | apply wr_good | apply State_updTx_good | apply next_good | apply ite_good
        | apply iteR_good | apply iteP_good | apply iteO_good)
    | split
    | (with_reducible refine Good.mk' (Good.flat ?_))

theorem State_revertFir_good {s0 : State} {a0 a1} (ha0 : Good s0 a0) : Good s0 (@State.revertFir a0 a1) := by
  unfold State.revertFir
  repeat' first
    | with_reducible (first
        | assumption | intro _ | apply State_cnt_good | apply wr_good | apply State_updTx_good | apply next_good
        | apply ite_good | apply iteR_good | apply iteP_good | apply iteO_good)
    | split
    | (with_reducible refine Good.mk' (Good.flat ?_))

theorem State_maskMute_good {s0 : State} {a0 a1} (ha0 : Good s0 a0) : Good s0 (@State.maskMute a0 a1) := by
  unfold State.maskMute
  repeat' first
    | with_reducible (first
        | assumption | intro _ | apply State_raiseLane_good | apply State_updTx_good | apply next_good
        | apply ite_good | apply iteR_good | apply iteP_good | apply iteO_good)
    | split
    | (with_reducible refine Good.mk' (Good.flat ?_))

theorem State_maskRels_good {s0 s : State} {ps} (h : Good s0 s) : Good s0 (s.maskRels ps).2 := by
  have k : ∀ (l : List Nat) (a : List Nat) (s : State), Good s0 s → Good s0 (l.foldl (fun a _ =>
      let (v, s) := a.2.fresh
      (a.1 ++ [v % 256], s)) (a, s)).2 := by
    intro l
    induction l with
    | nil => exact fun _ _ h => h
    | cons _ l ih => exact fun _ _ h => ih _ _ (State_fresh_good h)
  unfold State.maskRels
  extract_lets qs
  exact iteP_good (k _ _ _ h) h

theorem State_maskEpisode_good {s0 : State} {a0 a1 a2} (ha0 : Good s0 a0) :
    Good s0 (@State.maskEpisode a0 a1 a2) := by
  unfold State.maskEpisode
  repeat' first
    | with_reducible (first
        | assumption | intro _ | apply State_raise_good | apply State_cnt_good | apply wr_good
        | apply State_updTx_good | apply State_holdAdapt_good | apply State_revertFir_good
        | apply State_maskMute_good | apply next_good | apply ite_good | apply iteR_good | apply iteP_good
        | apply iteO_good)
    | split
    | (with_reducible refine Good.mk' (Good.flat ?_))

theorem State_maskFollow_good {s0 : State} {a0 a1 a2} (ha0 : Good s0 a0) : Good s0 (@State.maskFollow a0 a1 a2) := by
  unfold State.maskFollow
  repeat' first
    | with_reducible (first
        | assumption | intro _ | apply State_updTx_good | apply State_holdTx_good | apply State_maskEpisode_good
        | apply State_maskMute_good | apply next_good | apply ite_good | apply iteR_good | apply iteP_good
        | apply iteO_good)
    | split
    | (with_reducible refine Good.mk' (Good.flat ?_))

theorem execMaskMeasurement_good {s0 : State} {a0 a1 a2} (ha2 : Good s0 a2) :
    GoodO s0 (@execMaskMeasurement a0 a1 a2) := by
  unfold execMaskMeasurement
  repeat' first
    | with_reducible (first
        | assumption | intro _ | apply State_maskRels_good | apply State_updTx_good | apply wr_good
        | apply State_maskFollow_good | apply each_good | apply next_good | apply ite_good | apply iteR_good
        | apply iteP_good | apply iteO_good)
    | split
    | (with_reducible refine Good.mk' (Good.flat ?_))

theorem State_fbRevert_good {s0 : State} {a0 a1 a2} (ha0 : Good s0 a0) : Good s0 (@State.fbRevert a0 a1 a2) := by
  unfold State.fbRevert
  repeat' first
    | with_reducible (first
        | assumption | intro _ | apply State_holdAdapt_good | apply State_updTx_good | apply State_revertFir_good
        | apply State_raiseLane_good | apply State_cnt_good | apply wr_good | apply next_good | apply ite_good
        | apply iteR_good | apply iteP_good | apply iteO_good)
    | split
    | (with_reducible refine Good.mk' (Good.flat ?_))

theorem State_feedbackAdapt_good {s0 : State} {a0 a1 a2} (ha0 : Good s0 a0) :
    Good s0 (@State.feedbackAdapt a0 a1 a2) := by
  unfold State.feedbackAdapt
  repeat' first
    | with_reducible (first
        | assumption | intro _ | apply wr_good | apply State_updTx_good | apply State_fbRevert_good
        | apply State_cnt_good | apply foldl_good | apply next_good | apply ite_good | apply iteR_good
        | apply iteP_good | apply iteO_good)
    | split
    | (with_reducible refine Good.mk' (Good.flat ?_))

theorem execAdaptHoldEnd_good {s0 : State} {a0 a1} (ha1 : Good s0 a1) : GoodO s0 (@execAdaptHoldEnd a0 a1) := by
  unfold execAdaptHoldEnd
  repeat' first
    | with_reducible (first
        | assumption | intro _ | apply wr_good | apply next_good | apply ite_good | apply iteR_good
        | apply iteP_good | apply iteO_good)
    | split
    | (with_reducible refine Good.mk' (Good.flat ?_))

theorem execNoFeedbackTimeout_good {s0 : State} {a0 a1} (ha1 : Good s0 a1) :
    GoodO s0 (@execNoFeedbackTimeout a0 a1) := by
  unfold execNoFeedbackTimeout
  repeat' first
    | with_reducible (first
        | assumption | intro _ | apply wr_good | apply next_good | apply ite_good | apply iteR_good
        | apply iteP_good | apply iteO_good)
    | split
    | (with_reducible refine Good.mk' (Good.flat ?_))

theorem State_txFrameCounts_good {s0 : State} {a0 a1} (ha0 : Good s0 a0) : Good s0 (@State.txFrameCounts a0 a1) := by
  unfold State.txFrameCounts
  repeat' first
    | with_reducible (first
        | assumption | intro _ | apply State_updTx_good | apply next_good | apply ite_good | apply iteR_good
        | apply iteP_good | apply iteO_good)
    | split
    | (with_reducible refine Good.mk' (Good.flat ?_))

end Sys2Proof.Machine
end

