-- ==== Sys2Proof/Laws/KeepsReceiver.lean ====
section
/-! SUPPORT. A sound state stays sound, and takes back nothing, through every operation and command of:
decoding and the receivers. Proved alike for each operation, from the lemmas of those it calls. -/

namespace Sys2Proof.Machine

theorem State_applyCap_good {s0 : State} {a0 a1} (ha0 : Good s0 a0) : Good s0 (@State.applyCap a0 a1) := by
  unfold State.applyCap
  repeat' first
    | with_reducible (first
        | assumption | intro _ | apply wr_good | apply State_raiseLane_good | apply next_good | apply ite_good
        | apply iteR_good | apply iteP_good | apply iteO_good)
    | split
    | (with_reducible refine Good.mk' (Good.flat ?_))

theorem State_freshN_good {s0 s : State} {n} (h : Good s0 s) : Good s0 (s.freshN n).2 := by
  induction n generalizing s with
  | zero => exact h
  | succ n ih =>
    unfold State.freshN
    exact ih (State_fresh_good h)

theorem State_updFrame_good {s0 : State} {a0 a1 a2 a3} (ha0 : Good s0 a0) :
    Good s0 (@State.updFrame a0 a1 a2 a3) := by
  unfold State.updFrame
  repeat' first
    | with_reducible (first
        | assumption | intro _ | apply State_updPool_good | apply next_good | apply ite_good | apply iteR_good
        | apply iteP_good | apply iteO_good)
    | split
    | (with_reducible refine Good.mk' (Good.flat ?_))

theorem State_cntFrame_good {s0 : State} {a0 a1 a2 a3 a4} (ha0 : Good s0 a0) :
    Good s0 (@State.cntFrame a0 a1 a2 a3 a4) := by
  unfold State.cntFrame
  repeat' first
    | with_reducible (first
        | assumption | intro _ | apply State_cntN_good | apply State_updFrame_good | apply next_good
        | apply ite_good | apply iteR_good | apply iteP_good | apply iteO_good)
    | split
    | (with_reducible refine Good.mk' (Good.flat ?_))

theorem State_countOwed_good {s0 : State} {a0 a1 a2} (ha0 : Good s0 a0) : Good s0 (@State.countOwed a0 a1 a2) := by
  unfold State.countOwed
  repeat' first
    | with_reducible (first
        | assumption | intro _ | apply State_updFrame_good | apply State_cntN_good | apply each_good
        | apply next_good | apply ite_good | apply iteR_good | apply iteP_good | apply iteO_good)
    | split
    | (with_reducible refine Good.mk' (Good.flat ?_))

theorem State_remeasure_good {s0 : State} {a0 a1 a2} (ha0 : Good s0 a0) : Good s0 (@State.remeasure a0 a1 a2) := by
  unfold State.remeasure
  repeat' first
    | with_reducible (first
        | assumption | intro _ | apply State_updPool_good | apply next_good | apply ite_good | apply iteR_good
        | apply iteP_good | apply iteO_good)
    | split
    | (with_reducible refine Good.mk' (Good.flat ?_))

theorem State_deliverFrame_good {s0 : State} {a0 a1 a2} (ha0 : Good s0 a0) :
    Good s0 (@State.deliverFrame a0 a1 a2) := by
  unfold State.deliverFrame
  repeat' first
    | with_reducible (first
        | assumption | intro _ | apply State_updFrame_good | apply emit_good | apply each_good | apply next_good
        | apply ite_good | apply iteR_good | apply iteP_good | apply iteO_good)
    | split
    | (with_reducible refine Good.mk' (Good.flat ?_))

theorem State_deliverFrom_good {s0 : State} {l is s} (h : Good s0 s) : Good s0 (State.deliverFrom l is s) := by
  induction is generalizing s with
  | nil => exact h
  | cons i is ih =>
    unfold State.deliverFrom
    extract_lets s1
    have h1 : Good s0 s1 := State_deliverFrame_good h
    clear_value s1
    exact ite_good h1 (ih h1)

theorem State_deliverReady_good {s0 : State} {a0 a1} (ha0 : Good s0 a0) : Good s0 (@State.deliverReady a0 a1) := by
  unfold State.deliverReady
  repeat' first
    | with_reducible (first
        | assumption | intro _ | apply State_deliverFrom_good | apply next_good | apply ite_good | apply iteR_good
        | apply iteP_good | apply iteO_good)
    | split
    | (with_reducible refine Good.mk' (Good.flat ?_))

theorem State_markDone_good {s0 : State} {a0 a1 a2} (ha0 : Good s0 a0) : Good s0 (@State.markDone a0 a1 a2) := by
  unfold State.markDone
  repeat' first
    | with_reducible (first
        | assumption | intro _ | apply State_deliverReady_good | apply State_updFrame_good | apply next_good
        | apply ite_good | apply iteR_good | apply iteP_good | apply iteO_good)
    | split
    | (with_reducible refine Good.mk' (Good.flat ?_))

theorem State_unstall_good {s0 : State} {a0 a1} (ha0 : Good s0 a0) : Good s0 (@State.unstall a0 a1) := by
  unfold State.unstall
  repeat' first
    | with_reducible (first
        | assumption | intro _ | apply State_markDone_good | apply State_updEngine_good | apply State_charge_good
        | apply each_good | apply next_good | apply ite_good | apply iteR_good | apply iteP_good | apply iteO_good)
    | split
    | (with_reducible refine Good.mk' (Good.flat ?_))

theorem State_noteOutcome_good {s0 : State} {a0 a1 a2 a3 a4} (ha0 : Good s0 a0) :
    Good s0 (@State.noteOutcome a0 a1 a2 a3 a4) := by
  unfold State.noteOutcome
  repeat' first
    | with_reducible (first
        | assumption | intro _ | apply State_updFrame_good | apply State_remeasure_good | apply State_cntFrame_good
        | apply next_good | apply ite_good | apply iteR_good | apply iteP_good | apply iteO_good)
    | split
    | (with_reducible refine Good.mk' (Good.flat ?_))

theorem State_failCw_good {s0 : State} {a0 a1 a2} (ha0 : Good s0 a0) : Good s0 (@State.failCw a0 a1 a2) := by
  unfold State.failCw
  repeat' first
    | with_reducible (first
        | assumption | intro _ | apply State_unstall_good | apply State_markDone_good | apply State_noteOutcome_good
        | apply next_good | apply ite_good | apply iteR_good | apply iteP_good | apply iteO_good)
    | split
    | (with_reducible refine Good.mk' (Good.flat ?_))

theorem State_startDecode_good {s0 : State} {a0 a1 a2 a3} (ha0 : Good s0 a0) :
    Good s0 (@State.startDecode a0 a1 a2 a3) := by
  unfold State.startDecode
  repeat' first
    | with_reducible (first
        | assumption | intro _ | apply State_updEngine_good | apply next_good | apply ite_good | apply iteR_good
        | apply iteP_good | apply iteO_good)
    | split
    | (with_reducible refine Good.mk' (Good.flat ?_))

theorem State_dispatch_good {s0 s : State} {n l} (h : Good s0 s) : Good s0 (State.dispatch n s l) := by
  induction n generalizing s with
  | zero => exact h
  | succ n ih =>
    unfold State.dispatch
    split
    · exact h
    · refine ite_good (ih (State_failCw_good (State_updPool_good h))) ?_
      split
      · exact h
      · exact ih (State_updFrame_good (State_startDecode_good (State_charge_good (State_updPool_good h))))

theorem State_startRedo_good {s0 : State} {a0 a1} (ha0 : Good s0 a0) : Good s0 (@State.startRedo a0 a1) := by
  unfold State.startRedo
  repeat' first
    | with_reducible (first
        | assumption | intro _ | apply State_failCw_good | apply State_updPool_good | apply State_fresh_good
        | apply State_charge_good | apply State_updEngine_good | apply State_startDecode_good | apply next_good
        | apply ite_good | apply iteR_good | apply iteP_good | apply iteO_good)
    | split
    | (with_reducible refine Good.mk' (Good.flat ?_))

theorem State_runPool_good {s0 : State} {a0 a1} (ha0 : Good s0 a0) : Good s0 (@State.runPool a0 a1) := by
  unfold State.runPool
  repeat' first
    | with_reducible (first
        | assumption | intro _ | apply State_dispatch_good | apply State_startRedo_good | apply foldl_good
        | apply next_good | apply ite_good | apply iteR_good | apply iteP_good | apply iteO_good)
    | split
    | (with_reducible refine Good.mk' (Good.flat ?_))

theorem State_serviceChanged_good {s0 : State} {a0 a1} (ha0 : Good s0 a0) :
    Good s0 (@State.serviceChanged a0 a1) := by
  unfold State.serviceChanged
  repeat' first
    | with_reducible (first
        | assumption | intro _ | apply wr_good | apply State_raiseLane_good | apply State_applyCap_good
        | apply next_good | apply ite_good | apply iteR_good | apply iteP_good | apply iteO_good)
    | split
    | (with_reducible refine Good.mk' (Good.flat ?_))

theorem State_interrupted_good {s0 : State} {a0 a1 a2} (ha0 : Good s0 a0) :
    Good s0 (@State.interrupted a0 a1 a2) := by
  unfold State.interrupted
  repeat' first
    | with_reducible (first
        | assumption | intro _ | apply State_failCw_good | apply State_cntFrame_good | apply State_updPool_good
        | apply each_good | apply next_good | apply ite_good | apply iteR_good | apply iteP_good | apply iteO_good)
    | split
    | (with_reducible refine Good.mk' (Good.flat ?_))

theorem State_takeOut_good {s0 : State} {a0 a1 a2 a3} (ha0 : Good s0 a0) : Good s0 (@State.takeOut a0 a1 a2 a3) := by
  unfold State.takeOut
  repeat' first
    | with_reducible (first
        | assumption | intro _ | apply State_charge_good | apply State_cntN_good | apply State_updEngine_good
        | apply State_cnt_good | apply State_incSat_good | apply State_setBit_good | apply wr_good
        | apply State_raise_good | apply State_serviceChanged_good | apply State_markDone_good
        | apply State_interrupted_good | apply next_good | apply ite_good | apply iteR_good | apply iteP_good
        | apply iteO_good)
    | split
    | (with_reducible refine Good.mk' (Good.flat ?_))

theorem State_fenceAll_good {s0 : State} {a0 a1 a2 a3} (ha0 : Good s0 a0) :
    Good s0 (@State.fenceAll a0 a1 a2 a3) := by
  unfold State.fenceAll
  repeat' first
    | with_reducible (first
        | assumption | intro _ | apply State_runPool_good | apply State_takeOut_good | apply each_good
        | apply next_good | apply ite_good | apply iteR_good | apply iteP_good | apply iteO_good)
    | split
    | (with_reducible refine Good.mk' (Good.flat ?_))

theorem State_fence_good {s0 : State} {a0 a1 a2 a3} (ha0 : Good s0 a0) : Good s0 (@State.fence a0 a1 a2 a3) := by
  unfold State.fence
  repeat' first
    | with_reducible (first
        | assumption | intro _ | apply State_fenceAll_good | apply next_good | apply ite_good | apply iteR_good
        | apply iteP_good | apply iteO_good)
    | split
    | (with_reducible refine Good.mk' (Good.flat ?_))

theorem State_checkerFail_good {s0 : State} {a0 a1} (ha0 : Good s0 a0) : Good s0 (@State.checkerFail a0 a1) := by
  unfold State.checkerFail
  repeat' first
    | with_reducible (first
        | assumption | intro _ | apply State_raiseLane_good | apply wr_good | apply next_good | apply ite_good
        | apply iteR_good | apply iteP_good | apply iteO_good)
    | split
    | (with_reducible refine Good.mk' (Good.flat ?_))

theorem State_leaveEngine_good {s0 : State} {a0 a1 a2 a3 a4 a5} (ha0 : Good s0 a0) :
    Good s0 (@State.leaveEngine a0 a1 a2 a3 a4 a5) := by
  unfold State.leaveEngine
  repeat' first
    | with_reducible (first
        | assumption | intro _ | apply State_charge_good | apply State_noteOutcome_good | apply State_cntN_good
        | apply State_updEngine_good | apply State_unstall_good | apply State_markDone_good | apply next_good
        | apply ite_good | apply iteR_good | apply iteP_good | apply iteO_good)
    | split
    | (with_reducible refine Good.mk' (Good.flat ?_))

theorem State_keepWord_good {s0 : State} {a0 a1 a2 a3} (ha0 : Good s0 a0) :
    Good s0 (@State.keepWord a0 a1 a2 a3) := by
  unfold State.keepWord
  repeat' first
    | with_reducible (first
        | assumption | intro _ | apply State_updFrame_good | apply next_good | apply ite_good | apply iteR_good
        | apply iteP_good | apply iteO_good)
    | split
    | (with_reducible refine Good.mk' (Good.flat ?_))

theorem State_noteAttempt_good {s0 : State} {a0 a1 a2 a3} (ha0 : Good s0 a0) :
    Good s0 (@State.noteAttempt a0 a1 a2 a3) := by
  unfold State.noteAttempt
  repeat' first
    | with_reducible (first
        | assumption | intro _ | apply State_remeasure_good | apply State_updFrame_good | apply State_cntFrame_good
        | apply next_good | apply ite_good | apply iteR_good | apply iteP_good | apply iteO_good)
    | split
    | (with_reducible refine Good.mk' (Good.flat ?_))

theorem State_innerDone_good {s0 : State} {a0 a1 a2 a3} (ha0 : Good s0 a0) :
    Good s0 (@State.innerDone a0 a1 a2 a3) := by
  unfold State.innerDone
  repeat' first
    | with_reducible (first
        | assumption | intro _ | apply State_cntN_good | apply State_cnt_good | apply next_good | apply ite_good
        | apply iteR_good | apply iteP_good | apply iteO_good)
    | split
    | (with_reducible refine Good.mk' (Good.flat ?_))

theorem execDecodeDone_good {s0 : State} {a0 a1 a2 a3 a4 a5 a6} (ha6 : Good s0 a6) :
    GoodO s0 (@execDecodeDone a0 a1 a2 a3 a4 a5 a6) := by
  unfold execDecodeDone
  repeat' first
    | with_reducible (first
        | assumption | intro _ | apply State_innerDone_good | apply State_takeInject_good
        | apply State_noteAttempt_good | apply State_runPool_good | apply State_leaveEngine_good
        | apply State_keepWord_good | apply State_checkerFail_good | apply State_fence_good | apply next_good
        | apply ite_good | apply iteR_good | apply iteP_good | apply iteO_good)
    | split
    | (with_reducible refine Good.mk' (Good.flat ?_))

theorem execEngineWatchdog_good {s0 : State} {a0 a1 a2} (ha2 : Good s0 a2) :
    GoodO s0 (@execEngineWatchdog a0 a1 a2) := by
  unfold execEngineWatchdog
  repeat' first
    | with_reducible (first
        | assumption | intro _ | apply State_fence_good | apply next_good | apply ite_good | apply iteR_good
        | apply iteP_good | apply iteO_good)
    | split
    | (with_reducible refine Good.mk' (Good.flat ?_))

theorem State_queueGroup_good {s0 : State} {a0 a1 a2 a3} (ha0 : Good s0 a0) :
    Good s0 (@State.queueGroup a0 a1 a2 a3) := by
  unfold State.queueGroup
  repeat' first
    | with_reducible (first
        | assumption | intro _ | apply State_updFrame_good | apply State_failCw_good | apply State_cntFrame_good
        | apply State_updPool_good | apply State_runPool_good | apply each_good | apply next_good | apply ite_good
        | apply iteR_good | apply iteP_good | apply iteO_good)
    | split
    | (with_reducible refine Good.mk' (Good.flat ?_))

theorem execCheckerSelfTest_good {s0 : State} {a0 a1 a2 a3} (ha3 : Good s0 a3) :
    GoodO s0 (@execCheckerSelfTest a0 a1 a2 a3) := by
  unfold execCheckerSelfTest
  repeat' first
    | with_reducible (first
        | assumption | intro _ | apply State_checkerFail_good | apply next_good | apply ite_good | apply iteR_good
        | apply iteP_good | apply iteO_good)
    | split
    | (with_reducible refine Good.mk' (Good.flat ?_))

theorem execEngineSliceStart_good {s0 : State} {a0 a1 a2} (ha2 : Good s0 a2) :
    GoodO s0 (@execEngineSliceStart a0 a1 a2) := by
  unfold execEngineSliceStart
  repeat' first
    | with_reducible (first
        | assumption | intro _ | apply State_updEngine_good | apply next_good | apply ite_good | apply iteR_good
        | apply iteP_good | apply iteO_good)
    | split
    | (with_reducible refine Good.mk' (Good.flat ?_))

theorem State_countSlice_good {s0 : State} {a0 a1 a2} (ha0 : Good s0 a0) : Good s0 (@State.countSlice a0 a1 a2) := by
  unfold State.countSlice
  repeat' first
    | with_reducible (first
        | assumption | intro _ | apply State_incSat_good | apply State_cnt_good | apply next_good | apply ite_good
        | apply iteR_good | apply iteP_good | apply iteO_good)
    | split
    | (with_reducible refine Good.mk' (Good.flat ?_))

theorem State_unfence_good {s0 : State} {a0 a1 a2} (ha0 : Good s0 a0) : Good s0 (@State.unfence a0 a1 a2) := by
  unfold State.unfence
  repeat' first
    | with_reducible (first
        | assumption | intro _ | apply State_charge_good | apply State_updEngine_good | apply State_setBit_good
        | apply State_runPool_good | apply State_serviceChanged_good | apply State_raise_good | apply next_good
        | apply ite_good | apply iteR_good | apply iteP_good | apply iteO_good)
    | split
    | (with_reducible refine Good.mk' (Good.flat ?_))

theorem execEngineSliceDone_good {s0 : State} {a0 a1 a2 a3} (ha3 : Good s0 a3) :
    GoodO s0 (@execEngineSliceDone a0 a1 a2 a3) := by
  unfold execEngineSliceDone
  repeat' first
    | with_reducible (first
        | assumption | intro _ | apply State_updEngine_good | apply State_countSlice_good | apply State_unfence_good
        | apply State_updDie_good | apply State_setBit_good | apply State_raise_good | apply next_good
        | apply ite_good | apply iteR_good | apply iteP_good | apply iteO_good)
    | split
    | (with_reducible refine Good.mk' (Good.flat ?_))

theorem State_failRest_good {s0 : State} {a0 a1 a2} (ha0 : Good s0 a0) : Good s0 (@State.failRest a0 a1 a2) := by
  unfold State.failRest
  repeat' first
    | with_reducible (first
        | assumption | intro _ | apply State_failCw_good | apply State_updFrame_good | apply each_good
        | apply next_good | apply ite_good | apply iteR_good | apply iteP_good | apply iteO_good)
    | split
    | (with_reducible refine Good.mk' (Good.flat ?_))

theorem State_poolService_good {s0 : State} {a0 a1} (ha0 : Good s0 a0) : Good s0 (@State.poolService a0 a1) := by
  unfold State.poolService
  repeat' first
    | with_reducible (first
        | assumption | intro _ | apply State_unfence_good | apply State_applyCap_good | apply State_updEngine_good
        | apply each_good | apply next_good | apply ite_good | apply iteR_good | apply iteP_good | apply iteO_good)
    | split
    | (with_reducible refine Good.mk' (Good.flat ?_))

theorem State_poolBoundary_good {s0 : State} {a0 a1} (ha0 : Good s0 a0) : Good s0 (@State.poolBoundary a0 a1) := by
  unfold State.poolBoundary
  repeat' first
    | with_reducible (first
        | assumption | intro _ | apply State_updPool_good | apply State_poolService_good
        | apply State_countOwed_good | apply State_failRest_good | apply next_good | apply ite_good
        | apply iteR_good | apply iteP_good | apply iteO_good)
    | split
    | (with_reducible refine Good.mk' (Good.flat ?_))

theorem State_poolLock_good {s0 : State} {a0 a1} (ha0 : Good s0 a0) : Good s0 (@State.poolLock a0 a1) := by
  unfold State.poolLock
  repeat' first
    | with_reducible (first
        | assumption | intro _ | apply State_poolBoundary_good | apply State_updPool_good | apply next_good
        | apply ite_good | apply iteR_good | apply iteP_good | apply iteO_good)
    | split
    | (with_reducible refine Good.mk' (Good.flat ?_))

theorem State_clearPool_good {s0 : State} {a0 a1} (ha0 : Good s0 a0) : Good s0 (@State.clearPool a0 a1) := by
  unfold State.clearPool
  repeat' first
    | with_reducible (first
        | assumption | intro _ | apply State_updEngine_good | apply State_cntN_good | apply State_charge_good
        | apply State_updPool_good | apply each_good | apply next_good | apply ite_good | apply iteR_good
        | apply iteP_good | apply iteO_good)
    | split
    | (with_reducible refine Good.mk' (Good.flat ?_))

theorem State_poolLost_good {s0 : State} {a0 a1} (ha0 : Good s0 a0) : Good s0 (@State.poolLost a0 a1) := by
  unfold State.poolLost
  repeat' first
    | with_reducible (first
        | assumption | intro _ | apply State_updEngine_good | apply State_charge_good | apply State_updPool_good
        | apply State_failCw_good | apply State_updFrame_good | apply State_runPool_good
        | apply State_remeasure_good | apply each_good | apply next_good | apply ite_good | apply iteR_good
        | apply iteP_good | apply iteO_good)
    | split
    | (with_reducible refine Good.mk' (Good.flat ?_))

theorem State_setManFence_good {s0 : State} {a0 a1 a2} (ha0 : Good s0 a0) :
    Good s0 (@State.setManFence a0 a1 a2) := by
  unfold State.setManFence
  repeat' first
    | with_reducible (first
        | assumption | intro _ | apply wr_good | apply State_updEngine_good | apply State_fenceAll_good
        | apply each_good | apply next_good | apply ite_good | apply iteR_good | apply iteP_good | apply iteO_good)
    | split
    | (with_reducible refine Good.mk' (Good.flat ?_))

theorem State_setPoolCtrl_good {s0 : State} {a0 a1 a2 a3 a4} (ha0 : Good s0 a0) :
    Good s0 (@State.setPoolCtrl a0 a1 a2 a3 a4).state := by
  unfold State.setPoolCtrl
  repeat' first
    | with_reducible (first
        | assumption | intro _ | apply Res_badParam_good | apply State_setManFence_good | apply State_wrOpt_good
        | apply Res_ok_good | apply State_applyCap_good | apply next_good | apply ite_good | apply iteR_good
        | apply iteP_good | apply iteO_good)
    | split
    | (with_reducible refine Good.mk' (Good.flat ?_))

theorem applyDecPoolSet_good {s0 : State} {a0 a1 a2 a3 a4 a5} (ha5 : Good s0 a5) :
    Good s0 (@applyDecPoolSet a0 a1 a2 a3 a4 a5).state := by
  unfold applyDecPoolSet
  repeat' first
    | with_reducible (first
        | assumption | intro _ | apply Res_badParam_good | apply Res_fail_good | apply State_setPoolCtrl_good
        | apply next_good | apply ite_good | apply iteR_good | apply iteP_good | apply iteO_good)
    | split
    | (with_reducible refine Good.mk' (Good.flat ?_))

theorem execDecPoolSet_good {s0 : State} {a0 a1 a2 a3 a4} (ha4 : Good s0 a4) :
    GoodO s0 (@execDecPoolSet a0 a1 a2 a3 a4) := by
  unfold execDecPoolSet
  repeat' first
    | with_reducible (first
        | assumption | intro _ | apply Slostan_run_good | apply applyDecPoolSet_good | apply next_good
        | apply ite_good | apply iteR_good | apply iteP_good | apply iteO_good)
    | split
    | (with_reducible refine Good.mk' (Good.flat ?_))

theorem execManFenceWrite_good {s0 : State} {a0 a1 a2 a3} (ha3 : Good s0 a3) :
    GoodO s0 (@execManFenceWrite a0 a1 a2 a3) := by
  unfold execManFenceWrite
  repeat' first
    | with_reducible (first
        | assumption | intro _ | apply Slostan_run_good | apply regGuard_good | apply State_setPoolCtrl_good
        | apply next_good | apply ite_good | apply iteR_good | apply iteP_good | apply iteO_good)
    | split
    | (with_reducible refine Good.mk' (Good.flat ?_))

theorem State_updDsk_good {s0 : State} {a0 a1 a2} (ha0 : Good s0 a0) : Good s0 (@State.updDsk a0 a1 a2) := by
  unfold State.updDsk
  repeat' first
    | with_reducible (first
        | assumption | intro _ | apply State_updDie_good | apply next_good | apply ite_good | apply iteR_good
        | apply iteP_good | apply iteO_good)
    | split
    | (with_reducible refine Good.mk' (Good.flat ?_))

theorem State_updTop_good {s0 : State} {a0 a1 a2} (ha0 : Good s0 a0) : Good s0 (@State.updTop a0 a1 a2) := by
  unfold State.updTop
  repeat' first
    | with_reducible (first
        | assumption | intro _ | apply State_updDie_good | apply next_good | apply ite_good | apply iteR_good
        | apply iteP_good | apply iteO_good)
    | split
    | (with_reducible refine Good.mk' (Good.flat ?_))

theorem State_showTrees_good {s0 : State} {a0} (ha0 : Good s0 a0) : Good s0 (@State.showTrees a0) := by
  unfold State.showTrees
  repeat' first
    | with_reducible (first
        | assumption | intro _ | apply wr_good | apply each_good | apply next_good | apply ite_good
        | apply iteR_good | apply iteP_good | apply iteO_good)
    | split
    | (with_reducible refine Good.mk' (Good.flat ?_))

theorem State_unprotRise_good {s0 : State} {a0} (ha0 : Good s0 a0) : Good s0 (@State.unprotRise a0) := by
  unfold State.unprotRise
  repeat' first
    | with_reducible (first
        | assumption | intro _ | apply wr_good | apply State_raiseLane_good | apply each_good | apply next_good
        | apply ite_good | apply iteR_good | apply iteP_good | apply iteO_good)
    | split
    | (with_reducible refine Good.mk' (Good.flat ?_))

theorem State_dieUnhealthy_good {s0 : State} {a0 a1 a2} (ha0 : Good s0 a0) :
    Good s0 (@State.dieUnhealthy a0 a1 a2) := by
  unfold State.dieUnhealthy
  repeat' first
    | with_reducible (first
        | assumption | intro _ | apply State_unprotRise_good | apply State_markUnhealthy_good | apply next_good
        | apply ite_good | apply iteR_good | apply iteP_good | apply iteO_good)
    | split
    | (with_reducible refine Good.mk' (Good.flat ?_))

theorem State_unprotFall_good {s0 : State} {a0} (ha0 : Good s0 a0) : Good s0 (@State.unprotFall a0) := by
  unfold State.unprotFall
  repeat' first
    | with_reducible (first
        | assumption | intro _ | apply wr_good | apply each_good | apply next_good | apply ite_good
        | apply iteR_good | apply iteP_good | apply iteO_good)
    | split
    | (with_reducible refine Good.mk' (Good.flat ?_))

theorem execD2dLinkDown_good {s0 : State} {a0 a1 a2 a3} (ha3 : Good s0 a3) :
    GoodO s0 (@execD2dLinkDown a0 a1 a2 a3) := by
  unfold execD2dLinkDown
  repeat' first
    | with_reducible (first
        | assumption | intro _ | apply State_setBit_good | apply State_updDie_good | apply State_raise_good
        | apply State_cnt_good | apply State_dieUnhealthy_good | apply each_good | apply next_good | apply ite_good
        | apply iteR_good | apply iteP_good | apply iteO_good)
    | split
    | (with_reducible refine Good.mk' (Good.flat ?_))

theorem State_changeTrees_good {s0 : State} {a0} (ha0 : Good s0 a0) : Good s0 (@State.changeTrees a0) := by
  unfold State.changeTrees
  repeat' first
    | with_reducible (first
        | assumption | intro _ | apply State_showTrees_good | apply wr_good | apply State_unprotRise_good
        | apply State_raiseLane_good | apply each_good | apply next_good | apply ite_good | apply iteR_good
        | apply iteP_good | apply iteO_good)
    | split
    | (with_reducible refine Good.mk' (Good.flat ?_))

theorem execTreeChange_good {s0 : State} {a0} (ha0 : Good s0 a0) : GoodO s0 (@execTreeChange a0) := by
  unfold execTreeChange
  repeat' first
    | with_reducible (first
        | assumption | intro _ | apply State_changeTrees_good | apply next_good | apply ite_good | apply iteR_good
        | apply iteP_good | apply iteO_good)
    | split
    | (with_reducible refine Good.mk' (Good.flat ?_))

theorem State_flowSend_good {s0 : State} {a0 a1 a2 a3} (ha0 : Good s0 a0) :
    Good s0 (@State.flowSend a0 a1 a2 a3) := by
  unfold State.flowSend
  repeat' first
    | with_reducible (first
        | assumption | intro _ | apply State_d2dSend_good | apply next_good | apply ite_good | apply iteR_good
        | apply iteP_good | apply iteO_good)
    | split
    | (with_reducible refine Good.mk' (Good.flat ?_))

theorem State_updRx_good {s0 : State} {a0 a1 a2} (ha0 : Good s0 a0) : Good s0 (@State.updRx a0 a1 a2) := by
  unfold State.updRx
  repeat' first
    | with_reducible (first
        | assumption | intro _ | apply State_updDie_good | apply next_good | apply ite_good | apply iteR_good
        | apply iteP_good | apply iteO_good)
    | split
    | (with_reducible refine Good.mk' (Good.flat ?_))

theorem State_setCb_good {s0 : State} {a0 a1 a2 a3 a4} (ha0 : Good s0 a0) :
    Good s0 (@State.setCb a0 a1 a2 a3 a4) := by
  unfold State.setCb
  repeat' first
    | with_reducible (first
        | assumption | intro _ | apply wr_good | apply State_wrInt_good | apply State_updRx_good | apply each_good
        | apply next_good | apply ite_good | apply iteR_good | apply iteP_good | apply iteO_good)
    | split
    | (with_reducible refine Good.mk' (Good.flat ?_))

theorem State_showFade_good {s0 : State} {a0 a1} (ha0 : Good s0 a0) : Good s0 (@State.showFade a0 a1) := by
  unfold State.showFade
  repeat' first
    | with_reducible (first
        | assumption | intro _ | apply wr_good | apply State_wrB_good | apply next_good | apply ite_good
        | apply iteR_good | apply iteP_good | apply iteO_good)
    | split
    | (with_reducible refine Good.mk' (Good.flat ?_))

theorem State_beginFade_good {s0 : State} {a0 a1 a2} (ha0 : Good s0 a0) : Good s0 (@State.beginFade a0 a1 a2) := by
  unfold State.beginFade
  repeat' first
    | with_reducible (first
        | assumption | intro _ | apply State_updRx_good | apply next_good | apply ite_good | apply iteR_good
        | apply iteP_good | apply iteO_good)
    | split
    | (with_reducible refine Good.mk' (Good.flat ?_))

theorem State_dropSwaps_good {s0 : State} {a0 a1} (ha0 : Good s0 a0) : Good s0 (@State.dropSwaps a0 a1) := by
  unfold State.dropSwaps
  repeat' first
    | with_reducible (first
        | assumption | intro _ | apply State_showFade_good | apply State_updRx_good | apply State_cntN_good
        | apply next_good | apply ite_good | apply iteR_good | apply iteP_good | apply iteO_good)
    | split
    | (with_reducible refine Good.mk' (Good.flat ?_))

theorem State_acceptFade_good {s0 : State} {a0 a1 a2} (ha0 : Good s0 a0) : Good s0 (@State.acceptFade a0 a1 a2) := by
  unfold State.acceptFade
  repeat' first
    | with_reducible (first
        | assumption | intro _ | apply State_updRx_good | apply next_good | apply ite_good | apply iteR_good
        | apply iteP_good | apply iteO_good)
    | split
    | (with_reducible refine Good.mk' (Good.flat ?_))

theorem State_requestSwap_good {s0 : State} {a0 a1 a2 a3} (ha0 : Good s0 a0) :
    Good s0 (@State.requestSwap a0 a1 a2 a3).state := by
  unfold State.requestSwap
  repeat' first
    | with_reducible (first
        | assumption | intro _ | apply Res_badParam_good | apply Res_fail_good | apply State_acceptFade_good
        | apply State_updRx_good | apply State_cnt_good | apply State_cntN_good | apply Res_ok_good
        | apply State_showFade_good | apply next_good | apply ite_good | apply iteR_good | apply iteP_good
        | apply iteO_good)
    | split
    | (with_reducible refine Good.mk' (Good.flat ?_))

theorem execFadeStart_good {s0 : State} {a0 a1} (ha1 : Good s0 a1) : GoodO s0 (@execFadeStart a0 a1) := by
  unfold execFadeStart
  repeat' first
    | with_reducible (first
        | assumption | intro _ | apply State_showFade_good | apply State_updRx_good | apply State_cnt_good
        | apply wr_good | apply State_beginFade_good | apply next_good | apply ite_good | apply iteR_good
        | apply iteP_good | apply iteO_good)
    | split
    | (with_reducible refine Good.mk' (Good.flat ?_))

theorem execFadeEnd_good {s0 : State} {a0 a1} (ha1 : Good s0 a1) : GoodO s0 (@execFadeEnd a0 a1) := by
  unfold execFadeEnd
  repeat' first
    | with_reducible (first
        | assumption | intro _ | apply State_updRx_good | apply State_cnt_good | apply wr_good
        | apply State_acceptFade_good | apply State_showFade_good | apply next_good | apply ite_good
        | apply iteR_good | apply iteP_good | apply iteO_good)
    | split
    | (with_reducible refine Good.mk' (Good.flat ?_))

theorem State_setNle_good {s0 : State} {a0 a1 a2} (ha0 : Good s0 a0) : Good s0 (@State.setNle a0 a1 a2) := by
  unfold State.setNle
  repeat' first
    | with_reducible (first
        | assumption | intro _ | apply State_updRx_good | apply State_wrInt_good | apply each_good | apply next_good
        | apply ite_good | apply iteR_good | apply iteP_good | apply iteO_good)
    | split
    | (with_reducible refine Good.mk' (Good.flat ?_))

theorem State_setDfe_good {s0 : State} {a0 a1 a2 a3} (ha0 : Good s0 a0) : Good s0 (@State.setDfe a0 a1 a2 a3) := by
  unfold State.setDfe
  repeat' first
    | with_reducible (first
        | assumption | intro _ | apply State_updRx_good | apply State_wrInt_good | apply next_good | apply ite_good
        | apply iteR_good | apply iteP_good | apply iteO_good)
    | split
    | (with_reducible refine Good.mk' (Good.flat ?_))

theorem State_loadValues_good {s0 : State} {a0 a1 a2} (ha0 : Good s0 a0) : Good s0 (@State.loadValues a0 a1 a2) := by
  unfold State.loadValues
  repeat' first
    | with_reducible (first
        | assumption | intro _ | apply State_setDfe_good | apply State_setNle_good | apply State_setCb_good
        | apply State_wrInt_good | apply wr_good | apply State_updRx_good | apply next_good | apply ite_good
        | apply iteR_good | apply iteP_good | apply iteO_good)
    | split
    | (with_reducible refine Good.mk' (Good.flat ?_))

theorem State_nextTry_good {s0 : State} {a0 a1 a2} (ha0 : Good s0 a0) : Good s0 (@State.nextTry a0 a1 a2) := by
  unfold State.nextTry
  repeat' first
    | with_reducible (first
        | assumption | intro _ | apply State_updRx_good | apply State_loadValues_good | apply next_good
        | apply ite_good | apply iteR_good | apply iteP_good | apply iteO_good)
    | split
    | (with_reducible refine Good.mk' (Good.flat ?_))

theorem State_rxEnterState_good {s0 : State} {a0 a1 a2} (ha0 : Good s0 a0) :
    Good s0 (@State.rxEnterState a0 a1 a2) := by
  unfold State.rxEnterState
  repeat' first
    | with_reducible (first
        | assumption | intro _ | apply State_wrB_good | apply wr_good | apply State_updRx_good
        | apply State_dropSwaps_good | apply State_nextTry_good | apply next_good | apply ite_good | apply iteR_good
        | apply iteP_good | apply iteO_good)
    | split
    | (with_reducible refine Good.mk' (Good.flat ?_))

theorem State_rxEnter_good {s0 : State} {a0 a1 a2} (ha0 : Good s0 a0) : Good s0 (@State.rxEnter a0 a1 a2) := by
  unfold State.rxEnter
  repeat' first
    | with_reducible (first
        | assumption | intro _ | apply State_inbandFollow_good | apply State_rxEnterState_good | apply next_good
        | apply ite_good | apply iteR_good | apply iteP_good | apply iteO_good)
    | split
    | (with_reducible refine Good.mk' (Good.flat ?_))

theorem State_rxReacquire_good {s0 : State} {a0 a1} (ha0 : Good s0 a0) : Good s0 (@State.rxReacquire a0 a1) := by
  unfold State.rxReacquire
  repeat' first
    | with_reducible (first
        | assumption | intro _ | apply State_rxEnter_good | apply next_good | apply ite_good | apply iteR_good
        | apply iteP_good | apply iteO_good)
    | split
    | (with_reducible refine Good.mk' (Good.flat ?_))

theorem State_frameLockLost_good {s0 : State} {a0 a1} (ha0 : Good s0 a0) : Good s0 (@State.frameLockLost a0 a1) := by
  unfold State.frameLockLost
  repeat' first
    | with_reducible (first
        | assumption | intro _ | apply State_cnt_good | apply wr_good | apply State_unprotRise_good
        | apply State_poolLost_good | apply State_raiseLane_good | apply State_capTrigger_good | apply next_good
        | apply ite_good | apply iteR_good | apply iteP_good | apply iteO_good)
    | split
    | (with_reducible refine Good.mk' (Good.flat ?_))

theorem State_rxDown_good {s0 : State} {a0 a1} (ha0 : Good s0 a0) : Good s0 (@State.rxDown a0 a1) := by
  unfold State.rxDown
  repeat' first
    | with_reducible (first
        | assumption | intro _ | apply wr_good | apply State_rxEnter_good | apply State_frameLockLost_good
        | apply next_good | apply ite_good | apply iteR_good | apply iteP_good | apply iteO_good)
    | split
    | (with_reducible refine Good.mk' (Good.flat ?_))

theorem State_rxUp_good {s0 : State} {a0 a1} (ha0 : Good s0 a0) : Good s0 (@State.rxUp a0 a1) := by
  unfold State.rxUp
  repeat' first
    | with_reducible (first
        | assumption | intro _ | apply State_rxEnter_good | apply State_updRx_good | apply next_good
        | apply ite_good | apply iteR_good | apply iteP_good | apply iteO_good)
    | split
    | (with_reducible refine Good.mk' (Good.flat ?_))

theorem State_lockBroken_good {s0 : State} {a0 a1} (ha0 : Good s0 a0) : Good s0 (@State.lockBroken a0 a1) := by
  unfold State.lockBroken
  repeat' first
    | with_reducible (first
        | assumption | intro _ | apply State_updRx_good | apply State_frameLockLost_good | apply State_rxEnter_good
        | apply State_raiseLane_good | apply State_cnt_good | apply wr_good | apply State_rxReacquire_good
        | apply next_good | apply ite_good | apply iteR_good | apply iteP_good | apply iteO_good)
    | split
    | (with_reducible refine Good.mk' (Good.flat ?_))

theorem execLosDeclare_good {s0 : State} {a0 a1 a2} (ha2 : Good s0 a2) : GoodO s0 (@execLosDeclare a0 a1 a2) := by
  unfold execLosDeclare
  repeat' first
    | with_reducible (first
        | assumption | intro _ | apply State_cnt_good | apply wr_good | apply State_rxEnter_good
        | apply State_frameLockLost_good | apply State_raiseLane_good | apply State_capTrigger_good
        | apply next_good | apply ite_good | apply iteR_good | apply iteP_good | apply iteO_good)
    | split
    | (with_reducible refine Good.mk' (Good.flat ?_))

theorem execLosClear_good {s0 : State} {a0 a1 a2} (ha2 : Good s0 a2) : GoodO s0 (@execLosClear a0 a1 a2) := by
  unfold execLosClear
  repeat' first
    | with_reducible (first
        | assumption | intro _ | apply State_rxReacquire_good | apply wr_good | apply next_good | apply ite_good
        | apply iteR_good | apply iteP_good | apply iteO_good)
    | split
    | (with_reducible refine Good.mk' (Good.flat ?_))

theorem execCaptureStep_good {s0 s : State} {l a b p} (h : Good s0 s) : GoodO s0 (execCaptureStep l a b p s) := by
  unfold execCaptureStep
  refine iteO_good (next_good h) ?_
  extract_lets s1 s2
  have h1 : Good s0 s1 := ite_good h (wr_good _ _ _ h)
  have h2 : Good s0 s2 := State_raiseLane_good (State_cnt_good (wr_good _ _ _ h1))
  clear_value s2
  clear_value s1
  split <;> first | exact next_good (State_rxEnter_good h2) | exact next_good (State_updRx_good h1) | exact next_good h1

theorem execCaptureStepForget_good {s0 : State} {a0 a1} (ha1 : Good s0 a1) :
    GoodO s0 (@execCaptureStepForget a0 a1) := by
  unfold execCaptureStepForget
  repeat' first
    | with_reducible (first
        | assumption | intro _ | apply State_updRx_good | apply next_good | apply ite_good | apply iteR_good
        | apply iteP_good | apply iteO_good)
    | split
    | (with_reducible refine Good.mk' (Good.flat ?_))

theorem execGainSettled_good {s0 : State} {a0 a1 a2} (ha2 : Good s0 a2) : GoodO s0 (@execGainSettled a0 a1 a2) := by
  unfold execGainSettled
  repeat' first
    | with_reducible (first
        | assumption | intro _ | apply State_rxEnter_good | apply wr_good | apply next_good | apply ite_good
        | apply iteR_good | apply iteP_good | apply iteO_good)
    | split
    | (with_reducible refine Good.mk' (Good.flat ?_))

theorem execFreqFound_good {s0 : State} {a0 a1 a2} (ha2 : Good s0 a2) : GoodO s0 (@execFreqFound a0 a1 a2) := by
  unfold execFreqFound
  repeat' first
    | with_reducible (first
        | assumption | intro _ | apply State_rxEnter_good | apply State_wrInt_good | apply next_good
        | apply ite_good | apply iteR_good | apply iteP_good | apply iteO_good)
    | split
    | (with_reducible refine Good.mk' (Good.flat ?_))

theorem execBlindEqConverged_good {s0 : State} {a0 a1 a2} (ha2 : Good s0 a2) :
    GoodO s0 (@execBlindEqConverged a0 a1 a2) := by
  unfold execBlindEqConverged
  repeat' first
    | with_reducible (first
        | assumption | intro _ | apply State_setCb_good | apply State_rxEnter_good | apply next_good
        | apply ite_good | apply iteR_good | apply iteP_good | apply iteO_good)
    | split
    | (with_reducible refine Good.mk' (Good.flat ?_))

theorem execAcqTimeout_good {s0 : State} {a0 a1} (ha1 : Good s0 a1) : GoodO s0 (@execAcqTimeout a0 a1) := by
  unfold execAcqTimeout
  repeat' first
    | with_reducible (first
        | assumption | intro _ | apply State_raiseLane_good | apply State_cnt_good | apply wr_good
        | apply State_rxEnter_good | apply State_frameLockLost_good | apply next_good | apply ite_good
        | apply iteR_good | apply iteP_good | apply iteO_good)
    | split
    | (with_reducible refine Good.mk' (Good.flat ?_))

theorem execMarkerCandidate_good {s0 s : State} {l p w q} (h : Good s0 s) :
    GoodO s0 (execMarkerCandidate l p w q s) := by
  unfold execMarkerCandidate
  refine iteO_good (next_good h) ?_
  dsimp only
  split
  · first
      | exact iteO_good (next_good (State_updRx_good h)) (next_good (State_updRx_good h))
      | exact next_good (State_updRx_good h)
  · exact next_good (State_updRx_good h)

theorem execMarkerConfirmation_good {s0 s : State} {l p w q} (h : Good s0 s) :
    GoodO s0 (execMarkerConfirmation l p w q s) := by
  unfold execMarkerConfirmation
  refine iteO_good (next_good h) ?_
  dsimp only
  split
  · first
      | exact iteO_good (next_good (State_updRx_good h)) (next_good (State_updRx_good h))
      | exact next_good (State_updRx_good h)
  · exact next_good (State_updRx_good h)

theorem State_declareLock_good {s0 : State} {a0 a1 a2 a3} (ha0 : Good s0 a0) :
    Good s0 (@State.declareLock a0 a1 a2 a3) := by
  unfold State.declareLock
  repeat' first
    | with_reducible (first
        | assumption | intro _ | apply wr_good | apply State_cnt_good | apply State_updRx_good
        | apply State_rxEnter_good | apply State_raiseLane_good | apply State_poolLock_good | apply next_good
        | apply ite_good | apply iteR_good | apply iteP_good | apply iteO_good)
    | split
    | (with_reducible refine Good.mk' (Good.flat ?_))

theorem execFrameLock_good {s0 : State} {a0 a1 a2} (ha2 : Good s0 a2) : GoodO s0 (@execFrameLock a0 a1 a2) := by
  unfold execFrameLock
  repeat' first
    | with_reducible (first
        | assumption | intro _ | apply State_declareLock_good | apply next_good | apply ite_good | apply iteR_good
        | apply iteP_good | apply iteO_good)
    | split
    | (with_reducible refine Good.mk' (Good.flat ?_))

theorem State_rxFrameCounts_good {s0 : State} {a0 a1} (ha0 : Good s0 a0) : Good s0 (@State.rxFrameCounts a0 a1) := by
  unfold State.rxFrameCounts
  repeat' first
    | with_reducible (first
        | assumption | intro _ | apply State_updRx_good | apply State_rxEnter_good | apply next_good
        | apply ite_good | apply iteR_good | apply iteP_good | apply iteO_good)
    | split
    | (with_reducible refine Good.mk' (Good.flat ?_))

theorem State_stdTags_good {s0 : State} {a0 a1} (ha0 : Good s0 a0) : Good s0 (@State.stdTags a0 a1) := by
  unfold State.stdTags
  repeat' first
    | with_reducible (first
        | assumption | intro _ | apply State_freshN_good | apply State_addTag_good | apply each_good
        | apply next_good | apply ite_good | apply iteR_good | apply iteP_good | apply iteO_good)
    | split
    | (with_reducible refine Good.mk' (Good.flat ?_))

theorem execMarkerCheck_good {s0 : State} {a0 a1 a2 a3} (ha3 : Good s0 a3) :
    GoodO s0 (@execMarkerCheck a0 a1 a2 a3) := by
  unfold execMarkerCheck
  repeat' first
    | with_reducible (first
        | assumption | intro _ | apply State_poolBoundary_good | apply State_rxFrameCounts_good
        | apply State_stdTags_good | apply State_lockBroken_good | apply State_updRx_good | apply wr_good
        | apply State_raiseLane_good | apply State_cnt_good | apply next_good | apply ite_good | apply iteR_good
        | apply iteP_good | apply iteO_good)
    | split
    | (with_reducible refine Good.mk' (Good.flat ?_))

theorem execFastReacqTryEnd_good {s0 : State} {a0 a1} (ha1 : Good s0 a1) : GoodO s0 (@execFastReacqTryEnd a0 a1) := by
  unfold execFastReacqTryEnd
  repeat' first
    | with_reducible (first
        | assumption | intro _ | apply State_rxEnter_good | apply State_raiseLane_good | apply State_cnt_good
        | apply wr_good | apply State_nextTry_good | apply next_good | apply ite_good | apply iteR_good
        | apply iteP_good | apply iteO_good)
    | split
    | (with_reducible refine Good.mk' (Good.flat ?_))

theorem State_adopt_good {s0 : State} {a0 a1 a2 a3} (ha0 : Good s0 a0) : Good s0 (@State.adopt a0 a1 a2 a3) := by
  unfold State.adopt
  repeat' first
    | with_reducible (first
        | assumption | intro _ | apply State_wrInt_good | apply wr_good | apply next_good | apply ite_good
        | apply iteR_good | apply iteP_good | apply iteO_good)
    | split
    | (with_reducible refine Good.mk' (Good.flat ?_))

theorem execPathMemoryRefresh_good {s0 s : State} {l v w} (h : Good s0 s) :
    GoodO s0 (execPathMemoryRefresh l v w s) := by
  unfold execPathMemoryRefresh
  refine iteO_good (next_good h) ?_
  extract_lets s1 put
  have h1 : Good s0 s1 := State_updRx_good (State_adopt_good h)
  clear_value s1
  have hp : ∀ t e, Good s0 t → Good s0 (put t e) := fun t e ht => State_updRx_good ht
  clear_value put
  split
  · rename_i s2 _
    have h2 : Good s0 s2 := State_updRx_good h1
    clear_value s2
    split
    · exact next_good (wr_good _ _ _ (State_cnt_good h2))
    · exact next_good (hp _ _ (wr_good _ _ _ (wr_good _ _ _ (State_setBit_good h2))))
  · split
    · exact next_good (hp _ _ h1)
    · exact next_good h1

theorem State_clearEntries_good {s0 : State} {a0 a1 a2} (ha0 : Good s0 a0) :
    Good s0 (@State.clearEntries a0 a1 a2) := by
  unfold State.clearEntries
  repeat' first
    | with_reducible (first
        | assumption | intro _ | apply State_updRx_good | apply State_setBit_good | apply wr_good | apply each_good
        | apply next_good | apply ite_good | apply iteR_good | apply iteP_good | apply iteO_good)
    | split
    | (with_reducible refine Good.mk' (Good.flat ?_))

theorem State_setPath_good {s0 : State} {a0 a1 a2 a3 a4 a5 a6} (ha0 : Good s0 a0) :
    Good s0 (@State.setPath a0 a1 a2 a3 a4 a5 a6).state := by
  unfold State.setPath
  repeat' first
    | with_reducible (first
        | assumption | intro _ | apply Res_badParam_good | apply Res_fail_good | apply wr_good | apply Res_ok_good
        | apply State_clearEntries_good | apply next_good | apply ite_good | apply iteR_good | apply iteP_good
        | apply iteO_good)
    | split
    | (with_reducible refine Good.mk' (Good.flat ?_))

theorem execFirSuggestion_good {s0 : State} {a0 a1} (ha1 : Good s0 a1) : GoodO s0 (@execFirSuggestion a0 a1) := by
  unfold execFirSuggestion
  repeat' first
    | with_reducible (first
        | assumption | intro _ | apply State_updRx_good | apply next_good | apply ite_good | apply iteR_good
        | apply iteP_good | apply iteO_good)
    | split
    | (with_reducible refine Good.mk' (Good.flat ?_))

theorem State_retireSub_good {s0 : State} {a0 a1 a2} (ha0 : Good s0 a0) : Good s0 (@State.retireSub a0 a1 a2) := by
  unfold State.retireSub
  repeat' first
    | with_reducible (first
        | assumption | intro _ | apply State_raiseLane_good | apply wr_good | apply State_updDie_good
        | apply next_good | apply ite_good | apply iteR_good | apply iteP_good | apply iteO_good)
    | split
    | (with_reducible refine Good.mk' (Good.flat ?_))

theorem execAdcSpareHandover_good {s0 : State} {a0 a1 a2} (ha2 : Good s0 a2) :
    GoodO s0 (@execAdcSpareHandover a0 a1 a2) := by
  unfold execAdcSpareHandover
  repeat' first
    | with_reducible (first
        | assumption | intro _ | apply State_updRx_good | apply State_countSlice_good | apply State_cnt_good
        | apply wr_good | apply State_retireSub_good | apply next_good | apply ite_good | apply iteR_good
        | apply iteP_good | apply iteO_good)
    | split
    | (with_reducible refine Good.mk' (Good.flat ?_))

theorem execAdcSubRetired_good {s0 : State} {a0 a1 a2} (ha2 : Good s0 a2) :
    GoodO s0 (@execAdcSubRetired a0 a1 a2) := by
  unfold execAdcSubRetired
  repeat' first
    | with_reducible (first
        | assumption | intro _ | apply State_retireSub_good | apply next_good | apply ite_good | apply iteR_good
        | apply iteP_good | apply iteO_good)
    | split
    | (with_reducible refine Good.mk' (Good.flat ?_))

theorem State_putCoefs_good {s0 : State} {a0 a1 a2} (ha0 : Good s0 a0) : Good s0 (@State.putCoefs a0 a1 a2) := by
  unfold State.putCoefs
  repeat' first
    | with_reducible (first
        | assumption | intro _ | apply State_wrInt_good | apply State_updRx_good | apply each_good | apply next_good
        | apply ite_good | apply iteR_good | apply iteP_good | apply iteO_good)
    | split
    | (with_reducible refine Good.mk' (Good.flat ?_))

theorem State_trackLevels_good {s0 : State} {a0 a1 a2 a3} (ha0 : Good s0 a0) :
    Good s0 (@State.trackLevels a0 a1 a2 a3) := by
  unfold State.trackLevels
  repeat' first
    | with_reducible (first
        | assumption | intro _ | apply wr_good | apply State_updRx_good | apply State_fresh_good | apply next_good
        | apply ite_good | apply iteR_good | apply iteP_good | apply iteO_good)
    | split
    | (with_reducible refine Good.mk' (Good.flat ?_))

theorem execInterleaverGroupQueue_good {s0 : State} {a0 a1 a2 a3} (ha3 : Good s0 a3) :
    GoodO s0 (@execInterleaverGroupQueue a0 a1 a2 a3) := by
  unfold execInterleaverGroupQueue
  repeat' first
    | with_reducible (first
        | assumption | intro _ | apply State_putCoefs_good | apply State_updRx_good | apply State_queueGroup_good
        | apply State_trackLevels_good | apply next_good | apply ite_good | apply iteR_good | apply iteP_good
        | apply iteO_good)
    | split
    | (with_reducible refine Good.mk' (Good.flat ?_))

theorem State_setFade_good {s0 : State} {a0 a1 a2} (ha0 : Good s0 a0) : Good s0 (@State.setFade a0 a1 a2) := by
  unfold State.setFade
  repeat' first
    | with_reducible (first
        | assumption | intro _ | apply wr_good | apply next_good | apply ite_good | apply iteR_good
        | apply iteP_good | apply iteO_good)
    | split
    | (with_reducible refine Good.mk' (Good.flat ?_))

theorem State_fadeAndSwap_good {s0 : State} {a0 a1 a2 a3 a4} (ha0 : Good s0 a0) :
    Good s0 (@State.fadeAndSwap a0 a1 a2 a3 a4).state := by
  unfold State.fadeAndSwap
  repeat' first
    | with_reducible (first
        | assumption | intro _ | apply Res_andThen_good | apply Res_ok_good | apply State_setFade_good
        | apply State_requestSwap_good | apply next_good | apply ite_good | apply iteR_good | apply iteP_good
        | apply iteO_good)
    | split
    | (with_reducible refine Good.mk' (Good.flat ?_))

theorem applyRxBankLoad_good {s0 : State} {a0 a1 a2 a3 a4 a5 a6 a7 a8} (ha8 : Good s0 a8) :
    Good s0 (@applyRxBankLoad a0 a1 a2 a3 a4 a5 a6 a7 a8).state := by
  unfold applyRxBankLoad
  repeat' first
    | with_reducible (first
        | assumption | intro _ | apply Res_badParam_good | apply Res_fail_good | apply State_setCb_good
        | apply State_fadeAndSwap_good | apply Res_ok_good | apply State_setFade_good | apply next_good
        | apply ite_good | apply iteR_good | apply iteP_good | apply iteO_good)
    | split
    | (with_reducible refine Good.mk' (Good.flat ?_))

theorem execRxBankLoad_good {s0 : State} {a0 a1 a2 a3 a4 a5 a6 a7} (ha7 : Good s0 a7) :
    GoodO s0 (@execRxBankLoad a0 a1 a2 a3 a4 a5 a6 a7) := by
  unfold execRxBankLoad
  repeat' first
    | with_reducible (first
        | assumption | intro _ | apply Slostan_run_good | apply applyRxBankLoad_good | apply next_good
        | apply ite_good | apply iteR_good | apply iteP_good | apply iteO_good)
    | split
    | (with_reducible refine Good.mk' (Good.flat ?_))

theorem applyRxBankSwap_good {s0 : State} {a0 a1 a2 a3 a4 a5} (ha5 : Good s0 a5) :
    Good s0 (@applyRxBankSwap a0 a1 a2 a3 a4 a5).state := by
  unfold applyRxBankSwap
  repeat' first
    | with_reducible (first
        | assumption | intro _ | apply Res_badParam_good | apply Res_fail_good | apply State_fadeAndSwap_good
        | apply next_good | apply ite_good | apply iteR_good | apply iteP_good | apply iteO_good)
    | split
    | (with_reducible refine Good.mk' (Good.flat ?_))

theorem execRxBankSwap_good {s0 : State} {a0 a1 a2 a3 a4} (ha4 : Good s0 a4) :
    GoodO s0 (@execRxBankSwap a0 a1 a2 a3 a4) := by
  unfold execRxBankSwap
  repeat' first
    | with_reducible (first
        | assumption | intro _ | apply Slostan_run_good | apply applyRxBankSwap_good | apply next_good
        | apply ite_good | apply iteR_good | apply iteP_good | apply iteO_good)
    | split
    | (with_reducible refine Good.mk' (Good.flat ?_))

theorem State_writeFadeCtrl_good {s0 : State} {a0 a1 a2} (ha0 : Good s0 a0) :
    Good s0 (@State.writeFadeCtrl a0 a1 a2).state := by
  unfold State.writeFadeCtrl
  repeat' first
    | with_reducible (first
        | assumption | intro _ | apply wr_good | apply Res_andThen_good | apply Res_ok_good
        | apply State_requestSwap_good | apply next_good | apply ite_good | apply iteR_good | apply iteP_good
        | apply iteO_good)
    | split
    | (with_reducible refine Good.mk' (Good.flat ?_))

theorem execFadeReq_good {s0 : State} {a0 a1 a2 a3} (ha3 : Good s0 a3) : GoodO s0 (@execFadeReq a0 a1 a2 a3) := by
  unfold execFadeReq
  repeat' first
    | with_reducible (first
        | assumption | intro _ | apply Slostan_run_good | apply regGuard_good | apply State_writeFadeCtrl_good
        | apply next_good | apply ite_good | apply iteR_good | apply iteP_good | apply iteO_good)
    | split
    | (with_reducible refine Good.mk' (Good.flat ?_))

theorem State_setRxAdapt_good {s0 : State} {a0 a1 a2} (ha0 : Good s0 a0) : Good s0 (@State.setRxAdapt a0 a1 a2) := by
  unfold State.setRxAdapt
  repeat' first
    | with_reducible (first
        | assumption | intro _ | apply wr_good | apply next_good | apply ite_good | apply iteR_good
        | apply iteP_good | apply iteO_good)
    | split
    | (with_reducible refine Good.mk' (Good.flat ?_))

theorem State_setRxEnables_good {s0 : State} {a0 a1 a2} (ha0 : Good s0 a0) :
    Good s0 (@State.setRxEnables a0 a1 a2) := by
  unfold State.setRxEnables
  repeat' first
    | with_reducible (first
        | assumption | intro _ | apply wr_good | apply next_good | apply ite_good | apply iteR_good
        | apply iteP_good | apply iteO_good)
    | split
    | (with_reducible refine Good.mk' (Good.flat ?_))

theorem applyRxAdaptSet_good {s0 : State} {a0 a1 a2 a3 a4 a5 a6 a7} (ha7 : Good s0 a7) :
    Good s0 (@applyRxAdaptSet a0 a1 a2 a3 a4 a5 a6 a7).state := by
  unfold applyRxAdaptSet
  repeat' first
    | with_reducible (first
        | assumption | intro _ | apply Res_badParam_good | apply Res_fail_good | apply State_setRxEnables_good
        | apply State_setRxAdapt_good | apply State_setDfe_good | apply State_setNle_good | apply Res_ok_good
        | apply State_updRx_good | apply next_good | apply ite_good | apply iteR_good | apply iteP_good
        | apply iteO_good)
    | split
    | (with_reducible refine Good.mk' (Good.flat ?_))

theorem execRxAdaptSet_good {s0 : State} {a0 a1 a2 a3 a4 a5 a6} (ha6 : Good s0 a6) :
    GoodO s0 (@execRxAdaptSet a0 a1 a2 a3 a4 a5 a6) := by
  unfold execRxAdaptSet
  repeat' first
    | with_reducible (first
        | assumption | intro _ | apply Slostan_run_good | apply applyRxAdaptSet_good | apply next_good
        | apply ite_good | apply iteR_good | apply iteP_good | apply iteO_good)
    | split
    | (with_reducible refine Good.mk' (Good.flat ?_))

theorem applyRxPathSet_good {s0 : State} {a0 a1 a2 a3 a4 a5 a6 a7} (ha7 : Good s0 a7) :
    Good s0 (@applyRxPathSet a0 a1 a2 a3 a4 a5 a6 a7).state := by
  unfold applyRxPathSet
  repeat' first
    | with_reducible (first
        | assumption | intro _ | apply Res_badParam_good | apply Res_fail_good | apply State_setPath_good
        | apply next_good | apply ite_good | apply iteR_good | apply iteP_good | apply iteO_good)
    | split
    | (with_reducible refine Good.mk' (Good.flat ?_))

theorem execRxPathSet_good {s0 : State} {a0 a1 a2 a3 a4 a5 a6} (ha6 : Good s0 a6) :
    GoodO s0 (@execRxPathSet a0 a1 a2 a3 a4 a5 a6) := by
  unfold execRxPathSet
  repeat' first
    | with_reducible (first
        | assumption | intro _ | apply Slostan_run_good | apply applyRxPathSet_good | apply next_good
        | apply ite_good | apply iteR_good | apply iteP_good | apply iteO_good)
    | split
    | (with_reducible refine Good.mk' (Good.flat ?_))

theorem execPathClear_good {s0 : State} {a0 a1 a2 a3} (ha3 : Good s0 a3) : GoodO s0 (@execPathClear a0 a1 a2 a3) := by
  unfold execPathClear
  repeat' first
    | with_reducible (first
        | assumption | intro _ | apply Slostan_run_good | apply regGuard_good | apply State_setPath_good
        | apply next_good | apply ite_good | apply iteR_good | apply iteP_good | apply iteO_good)
    | split
    | (with_reducible refine Good.mk' (Good.flat ?_))

theorem applyRxBankRead_good {s0 : State} {a0 a1 a2 a3 a4 a5} (ha5 : Good s0 a5) :
    Good s0 (@applyRxBankRead a0 a1 a2 a3 a4 a5).state := by
  unfold applyRxBankRead
  repeat' first
    | with_reducible (first
        | assumption | intro _ | apply Res_badParam_good | apply Res_fail_good | apply Res_okWith_good
        | apply next_good | apply ite_good | apply iteR_good | apply iteP_good | apply iteO_good)
    | split
    | (with_reducible refine Good.mk' (Good.flat ?_))

theorem execRxBankRead_good {s0 : State} {a0 a1 a2 a3 a4} (ha4 : Good s0 a4) :
    GoodO s0 (@execRxBankRead a0 a1 a2 a3 a4) := by
  unfold execRxBankRead
  repeat' first
    | with_reducible (first
        | assumption | intro _ | apply Slostan_run_good | apply applyRxBankRead_good | apply next_good
        | apply ite_good | apply iteR_good | apply iteP_good | apply iteO_good)
    | split
    | (with_reducible refine Good.mk' (Good.flat ?_))

theorem State_wrFF_good {s0 : State} {a0 a1 a2 a3} (ha0 : Good s0 a0) : Good s0 (@State.wrFF a0 a1 a2 a3) := by
  unfold State.wrFF
  repeat' first
    | with_reducible (first
        | assumption | intro _ | apply wr_good | apply next_good | apply ite_good | apply iteR_good
        | apply iteP_good | apply iteO_good)
    | split
    | (with_reducible refine Good.mk' (Good.flat ?_))

theorem applyLineRxSet_good {s0 : State} {a0 a1 a2 a3 a4 a5 a6 a7 a8} (ha8 : Good s0 a8) :
    Good s0 (@applyLineRxSet a0 a1 a2 a3 a4 a5 a6 a7 a8).state := by
  unfold applyLineRxSet
  repeat' first
    | with_reducible (first
        | assumption | intro _ | apply Res_fail_good | apply Res_ok_good | apply State_wrFF_good | apply each_good
        | apply next_good | apply ite_good | apply iteR_good | apply iteP_good | apply iteO_good)
    | split
    | (with_reducible refine Good.mk' (Good.flat ?_))

theorem execLineRxSet_good {s0 : State} {a0 a1 a2 a3 a4 a5 a6 a7} (ha7 : Good s0 a7) :
    GoodO s0 (@execLineRxSet a0 a1 a2 a3 a4 a5 a6 a7) := by
  unfold execLineRxSet
  repeat' first
    | with_reducible (first
        | assumption | intro _ | apply Slostan_run_good | apply applyLineRxSet_good | apply next_good
        | apply ite_good | apply iteR_good | apply iteP_good | apply iteO_good)
    | split
    | (with_reducible refine Good.mk' (Good.flat ?_))

theorem State_setMarkCtrl_good {s0 : State} {a0 a1 a2 a3 a4 a5} (ha0 : Good s0 a0) :
    Good s0 (@State.setMarkCtrl a0 a1 a2 a3 a4 a5) := by
  unfold State.setMarkCtrl
  repeat' first
    | with_reducible (first
        | assumption | intro _ | apply wr_good | apply next_good | apply ite_good | apply iteR_good
        | apply iteP_good | apply iteO_good)
    | split
    | (with_reducible refine Good.mk' (Good.flat ?_))

theorem applyFrameLockSet_good {s0 : State} {a0 a1 a2 a3 a4 a5 a6 a7} (ha7 : Good s0 a7) :
    Good s0 (@applyFrameLockSet a0 a1 a2 a3 a4 a5 a6 a7).state := by
  unfold applyFrameLockSet
  repeat' first
    | with_reducible (first
        | assumption | intro _ | apply Res_badParam_good | apply Res_fail_good | apply Res_ok_good
        | apply State_setMarkCtrl_good | apply next_good | apply ite_good | apply iteR_good | apply iteP_good
        | apply iteO_good)
    | split
    | (with_reducible refine Good.mk' (Good.flat ?_))

theorem execFrameLockSet_good {s0 : State} {a0 a1 a2 a3 a4 a5 a6} (ha6 : Good s0 a6) :
    GoodO s0 (@execFrameLockSet a0 a1 a2 a3 a4 a5 a6) := by
  unfold execFrameLockSet
  repeat' first
    | with_reducible (first
        | assumption | intro _ | apply Slostan_run_good | apply applyFrameLockSet_good | apply next_good
        | apply ite_good | apply iteR_good | apply iteP_good | apply iteO_good)
    | split
    | (with_reducible refine Good.mk' (Good.flat ?_))

end Sys2Proof.Machine
end

