-- ==== Sys2Proof/Laws/KeepsKeys.lean ====
section
/-! SUPPORT. A sound state stays sound, and takes back nothing, through every operation and command of:
keys and power. Proved alike for each operation, from the lemmas of those it calls. -/

namespace Sys2Proof.Machine

theorem State_updCiph_good {s0 : State} {a0 a1 a2} (ha0 : Good s0 a0) : Good s0 (@State.updCiph a0 a1 a2) := by
  unfold State.updCiph
  repeat' first
    | with_reducible (first
        | assumption | intro _ | apply State_updDie_good | apply next_good | apply ite_good | apply iteR_good
        | apply iteP_good | apply iteO_good)
    | split
    | (with_reducible refine Good.mk' (Good.flat ?_))

theorem State_updKeys_good {s0 : State} {a0 a1 a2} (ha0 : Good s0 a0) : Good s0 (@State.updKeys a0 a1 a2) := by
  unfold State.updKeys
  repeat' first
    | with_reducible (first
        | assumption | intro _ | apply State_updDie_good | apply next_good | apply ite_good | apply iteR_good
        | apply iteP_good | apply iteO_good)
    | split
    | (with_reducible refine Good.mk' (Good.flat ?_))

theorem State_updKx_good {s0 : State} {a0 a1} (ha0 : Good s0 a0) : Good s0 (@State.updKx a0 a1) := by
  unfold State.updKx
  repeat' first
    | with_reducible (first
        | assumption | intro _ | apply next_good | apply ite_good | apply iteR_good | apply iteP_good
        | apply iteO_good)
    | split
    | (with_reducible refine Good.mk' (Good.flat ?_))

theorem State_showPipes_good {s0 : State} {a0 a1} (ha0 : Good s0 a0) : Good s0 (@State.showPipes a0 a1) := by
  unfold State.showPipes
  repeat' first
    | with_reducible (first
        | assumption | intro _ | apply wr_good | apply next_good | apply ite_good | apply iteR_good
        | apply iteP_good | apply iteO_good)
    | split
    | (with_reducible refine Good.mk' (Good.flat ?_))

theorem State_noteCauses_good {s0 : State} {a0} (ha0 : Good s0 a0) : Good s0 (@State.noteCauses a0) := by
  unfold State.noteCauses
  repeat' first
    | with_reducible (first
        | assumption | intro _ | apply State_holdTx_good | apply each_good | apply next_good | apply ite_good
        | apply iteR_good | apply iteP_good | apply iteO_good)
    | split
    | (with_reducible refine Good.mk' (Good.flat ?_))

theorem State_showKeys_good {s0 : State} {a0} (ha0 : Good s0 a0) : Good s0 (@State.showKeys a0) := by
  unfold State.showKeys
  repeat' first
    | with_reducible (first
        | assumption | intro _ | apply State_wrB_good | apply each_good | apply next_good | apply ite_good
        | apply iteR_good | apply iteP_good | apply iteO_good)
    | split
    | (with_reducible refine Good.mk' (Good.flat ?_))

theorem State_freshEpoch_good {s0 : State} {a0 a1 a2} (ha0 : Good s0 a0) : Good s0 (@State.freshEpoch a0 a1 a2) := by
  unfold State.freshEpoch
  repeat' first
    | with_reducible (first
        | assumption | intro _ | apply wr_good | apply State_updCiph_good | apply next_good | apply ite_good
        | apply iteR_good | apply iteP_good | apply iteO_good)
    | split
    | (with_reducible refine Good.mk' (Good.flat ?_))

theorem State_installTx_good {s0 : State} {a0 a1} (ha0 : Good s0 a0) : Good s0 (@State.installTx a0 a1) := by
  unfold State.installTx
  repeat' first
    | with_reducible (first
        | assumption | intro _ | apply State_noteCauses_good | apply State_updKeys_good | apply State_updKx_good
        | apply State_freshEpoch_good | apply each_good | apply next_good | apply ite_good | apply iteR_good
        | apply iteP_good | apply iteO_good)
    | split
    | (with_reducible refine Good.mk' (Good.flat ?_))

theorem State_installRx_good {s0 : State} {a0 a1} (ha0 : Good s0 a0) : Good s0 (@State.installRx a0 a1) := by
  unfold State.installRx
  repeat' first
    | with_reducible (first
        | assumption | intro _ | apply State_updKeys_good | apply each_good | apply next_good | apply ite_good
        | apply iteR_good | apply iteP_good | apply iteO_good)
    | split
    | (with_reducible refine Good.mk' (Good.flat ?_))

theorem State_wipeAttempts_good {s0 : State} {a0} (ha0 : Good s0 a0) : Good s0 (@State.wipeAttempts a0) := by
  unfold State.wipeAttempts
  repeat' first
    | with_reducible (first
        | assumption | intro _ | apply State_updKx_good | apply next_good | apply ite_good | apply iteR_good
        | apply iteP_good | apply iteO_good)
    | split
    | (with_reducible refine Good.mk' (Good.flat ?_))

theorem State_dropAttempts_good {s0 : State} {a0} (ha0 : Good s0 a0) : Good s0 (@State.dropAttempts a0) := by
  unfold State.dropAttempts
  repeat' first
    | with_reducible (first
        | assumption | intro _ | apply State_updKx_good | apply next_good | apply ite_good | apply iteR_good
        | apply iteP_good | apply iteO_good)
    | split
    | (with_reducible refine Good.mk' (Good.flat ?_))

theorem State_zeroiseDie_good {s0 : State} {a0 a1} (ha0 : Good s0 a0) : Good s0 (@State.zeroiseDie a0 a1) := by
  unfold State.zeroiseDie
  repeat' first
    | with_reducible (first
        | assumption | intro _ | apply State_updKeys_good | apply next_good | apply ite_good | apply iteR_good
        | apply iteP_good | apply iteO_good)
    | split
    | (with_reducible refine Good.mk' (Good.flat ?_))

theorem State_zeroiseAll_good {s0 : State} {a0} (ha0 : Good s0 a0) : Good s0 (@State.zeroiseAll a0) := by
  unfold State.zeroiseAll
  repeat' first
    | with_reducible (first
        | assumption | intro _ | apply State_freshEpoch_good | apply State_zeroiseDie_good
        | apply State_showKeys_good | apply State_dropAttempts_good | apply each_good | apply next_good
        | apply ite_good | apply iteR_good | apply iteP_good | apply iteO_good)
    | split
    | (with_reducible refine Good.mk' (Good.flat ?_))

theorem State_promote_good {s0 : State} {a0} (ha0 : Good s0 a0) : Good s0 (@State.promote a0) := by
  unfold State.promote
  repeat' first
    | with_reducible (first
        | assumption | intro _ | apply State_noteCauses_good | apply State_updKeys_good | apply State_updCiph_good
        | apply State_freshEpoch_good | apply State_updKx_good | apply State_showKeys_good
        | apply State_raisePkg_good | apply State_cntPkg_good | apply each_good | apply next_good | apply ite_good
        | apply iteR_good | apply iteP_good | apply iteO_good)
    | split
    | (with_reducible refine Good.mk' (Good.flat ?_))

theorem State_kxSend_good {s0 : State} {a0 a1} (ha0 : Good s0 a0) : Good s0 (@State.kxSend a0 a1) := by
  unfold State.kxSend
  repeat' first
    | with_reducible (first
        | assumption | intro _ | apply State_inbPush_good | apply State_updKx_good | apply next_good
        | apply ite_good | apply iteR_good | apply iteP_good | apply iteO_good)
    | split
    | (with_reducible refine Good.mk' (Good.flat ?_))

theorem State_kxFlush_good {s0 : State} {a0} (ha0 : Good s0 a0) : Good s0 (@State.kxFlush a0) := by
  unfold State.kxFlush
  repeat' first
    | with_reducible (first
        | assumption | intro _ | apply State_updKx_good | apply State_kxSend_good | apply each_good
        | apply next_good | apply ite_good | apply iteR_good | apply iteP_good | apply iteO_good)
    | split
    | (with_reducible refine Good.mk' (Good.flat ?_))

theorem State_kxAbortSend_good {s0 : State} {a0 a1 a2 a3 a4} (ha0 : Good s0 a0) :
    Good s0 (@State.kxAbortSend a0 a1 a2 a3 a4) := by
  unfold State.kxAbortSend
  repeat' first
    | with_reducible (first
        | assumption | intro _ | apply State_kxSend_good | apply next_good | apply ite_good | apply iteR_good
        | apply iteP_good | apply iteO_good)
    | split
    | (with_reducible refine Good.mk' (Good.flat ?_))

theorem State_kxFailed_good {s0 : State} {a0 a1 a2 a3} (ha0 : Good s0 a0) :
    Good s0 (@State.kxFailed a0 a1 a2 a3) := by
  unfold State.kxFailed
  repeat' first
    | with_reducible (first
        | assumption | intro _ | apply wr_good | apply State_incSat_good | apply State_raisePkg_good
        | apply State_cntPkg_good | apply next_good | apply ite_good | apply iteR_good | apply iteP_good
        | apply iteO_good)
    | split
    | (with_reducible refine Good.mk' (Good.flat ?_))

theorem State_dropOutbox_good {s0 : State} {a0 a1} (ha0 : Good s0 a0) : Good s0 (@State.dropOutbox a0 a1) := by
  unfold State.dropOutbox
  repeat' first
    | with_reducible (first
        | assumption | intro _ | apply State_updKx_good | apply next_good | apply ite_good | apply iteR_good
        | apply iteP_good | apply iteO_good)
    | split
    | (with_reducible refine Good.mk' (Good.flat ?_))

theorem State_kxEndTx_good {s0 : State} {a0 a1} (ha0 : Good s0 a0) : Good s0 (@State.kxEndTx a0 a1) := by
  unfold State.kxEndTx
  repeat' first
    | with_reducible (first
        | assumption | intro _ | apply State_updKx_good | apply State_dropOutbox_good | apply State_showKeys_good
        | apply State_kxFailed_good | apply next_good | apply ite_good | apply iteR_good | apply iteP_good
        | apply iteO_good)
    | split
    | (with_reducible refine Good.mk' (Good.flat ?_))

theorem State_kxEndRx_good {s0 : State} {a0 a1} (ha0 : Good s0 a0) : Good s0 (@State.kxEndRx a0 a1) := by
  unfold State.kxEndRx
  repeat' first
    | with_reducible (first
        | assumption | intro _ | apply State_kxFailed_good | apply State_updKx_good | apply State_dropOutbox_good
        | apply next_good | apply ite_good | apply iteR_good | apply iteP_good | apply iteO_good)
    | split
    | (with_reducible refine Good.mk' (Good.flat ?_))

theorem State_kxStart_good {s0 : State} {a0} (ha0 : Good s0 a0) : Good s0 (@State.kxStart a0) := by
  unfold State.kxStart
  repeat' first
    | with_reducible (first
        | assumption | intro _ | apply State_noteCauses_good | apply State_updKx_good | apply State_kxEndTx_good
        | apply State_showKeys_good | apply State_kxSend_good | apply next_good | apply ite_good | apply iteR_good
        | apply iteP_good | apply iteO_good)
    | split
    | (with_reducible refine Good.mk' (Good.flat ?_))

theorem State_kxKick_good {s0 : State} {a0} (ha0 : Good s0 a0) : Good s0 (@State.kxKick a0) := by
  unfold State.kxKick
  repeat' first
    | with_reducible (first
        | assumption | intro _ | apply State_kxStart_good | apply next_good | apply ite_good | apply iteR_good
        | apply iteP_good | apply iteO_good)
    | split
    | (with_reducible refine Good.mk' (Good.flat ?_))

theorem State_kxLife_good {s0 : State} {a0} (ha0 : Good s0 a0) : Good s0 (@State.kxLife a0) := by
  unfold State.kxLife
  repeat' first
    | with_reducible (first
        | assumption | intro _ | apply State_kxStart_good | apply next_good | apply ite_good | apply iteR_good
        | apply iteP_good | apply iteO_good)
    | split
    | (with_reducible refine Good.mk' (Good.flat ?_))

theorem execKeyLifeThreshold_good {s0 : State} {a0} (ha0 : Good s0 a0) : GoodO s0 (@execKeyLifeThreshold a0) := by
  unfold execKeyLifeThreshold
  repeat' first
    | with_reducible (first
        | assumption | intro _ | apply State_kxLife_good | apply next_good | apply ite_good | apply iteR_good
        | apply iteP_good | apply iteO_good)
    | split
    | (with_reducible refine Good.mk' (Good.flat ?_))

theorem execKeyAgreeTimeout_good {s0 : State} {a0 a1} (ha1 : Good s0 a1) : GoodO s0 (@execKeyAgreeTimeout a0 a1) := by
  unfold execKeyAgreeTimeout
  repeat' first
    | with_reducible (first
        | assumption | intro _ | apply State_kxEndTx_good | apply State_kxEndRx_good | apply next_good
        | apply ite_good | apply iteR_good | apply iteP_good | apply iteO_good)
    | split
    | (with_reducible refine Good.mk' (Good.flat ?_))

theorem execKeyAgreeBackoffEnd_good {s0 : State} {a0} (ha0 : Good s0 a0) : GoodO s0 (@execKeyAgreeBackoffEnd a0) := by
  unfold execKeyAgreeBackoffEnd
  repeat' first
    | with_reducible (first
        | assumption | intro _ | apply State_kxStart_good | apply State_updKx_good | apply next_good
        | apply ite_good | apply iteR_good | apply iteP_good | apply iteO_good)
    | split
    | (with_reducible refine Good.mk' (Good.flat ?_))

theorem State_kxDropped_good {s0 : State} {a0 a1} (ha0 : Good s0 a0) : Good s0 (@State.kxDropped a0 a1) := by
  unfold State.kxDropped
  repeat' first
    | with_reducible (first
        | assumption | intro _ | apply State_cnt_good | apply next_good | apply ite_good | apply iteR_good
        | apply iteP_good | apply iteO_good)
    | split
    | (with_reducible refine Good.mk' (Good.flat ?_))

theorem State_kxRespond_good {s0 : State} {a0 a1} (ha0 : Good s0 a0) : Good s0 (@State.kxRespond a0 a1) := by
  unfold State.kxRespond
  repeat' first
    | with_reducible (first
        | assumption | intro _ | apply State_noteCauses_good | apply State_updKx_good | apply State_kxEndRx_good
        | apply State_kxAbortSend_good | apply State_kxSend_good | apply State_kxStart_good | apply next_good
        | apply ite_good | apply iteR_good | apply iteP_good | apply iteO_good)
    | split
    | (with_reducible refine Good.mk' (Good.flat ?_))

theorem execKxHello_good {s0 : State} {a0 a1 a2} (ha2 : Good s0 a2) : GoodO s0 (@execKxHello a0 a1 a2) := by
  unfold execKxHello
  repeat' first
    | with_reducible (first
        | assumption | intro _ | apply State_kxDropped_good | apply State_kxRespond_good | apply State_kxEndRx_good
        | apply next_good | apply ite_good | apply iteR_good | apply iteP_good | apply iteO_good)
    | split
    | (with_reducible refine Good.mk' (Good.flat ?_))

theorem State_kxAnswer_good {s0 : State} {a0 a1 a2} (ha0 : Good s0 a0) : Good s0 (@State.kxAnswer a0 a1 a2) := by
  unfold State.kxAnswer
  repeat' first
    | with_reducible (first
        | assumption | intro _ | apply State_kxEndTx_good | apply State_kxAbortSend_good | apply State_kxSend_good
        | apply State_updKx_good | apply next_good | apply ite_good | apply iteR_good | apply iteP_good
        | apply iteO_good)
    | split
    | (with_reducible refine Good.mk' (Good.flat ?_))

theorem execKxResponse_good {s0 : State} {a0 a1 a2} (ha2 : Good s0 a2) : GoodO s0 (@execKxResponse a0 a1 a2) := by
  unfold execKxResponse
  repeat' first
    | with_reducible (first
        | assumption | intro _ | apply State_kxAnswer_good | apply State_kxDropped_good | apply next_good
        | apply ite_good | apply iteR_good | apply iteP_good | apply iteO_good)
    | split
    | (with_reducible refine Good.mk' (Good.flat ?_))

theorem State_kxInstallRx_good {s0 : State} {a0 a1 a2} (ha0 : Good s0 a0) :
    Good s0 (@State.kxInstallRx a0 a1 a2) := by
  unfold State.kxInstallRx
  repeat' first
    | with_reducible (first
        | assumption | intro _ | apply State_kxEndRx_good | apply State_kxAbortSend_good | apply State_updKx_good
        | apply State_installRx_good | apply wr_good | apply State_raisePkg_good | apply State_cntPkg_good
        | apply State_showKeys_good | apply State_kxSend_good | apply next_good | apply ite_good | apply iteR_good
        | apply iteP_good | apply iteO_good)
    | split
    | (with_reducible refine Good.mk' (Good.flat ?_))

theorem execKxConfirm_good {s0 : State} {a0 a1 a2} (ha2 : Good s0 a2) : GoodO s0 (@execKxConfirm a0 a1 a2) := by
  unfold execKxConfirm
  repeat' first
    | with_reducible (first
        | assumption | intro _ | apply State_kxInstallRx_good | apply State_kxDropped_good | apply next_good
        | apply ite_good | apply iteR_good | apply iteP_good | apply iteO_good)
    | split
    | (with_reducible refine Good.mk' (Good.flat ?_))

theorem State_kxInstallTx_good {s0 : State} {a0 a1 a2} (ha0 : Good s0 a0) :
    Good s0 (@State.kxInstallTx a0 a1 a2) := by
  unfold State.kxInstallTx
  repeat' first
    | with_reducible (first
        | assumption | intro _ | apply State_kxEndTx_good | apply State_kxAbortSend_good
        | apply State_installTx_good | apply State_updKx_good | apply wr_good | apply State_showKeys_good
        | apply State_raisePkg_good | apply State_cntPkg_good | apply next_good | apply ite_good | apply iteR_good
        | apply iteP_good | apply iteO_good)
    | split
    | (with_reducible refine Good.mk' (Good.flat ?_))

theorem execKxAck_good {s0 : State} {a0 a1 a2} (ha2 : Good s0 a2) : GoodO s0 (@execKxAck a0 a1 a2) := by
  unfold execKxAck
  repeat' first
    | with_reducible (first
        | assumption | intro _ | apply State_kxInstallTx_good | apply State_kxDropped_good | apply next_good
        | apply ite_good | apply iteR_good | apply iteP_good | apply iteO_good)
    | split
    | (with_reducible refine Good.mk' (Good.flat ?_))

theorem execKxAbort_good {s0 : State} {a0 a1 a2} (ha2 : Good s0 a2) : GoodO s0 (@execKxAbort a0 a1 a2) := by
  unfold execKxAbort
  repeat' first
    | with_reducible (first
        | assumption | intro _ | apply State_kxEndTx_good | apply State_kxEndRx_good | apply State_kxDropped_good
        | apply next_good | apply ite_good | apply iteR_good | apply iteP_good | apply iteO_good)
    | split
    | (with_reducible refine Good.mk' (Good.flat ?_))

theorem State_kxResync_good {s0 : State} {a0} (ha0 : Good s0 a0) : Good s0 (@State.kxResync a0) := by
  unfold State.kxResync
  repeat' first
    | with_reducible (first
        | assumption | intro _ | apply State_cntPkg_good | apply State_kxEndTx_good | apply State_noteCauses_good
        | apply State_promote_good | apply State_freshEpoch_good | apply State_updCiph_good
        | apply State_updKeys_good | apply State_showKeys_good | apply State_kxStart_good | apply State_updKx_good
        | apply each_good | apply next_good | apply ite_good | apply iteR_good | apply iteP_good | apply iteO_good)
    | split
    | (with_reducible refine Good.mk' (Good.flat ?_))

theorem execKxResyncReq_good {s0 : State} {a0 a1 a2} (ha2 : Good s0 a2) : GoodO s0 (@execKxResyncReq a0 a1 a2) := by
  unfold execKxResyncReq
  repeat' first
    | with_reducible (first
        | assumption | intro _ | apply State_kxDropped_good | apply State_kxResync_good | apply next_good
        | apply ite_good | apply iteR_good | apply iteP_good | apply iteO_good)
    | split
    | (with_reducible refine Good.mk' (Good.flat ?_))

theorem State_kxLeaderChange_good {s0 : State} {a0} (ha0 : Good s0 a0) : Good s0 (@State.kxLeaderChange a0) := by
  unfold State.kxLeaderChange
  repeat' first
    | with_reducible (first
        | assumption | intro _ | apply State_noteCauses_good | apply State_updKx_good | apply State_kxEndRx_good
        | apply State_kxEndTx_good | apply State_kxStart_good | apply State_kxKick_good | apply next_good
        | apply ite_good | apply iteR_good | apply iteP_good | apply iteO_good)
    | split
    | (with_reducible refine Good.mk' (Good.flat ?_))

theorem State_resyncSend_good {s0 : State} {a0 a1} (ha0 : Good s0 a0) : Good s0 (@State.resyncSend a0 a1) := by
  unfold State.resyncSend
  repeat' first
    | with_reducible (first
        | assumption | intro _ | apply wr_good | apply State_raiseLane_good | apply State_fresh_good
        | apply State_kxSend_good | apply State_cntPkg_good | apply State_updKx_good | apply next_good
        | apply ite_good | apply iteR_good | apply iteP_good | apply iteO_good)
    | split
    | (with_reducible refine Good.mk' (Good.flat ?_))

theorem State_noteAuth_good {s0 : State} {a0 a1 a2} (ha0 : Good s0 a0) : Good s0 (@State.noteAuth a0 a1 a2) := by
  unfold State.noteAuth
  repeat' first
    | with_reducible (first
        | assumption | intro _ | apply State_showKeys_good | apply State_updKx_good | apply State_updKeys_good
        | apply each_good | apply next_good | apply ite_good | apply iteR_good | apply iteP_good | apply iteO_good)
    | split
    | (with_reducible refine Good.mk' (Good.flat ?_))

theorem execRxOldKeyZeroise_good {s0 : State} {a0 a1} (ha1 : Good s0 a1) : GoodO s0 (@execRxOldKeyZeroise a0 a1) := by
  unfold execRxOldKeyZeroise
  repeat' first
    | with_reducible (first
        | assumption | intro _ | apply State_showKeys_good | apply State_updKx_good | apply State_updKeys_good
        | apply each_good | apply next_good | apply ite_good | apply iteR_good | apply iteP_good | apply iteO_good)
    | split
    | (with_reducible refine Good.mk' (Good.flat ?_))

theorem State_retirePipe_good {s0 : State} {a0 a1 a2 a3} (ha0 : Good s0 a0) :
    Good s0 (@State.retirePipe a0 a1 a2 a3) := by
  unfold State.retirePipe
  repeat' first
    | with_reducible (first
        | assumption | intro _ | apply State_updDie_good | apply State_showPipes_good | apply State_updCiph_good
        | apply next_good | apply ite_good | apply iteR_good | apply iteP_good | apply iteO_good)
    | split
    | (with_reducible refine Good.mk' (Good.flat ?_))

theorem State_pipeFail_good {s0 : State} {a0 a1 a2 a3} (ha0 : Good s0 a0) :
    Good s0 (@State.pipeFail a0 a1 a2 a3) := by
  unfold State.pipeFail
  repeat' first
    | with_reducible (first
        | assumption | intro _ | apply State_showKeys_good | apply State_raiseLane_good | apply wr_good
        | apply next_good | apply ite_good | apply iteR_good | apply iteP_good | apply iteO_good)
    | split
    | (with_reducible refine Good.mk' (Good.flat ?_))

theorem State_fencePipe_good {s0 : State} {a0 a1 a2 a3} (ha0 : Good s0 a0) :
    Good s0 (@State.fencePipe a0 a1 a2 a3) := by
  unfold State.fencePipe
  repeat' first
    | with_reducible (first
        | assumption | intro _ | apply State_updCiph_good | apply State_pipeFail_good | apply State_raiseLane_good
        | apply State_cnt_good | apply next_good | apply ite_good | apply iteR_good | apply iteP_good
        | apply iteO_good)
    | split
    | (with_reducible refine Good.mk' (Good.flat ?_))

theorem State_checkPipes_good {s0 : State} {a0 a1 a2 a3} (ha0 : Good s0 a0) :
    Good s0 (@State.checkPipes a0 a1 a2 a3) := by
  unfold State.checkPipes
  repeat' first
    | with_reducible (first
        | assumption | intro _ | apply State_fencePipe_good | apply each_good | apply next_good | apply ite_good
        | apply iteR_good | apply iteP_good | apply iteO_good)
    | split
    | (with_reducible refine Good.mk' (Good.flat ?_))

theorem execCipherPipeCheck_good {s0 : State} {a0 a1 a2 a3} (ha3 : Good s0 a3) :
    GoodO s0 (@execCipherPipeCheck a0 a1 a2 a3) := by
  unfold execCipherPipeCheck
  repeat' first
    | with_reducible (first
        | assumption | intro _ | apply State_updCiph_good | apply State_checkPipes_good | apply next_good
        | apply ite_good | apply iteR_good | apply iteP_good | apply iteO_good)
    | split
    | (with_reducible refine Good.mk' (Good.flat ?_))

theorem execCipherSliceDone_good {s0 : State} {a0 a1 a2 a3 a4} (ha4 : Good s0 a4) :
    GoodO s0 (@execCipherSliceDone a0 a1 a2 a3 a4) := by
  unfold execCipherSliceDone
  repeat' first
    | with_reducible (first
        | assumption | intro _ | apply State_countSlice_good | apply State_updCiph_good | apply State_pipeFail_good
        | apply State_retirePipe_good | apply State_fencePipe_good | apply State_showKeys_good
        | apply State_noteCauses_good | apply next_good | apply ite_good | apply iteR_good | apply iteP_good
        | apply iteO_good)
    | split
    | (with_reducible refine Good.mk' (Good.flat ?_))

theorem State_rackStep_good {s0 : State} {a0 a1 a2} (ha0 : Good s0 a0) : Good s0 (@State.rackStep a0 a1 a2) := by
  unfold State.rackStep
  repeat' first
    | with_reducible (first
        | assumption | intro _ | apply State_updCiph_good | apply State_promote_good | apply State_freshEpoch_good
        | apply next_good | apply ite_good | apply iteR_good | apply iteP_good | apply iteO_good)
    | split
    | (with_reducible refine Good.mk' (Good.flat ?_))

theorem execRackChangeover_good {s0 : State} {a0 a1} (ha1 : Good s0 a1) : GoodO s0 (@execRackChangeover a0 a1) := by
  unfold execRackChangeover
  repeat' first
    | with_reducible (first
        | assumption | intro _ | apply State_showKeys_good | apply State_promote_good | apply State_freshEpoch_good
        | apply next_good | apply ite_good | apply iteR_good | apply iteP_good | apply iteO_good)
    | split
    | (with_reducible refine Good.mk' (Good.flat ?_))

theorem State_updPwr_good {s0 : State} {a0 a1 a2} (ha0 : Good s0 a0) : Good s0 (@State.updPwr a0 a1 a2) := by
  unfold State.updPwr
  repeat' first
    | with_reducible (first
        | assumption | intro _ | apply State_updDie_good | apply next_good | apply ite_good | apply iteR_good
        | apply iteP_good | apply iteO_good)
    | split
    | (with_reducible refine Good.mk' (Good.flat ?_))

theorem State_updPort_good {s0 : State} {a0 a1 a2} (ha0 : Good s0 a0) : Good s0 (@State.updPort a0 a1 a2) := by
  unfold State.updPort
  repeat' first
    | with_reducible (first
        | assumption | intro _ | apply next_good | apply ite_good | apply iteR_good | apply iteP_good
        | apply iteO_good)
    | split
    | (with_reducible refine Good.mk' (Good.flat ?_))

theorem State_portLeavesUp_good {s0 : State} {a0 a1} (ha0 : Good s0 a0) : Good s0 (@State.portLeavesUp a0 a1) := by
  unfold State.portLeavesUp
  repeat' first
    | with_reducible (first
        | assumption | intro _ | apply State_updFab_good | apply wr_good | apply State_mediumDown_good
        | apply next_good | apply ite_good | apply iteR_good | apply iteP_good | apply iteO_good)
    | split
    | (with_reducible refine Good.mk' (Good.flat ?_))

theorem State_takePreset_good {s0 : State} {a0 a1} (ha0 : Good s0 a0) : Good s0 (@State.takePreset a0 a1) := by
  unfold State.takePreset
  repeat' first
    | with_reducible (first
        | assumption | intro _ | apply State_updPort_good | apply next_good | apply ite_good | apply iteR_good
        | apply iteP_good | apply iteO_good)
    | split
    | (with_reducible refine Good.mk' (Good.flat ?_))

theorem State_portTo_good {s0 : State} {a0 a1 a2} (ha0 : Good s0 a0) : Good s0 (@State.portTo a0 a1 a2) := by
  unfold State.portTo
  repeat' first
    | with_reducible (first
        | assumption | intro _ | apply State_portLeavesUp_good | apply wr_good | apply State_takePreset_good
        | apply State_updPort_good | apply foldl_good | apply next_good | apply ite_good | apply iteR_good
        | apply iteP_good | apply iteO_good)
    | split
    | (with_reducible refine Good.mk' (Good.flat ?_))

theorem State_enterDeeper_good {s0 : State} {a0 a1 a2} (ha0 : Good s0 a0) :
    Good s0 (@State.enterDeeper a0 a1 a2) := by
  unfold State.enterDeeper
  repeat' first
    | with_reducible (first
        | assumption | intro _ | apply State_updPwr_good | apply wr_good | apply State_rxEnter_good
        | apply State_frameLockLost_good | apply State_rxDown_good | apply State_safeSleep_good | apply next_good
        | apply ite_good | apply iteR_good | apply iteP_good | apply iteO_good)
    | split
    | (with_reducible refine Good.mk' (Good.flat ?_))

theorem State_beginWake_good {s0 : State} {a0 a1 a2 a3} (ha0 : Good s0 a0) :
    Good s0 (@State.beginWake a0 a1 a2 a3) := by
  unfold State.beginWake
  repeat' first
    | with_reducible (first
        | assumption | intro _ | apply wr_good | apply State_updPwr_good | apply State_raise_good | apply next_good
        | apply ite_good | apply iteR_good | apply iteP_good | apply iteO_good)
    | split
    | (with_reducible refine Good.mk' (Good.flat ?_))

theorem State_take_good {s0 : State} {a0 a1 a2 a3} (ha0 : Good s0 a0) : Good s0 (@State.take a0 a1 a2 a3) := by
  unfold State.take
  repeat' first
    | with_reducible (first
        | assumption | intro _ | apply State_updPwr_good | apply State_enterDeeper_good | apply State_beginWake_good
        | apply next_good | apply ite_good | apply iteR_good | apply iteP_good | apply iteO_good)
    | split
    | (with_reducible refine Good.mk' (Good.flat ?_))

theorem State_powerEval_good {s0 : State} {a0 a1} (ha0 : Good s0 a0) : Good s0 (@State.powerEval a0 a1) := by
  unfold State.powerEval
  repeat' first
    | with_reducible (first
        | assumption | intro _ | apply State_take_good | apply each_good | apply next_good | apply ite_good
        | apply iteR_good | apply iteP_good | apply iteO_good)
    | split
    | (with_reducible refine Good.mk' (Good.flat ?_))

theorem State_fabricOff_good {s0 : State} {a0 a1} (ha0 : Good s0 a0) : Good s0 (@State.fabricOff a0 a1) := by
  unfold State.fabricOff
  repeat' first
    | with_reducible (first
        | assumption | intro _ | apply State_setBit_good | apply each_good | apply next_good | apply ite_good
        | apply iteR_good | apply iteP_good | apply iteO_good)
    | split
    | (with_reducible refine Good.mk' (Good.flat ?_))

theorem State_portStops_good {s0 : State} {a0 a1} (ha0 : Good s0 a0) : Good s0 (@State.portStops a0 a1) := by
  unfold State.portStops
  repeat' first
    | with_reducible (first
        | assumption | intro _ | apply State_portTo_good | apply next_good | apply ite_good | apply iteR_good
        | apply iteP_good | apply iteO_good)
    | split
    | (with_reducible refine Good.mk' (Good.flat ?_))

theorem State_dormantDie_good {s0 : State} {a0 a1} (ha0 : Good s0 a0) : Good s0 (@State.dormantDie a0 a1) := by
  unfold State.dormantDie
  repeat' first
    | with_reducible (first
        | assumption | intro _ | apply State_zeroiseDie_good | apply State_showKeys_good
        | apply State_dropAttempts_good | apply State_updPwr_good | apply State_dacClearAll_good | apply emit_good
        | apply State_ldisFollow_good | apply wr_good | apply State_portStops_good | apply foldl_good
        | apply next_good | apply ite_good | apply iteR_good | apply iteP_good | apply iteO_good)
    | split
    | (with_reducible refine Good.mk' (Good.flat ?_))

theorem State_pllUnlock_good {s0 : State} {a0 a1 a2} (ha0 : Good s0 a0) : Good s0 (@State.pllUnlock a0 a1 a2) := by
  unfold State.pllUnlock
  repeat' first
    | with_reducible (first
        | assumption | intro _ | apply wr_good | apply next_good | apply ite_good | apply iteR_good
        | apply iteP_good | apply iteO_good)
    | split
    | (with_reducible refine Good.mk' (Good.flat ?_))

theorem State_relockLines_good {s0 : State} {a0 a1} (ha0 : Good s0 a0) (ha1 : Good s0 a1) :
    Good s0 (@State.relockLines a0 a1) := by
  unfold State.relockLines
  repeat' first
    | with_reducible (first
        | assumption | intro _ | apply State_pllUnlock_good | apply each_good | apply next_good | apply ite_good
        | apply iteR_good | apply iteP_good | apply iteO_good)
    | split
    | (with_reducible refine Good.mk' (Good.flat ?_))

theorem State_pllsStop_good {s0 : State} {a0 a1 a2} (ha0 : Good s0 a0) : Good s0 (@State.pllsStop a0 a1 a2) := by
  unfold State.pllsStop
  repeat' first
    | with_reducible (first
        | assumption | intro _ | apply wr_good | apply each_good | apply next_good | apply ite_good
        | apply iteR_good | apply iteP_good | apply iteO_good)
    | split
    | (with_reducible refine Good.mk' (Good.flat ?_))

theorem State_entryDone_good {s0 : State} {a0 a1 a2} (ha0 : Good s0 a0) : Good s0 (@State.entryDone a0 a1 a2) := by
  unfold State.entryDone
  repeat' first
    | with_reducible (first
        | assumption | intro _ | apply State_chargeCipher_good | apply State_chargeAll_good | apply State_updTx_good
        | apply wr_good | apply State_pllsStop_good | apply State_promote_good | apply State_fabricOff_good
        | apply State_stopConvs_good | apply State_dacNap_good | apply State_dormantDie_good
        | apply State_updPwr_good | apply State_updExtrap_good | apply next_good | apply ite_good | apply iteR_good
        | apply iteP_good | apply iteO_good)
    | split
    | (with_reducible refine Good.mk' (Good.flat ?_))

theorem execDieStateEntryDone_good {s0 : State} {a0 a1} (ha1 : Good s0 a1) :
    GoodO s0 (@execDieStateEntryDone a0 a1) := by
  unfold execDieStateEntryDone
  repeat' first
    | with_reducible (first
        | assumption | intro _ | apply State_entryDone_good | apply next_good | apply ite_good | apply iteR_good
        | apply iteP_good | apply iteO_good)
    | split
    | (with_reducible refine Good.mk' (Good.flat ?_))

theorem State_fabricOn_good {s0 : State} {a0 a1} (ha0 : Good s0 a0) : Good s0 (@State.fabricOn a0 a1) := by
  unfold State.fabricOn
  repeat' first
    | with_reducible (first
        | assumption | intro _ | apply State_setBit_good | apply each_good | apply next_good | apply ite_good
        | apply iteR_good | apply iteP_good | apply iteO_good)
    | split
    | (with_reducible refine Good.mk' (Good.flat ?_))

theorem State_txFromVintage_good {s0 : State} {a0 a1} (ha0 : Good s0 a0) : Good s0 (@State.txFromVintage a0 a1) := by
  unfold State.txFromVintage
  repeat' first
    | with_reducible (first
        | assumption | intro _ | apply State_setPdTable_good | apply State_setFirBank_good | apply State_keepTx_good
        | apply wr_good | apply State_setDelay_good | apply each_good | apply foldl_good | apply next_good
        | apply ite_good | apply iteR_good | apply iteP_good | apply iteO_good)
    | split
    | (with_reducible refine Good.mk' (Good.flat ?_))

theorem State_banksLost_good {s0 : State} {a0 a1} (ha0 : Good s0 a0) : Good s0 (@State.banksLost a0 a1) := by
  unfold State.banksLost
  repeat' first
    | with_reducible (first
        | assumption | intro _ | apply State_clearEntries_good | apply State_setCb_good | apply State_setDfe_good
        | apply State_setNle_good | apply State_txFromVintage_good | apply State_updDie_good
        | apply clearCounters_good | apply loadCal_good | apply each_good | apply next_good | apply ite_good
        | apply iteR_good | apply iteP_good | apply iteO_good)
    | split
    | (with_reducible refine Good.mk' (Good.flat ?_))

theorem State_dropOldKeys_good {s0 : State} {a0 a1} (ha0 : Good s0 a0) : Good s0 (@State.dropOldKeys a0 a1) := by
  unfold State.dropOldKeys
  repeat' first
    | with_reducible (first
        | assumption | intro _ | apply State_showKeys_good | apply State_updKeys_good | apply next_good
        | apply ite_good | apply iteR_good | apply iteP_good | apply iteO_good)
    | split
    | (with_reducible refine Good.mk' (Good.flat ?_))

theorem State_fetchKeys_good {s0 : State} {a0 a1} (ha0 : Good s0 a0) : Good s0 (@State.fetchKeys a0 a1) := by
  unfold State.fetchKeys
  repeat' first
    | with_reducible (first
        | assumption | intro _ | apply State_kxKick_good | apply State_showKeys_good | apply State_updKeys_good
        | apply next_good | apply ite_good | apply iteR_good | apply iteP_good | apply iteO_good)
    | split
    | (with_reducible refine Good.mk' (Good.flat ?_))

theorem State_dormantWoken_good {s0 : State} {a0 a1} (ha0 : Good s0 a0) : Good s0 (@State.dormantWoken a0 a1) := by
  unfold State.dormantWoken
  repeat' first
    | with_reducible (first
        | assumption | intro _ | apply State_endExtrap_good | apply State_dropOldKeys_good
        | apply State_banksLost_good | apply State_safePowered_good | apply emit_good | apply State_updPwr_good
        | apply State_raise_good | apply next_good | apply ite_good | apply iteR_good | apply iteP_good
        | apply iteO_good)
    | split
    | (with_reducible refine Good.mk' (Good.flat ?_))

theorem State_wakeEnds_good {s0 : State} {a0 a1 a2} (ha0 : Good s0 a0) : Good s0 (@State.wakeEnds a0 a1 a2) := by
  unfold State.wakeEnds
  repeat' first
    | with_reducible (first
        | assumption | intro _ | apply State_dormantWoken_good | apply State_updExtrap_good | apply wr_good
        | apply State_updPwr_good | apply State_safeWoken_good | apply State_fabricOn_good
        | apply State_armFollow_good | apply State_restartCharge_good | apply State_rxUp_good
        | apply State_updRx_good | apply State_fetchKeys_good | apply State_takeBoundary_good | apply next_good
        | apply ite_good | apply iteR_good | apply iteP_good | apply iteO_good)
    | split
    | (with_reducible refine Good.mk' (Good.flat ?_))

theorem execWakeDone_good {s0 : State} {a0 a1} (ha1 : Good s0 a1) : GoodO s0 (@execWakeDone a0 a1) := by
  unfold execWakeDone
  repeat' first
    | with_reducible (first
        | assumption | intro _ | apply State_updPwr_good | apply State_wakeEnds_good | apply State_powerEval_good
        | apply next_good | apply ite_good | apply iteR_good | apply iteP_good | apply iteO_good)
    | split
    | (with_reducible refine Good.mk' (Good.flat ?_))

theorem State_zeroBudget_good {s0 : State} {a0 a1} (ha0 : Good s0 a0) : Good s0 (@State.zeroBudget a0 a1) := by
  unfold State.zeroBudget
  repeat' first
    | with_reducible (first
        | assumption | intro _ | apply wr_good | apply each_good | apply next_good | apply ite_good
        | apply iteR_good | apply iteP_good | apply iteO_good)
    | split
    | (with_reducible refine Good.mk' (Good.flat ?_))

theorem State_wakeBy_good {s0 : State} {a0 a1 a2} (ha0 : Good s0 a0) : Good s0 (@State.wakeBy a0 a1 a2) := by
  unfold State.wakeBy
  repeat' first
    | with_reducible (first
        | assumption | intro _ | apply State_powerEval_good | apply State_updPwr_good | apply State_zeroBudget_good
        | apply next_good | apply ite_good | apply iteR_good | apply iteP_good | apply iteO_good)
    | split
    | (with_reducible refine Good.mk' (Good.flat ?_))

theorem execWakeSource_good {s0 : State} {a0 a1 a2} (ha2 : Good s0 a2) : GoodO s0 (@execWakeSource a0 a1 a2) := by
  unfold execWakeSource
  repeat' first
    | with_reducible (first
        | assumption | intro _ | apply State_wakeBy_good | apply next_good | apply ite_good | apply iteR_good
        | apply iteP_good | apply iteO_good)
    | split
    | (with_reducible refine Good.mk' (Good.flat ?_))

theorem State_setArmed_good {s0 : State} {a0 a1 a2 a3} (ha0 : Good s0 a0) :
    Good s0 (@State.setArmed a0 a1 a2 a3) := by
  unfold State.setArmed
  repeat' first
    | with_reducible (first
        | assumption | intro _ | apply State_updPwr_good | apply next_good | apply ite_good | apply iteR_good
        | apply iteP_good | apply iteO_good)
    | split
    | (with_reducible refine Good.mk' (Good.flat ?_))

theorem execWakeCmpTrip_good {s0 : State} {a0 a1 a2 a3} (ha3 : Good s0 a3) :
    GoodO s0 (@execWakeCmpTrip a0 a1 a2 a3) := by
  unfold execWakeCmpTrip
  repeat' first
    | with_reducible (first
        | assumption | intro _ | apply State_setArmed_good | apply wr_good | apply State_wakeBy_good
        | apply next_good | apply ite_good | apply iteR_good | apply iteP_good | apply iteO_good)
    | split
    | (with_reducible refine Good.mk' (Good.flat ?_))

theorem execWakeCmpRearm_good {s0 : State} {a0 a1 a2 a3} (ha3 : Good s0 a3) :
    GoodO s0 (@execWakeCmpRearm a0 a1 a2 a3) := by
  unfold execWakeCmpRearm
  repeat' first
    | with_reducible (first
        | assumption | intro _ | apply State_setArmed_good | apply wr_good | apply next_good | apply ite_good
        | apply iteR_good | apply iteP_good | apply iteO_good)
    | split
    | (with_reducible refine Good.mk' (Good.flat ?_))

theorem State_thermalResult_good {s0 : State} {a0 a1 a2} (ha0 : Good s0 a0) :
    Good s0 (@State.thermalResult a0 a1 a2) := by
  unfold State.thermalResult
  repeat' first
    | with_reducible (first
        | assumption | intro _ | apply State_wrInt_good | apply State_updPwr_good | apply wr_good
        | apply State_powerEval_good | apply State_raise_good | apply next_good | apply ite_good | apply iteR_good
        | apply iteP_good | apply iteO_good)
    | split
    | (with_reducible refine Good.mk' (Good.flat ?_))

theorem execThermalConversion_good {s0 : State} {a0 a1 a2} (ha2 : Good s0 a2) :
    GoodO s0 (@execThermalConversion a0 a1 a2) := by
  unfold execThermalConversion
  repeat' first
    | with_reducible (first
        | assumption | intro _ | apply State_thermalResult_good | apply next_good | apply ite_good | apply iteR_good
        | apply iteP_good | apply iteO_good)
    | split
    | (with_reducible refine Good.mk' (Good.flat ?_))

theorem State_setPolicy_good {s0 : State} {a0 a1} (ha0 : Good s0 a0) : Good s0 (@State.setPolicy a0 a1) := by
  unfold State.setPolicy
  repeat' first
    | with_reducible (first
        | assumption | intro _ | apply State_updPwr_good | apply wr_good | apply State_wrB_good | apply each_good
        | apply next_good | apply ite_good | apply iteR_good | apply iteP_good | apply iteO_good)
    | split
    | (with_reducible refine Good.mk' (Good.flat ?_))

theorem applyPowerPolicySet_good {s0 : State} {a0 a1 a2 a3} (ha3 : Good s0 a3) :
    Good s0 (@applyPowerPolicySet a0 a1 a2 a3).state := by
  unfold applyPowerPolicySet
  repeat' first
    | with_reducible (first
        | assumption | intro _ | apply Res_ok_good | apply State_powerEval_good | apply State_setPolicy_good
        | apply next_good | apply ite_good | apply iteR_good | apply iteP_good | apply iteO_good)
    | split
    | (with_reducible refine Good.mk' (Good.flat ?_))

theorem execPowerPolicySet_good {s0 : State} {a0 a1 a2} (ha2 : Good s0 a2) :
    GoodO s0 (@execPowerPolicySet a0 a1 a2) := by
  unfold execPowerPolicySet
  repeat' first
    | with_reducible (first
        | assumption | intro _ | apply Slostan_run_good | apply applyPowerPolicySet_good | apply next_good
        | apply ite_good | apply iteR_good | apply iteP_good | apply iteO_good)
    | split
    | (with_reducible refine Good.mk' (Good.flat ?_))

theorem execPowerStateGet_good {s0 : State} {a0 a1} (ha1 : Good s0 a1) : GoodO s0 (@execPowerStateGet a0 a1) := by
  unfold execPowerStateGet
  repeat' first
    | with_reducible (first
        | assumption | intro _ | apply Slostan_run_good | apply Res_okWith_good | apply next_good | apply ite_good
        | apply iteR_good | apply iteP_good | apply iteO_good)
    | split
    | (with_reducible refine Good.mk' (Good.flat ?_))

theorem State_setCmp_good {s0 : State} {a0 a1 a2} (ha0 : Good s0 a0) : Good s0 (@State.setCmp a0 a1 a2) := by
  unfold State.setCmp
  repeat' first
    | with_reducible (first
        | assumption | intro _ | apply wr_good | apply next_good | apply ite_good | apply iteR_good
        | apply iteP_good | apply iteO_good)
    | split
    | (with_reducible refine Good.mk' (Good.flat ?_))

theorem applyWakeCmpSet_good {s0 : State} {a0 a1 a2 a3 a4 a5} (ha5 : Good s0 a5) :
    Good s0 (@applyWakeCmpSet a0 a1 a2 a3 a4 a5).state := by
  unfold applyWakeCmpSet
  repeat' first
    | with_reducible (first
        | assumption | intro _ | apply Res_ok_good | apply State_setCmp_good | apply State_wrB_good
        | apply each_good | apply next_good | apply ite_good | apply iteR_good | apply iteP_good | apply iteO_good)
    | split
    | (with_reducible refine Good.mk' (Good.flat ?_))

theorem execWakeCmpSet_good {s0 : State} {a0 a1 a2 a3 a4} (ha4 : Good s0 a4) :
    GoodO s0 (@execWakeCmpSet a0 a1 a2 a3 a4) := by
  unfold execWakeCmpSet
  repeat' first
    | with_reducible (first
        | assumption | intro _ | apply Slostan_run_good | apply applyWakeCmpSet_good | apply next_good
        | apply ite_good | apply iteR_good | apply iteP_good | apply iteO_good)
    | split
    | (with_reducible refine Good.mk' (Good.flat ?_))

theorem State_stopDie_good {s0 : State} {a0 a1} (ha0 : Good s0 a0) : Good s0 (@State.stopDie a0 a1) := by
  unfold State.stopDie
  repeat' first
    | with_reducible (first
        | assumption | intro _ | apply State_stopConvs_good | apply State_dacClearAll_good
        | apply State_ldisFollow_good | apply next_good | apply ite_good | apply iteR_good | apply iteP_good
        | apply iteO_good)
    | split
    | (with_reducible refine Good.mk' (Good.flat ?_))

theorem State_beginTest_good {s0 : State} {a0 a1} (ha0 : Good s0 a0) : Good s0 (@State.beginTest a0 a1) := by
  unfold State.beginTest
  repeat' first
    | with_reducible (first
        | assumption | intro _ | apply State_fabricOff_good | apply State_stopDie_good | apply wr_good
        | apply State_updSafe_good | apply next_good | apply ite_good | apply iteR_good | apply iteP_good
        | apply iteO_good)
    | split
    | (with_reducible refine Good.mk' (Good.flat ?_))

theorem State_shutFollow_good {s0 : State} {a0} (ha0 : Good s0 a0) : Good s0 (@State.shutFollow a0) := by
  unfold State.shutFollow
  repeat' first
    | with_reducible (first
        | assumption | intro _ | apply State_stopDie_good | apply State_beginTest_good | apply each_good
        | apply next_good | apply ite_good | apply iteR_good | apply iteP_good | apply iteO_good)
    | split
    | (with_reducible refine Good.mk' (Good.flat ?_))

theorem State_setPolicyOnly_good {s0 : State} {a0 a1} (ha0 : Good s0 a0) : Good s0 (@State.setPolicyOnly a0 a1) := by
  unfold State.setPolicyOnly
  repeat' first
    | with_reducible (first
        | assumption | intro _ | apply State_noteCauses_good | apply wr_good | apply State_zeroiseAll_good
        | apply State_kxKick_good | apply each_good | apply next_good | apply ite_good | apply iteR_good
        | apply iteP_good | apply iteO_good)
    | split
    | (with_reducible refine Good.mk' (Good.flat ?_))

theorem State_setPolicyCode_good {s0 : State} {a0 a1} (ha0 : Good s0 a0) : Good s0 (@State.setPolicyCode a0 a1) := by
  unfold State.setPolicyCode
  repeat' first
    | with_reducible (first
        | assumption | intro _ | apply State_powerEval_good | apply State_setPolicyOnly_good | apply next_good
        | apply ite_good | apply iteR_good | apply iteP_good | apply iteO_good)
    | split
    | (with_reducible refine Good.mk' (Good.flat ?_))

theorem applyCipherPolicySet_good {s0 : State} {a0 a1 a2 a3} (ha3 : Good s0 a3) :
    Good s0 (@applyCipherPolicySet a0 a1 a2 a3).state := by
  unfold applyCipherPolicySet
  repeat' first
    | with_reducible (first
        | assumption | intro _ | apply Res_fail_good | apply Res_ok_good | apply State_setPolicyCode_good
        | apply next_good | apply ite_good | apply iteR_good | apply iteP_good | apply iteO_good)
    | split
    | (with_reducible refine Good.mk' (Good.flat ?_))

theorem execCipherPolicySet_good {s0 : State} {a0 a1 a2} (ha2 : Good s0 a2) :
    GoodO s0 (@execCipherPolicySet a0 a1 a2) := by
  unfold execCipherPolicySet
  repeat' first
    | with_reducible (first
        | assumption | intro _ | apply Slostan_run_good | apply applyCipherPolicySet_good | apply next_good
        | apply ite_good | apply iteR_good | apply iteP_good | apply iteO_good)
    | split
    | (with_reducible refine Good.mk' (Good.flat ?_))

theorem applyKeyModeSet_good {s0 : State} {a0 a1 a2 a3} (ha3 : Good s0 a3) :
    Good s0 (@applyKeyModeSet a0 a1 a2 a3).state := by
  unfold applyKeyModeSet
  repeat' first
    | with_reducible (first
        | assumption | intro _ | apply Res_ok_good | apply wr_good | apply each_good | apply next_good
        | apply ite_good | apply iteR_good | apply iteP_good | apply iteO_good)
    | split
    | (with_reducible refine Good.mk' (Good.flat ?_))

theorem execKeyModeSet_good {s0 : State} {a0 a1 a2} (ha2 : Good s0 a2) : GoodO s0 (@execKeyModeSet a0 a1 a2) := by
  unfold execKeyModeSet
  repeat' first
    | with_reducible (first
        | assumption | intro _ | apply Slostan_run_good | apply applyKeyModeSet_good | apply next_good
        | apply ite_good | apply iteR_good | apply iteP_good | apply iteO_good)
    | split
    | (with_reducible refine Good.mk' (Good.flat ?_))

theorem State_setPsk_good {s0 : State} {a0 a1} (ha0 : Good s0 a0) : Good s0 (@State.setPsk a0 a1) := by
  unfold State.setPsk
  repeat' first
    | with_reducible (first
        | assumption | intro _ | apply State_wrB_good | apply next_good | apply ite_good | apply iteR_good
        | apply iteP_good | apply iteO_good)
    | split
    | (with_reducible refine Good.mk' (Good.flat ?_))

theorem execKeyPskSet_good {s0 : State} {a0 a1 a2} (ha2 : Good s0 a2) : GoodO s0 (@execKeyPskSet a0 a1 a2) := by
  unfold execKeyPskSet
  repeat' first
    | with_reducible (first
        | assumption | intro _ | apply Slostan_run_good | apply Res_ok_good | apply State_setPsk_good
        | apply next_good | apply ite_good | apply iteR_good | apply iteP_good | apply iteO_good)
    | split
    | (with_reducible refine Good.mk' (Good.flat ?_))

theorem applyKeyLifeSet_good {s0 : State} {a0 a1 a2 a3 a4} (ha4 : Good s0 a4) :
    Good s0 (@applyKeyLifeSet a0 a1 a2 a3 a4).state := by
  unfold applyKeyLifeSet
  repeat' first
    | with_reducible (first
        | assumption | intro _ | apply State_noteCauses_good | apply State_wrOpt_good | apply Res_ok_good
        | apply State_showKeys_good | apply State_kxStart_good | apply each_good | apply next_good | apply ite_good
        | apply iteR_good | apply iteP_good | apply iteO_good)
    | split
    | (with_reducible refine Good.mk' (Good.flat ?_))

theorem execKeyLifeSet_good {s0 : State} {a0 a1 a2 a3} (ha3 : Good s0 a3) :
    GoodO s0 (@execKeyLifeSet a0 a1 a2 a3) := by
  unfold execKeyLifeSet
  repeat' first
    | with_reducible (first
        | assumption | intro _ | apply Slostan_run_good | apply applyKeyLifeSet_good | apply next_good
        | apply ite_good | apply iteR_good | apply iteP_good | apply iteO_good)
    | split
    | (with_reducible refine Good.mk' (Good.flat ?_))

theorem State_setRetain_good {s0 : State} {a0 a1 a2} (ha0 : Good s0 a0) : Good s0 (@State.setRetain a0 a1 a2) := by
  unfold State.setRetain
  repeat' first
    | with_reducible (first
        | assumption | intro _ | apply State_wrB_good | apply next_good | apply ite_good | apply iteR_good
        | apply iteP_good | apply iteO_good)
    | split
    | (with_reducible refine Good.mk' (Good.flat ?_))

theorem execKeyRetainSet_good {s0 : State} {a0 a1 a2} (ha2 : Good s0 a2) : GoodO s0 (@execKeyRetainSet a0 a1 a2) := by
  unfold execKeyRetainSet
  repeat' first
    | with_reducible (first
        | assumption | intro _ | apply Slostan_run_good | apply Res_ok_good | apply State_powerEval_good
        | apply State_setRetain_good | apply each_good | apply next_good | apply ite_good | apply iteR_good
        | apply iteP_good | apply iteO_good)
    | split
    | (with_reducible refine Good.mk' (Good.flat ?_))

theorem applyKeyZeroise_good {s0 : State} {a0 a1 a2 a3} (ha3 : Good s0 a3) :
    Good s0 (@applyKeyZeroise a0 a1 a2 a3).state := by
  unfold applyKeyZeroise
  repeat' first
    | with_reducible (first
        | assumption | intro _ | apply State_setPsk_good | apply Res_ok_good | apply State_kxKick_good
        | apply State_zeroiseAll_good | apply next_good | apply ite_good | apply iteR_good | apply iteP_good
        | apply iteO_good)
    | split
    | (with_reducible refine Good.mk' (Good.flat ?_))

theorem execKeyZeroise_good {s0 : State} {a0 a1 a2} (ha2 : Good s0 a2) : GoodO s0 (@execKeyZeroise a0 a1 a2) := by
  unfold execKeyZeroise
  repeat' first
    | with_reducible (first
        | assumption | intro _ | apply Slostan_run_good | apply applyKeyZeroise_good | apply next_good
        | apply ite_good | apply iteR_good | apply iteP_good | apply iteO_good)
    | split
    | (with_reducible refine Good.mk' (Good.flat ?_))

theorem applyKeyAgreeStart_good {s0 : State} {a0 a1 a2} (ha2 : Good s0 a2) :
    Good s0 (@applyKeyAgreeStart a0 a1 a2).state := by
  unfold applyKeyAgreeStart
  repeat' first
    | with_reducible (first
        | assumption | intro _ | apply Res_fail_good | apply Res_ok_good | apply State_kxStart_good
        | apply State_updKx_good | apply next_good | apply ite_good | apply iteR_good | apply iteP_good
        | apply iteO_good)
    | split
    | (with_reducible refine Good.mk' (Good.flat ?_))

theorem execKeyAgreeStart_good {s0 : State} {a0 a1} (ha1 : Good s0 a1) : GoodO s0 (@execKeyAgreeStart a0 a1) := by
  unfold execKeyAgreeStart
  repeat' first
    | with_reducible (first
        | assumption | intro _ | apply Slostan_run_good | apply applyKeyAgreeStart_good | apply next_good
        | apply ite_good | apply iteR_good | apply iteP_good | apply iteO_good)
    | split
    | (with_reducible refine Good.mk' (Good.flat ?_))

theorem applyKeyRack_good {s0 : State} {a0 a1 a2} (ha2 : Good s0 a2) : Good s0 (@applyKeyRack a0 a1 a2).state := by
  unfold applyKeyRack
  repeat' first
    | with_reducible (first
        | assumption | intro _ | apply Res_fail_good | apply Res_ok_good | apply State_kxStart_good
        | apply next_good | apply ite_good | apply iteR_good | apply iteP_good | apply iteO_good)
    | split
    | (with_reducible refine Good.mk' (Good.flat ?_))

theorem execKeyRack_good {s0 : State} {a0 a1} (ha1 : Good s0 a1) : GoodO s0 (@execKeyRack a0 a1) := by
  unfold execKeyRack
  repeat' first
    | with_reducible (first
        | assumption | intro _ | apply Slostan_run_good | apply applyKeyRack_good | apply next_good | apply ite_good
        | apply iteR_good | apply iteP_good | apply iteO_good)
    | split
    | (with_reducible refine Good.mk' (Good.flat ?_))

theorem applyCipherSfClear_good {s0 : State} {a0 a1 a2 a3} (ha3 : Good s0 a3) :
    Good s0 (@applyCipherSfClear a0 a1 a2 a3).state := by
  unfold applyCipherSfClear
  repeat' first
    | with_reducible (first
        | assumption | intro _ | apply Res_badParam_good | apply Res_fail_good | apply Res_ok_good | apply wr_good
        | apply State_noteCauses_good | apply next_good | apply ite_good | apply iteR_good | apply iteP_good
        | apply iteO_good)
    | split
    | (with_reducible refine Good.mk' (Good.flat ?_))

theorem execCipherSfClear_good {s0 : State} {a0 a1 a2} (ha2 : Good s0 a2) :
    GoodO s0 (@execCipherSfClear a0 a1 a2) := by
  unfold execCipherSfClear
  repeat' first
    | with_reducible (first
        | assumption | intro _ | apply Slostan_run_good | apply applyCipherSfClear_good | apply next_good
        | apply ite_good | apply iteR_good | apply iteP_good | apply iteO_good)
    | split
    | (with_reducible refine Good.mk' (Good.flat ?_))

theorem execCipherStatusGet_good {s0 : State} {a0 a1 a2} (ha2 : Good s0 a2) :
    GoodO s0 (@execCipherStatusGet a0 a1 a2) := by
  unfold execCipherStatusGet
  repeat' first
    | with_reducible (first
        | assumption | intro _ | apply Slostan_run_good | apply Res_okWith_good | apply next_good | apply ite_good
        | apply iteR_good | apply iteP_good | apply iteO_good)
    | split
    | (with_reducible refine Good.mk' (Good.flat ?_))

theorem State_keyLimit_good {s0 : State} {a0} (ha0 : Good s0 a0) : Good s0 (@State.keyLimit a0) := by
  unfold State.keyLimit
  repeat' first
    | with_reducible (first
        | assumption | intro _ | apply State_updKx_good | apply wr_good | apply State_raisePkg_good
        | apply State_kxKick_good | apply State_showKeys_good | apply State_updKeys_good
        | apply State_powerEval_good | apply each_good | apply next_good | apply ite_good | apply iteR_good
        | apply iteP_good | apply iteO_good)
    | split
    | (with_reducible refine Good.mk' (Good.flat ?_))

theorem State_sleepLimit_good {s0 : State} {a0} (ha0 : Good s0 a0) : Good s0 (@State.sleepLimit a0) := by
  unfold State.sleepLimit
  repeat' first
    | with_reducible (first
        | assumption | intro _ | apply State_powerEval_good | apply State_showKeys_good | apply State_updKeys_good
        | apply each_good | apply next_good | apply ite_good | apply iteR_good | apply iteP_good | apply iteO_good)
    | split
    | (with_reducible refine Good.mk' (Good.flat ?_))

theorem execKeyExpired_good {s0 : State} {a0} (ha0 : Good s0 a0) : GoodO s0 (@execKeyExpired a0) := by
  unfold execKeyExpired
  repeat' first
    | with_reducible (first
        | assumption | intro _ | apply State_keyLimit_good | apply State_sleepLimit_good | apply next_good
        | apply ite_good | apply iteR_good | apply iteP_good | apply iteO_good)
    | split
    | (with_reducible refine Good.mk' (Good.flat ?_))

theorem execRetainedKeyExpiry_good {s0 : State} {a0 a1} (ha1 : Good s0 a1) :
    GoodO s0 (@execRetainedKeyExpiry a0 a1) := by
  unfold execRetainedKeyExpiry
  repeat' first
    | with_reducible (first
        | assumption | intro _ | apply State_powerEval_good | apply State_showKeys_good
        | apply State_zeroiseDie_good | apply next_good | apply ite_good | apply iteR_good | apply iteP_good
        | apply iteO_good)
    | split
    | (with_reducible refine Good.mk' (Good.flat ?_))

end Sys2Proof.Machine
end

