-- ==== Sys2Proof/Laws/KeepsFrames.lean ====
section
/-! SUPPORT. A sound state stays sound, and takes back nothing, through every operation and command of:
deskew, host ports, release and transmission of frames. Proved alike for each operation, from the lemmas of those it calls. -/

namespace Sys2Proof.Machine

theorem State_takeGuard_good {s0 : State} {a0 a1} (ha0 : Good s0 a0) : Good s0 (@State.takeGuard a0 a1) := by
  unfold State.takeGuard
  repeat' first
    | with_reducible (first
        | assumption | intro _ | apply State_updDsk_good | apply next_good | apply ite_good | apply iteR_good
        | apply iteP_good | apply iteO_good)
    | split
    | (with_reducible refine Good.mk' (Good.flat ?_))

theorem State_deskewRange_good {s0 : State} {a0 a1} (ha0 : Good s0 a0) : Good s0 (@State.deskewRange a0 a1) := by
  unfold State.deskewRange
  repeat' first
    | with_reducible (first
        | assumption | intro _ | apply State_raise_good | apply wr_good | apply next_good | apply ite_good
        | apply iteR_good | apply iteP_good | apply iteO_good)
    | split
    | (with_reducible refine Good.mk' (Good.flat ?_))

theorem State_unalign_good {s0 : State} {a0 a1} (ha0 : Good s0 a0) : Good s0 (@State.unalign a0 a1) := by
  unfold State.unalign
  repeat' first
    | with_reducible (first
        | assumption | intro _ | apply State_updDsk_good | apply State_updDie_good | apply wr_good
        | apply State_finishPend_good | apply each_good | apply next_good | apply ite_good | apply iteR_good
        | apply iteP_good | apply iteO_good)
    | split
    | (with_reducible refine Good.mk' (Good.flat ?_))

theorem State_tryAlign_good {s0 : State} {a0 a1} (ha0 : Good s0 a0) : Good s0 (@State.tryAlign a0 a1) := by
  unfold State.tryAlign
  repeat' first
    | with_reducible (first
        | assumption | intro _ | apply State_updDsk_good | apply State_takeGuard_good | apply State_deskewRange_good
        | apply wr_good | apply each_good | apply foldl_good | apply next_good | apply ite_good | apply iteR_good
        | apply iteP_good | apply iteO_good)
    | split
    | (with_reducible refine Good.mk' (Good.flat ?_))

theorem State_alignFollow_good {s0 : State} {a0 a1} (ha0 : Good s0 a0) : Good s0 (@State.alignFollow a0 a1) := by
  unfold State.alignFollow
  repeat' first
    | with_reducible (first
        | assumption | intro _ | apply State_tryAlign_good | apply next_good | apply ite_good | apply iteR_good
        | apply iteP_good | apply iteO_good)
    | split
    | (with_reducible refine Good.mk' (Good.flat ?_))

theorem execDeskewAlignRetry_good {s0 : State} {a0 a1} (ha1 : Good s0 a1) :
    GoodO s0 (@execDeskewAlignRetry a0 a1) := by
  unfold execDeskewAlignRetry
  repeat' first
    | with_reducible (first
        | assumption | intro _ | apply State_tryAlign_good | apply next_good | apply ite_good | apply iteR_good
        | apply iteP_good | apply iteO_good)
    | split
    | (with_reducible refine Good.mk' (Good.flat ?_))

theorem State_releaseNext_good {s0 : State} {a0 a1} (ha0 : Good s0 a0) : Good s0 (@State.releaseNext a0 a1).2 := by
  unfold State.releaseNext
  repeat' first
    | with_reducible (first
        | assumption | intro _ | apply State_updDsk_good | apply next_good | apply ite_good | apply iteR_good
        | apply iteP_good | apply iteO_good)
    | split
    | (with_reducible refine Good.mk' (Good.flat ?_))

theorem State_exclude_good {s0 : State} {a0 a1} (ha0 : Good s0 a0) : Good s0 (@State.exclude a0 a1) := by
  unfold State.exclude
  repeat' first
    | with_reducible (first
        | assumption | intro _ | apply State_unprotRise_good | apply State_raiseLane_good | apply wr_good
        | apply next_good | apply ite_good | apply iteR_good | apply iteP_good | apply iteO_good)
    | split
    | (with_reducible refine Good.mk' (Good.flat ?_))

theorem State_startSlew_good {s0 : State} {a0 a1 a2 a3} (ha0 : Good s0 a0) :
    Good s0 (@State.startSlew a0 a1 a2 a3) := by
  unfold State.startSlew
  repeat' first
    | with_reducible (first
        | assumption | intro _ | apply State_updDsk_good | apply State_deskewRange_good | apply next_good
        | apply ite_good | apply iteR_good | apply iteP_good | apply iteO_good)
    | split
    | (with_reducible refine Good.mk' (Good.flat ?_))

theorem State_excludedSlack_good {s0 : State} {a0 a1 a2} (ha0 : Good s0 a0) :
    Good s0 (@State.excludedSlack a0 a1 a2) := by
  unfold State.excludedSlack
  repeat' first
    | with_reducible (first
        | assumption | intro _ | apply State_takeGuard_good | apply State_startSlew_good | apply State_updDsk_good
        | apply next_good | apply ite_good | apply iteR_good | apply iteP_good | apply iteO_good)
    | split
    | (with_reducible refine Good.mk' (Good.flat ?_))

theorem State_laneRelease_good {s0 : State} {a0 a1 a2 a3} (ha0 : Good s0 a0) :
    Good s0 (@State.laneRelease a0 a1 a2 a3).2 := by
  unfold State.laneRelease
  repeat' first
    | with_reducible (first
        | assumption | intro _ | apply State_updDsk_good | apply wr_good | apply State_wrInt_good
        | apply State_excludedSlack_good | apply State_cnt_good | apply State_exclude_good
        | apply State_deskewRange_good | apply next_good | apply ite_good | apply iteR_good | apply iteP_good
        | apply iteO_good)
    | split
    | (with_reducible refine Good.mk' (Good.flat ?_))

theorem State_lanesRelease_good {s0 s : State} {fc t l} (h : Good s0 s) : Good s0 (s.lanesRelease fc t l).2 := by
  induction l generalizing s with
  | nil => exact h
  | cons a l ih =>
    unfold State.lanesRelease
    exact ih (State_laneRelease_good h)

theorem State_slewEnd_good {s0 : State} {a0 a1} (ha0 : Good s0 a0) : Good s0 (@State.slewEnd a0 a1) := by
  unfold State.slewEnd
  repeat' first
    | with_reducible (first
        | assumption | intro _ | apply State_updDsk_good | apply State_finishPend_good | apply each_good
        | apply next_good | apply ite_good | apply iteR_good | apply iteP_good | apply iteO_good)
    | split
    | (with_reducible refine Good.mk' (Good.flat ?_))

theorem State_slewStep_good {s0 : State} {a0 a1} (ha0 : Good s0 a0) : Good s0 (@State.slewStep a0 a1) := by
  unfold State.slewStep
  repeat' first
    | with_reducible (first
        | assumption | intro _ | apply State_slewEnd_good | apply State_updDsk_good | apply next_good
        | apply ite_good | apply iteR_good | apply iteP_good | apply iteO_good)
    | split
    | (with_reducible refine Good.mk' (Good.flat ?_))

theorem execDeskewSlewStep_good {s0 : State} {a0 a1} (ha1 : Good s0 a1) : GoodO s0 (@execDeskewSlewStep a0 a1) := by
  unfold execDeskewSlewStep
  repeat' first
    | with_reducible (first
        | assumption | intro _ | apply State_slewStep_good | apply next_good | apply ite_good | apply iteR_good
        | apply iteP_good | apply iteO_good)
    | split
    | (with_reducible refine Good.mk' (Good.flat ?_))

theorem applyLineRealign_good {s0 : State} {a0 a1 a2 a3} (ha3 : Good s0 a3) :
    Good s0 (@applyLineRealign a0 a1 a2 a3).state := by
  unfold applyLineRealign
  repeat' first
    | with_reducible (first
        | assumption | intro _ | apply Res_badParam_good | apply Res_fail_good | apply Res_ok_good
        | apply State_tryAlign_good | apply State_unalign_good | apply State_takeGuard_good
        | apply State_startSlew_good | apply Res_pending_good | apply next_good | apply ite_good | apply iteR_good
        | apply iteP_good | apply iteO_good)
    | split
    | (with_reducible refine Good.mk' (Good.flat ?_))

theorem execLineRealign_good {s0 : State} {a0 a1 a2} (ha2 : Good s0 a2) : GoodO s0 (@execLineRealign a0 a1 a2) := by
  unfold execLineRealign
  repeat' first
    | with_reducible (first
        | assumption | intro _ | apply Slostan_run_good | apply applyLineRealign_good | apply next_good
        | apply ite_good | apply iteR_good | apply iteP_good | apply iteO_good)
    | split
    | (with_reducible refine Good.mk' (Good.flat ?_))

theorem applyDeskewSet_good {s0 : State} {a0 a1 a2 a3 a4} (ha4 : Good s0 a4) :
    Good s0 (@applyDeskewSet a0 a1 a2 a3 a4).state := by
  unfold applyDeskewSet
  repeat' first
    | with_reducible (first
        | assumption | intro _ | apply Res_badParam_good | apply Res_fail_good | apply Res_ok_good | apply wr_good
        | apply next_good | apply ite_good | apply iteR_good | apply iteP_good | apply iteO_good)
    | split
    | (with_reducible refine Good.mk' (Good.flat ?_))

theorem execDeskewSet_good {s0 : State} {a0 a1 a2 a3} (ha3 : Good s0 a3) : GoodO s0 (@execDeskewSet a0 a1 a2 a3) := by
  unfold execDeskewSet
  repeat' first
    | with_reducible (first
        | assumption | intro _ | apply Slostan_run_good | apply applyDeskewSet_good | apply next_good
        | apply ite_good | apply iteR_good | apply iteP_good | apply iteO_good)
    | split
    | (with_reducible refine Good.mk' (Good.flat ?_))

theorem State_setTopping_good {s0 : State} {a0 a1 a2} (ha0 : Good s0 a0) : Good s0 (@State.setTopping a0 a1 a2) := by
  unfold State.setTopping
  repeat' first
    | with_reducible (first
        | assumption | intro _ | apply State_unprotRise_good | apply wr_good | apply each_good | apply next_good
        | apply ite_good | apply iteR_good | apply iteP_good | apply iteO_good)
    | split
    | (with_reducible refine Good.mk' (Good.flat ?_))

theorem applyToppingSet_good {s0 : State} {a0 a1 a2 a3 a4} (ha4 : Good s0 a4) :
    Good s0 (@applyToppingSet a0 a1 a2 a3 a4).state := by
  unfold applyToppingSet
  repeat' first
    | with_reducible (first
        | assumption | intro _ | apply Res_ok_good | apply State_setTopping_good | apply Res_fail_good
        | apply next_good | apply ite_good | apply iteR_good | apply iteP_good | apply iteO_good)
    | split
    | (with_reducible refine Good.mk' (Good.flat ?_))

theorem execToppingSet_good {s0 : State} {a0 a1 a2 a3} (ha3 : Good s0 a3) :
    GoodO s0 (@execToppingSet a0 a1 a2 a3) := by
  unfold execToppingSet
  repeat' first
    | with_reducible (first
        | assumption | intro _ | apply Slostan_run_good | apply applyToppingSet_good | apply next_good
        | apply ite_good | apply iteR_good | apply iteP_good | apply iteO_good)
    | split
    | (with_reducible refine Good.mk' (Good.flat ?_))

theorem State_updPortQ_good {s0 : State} {a0 a1 a2} (ha0 : Good s0 a0) : Good s0 (@State.updPortQ a0 a1 a2) := by
  unfold State.updPortQ
  repeat' first
    | with_reducible (first
        | assumption | intro _ | apply State_updDie_good | apply next_good | apply ite_good | apply iteR_good
        | apply iteP_good | apply iteO_good)
    | split
    | (with_reducible refine Good.mk' (Good.flat ?_))

theorem State_cntRm_good {s0 : State} {a0 a1 a2 a3} (ha0 : Good s0 a0) : Good s0 (@State.cntRm a0 a1 a2 a3) := by
  unfold State.cntRm
  repeat' first
    | with_reducible (first
        | assumption | intro _ | apply State_cntN_good | apply next_good | apply ite_good | apply iteR_good
        | apply iteP_good | apply iteO_good)
    | split
    | (with_reducible refine Good.mk' (Good.flat ?_))

theorem State_dealUnit_good {s0 : State} {a0 a1 a2 a3 a4} (ha0 : Good s0 a0) :
    Good s0 (@State.dealUnit a0 a1 a2 a3 a4) := by
  unfold State.dealUnit
  repeat' first
    | with_reducible (first
        | assumption | intro _ | apply State_updPortQ_good | apply State_flowSend_good | apply next_good
        | apply ite_good | apply iteR_good | apply iteP_good | apply iteO_good)
    | split
    | (with_reducible refine Good.mk' (Good.flat ?_))

theorem State_acceptToLine_good {s0 : State} {a0 a1 a2} (ha0 : Good s0 a0) :
    Good s0 (@State.acceptToLine a0 a1 a2) := by
  unfold State.acceptToLine
  repeat' first
    | with_reducible (first
        | assumption | intro _ | apply State_updPortQ_good | apply State_cntRm_good | apply wr_good
        | apply next_good | apply ite_good | apply iteR_good | apply iteP_good | apply iteO_good)
    | split
    | (with_reducible refine Good.mk' (Good.flat ?_))

theorem State_blockToLine_good {s0 : State} {a0 a1 a2} (ha0 : Good s0 a0) :
    Good s0 (@State.blockToLine a0 a1 a2) := by
  unfold State.blockToLine
  repeat' first
    | with_reducible (first
        | assumption | intro _ | apply State_updPortQ_good | apply State_dealUnit_good | apply next_good
        | apply ite_good | apply iteR_good | apply iteP_good | apply iteO_good)
    | split
    | (with_reducible refine Good.mk' (Good.flat ?_))

theorem State_drainToLine_good {s0 : State} {a0 a1 a2} (ha0 : Good s0 a0) :
    Good s0 (@State.drainToLine a0 a1 a2) := by
  unfold State.drainToLine
  repeat' first
    | with_reducible (first
        | assumption | intro _ | apply State_updPortQ_good | apply State_blockToLine_good | apply wr_good
        | apply State_cntRm_good | apply each_good | apply next_good | apply ite_good | apply iteR_good
        | apply iteP_good | apply iteO_good)
    | split
    | (with_reducible refine Good.mk' (Good.flat ?_))

theorem State_drainNow_good {s0 : State} {a0 a1} (ha0 : Good s0 a0) : Good s0 (@State.drainNow a0 a1) := by
  unfold State.drainNow
  repeat' first
    | with_reducible (first
        | assumption | intro _ | apply State_drainToLine_good | apply next_good | apply ite_good | apply iteR_good
        | apply iteP_good | apply iteO_good)
    | split
    | (with_reducible refine Good.mk' (Good.flat ?_))

theorem State_acceptSpread_good {s0 s : State} {g n m i l} (h : Good s0 s) : Good s0 (s.acceptSpread g n m i l) := by
  induction l generalizing s i with
  | nil => exact h
  | cons a l ih =>
    unfold State.acceptSpread
    exact ih (ite_good (State_acceptToLine_good h) (State_drainToLine_good (State_acceptToLine_good h)))

theorem State_matchToLine_good {s0 : State} {a0 a1 a2} (ha0 : Good s0 a0) :
    Good s0 (@State.matchToLine a0 a1 a2) := by
  unfold State.matchToLine
  repeat' first
    | with_reducible (first
        | assumption | intro _ | apply State_acceptSpread_good | apply State_updPortQ_good | apply next_good
        | apply ite_good | apply iteR_good | apply iteP_good | apply iteO_good)
    | split
    | (with_reducible refine Good.mk' (Good.flat ?_))

theorem State_startCount_good {s0 : State} {a0 a1 a2} (ha0 : Good s0 a0) : Good s0 (@State.startCount a0 a1 a2) := by
  unfold State.startCount
  repeat' first
    | with_reducible (first
        | assumption | intro _ | apply State_updPortQ_good | apply next_good | apply ite_good | apply iteR_good
        | apply iteP_good | apply iteO_good)
    | split
    | (with_reducible refine Good.mk' (Good.flat ?_))

theorem State_unitsToLine_good {s0 : State} {a0 a1 a2 a3 a4} (ha0 : Good s0 a0) :
    Good s0 (@State.unitsToLine a0 a1 a2 a3 a4) := by
  unfold State.unitsToLine
  repeat' first
    | with_reducible (first
        | assumption | intro _ | apply State_matchToLine_good | apply State_dealUnit_good | apply each_good
        | apply next_good | apply ite_good | apply iteR_good | apply iteP_good | apply iteO_good)
    | split
    | (with_reducible refine Good.mk' (Good.flat ?_))

theorem execHostCodewordReceive_good {s0 s : State} {g u c b} (h : Good s0 s) :
    GoodO s0 (execHostCodewordReceive g u c b s) := by
  unfold execHostCodewordReceive
  extract_lets s1 n us0
  have h1 : Good s0 s1 := ite_good (each_good (fun _ _ k => emit_good _ k) h) h
  clear_value s1
  split
  · exact next_good h1
  · extract_lets s2 q dd
    have h2 : Good s0 s2 := ite_good h1 (State_startCount_good h1)
    clear_value s2
    clear_value q dd
    refine iteO_good (next_good h2) ?_
    have hq := State_takeInject_good (a1 := HostLane.die g) (a2 := 3) (a3 := n) h2
    generalize s2.takeInject (HostLane.die g) 3 n = w at hq
    obtain ⟨bad, t⟩ := w
    dsimp -zeta only
    extract_lets cc s3 s4
    have h3 : Good s0 s3 := State_updPortQ_good (State_cnt_good hq)
    clear_value s3
    have h4 : Good s0 s4 := ite_good (wr_good _ _ _ (State_cnt_good h3)) (State_updPortQ_good (State_cntN_good h3))
    clear_value s4
    exact next_good (State_unitsToLine_good h4)

theorem State_fall_good {s0 : State} {a0 a1 a2 a3} (ha0 : Good s0 a0) : Good s0 (@State.fall a0 a1 a2 a3) := by
  unfold State.fall
  repeat' first
    | with_reducible (first
        | assumption | intro _ | apply wr_good | apply next_good | apply ite_good | apply iteR_good
        | apply iteP_good | apply iteO_good)
    | split
    | (with_reducible refine Good.mk' (Good.flat ?_))

theorem State_stdHost_good {s0 : State} {a0 a1 a2} (ha0 : Good s0 a0) : Good s0 (@State.stdHost a0 a1 a2) := by
  unfold State.stdHost
  repeat' first
    | with_reducible (first
        | assumption | intro _ | apply wr_good | apply next_good | apply ite_good | apply iteR_good
        | apply iteP_good | apply iteO_good)
    | split
    | (with_reducible refine Good.mk' (Good.flat ?_))

theorem execHostLaneLoss_good {s0 : State} {a0 a1 a2 a3 a4 a5} (ha5 : Good s0 a5) :
    GoodO s0 (@execHostLaneLoss a0 a1 a2 a3 a4 a5) := by
  unfold execHostLaneLoss
  repeat' first
    | with_reducible (first
        | assumption | intro _ | apply State_fall_good | apply State_stdHost_good | apply State_updPortQ_good
        | apply each_good | apply next_good | apply ite_good | apply iteR_good | apply iteP_good | apply iteO_good)
    | split
    | (with_reducible refine Good.mk' (Good.flat ?_))

theorem execHostLaneRecover_good {s0 : State} {a0 a1} (ha1 : Good s0 a1) : GoodO s0 (@execHostLaneRecover a0 a1) := by
  unfold execHostLaneRecover
  repeat' first
    | with_reducible (first
        | assumption | intro _ | apply wr_good | apply State_stdHost_good | apply each_good | apply next_good
        | apply ite_good | apply iteR_good | apply iteP_good | apply iteO_good)
    | split
    | (with_reducible refine Good.mk' (Good.flat ?_))

theorem execHostPairOffset_good {s0 : State} {a0 a1 a2} (ha2 : Good s0 a2) :
    GoodO s0 (@execHostPairOffset a0 a1 a2) := by
  unfold execHostPairOffset
  repeat' first
    | with_reducible (first
        | assumption | intro _ | apply State_updPortQ_good | apply State_raiseLane_good | apply next_good
        | apply ite_good | apply iteR_good | apply iteP_good | apply iteO_good)
    | split
    | (with_reducible refine Good.mk' (Good.flat ?_))

theorem State_acceptToHost_good {s0 : State} {a0 a1 a2} (ha0 : Good s0 a0) :
    Good s0 (@State.acceptToHost a0 a1 a2) := by
  unfold State.acceptToHost
  repeat' first
    | with_reducible (first
        | assumption | intro _ | apply State_updPortQ_good | apply State_cntRm_good | apply wr_good
        | apply next_good | apply ite_good | apply iteR_good | apply iteP_good | apply iteO_good)
    | split
    | (with_reducible refine Good.mk' (Good.flat ?_))

theorem State_arriveNow_good {s0 : State} {a0 a1} (ha0 : Good s0 a0) : Good s0 (@State.arriveNow a0 a1) := by
  unfold State.arriveNow
  repeat' first
    | with_reducible (first
        | assumption | intro _ | apply State_updPortQ_good | apply State_acceptToHost_good | apply each_good
        | apply next_good | apply ite_good | apply iteR_good | apply iteP_good | apply iteO_good)
    | split
    | (with_reducible refine Good.mk' (Good.flat ?_))

theorem State_dropToHost_good {s0 : State} {a0 a1} (ha0 : Good s0 a0) : Good s0 (@State.dropToHost a0 a1) := by
  unfold State.dropToHost
  repeat' first
    | with_reducible (first
        | assumption | intro _ | apply State_updPortQ_good | apply next_good | apply ite_good | apply iteR_good
        | apply iteP_good | apply iteO_good)
    | split
    | (with_reducible refine Good.mk' (Good.flat ?_))

theorem State_sendToHost_good {s0 : State} {a0 a1 a2} (ha0 : Good s0 a0) : Good s0 (@State.sendToHost a0 a1 a2) := by
  unfold State.sendToHost
  repeat' first
    | with_reducible (first
        | assumption | intro _ | apply State_updPortQ_good | apply next_good | apply ite_good | apply iteR_good
        | apply iteP_good | apply iteO_good)
    | split
    | (with_reducible refine Good.mk' (Good.flat ?_))

theorem State_unitToHost_good {s0 : State} {a0 a1} (ha0 : Good s0 a0) : Good s0 (@State.unitToHost a0 a1) := by
  unfold State.unitToHost
  repeat' first
    | with_reducible (first
        | assumption | intro _ | apply State_updPortQ_good | apply emit_good | apply next_good | apply ite_good
        | apply iteR_good | apply iteP_good | apply iteO_good)
    | split
    | (with_reducible refine Good.mk' (Good.flat ?_))

theorem State_blockToHost_good {s0 : State} {a0 a1} (ha0 : Good s0 a0) : Good s0 (@State.blockToHost a0 a1) := by
  unfold State.blockToHost
  repeat' first
    | with_reducible (first
        | assumption | intro _ | apply State_arriveNow_good | apply emit_good | apply State_updPortQ_good
        | apply wr_good | apply State_cntRm_good | apply next_good | apply ite_good | apply iteR_good
        | apply iteP_good | apply iteO_good)
    | split
    | (with_reducible refine Good.mk' (Good.flat ?_))

theorem execHostTxBlockDue_good {s0 : State} {a0 a1} (ha1 : Good s0 a1) : GoodO s0 (@execHostTxBlockDue a0 a1) := by
  unfold execHostTxBlockDue
  repeat' first
    | with_reducible (first
        | assumption | intro _ | apply emit_good | apply State_dropToHost_good | apply State_blockToHost_good
        | apply State_unitToHost_good | apply each_good | apply next_good | apply ite_good | apply iteR_good
        | apply iteP_good | apply iteO_good)
    | split
    | (with_reducible refine Good.mk' (Good.flat ?_))

theorem State_headerCond_good {s0 : State} {a0 a1 a2 a3 a4 a5} (ha0 : Good s0 a0) :
    Good s0 (@State.headerCond a0 a1 a2 a3 a4 a5) := by
  unfold State.headerCond
  repeat' first
    | with_reducible (first
        | assumption | intro _ | apply State_condition_good | apply next_good | apply ite_good | apply iteR_good
        | apply iteP_good | apply iteO_good)
    | split
    | (with_reducible refine Good.mk' (Good.flat ?_))

theorem State_checkHeader_good {s0 : State} {a0 a1 a2 a3} (ha0 : Good s0 a0) :
    Good s0 (@State.checkHeader a0 a1 a2 a3) := by
  unfold State.checkHeader
  repeat' first
    | with_reducible (first
        | assumption | intro _ | apply State_updCiph_good | apply State_headerCond_good | apply State_cnt_good
        | apply State_wrB_good | apply next_good | apply ite_good | apply iteR_good | apply iteP_good
        | apply iteO_good)
    | split
    | (with_reducible refine Good.mk' (Good.flat ?_))

theorem State_seqSlip_good {s0 : State} {a0 a1} (ha0 : Good s0 a0) : Good s0 (@State.seqSlip a0 a1) := by
  unfold State.seqSlip
  repeat' first
    | with_reducible (first
        | assumption | intro _ | apply State_raiseLane_good | apply State_cnt_good | apply wr_good | apply each_good
        | apply next_good | apply ite_good | apply iteR_good | apply iteP_good | apply iteO_good)
    | split
    | (with_reducible refine Good.mk' (Good.flat ?_))

theorem State_takeHeader_good {s0 : State} {a0 a1 a2 a3 a4} (ha0 : Good s0 a0) :
    Good s0 (@State.takeHeader a0 a1 a2 a3 a4) := by
  unfold State.takeHeader
  repeat' first
    | with_reducible (first
        | assumption | intro _ | apply State_updPool_good | apply State_countOwed_good | apply State_updFrame_good
        | apply next_good | apply ite_good | apply iteR_good | apply iteP_good | apply iteO_good)
    | split
    | (with_reducible refine Good.mk' (Good.flat ?_))

theorem State_ohLost_good {s0 : State} {a0 a1 a2 a3} (ha0 : Good s0 a0) : Good s0 (@State.ohLost a0 a1 a2 a3) := by
  unfold State.ohLost
  repeat' first
    | with_reducible (first
        | assumption | intro _ | apply State_raiseLane_good | apply wr_good | apply State_cnt_good
        | apply State_updRx_good | apply State_segDiscarded_good | apply State_takeHeader_good
        | apply State_updFrame_good | apply State_inbandFollow_good | apply next_good | apply ite_good
        | apply iteR_good | apply iteP_good | apply iteO_good)
    | split
    | (with_reducible refine Good.mk' (Good.flat ?_))

theorem State_keepCopies_good {s0 : State} {a0 a1 a2} (ha0 : Good s0 a0) : Good s0 (@State.keepCopies a0 a1 a2) := by
  unfold State.keepCopies
  repeat' first
    | with_reducible (first
        | assumption | intro _ | apply State_updTop_good | apply next_good | apply ite_good | apply iteR_good
        | apply iteP_good | apply iteO_good)
    | split
    | (with_reducible refine Good.mk' (Good.flat ?_))

theorem State_ohGood_good {s0 : State} {a0 a1 a2 a3} (ha0 : Good s0 a0) : Good s0 (@State.ohGood a0 a1 a2 a3) := by
  unfold State.ohGood
  repeat' first
    | with_reducible (first
        | assumption | intro _ | apply State_checkHeader_good | apply State_seqSlip_good
        | apply State_takeHeader_good | apply State_keepCopies_good | apply State_updPool_good
        | apply State_updInb_good | apply State_takeRxSegment_good | apply State_inbandFollow_good
        | apply State_feedbackAdapt_good | apply State_updRx_good | apply State_rxEnter_good | apply next_good
        | apply ite_good | apply iteR_good | apply iteP_good | apply iteO_good)
    | split
    | (with_reducible refine Good.mk' (Good.flat ?_))

theorem execFrameReceiveOverhead_good {s0 : State} {a0 a1} (ha1 : Good s0 a1) :
    GoodO s0 (@execFrameReceiveOverhead a0 a1) := by
  unfold execFrameReceiveOverhead
  repeat' first
    | with_reducible (first
        | assumption | intro _ | apply State_cnt_good | apply State_ohLost_good | apply State_ohGood_good
        | apply State_unprotRise_good | apply State_alignFollow_good | apply next_good | apply ite_good
        | apply iteR_good | apply iteP_good | apply iteO_good)
    | split
    | (with_reducible refine Good.mk' (Good.flat ?_))

theorem State_failRun_good {s0 : State} {a0 a1} (ha0 : Good s0 a0) : Good s0 (@State.failRun a0 a1) := by
  unfold State.failRun
  repeat' first
    | with_reducible (first
        | assumption | intro _ | apply State_incSat_good | apply State_resyncSend_good | apply next_good
        | apply ite_good | apply iteR_good | apply iteP_good | apply iteO_good)
    | split
    | (with_reducible refine Good.mk' (Good.flat ?_))

theorem State_tagFail_good {s0 : State} {a0 a1} (ha0 : Good s0 a0) : Good s0 (@State.tagFail a0 a1) := by
  unfold State.tagFail
  repeat' first
    | with_reducible (first
        | assumption | intro _ | apply State_chargePipes_good | apply State_raiseLane_good
        | apply State_capTrigger_good | apply wr_good | apply State_cnt_good | apply next_good | apply ite_good
        | apply iteR_good | apply iteP_good | apply iteO_good)
    | split
    | (with_reducible refine Good.mk' (Good.flat ?_))

theorem State_judgeGcm_good {s0 : State} {a0 a1 a2 a3 a4 a5} (ha0 : Good s0 a0) :
    Good s0 (@State.judgeGcm a0 a1 a2 a3 a4 a5).2 := by
  unfold State.judgeGcm
  repeat' first
    | with_reducible (first
        | assumption | intro _ | apply State_failRun_good | apply State_tagFail_good | apply wr_good
        | apply State_cnt_good | apply State_chargePipes_good | apply State_noteAuth_good
        | apply State_sfdCatch_good | apply next_good | apply ite_good | apply iteR_good | apply iteP_good
        | apply iteO_good)
    | split
    | (with_reducible refine Good.mk' (Good.flat ?_))

theorem State_judgeClear_good {s0 : State} {a0 a1 a2 a3} (ha0 : Good s0 a0) :
    Good s0 (@State.judgeClear a0 a1 a2 a3).2 := by
  unfold State.judgeClear
  repeat' first
    | with_reducible (first
        | assumption | intro _ | apply State_cnt_good | apply State_sfdCatch_good | apply next_good | apply ite_good
        | apply iteR_good | apply iteP_good | apply iteO_good)
    | split
    | (with_reducible refine Good.mk' (Good.flat ?_))

theorem State_judge_good {s0 : State} {a0 a1 a2 a3} (ha0 : Good s0 a0) : Good s0 (@State.judge a0 a1 a2 a3).2 := by
  unfold State.judge
  repeat' first
    | with_reducible (first
        | assumption | intro _ | apply State_cnt_good | apply State_sfdCatch_good | apply State_judgeGcm_good
        | apply State_judgeClear_good | apply next_good | apply ite_good | apply iteR_good | apply iteP_good
        | apply iteO_good)
    | split
    | (with_reducible refine Good.mk' (Good.flat ?_))

theorem State_countMarked_good {s0 : State} {a0 a1 a2 a3} (ha0 : Good s0 a0) :
    Good s0 (@State.countMarked a0 a1 a2 a3) := by
  unfold State.countMarked
  repeat' first
    | with_reducible (first
        | assumption | intro _ | apply State_cnt_good | apply each_good | apply next_good | apply ite_good
        | apply iteR_good | apply iteP_good | apply iteO_good)
    | split
    | (with_reducible refine Good.mk' (Good.flat ?_))

theorem State_assemble_good {s0 : State} {a0 a1 a2} (ha0 : Good s0 a0) : Good s0 (@State.assemble a0 a1 a2) := by
  unfold State.assemble
  repeat' first
    | with_reducible (first
        | assumption | intro _ | apply State_sendToHost_good | apply next_good | apply ite_good | apply iteR_good
        | apply iteP_good | apply iteO_good)
    | split
    | (with_reducible refine Good.mk' (Good.flat ?_))

theorem State_deliverUnits_good {s0 : State} {a0 a1 a2 a3} (ha0 : Good s0 a0) :
    Good s0 (@State.deliverUnits a0 a1 a2 a3) := by
  unfold State.deliverUnits
  repeat' first
    | with_reducible (first
        | assumption | intro _ | apply State_updDie_good | apply State_sendToHost_good
        | apply State_countMarked_good | apply State_assemble_good | apply each_good | apply next_good
        | apply ite_good | apply iteR_good | apply iteP_good | apply iteO_good)
    | split
    | (with_reducible refine Good.mk' (Good.flat ?_))

theorem State_tagsReceived_good {s0 : State} {a0 a1 a2} (ha0 : Good s0 a0) :
    Good s0 (@State.tagsReceived a0 a1 a2) := by
  unfold State.tagsReceived
  repeat' first
    | with_reducible (first
        | assumption | intro _ | apply State_freshN_good | apply State_addTag_good | apply each_good
        | apply next_good | apply ite_good | apply iteR_good | apply iteP_good | apply iteO_good)
    | split
    | (with_reducible refine Good.mk' (Good.flat ?_))

theorem State_settle_good {s0 : State} {a0 a1 a2 a3} (ha0 : Good s0 a0) : Good s0 (@State.settle a0 a1 a2 a3) := by
  unfold State.settle
  repeat' first
    | with_reducible (first
        | assumption | intro _ | apply State_judge_good | apply State_deliverUnits_good
        | apply State_tagsReceived_good | apply next_good | apply ite_good | apply iteR_good | apply iteP_good
        | apply iteO_good)
    | split
    | (with_reducible refine Good.mk' (Good.flat ?_))

theorem State_releaseFull_good {s0 : State} {a0 a1 a2 a3} (ha0 : Good s0 a0) :
    Good s0 (@State.releaseFull a0 a1 a2 a3) := by
  unfold State.releaseFull
  repeat' first
    | with_reducible (first
        | assumption | intro _ | apply State_updTop_good | apply State_settle_good | apply State_deliverUnits_good
        | apply next_good | apply ite_good | apply iteR_good | apply iteP_good | apply iteO_good)
    | split
    | (with_reducible refine Good.mk' (Good.flat ?_))

theorem State_dropCopies_good {s0 : State} {a0 a1 a2} (ha0 : Good s0 a0) : Good s0 (@State.dropCopies a0 a1 a2) := by
  unfold State.dropCopies
  repeat' first
    | with_reducible (first
        | assumption | intro _ | apply State_updTop_good | apply next_good | apply ite_good | apply iteR_good
        | apply iteP_good | apply iteO_good)
    | split
    | (with_reducible refine Good.mk' (Good.flat ?_))

theorem State_followSet_good {s0 : State} {a0 a1} (ha0 : Good s0 a0) : Good s0 (@State.followSet a0 a1) := by
  unfold State.followSet
  repeat' first
    | with_reducible (first
        | assumption | intro _ | apply State_updTop_good | apply wr_good | apply each_good | apply next_good
        | apply ite_good | apply iteR_good | apply iteP_good | apply iteO_good)
    | split
    | (with_reducible refine Good.mk' (Good.flat ?_))

theorem State_toppingWindow_good {s0 : State} {a0} (ha0 : Good s0 a0) : Good s0 (@State.toppingWindow a0) := by
  unfold State.toppingWindow
  repeat' first
    | with_reducible (first
        | assumption | intro _ | apply next_good | apply ite_good | apply iteR_good | apply iteP_good
        | apply iteO_good)
    | split
    | (with_reducible refine Good.mk' (Good.flat ?_))

theorem State_releaseAssured_good {s0 : State} {a0 a1 a2 a3} (ha0 : Good s0 a0) :
    Good s0 (@State.releaseAssured a0 a1 a2 a3) := by
  unfold State.releaseAssured
  repeat' first
    | with_reducible (first
        | assumption | intro _ | apply wr_good | apply State_updTop_good | apply next_good | apply ite_good
        | apply iteR_good | apply iteP_good | apply iteO_good)
    | split
    | (with_reducible refine Good.mk' (Good.flat ?_))

theorem execFrameRelease_good {s0 : State} {a0 a1 a2} (ha2 : Good s0 a2) : GoodO s0 (@execFrameRelease a0 a1 a2) := by
  unfold execFrameRelease
  repeat' first
    | with_reducible (first
        | assumption | intro _ | apply State_releaseNext_good | apply State_lanesRelease_good
        | apply State_unprotFall_good | apply State_unprotRise_good | apply State_followSet_good
        | apply State_dropCopies_good | apply State_releaseAssured_good | apply State_releaseFull_good
        | apply State_tryAlign_good | apply State_unalign_good | apply each_good | apply next_good | apply ite_good
        | apply iteR_good | apply iteP_good | apply iteO_good)
    | split
    | (with_reducible refine Good.mk' (Good.flat ?_))

theorem execErasureNotice_good {s0 : State} {a0 a1 a2 a3} (ha3 : Good s0 a3) :
    GoodO s0 (@execErasureNotice a0 a1 a2 a3) := by
  unfold execErasureNotice
  repeat' first
    | with_reducible (first
        | assumption | intro _ | apply State_updTop_good | apply State_d2dSend_good | apply State_cnt_good
        | apply next_good | apply ite_good | apply iteR_good | apply iteP_good | apply iteO_good)
    | split
    | (with_reducible refine Good.mk' (Good.flat ?_))

theorem State_noteRebuild_good {s0 : State} {a0 a1 a2 a3 a4} (ha0 : Good s0 a0) :
    Good s0 (@State.noteRebuild a0 a1 a2 a3 a4) := by
  unfold State.noteRebuild
  repeat' first
    | with_reducible (first
        | assumption | intro _ | apply wr_good | apply State_cnt_good | apply State_updTop_good
        | apply State_raiseLane_good | apply next_good | apply ite_good | apply iteR_good | apply iteP_good
        | apply iteO_good)
    | split
    | (with_reducible refine Good.mk' (Good.flat ?_))

theorem execToppingWindowEnd_good {s0 : State} {a0 a1 a2 a3 a4} (ha4 : Good s0 a4) :
    GoodO s0 (@execToppingWindowEnd a0 a1 a2 a3 a4) := by
  unfold execToppingWindowEnd
  repeat' first
    | with_reducible (first
        | assumption | intro _ | apply State_noteRebuild_good | apply State_updTop_good | apply State_settle_good
        | apply next_good | apply ite_good | apply iteR_good | apply iteP_good | apply iteO_good)
    | split
    | (with_reducible refine Good.mk' (Good.flat ?_))

theorem State_showTx_good {s0 : State} {a0 a1 a2} (ha0 : Good s0 a0) : Good s0 (@State.showTx a0 a1 a2) := by
  unfold State.showTx
  repeat' first
    | with_reducible (first
        | assumption | intro _ | apply State_wrB_good | apply wr_good | apply next_good | apply ite_good
        | apply iteR_good | apply iteP_good | apply iteO_good)
    | split
    | (with_reducible refine Good.mk' (Good.flat ?_))

theorem State_holdCauses_good {s0 : State} {a0 a1} (ha0 : Good s0 a0) : Good s0 (@State.holdCauses a0 a1) := by
  unfold State.holdCauses
  repeat' first
    | with_reducible (first
        | assumption | intro _ | apply State_updTx_good | apply next_good | apply ite_good | apply iteR_good
        | apply iteP_good | apply iteO_good)
    | split
    | (with_reducible refine Good.mk' (Good.flat ?_))

theorem State_renumberTx_good {s0 : State} {a0 a1} (ha0 : Good s0 a0) : Good s0 (@State.renumberTx a0 a1) := by
  unfold State.renumberTx
  repeat' first
    | with_reducible (first
        | assumption | intro _ | apply State_updTx_good | apply State_updPortQ_good | apply each_good
        | apply next_good | apply ite_good | apply iteR_good | apply iteP_good | apply iteO_good)
    | split
    | (with_reducible refine Good.mk' (Good.flat ?_))

theorem State_txStart_good {s0 : State} {a0 a1} (ha0 : Good s0 a0) : Good s0 (@State.txStart a0 a1) := by
  unfold State.txStart
  repeat' first
    | with_reducible (first
        | assumption | intro _ | apply State_renumberTx_good | apply State_updTx_good | apply State_updCiph_good
        | apply State_kxStart_good | apply next_good | apply ite_good | apply iteR_good | apply iteP_good
        | apply iteO_good)
    | split
    | (with_reducible refine Good.mk' (Good.flat ?_))

theorem State_txAdvance_good {s0 : State} {a0 a1} (ha0 : Good s0 a0) : Good s0 (@State.txAdvance a0 a1) := by
  unfold State.txAdvance
  repeat' first
    | with_reducible (first
        | assumption | intro _ | apply State_updTx_good | apply State_renumberTx_good | apply next_good
        | apply ite_good | apply iteR_good | apply iteP_good | apply iteO_good)
    | split
    | (with_reducible refine Good.mk' (Good.flat ?_))

theorem State_takeBits_good {s0 : State} {a0 a1} (ha0 : Good s0 a0) : Good s0 (@State.takeBits a0 a1).2 := by
  unfold State.takeBits
  repeat' first
    | with_reducible (first
        | assumption | intro _ | apply State_updTx_good | apply State_updPortQ_good | apply each_good
        | apply next_good | apply ite_good | apply iteR_good | apply iteP_good | apply iteO_good)
    | split
    | (with_reducible refine Good.mk' (Good.flat ?_))

theorem State_cipherPayload_good {s0 s : State} {l hh b p} (h : Good s0 s) :
    Good s0 (s.cipherPayload l hh b p).2.2.2 := by
  have k := State_freshN_good (n := 255) h
  unfold State.cipherPayload
  revert k
  generalize s.freshN 255 = w
  intro k
  split
  · exact k
  · exact h

theorem State_txOverhead_good {s0 : State} {a0 a1 a2} (ha0 : Good s0 a0) :
    Good s0 (@State.txOverhead a0 a1 a2).2 := by
  unfold State.txOverhead
  repeat' first
    | with_reducible (first
        | assumption | intro _ | apply State_takeSegment_good | apply next_good | apply ite_good | apply iteR_good
        | apply iteP_good | apply iteO_good)
    | split
    | (with_reducible refine Good.mk' (Good.flat ?_))

theorem State_noteEnciphered_good {s0 : State} {a0 a1} (ha0 : Good s0 a0) :
    Good s0 (@State.noteEnciphered a0 a1) := by
  unfold State.noteEnciphered
  repeat' first
    | with_reducible (first
        | assumption | intro _ | apply State_incSat_good | apply State_cnt_good | apply State_updCiph_good
        | apply next_good | apply ite_good | apply iteR_good | apply iteP_good | apply iteO_good)
    | split
    | (with_reducible refine Good.mk' (Good.flat ?_))

theorem State_tagsSent_good {s0 : State} {a0 a1 a2 a3 a4} (ha0 : Good s0 a0) :
    Good s0 (@State.tagsSent a0 a1 a2 a3 a4) := by
  unfold State.tagsSent
  repeat' first
    | with_reducible (first
        | assumption | intro _ | apply State_fresh_good | apply State_freshN_good | apply State_addTag_good
        | apply each_good | apply next_good | apply ite_good | apply iteR_good | apply iteP_good | apply iteO_good)
    | split
    | (with_reducible refine Good.mk' (Good.flat ?_))

theorem State_noteClips_good {s0 : State} {a0 a1 a2} (ha0 : Good s0 a0) : Good s0 (@State.noteClips a0 a1 a2) := by
  unfold State.noteClips
  repeat' first
    | with_reducible (first
        | assumption | intro _ | apply wr_good | apply State_cntN_good | apply next_good | apply ite_good
        | apply iteR_good | apply iteP_good | apply iteO_good)
    | split
    | (with_reducible refine Good.mk' (Good.flat ?_))

theorem State_bypassTrip_good {s0 : State} {a0 a1} (ha0 : Good s0 a0) : Good s0 (@State.bypassTrip a0 a1) := by
  unfold State.bypassTrip
  repeat' first
    | with_reducible (first
        | assumption | intro _ | apply wr_good | apply State_raiseLane_good | apply State_updCiph_good
        | apply State_cnt_good | apply State_showTx_good | apply next_good | apply ite_good | apply iteR_good
        | apply iteP_good | apply iteO_good)
    | split
    | (with_reducible refine Good.mk' (Good.flat ?_))

theorem State_chargeSent_good {s0 : State} {a0 a1 a2} (ha0 : Good s0 a0) : Good s0 (@State.chargeSent a0 a1 a2) := by
  unfold State.chargeSent
  repeat' first
    | with_reducible (first
        | assumption | intro _ | apply State_chargePipes_good | apply State_fresh_good | apply next_good
        | apply ite_good | apply iteR_good | apply iteP_good | apply iteO_good)
    | split
    | (with_reducible refine Good.mk' (Good.flat ?_))

theorem State_emitFrame_good {s0 : State} {a0 a1 a2 a3 a4 a5} (ha0 : Good s0 a0) :
    Good s0 (@State.emitFrame a0 a1 a2 a3 a4 a5) := by
  unfold State.emitFrame
  repeat' first
    | with_reducible (first
        | assumption | intro _ | apply emit_good | apply State_noteClips_good | apply State_updTx_good
        | apply next_good | apply ite_good | apply iteR_good | apply iteP_good | apply iteO_good)
    | split
    | (with_reducible refine Good.mk' (Good.flat ?_))

theorem State_emitMute_good {s0 : State} {a0 a1} (ha0 : Good s0 a0) : Good s0 (@State.emitMute a0 a1) := by
  unfold State.emitMute
  repeat' first
    | with_reducible (first
        | assumption | intro _ | apply emit_good | apply State_updTx_good | apply next_good | apply ite_good
        | apply iteR_good | apply iteP_good | apply iteO_good)
    | split
    | (with_reducible refine Good.mk' (Good.flat ?_))

theorem State_txIdle_good {s0 : State} {a0 a1} (ha0 : Good s0 a0) : Good s0 (@State.txIdle a0 a1) := by
  unfold State.txIdle
  repeat' first
    | with_reducible (first
        | assumption | intro _ | apply State_updCiph_good | apply State_updTx_good | apply State_holdCauses_good
        | apply State_emitMute_good | apply State_showTx_good | apply next_good | apply ite_good | apply iteR_good
        | apply iteP_good | apply iteO_good)
    | split
    | (with_reducible refine Good.mk' (Good.flat ?_))

theorem State_contribute_good {s0 : State} {a0 a1 a2 a3 a4} (ha0 : Good s0 a0) :
    Good s0 (@State.contribute a0 a1 a2 a3 a4) := by
  unfold State.contribute
  repeat' first
    | with_reducible (first
        | assumption | intro _ | apply State_updTop_good | apply State_cntN_good | apply State_d2dSend_good
        | apply next_good | apply ite_good | apply iteR_good | apply iteP_good | apply iteO_good)
    | split
    | (with_reducible refine Good.mk' (Good.flat ?_))

theorem State_sendShare_good {s0 s : State} {l st b p} (h : Good s0 s) : Good s0 (s.sendShare l st b p) := by
  unfold State.sendShare
  extract_lets live mandatory gcm hh
  have h1 := State_txOverhead_good (a1 := l) (a2 := hh) h
  generalize s.txOverhead l hh = w at h1
  obtain ⟨oh, s1⟩ := w
  dsimp -zeta only at h1 ⊢
  have h2 : Good s0 (if live then s1.cipherPayload l hh b p else (zeroPayload, 0, none, s1)).2.2.2 := by
    split
    · exact State_cipherPayload_good h1
    · exact h1
  generalize (if live then s1.cipherPayload l hh b p else (zeroPayload, 0, none, s1)) = w at h2
  obtain ⟨payload, tag, leak, s2⟩ := w
  dsimp -zeta only at h2 ⊢
  extract_lets trip tag2 oh2 cut s4 s5 s6 s7
  have h3 := State_takeInject_good (a1 := l) (a2 := 2) (a3 := 0) h2
  have h4 : Good s0 s4 := wr_good _ _ _ (wr_good _ _ _ h3)
  clear_value s4
  have h5 : Good s0 s5 := State_emitFrame_good (State_contribute_good h4)
  clear_value s5
  have h6 : Good s0 s6 := ite_good (State_chargeSent_good (State_noteEnciphered_good h5)) h5
  clear_value s6
  have h7 : Good s0 s7 := ite_good (State_bypassTrip_good h6) h6
  clear_value s7
  exact ite_good (State_tagsSent_good h7) h7

theorem State_flushTop_good {s0 : State} {a0} (ha0 : Good s0 a0) : Good s0 (@State.flushTop a0) := by
  unfold State.flushTop
  repeat' first
    | with_reducible (first
        | assumption | intro _ | apply State_updTop_good | apply State_tagsSent_good | apply State_emitFrame_good
        | apply next_good | apply ite_good | apply iteR_good | apply iteP_good | apply iteO_good)
    | split
    | (with_reducible refine Good.mk' (Good.flat ?_))

theorem State_holdTop_good {s0 : State} {a0 a1} (ha0 : Good s0 a0) : Good s0 (@State.holdTop a0 a1) := by
  unfold State.holdTop
  repeat' first
    | with_reducible (first
        | assumption | intro _ | apply State_txOverhead_good | apply State_updTop_good | apply State_showTx_good
        | apply next_good | apply ite_good | apply iteR_good | apply iteP_good | apply iteO_good)
    | split
    | (with_reducible refine Good.mk' (Good.flat ?_))

theorem State_sendFrame_good {s0 s : State} {l st b} (h : Good s0 s) : Good s0 (s.sendFrame l st b) := by
  unfold State.sendFrame
  extract_lets s1 s2
  have h1 : Good s0 s1 := State_cnt_good h
  clear_value s1
  have h2 : Good s0 s2 := State_injectLineBits_good h1
  clear_value s2
  split
  · split
    · have h3 := State_fresh_good h2
      generalize s2.fresh = w at h3
      obtain ⟨n, s3⟩ := w
      exact State_noteClips_good (State_tagsSent_good h3)
    · exact State_emitMute_good h2
  · have h3 : Good s0 (if s2.isTop l then ([], s2) else s2.takeBits l).2 := iteP_good h2 (State_takeBits_good h2)
    generalize (if s2.isTop l then ([], s2) else s2.takeBits l) = w at h3
    obtain ⟨plain, s3⟩ := w
    dsimp -zeta only at h3 ⊢
    split
    · exact State_emitMute_good h3
    · exact State_emitFrame_good h3
    · exact ite_good (State_holdTop_good h3) (State_sendShare_good h3)

theorem State_txBoundary_good {s0 : State} {a0 a1} (ha0 : Good s0 a0) : Good s0 (@State.txBoundary a0 a1) := by
  unfold State.txBoundary
  repeat' first
    | with_reducible (first
        | assumption | intro _ | apply State_txFrameCounts_good | apply State_stepDelay_good
        | apply State_doTxLoad_good | apply State_doPdSwap_good | apply State_doFirSwap_good
        | apply State_updTx_good | apply next_good | apply ite_good | apply iteR_good | apply iteP_good
        | apply iteO_good)
    | split
    | (with_reducible refine Good.mk' (Good.flat ?_))

theorem execFrameTransmit_good {s0 : State} {a0 a1 a2} (ha2 : Good s0 a2) :
    GoodO s0 (@execFrameTransmit a0 a1 a2) := by
  unfold execFrameTransmit
  repeat' first
    | with_reducible (first
        | assumption | intro _ | apply State_flushTop_good | apply State_shutFollow_good | apply State_txIdle_good
        | apply State_drainNow_good | apply State_txAdvance_good | apply State_txStart_good
        | apply State_toppingWindow_good | apply State_txBoundary_good | apply State_rackStep_good
        | apply State_kxKick_good | apply State_showTx_good | apply State_holdCauses_good | apply State_kxFlush_good
        | apply State_showKeys_good | apply State_sendFrame_good | apply each_good | apply next_good
        | apply ite_good | apply iteR_good | apply iteP_good | apply iteO_good)
    | split
    | (with_reducible refine Good.mk' (Good.flat ?_))

theorem execTxHoldEnd_good {s0 : State} {a0 a1 a2} (ha2 : Good s0 a2) : GoodO s0 (@execTxHoldEnd a0 a1 a2) := by
  unfold execTxHoldEnd
  repeat' first
    | with_reducible (first
        | assumption | intro _ | apply State_updTop_good | apply State_raise_good | apply State_cnt_good
        | apply wr_good | apply next_good | apply ite_good | apply iteR_good | apply iteP_good | apply iteO_good)
    | split
    | (with_reducible refine Good.mk' (Good.flat ?_))

end Sys2Proof.Machine
end

