-- ==== Sys2Proof/Laws/KeepsPorts.lean ====
section
/-! SUPPORT. A sound state stays sound, and takes back nothing, through every operation and command of:
profiles, management ports, the leader, clocks, faults, self-test and diagnostics. Proved alike for each operation, from the lemmas of those it calls. -/

namespace Sys2Proof.Machine

theorem State_showPlanOn_good {s0 : State} {a0 a1} (ha0 : Good s0 a0) : Good s0 (@State.showPlanOn a0 a1) := by
  unfold State.showPlanOn
  repeat' first
    | with_reducible (first
        | assumption | intro _ | apply wr_good | apply State_wrB_good | apply each_good | apply next_good
        | apply ite_good | apply iteR_good | apply iteP_good | apply iteO_good)
    | split
    | (with_reducible refine Good.mk' (Good.flat ?_))

theorem State_showStandard_good {s0 : State} {a0 a1} (ha0 : Good s0 a0) : Good s0 (@State.showStandard a0 a1) := by
  unfold State.showStandard
  repeat' first
    | with_reducible (first
        | assumption | intro _ | apply wr_good | apply State_wrB_good | apply next_good | apply ite_good
        | apply iteR_good | apply iteP_good | apply iteO_good)
    | split
    | (with_reducible refine Good.mk' (Good.flat ?_))

theorem State_dropHostLane_good {s0 : State} {a0 a1} (ha0 : Good s0 a0) : Good s0 (@State.dropHostLane a0 a1) := by
  unfold State.dropHostLane
  repeat' first
    | with_reducible (first
        | assumption | intro _ | apply State_fall_good | apply next_good | apply ite_good | apply iteR_good
        | apply iteP_good | apply iteO_good)
    | split
    | (with_reducible refine Good.mk' (Good.flat ?_))

theorem State_stopPort_good {s0 : State} {a0 a1 a2} (ha0 : Good s0 a0) : Good s0 (@State.stopPort a0 a1 a2) := by
  unfold State.stopPort
  repeat' first
    | with_reducible (first
        | assumption | intro _ | apply State_updPortQ_good | apply State_fall_good | apply State_unalign_good
        | apply State_updTx_good | apply State_updDie_good | apply each_good | apply next_good | apply ite_good
        | apply iteR_good | apply iteP_good | apply iteO_good)
    | split
    | (with_reducible refine Good.mk' (Good.flat ?_))

theorem State_clearPairs_good {s0 : State} {a0} (ha0 : Good s0 a0) : Good s0 (@State.clearPairs a0) := by
  unfold State.clearPairs
  repeat' first
    | with_reducible (first
        | assumption | intro _ | apply State_updPortQ_good | apply each_good | apply next_good | apply ite_good
        | apply iteR_good | apply iteP_good | apply iteO_good)
    | split
    | (with_reducible refine Good.mk' (Good.flat ?_))

theorem State_usePlan_good {s0 : State} {a0 a1} (ha0 : Good s0 a0) : Good s0 (@State.usePlan a0 a1) := by
  unfold State.usePlan
  repeat' first
    | with_reducible (first
        | assumption | intro _ | apply State_noteCauses_good | apply State_stopPort_good
        | apply State_relockLines_good | apply State_dropHostLane_good | apply State_clearPairs_good
        | apply State_showStandard_good | apply State_showPlanOn_good | apply each_good | apply next_good
        | apply ite_good | apply iteR_good | apply iteP_good | apply iteO_good)
    | split
    | (with_reducible refine Good.mk' (Good.flat ?_))

theorem State_clearGroupState_good {s0 : State} {a0 a1} (ha0 : Good s0 a0) :
    Good s0 (@State.clearGroupState a0 a1) := by
  unfold State.clearGroupState
  repeat' first
    | with_reducible (first
        | assumption | intro _ | apply State_updDie_good | apply wr_good | apply next_good | apply ite_good
        | apply iteR_good | apply iteP_good | apply iteO_good)
    | split
    | (with_reducible refine Good.mk' (Good.flat ?_))

theorem State_changeProfile_good {s0 : State} {a0 a1 a2 a3} (ha0 : Good s0 a0) :
    Good s0 (@State.changeProfile a0 a1 a2 a3) := by
  unfold State.changeProfile
  repeat' first
    | with_reducible (first
        | assumption | intro _ | apply State_flushTop_good | apply State_unalign_good | apply State_updCiph_good
        | apply State_updRx_good | apply State_rxDown_good | apply State_updTx_good
        | apply State_clearGroupState_good | apply State_stopPort_good | apply State_relockLines_good
        | apply State_dropHostLane_good | apply State_clearPairs_good | apply State_showStandard_good
        | apply State_showPlanOn_good | apply State_zeroiseAll_good | apply State_clearPool_good
        | apply State_inbandFollow_good | apply State_updInb_good | apply State_showTrees_good
        | apply State_unprotRise_good | apply State_wrB_good | apply each_good | apply next_good | apply ite_good
        | apply iteR_good | apply iteP_good | apply iteO_good)
    | split
    | (with_reducible refine Good.mk' (Good.flat ?_))

theorem State_setProfile_good {s0 : State} {a0 a1 a2 a3} (ha0 : Good s0 a0) :
    Good s0 (@State.setProfile a0 a1 a2 a3) := by
  unfold State.setProfile
  repeat' first
    | with_reducible (first
        | assumption | intro _ | apply State_usePlan_good | apply State_changeProfile_good | apply next_good
        | apply ite_good | apply iteR_good | apply iteP_good | apply iteO_good)
    | split
    | (with_reducible refine Good.mk' (Good.flat ?_))

theorem applyProfileSet_good {s0 : State} {a0 a1 a2 a3 a4 a5} (ha5 : Good s0 a5) :
    Good s0 (@applyProfileSet a0 a1 a2 a3 a4 a5).state := by
  unfold applyProfileSet
  repeat' first
    | with_reducible (first
        | assumption | intro _ | apply Res_fail_good | apply State_setProfile_good | apply Res_ok_good
        | apply Res_pending_good | apply next_good | apply ite_good | apply iteR_good | apply iteP_good
        | apply iteO_good)
    | split
    | (with_reducible refine Good.mk' (Good.flat ?_))

theorem execProfileSet_good {s0 : State} {a0 a1 a2 a3 a4} (ha4 : Good s0 a4) :
    GoodO s0 (@execProfileSet a0 a1 a2 a3 a4) := by
  unfold execProfileSet
  repeat' first
    | with_reducible (first
        | assumption | intro _ | apply Slostan_run_good | apply applyProfileSet_good | apply next_good
        | apply ite_good | apply iteR_good | apply iteP_good | apply iteO_good)
    | split
    | (with_reducible refine Good.mk' (Good.flat ?_))

theorem execProfileChangeDone_good {s0 : State} {a0} (ha0 : Good s0 a0) : GoodO s0 (@execProfileChangeDone a0) := by
  unfold execProfileChangeDone
  repeat' first
    | with_reducible (first
        | assumption | intro _ | apply State_finishPend_good | apply next_good | apply ite_good | apply iteR_good
        | apply iteP_good | apply iteO_good)
    | split
    | (with_reducible refine Good.mk' (Good.flat ?_))

theorem applyPortPlanSet_good {s0 : State} {a0 a1 a2 a3} (ha3 : Good s0 a3) :
    Good s0 (@applyPortPlanSet a0 a1 a2 a3).state := by
  unfold applyPortPlanSet
  repeat' first
    | with_reducible (first
        | assumption | intro _ | apply Res_fail_good | apply Res_ok_good | apply State_usePlan_good
        | apply next_good | apply ite_good | apply iteR_good | apply iteP_good | apply iteO_good)
    | split
    | (with_reducible refine Good.mk' (Good.flat ?_))

theorem execPortPlanSet_good {s0 : State} {a0 a1 a2} (ha2 : Good s0 a2) : GoodO s0 (@execPortPlanSet a0 a1 a2) := by
  unfold execPortPlanSet
  repeat' first
    | with_reducible (first
        | assumption | intro _ | apply Slostan_run_good | apply applyPortPlanSet_good | apply next_good
        | apply ite_good | apply iteR_good | apply iteP_good | apply iteO_good)
    | split
    | (with_reducible refine Good.mk' (Good.flat ?_))

theorem State_setHostLane_good {s0 : State} {a0 a1 a2 a3} (ha0 : Good s0 a0) :
    Good s0 (@State.setHostLane a0 a1 a2 a3) := by
  unfold State.setHostLane
  repeat' first
    | with_reducible (first
        | assumption | intro _ | apply wr_good | apply State_wrB_good | apply next_good | apply ite_good
        | apply iteR_good | apply iteP_good | apply iteO_good)
    | split
    | (with_reducible refine Good.mk' (Good.flat ?_))

theorem applyHostLaneSet_good {s0 : State} {a0 a1 a2 a3 a4 a5} (ha5 : Good s0 a5) :
    Good s0 (@applyHostLaneSet a0 a1 a2 a3 a4 a5).state := by
  unfold applyHostLaneSet
  repeat' first
    | with_reducible (first
        | assumption | intro _ | apply Res_ok_good | apply State_setHostLane_good | apply Res_fail_good
        | apply Res_badParam_good | apply next_good | apply ite_good | apply iteR_good | apply iteP_good
        | apply iteO_good)
    | split
    | (with_reducible refine Good.mk' (Good.flat ?_))

theorem execHostLaneSet_good {s0 : State} {a0 a1 a2 a3 a4} (ha4 : Good s0 a4) :
    GoodO s0 (@execHostLaneSet a0 a1 a2 a3 a4) := by
  unfold execHostLaneSet
  repeat' first
    | with_reducible (first
        | assumption | intro _ | apply Slostan_run_good | apply applyHostLaneSet_good | apply next_good
        | apply ite_good | apply iteR_good | apply iteP_good | apply iteO_good)
    | split
    | (with_reducible refine Good.mk' (Good.flat ?_))

theorem State_laneUp_good {s0 : State} {a0 a1} (ha0 : Good s0 a0) : Good s0 (@State.laneUp a0 a1) := by
  unfold State.laneUp
  repeat' first
    | with_reducible (first
        | assumption | intro _ | apply State_fetchKeys_good | apply State_rxUp_good | apply State_updTx_good
        | apply State_noteCauses_good | apply next_good | apply ite_good | apply iteR_good | apply iteP_good
        | apply iteO_good)
    | split
    | (with_reducible refine Good.mk' (Good.flat ?_))

theorem State_laneDown_good {s0 : State} {a0 a1} (ha0 : Good s0 a0) : Good s0 (@State.laneDown a0 a1) := by
  unfold State.laneDown
  repeat' first
    | with_reducible (first
        | assumption | intro _ | apply State_rxDown_good | apply State_updTx_good | apply next_good | apply ite_good
        | apply iteR_good | apply iteP_good | apply iteO_good)
    | split
    | (with_reducible refine Good.mk' (Good.flat ?_))

theorem applyLineUp_good {s0 : State} {a0 a1 a2 a3} (ha3 : Good s0 a3) :
    Good s0 (@applyLineUp a0 a1 a2 a3).state := by
  unfold applyLineUp
  repeat' first
    | with_reducible (first
        | assumption | intro _ | apply Res_fail_good | apply Res_ok_good | apply State_showKeys_good
        | apply State_kxKick_good | apply State_laneUp_good | apply each_good | apply next_good | apply ite_good
        | apply iteR_good | apply iteP_good | apply iteO_good)
    | split
    | (with_reducible refine Good.mk' (Good.flat ?_))

theorem execLineUp_good {s0 : State} {a0 a1 a2} (ha2 : Good s0 a2) : GoodO s0 (@execLineUp a0 a1 a2) := by
  unfold execLineUp
  repeat' first
    | with_reducible (first
        | assumption | intro _ | apply Slostan_run_good | apply applyLineUp_good | apply next_good | apply ite_good
        | apply iteR_good | apply iteP_good | apply iteO_good)
    | split
    | (with_reducible refine Good.mk' (Good.flat ?_))

theorem applyLineDown_good {s0 : State} {a0 a1 a2 a3} (ha3 : Good s0 a3) :
    Good s0 (@applyLineDown a0 a1 a2 a3).state := by
  unfold applyLineDown
  repeat' first
    | with_reducible (first
        | assumption | intro _ | apply Res_fail_good | apply Res_ok_good | apply State_laneDown_good
        | apply each_good | apply next_good | apply ite_good | apply iteR_good | apply iteP_good | apply iteO_good)
    | split
    | (with_reducible refine Good.mk' (Good.flat ?_))

theorem execLineDown_good {s0 : State} {a0 a1 a2} (ha2 : Good s0 a2) : GoodO s0 (@execLineDown a0 a1 a2) := by
  unfold execLineDown
  repeat' first
    | with_reducible (first
        | assumption | intro _ | apply Slostan_run_good | apply applyLineDown_good | apply next_good
        | apply ite_good | apply iteR_good | apply iteP_good | apply iteO_good)
    | split
    | (with_reducible refine Good.mk' (Good.flat ?_))

theorem State_endMrxHold_good {s0 : State} {a0 a1} (ha0 : Good s0 a0) : Good s0 (@State.endMrxHold a0 a1) := by
  unfold State.endMrxHold
  repeat' first
    | with_reducible (first
        | assumption | intro _ | apply State_updPwr_good | apply next_good | apply ite_good | apply iteR_good
        | apply iteP_good | apply iteO_good)
    | split
    | (with_reducible refine Good.mk' (Good.flat ?_))

theorem State_restartPort_good {s0 : State} {a0 a1} (ha0 : Good s0 a0) : Good s0 (@State.restartPort a0 a1) := by
  unfold State.restartPort
  repeat' first
    | with_reducible (first
        | assumption | intro _ | apply State_powerEval_good | apply State_portTo_good | apply State_updPort_good
        | apply next_good | apply ite_good | apply iteR_good | apply iteP_good | apply iteO_good)
    | split
    | (with_reducible refine Good.mk' (Good.flat ?_))

theorem State_doRestarts_good {s0 : State} {a0} (ha0 : Good s0 a0) : Good s0 (@State.doRestarts a0) := by
  unfold State.doRestarts
  repeat' first
    | with_reducible (first
        | assumption | intro _ | apply State_restartPort_good | apply each_good | apply next_good | apply ite_good
        | apply iteR_good | apply iteP_good | apply iteO_good)
    | split
    | (with_reducible refine Good.mk' (Good.flat ?_))

theorem execMgmtSignalDetect_good {s0 : State} {a0 a1} (ha1 : Good s0 a1) :
    GoodO s0 (@execMgmtSignalDetect a0 a1) := by
  unfold execMgmtSignalDetect
  repeat' first
    | with_reducible (first
        | assumption | intro _ | apply State_portTo_good | apply next_good | apply ite_good | apply iteR_good
        | apply iteP_good | apply iteO_good)
    | split
    | (with_reducible refine Good.mk' (Good.flat ?_))

theorem execMgmtSignalLoss_good {s0 : State} {a0 a1} (ha1 : Good s0 a1) : GoodO s0 (@execMgmtSignalLoss a0 a1) := by
  unfold execMgmtSignalLoss
  repeat' first
    | with_reducible (first
        | assumption | intro _ | apply State_powerEval_good | apply State_endMrxHold_good | apply State_portTo_good
        | apply next_good | apply ite_good | apply iteR_good | apply iteP_good | apply iteO_good)
    | split
    | (with_reducible refine Good.mk' (Good.flat ?_))

theorem execMgmtTrainingComplete_good {s0 : State} {a0 a1} (ha1 : Good s0 a1) :
    GoodO s0 (@execMgmtTrainingComplete a0 a1) := by
  unfold execMgmtTrainingComplete
  repeat' first
    | with_reducible (first
        | assumption | intro _ | apply State_updPort_good | apply next_good | apply ite_good | apply iteR_good
        | apply iteP_good | apply iteO_good)
    | split
    | (with_reducible refine Good.mk' (Good.flat ?_))

theorem execMgmtTrainFail_good {s0 : State} {a0 a1} (ha1 : Good s0 a1) : GoodO s0 (@execMgmtTrainFail a0 a1) := by
  unfold execMgmtTrainFail
  repeat' first
    | with_reducible (first
        | assumption | intro _ | apply State_updPort_good | apply State_portTo_good | apply wr_good
        | apply State_incSat_good | apply State_raise_good | apply State_cnt_good | apply next_good | apply ite_good
        | apply iteR_good | apply iteP_good | apply iteO_good)
    | split
    | (with_reducible refine Good.mk' (Good.flat ?_))

theorem execMgmtBackoffEnd_good {s0 : State} {a0 a1} (ha1 : Good s0 a1) : GoodO s0 (@execMgmtBackoffEnd a0 a1) := by
  unfold execMgmtBackoffEnd
  repeat' first
    | with_reducible (first
        | assumption | intro _ | apply State_portTo_good | apply next_good | apply ite_good | apply iteR_good
        | apply iteP_good | apply iteO_good)
    | split
    | (with_reducible refine Good.mk' (Good.flat ?_))

theorem State_portComesUp_good {s0 : State} {a0 a1} (ha0 : Good s0 a0) : Good s0 (@State.portComesUp a0 a1) := by
  unfold State.portComesUp
  repeat' first
    | with_reducible (first
        | assumption | intro _ | apply State_expireDue_good | apply State_wrB_good | apply wr_good
        | apply State_updPort_good | apply State_updFab_good | apply State_raise_good | apply State_powerEval_good
        | apply State_endMrxHold_good | apply State_treeRecompute_good | apply State_sendHello_good
        | apply next_good | apply ite_good | apply iteR_good | apply iteP_good | apply iteO_good)
    | split
    | (with_reducible refine Good.mk' (Good.flat ?_))

theorem execMgmtLinkUp_good {s0 : State} {a0 a1} (ha1 : Good s0 a1) : GoodO s0 (@execMgmtLinkUp a0 a1) := by
  unfold execMgmtLinkUp
  repeat' first
    | with_reducible (first
        | assumption | intro _ | apply State_portComesUp_good | apply next_good | apply ite_good | apply iteR_good
        | apply iteP_good | apply iteO_good)
    | split
    | (with_reducible refine Good.mk' (Good.flat ?_))

theorem execMgmtLinkDown_good {s0 : State} {a0 a1} (ha1 : Good s0 a1) : GoodO s0 (@execMgmtLinkDown a0 a1) := by
  unfold execMgmtLinkDown
  repeat' first
    | with_reducible (first
        | assumption | intro _ | apply State_raise_good | apply State_portTo_good | apply State_cnt_good
        | apply wr_good | apply State_powerEval_good | apply next_good | apply ite_good | apply iteR_good
        | apply iteP_good | apply iteO_good)
    | split
    | (with_reducible refine Good.mk' (Good.flat ?_))

theorem execLpiIdleTimer_good {s0 : State} {a0 a1} (ha1 : Good s0 a1) : GoodO s0 (@execLpiIdleTimer a0 a1) := by
  unfold execLpiIdleTimer
  repeat' first
    | with_reducible (first
        | assumption | intro _ | apply wr_good | apply next_good | apply ite_good | apply iteR_good
        | apply iteP_good | apply iteO_good)
    | split
    | (with_reducible refine Good.mk' (Good.flat ?_))

theorem execMgmtPartnerLpi_good {s0 : State} {a0 a1 a2} (ha2 : Good s0 a2) :
    GoodO s0 (@execMgmtPartnerLpi a0 a1 a2) := by
  unfold execMgmtPartnerLpi
  repeat' first
    | with_reducible (first
        | assumption | intro _ | apply State_wrB_good | apply next_good | apply ite_good | apply iteR_good
        | apply iteP_good | apply iteO_good)
    | split
    | (with_reducible refine Good.mk' (Good.flat ?_))

theorem State_setMgmtPort_good {s0 : State} {a0 a1 a2 a3 a4} (ha0 : Good s0 a0) :
    Good s0 (@State.setMgmtPort a0 a1 a2 a3 a4) := by
  unfold State.setMgmtPort
  repeat' first
    | with_reducible (first
        | assumption | intro _ | apply State_wrB_good | apply next_good | apply ite_good | apply iteR_good
        | apply iteP_good | apply iteO_good)
    | split
    | (with_reducible refine Good.mk' (Good.flat ?_))

theorem State_restartLater_good {s0 : State} {a0 a1} (ha0 : Good s0 a0) : Good s0 (@State.restartLater a0 a1) := by
  unfold State.restartLater
  repeat' first
    | with_reducible (first
        | assumption | intro _ | apply State_updPort_good | apply next_good | apply ite_good | apply iteR_good
        | apply iteP_good | apply iteO_good)
    | split
    | (with_reducible refine Good.mk' (Good.flat ?_))

theorem applyMgmtPortSet_good {s0 : State} {a0 a1 a2 a3 a4 a5 a6} (ha6 : Good s0 a6) :
    Good s0 (@applyMgmtPortSet a0 a1 a2 a3 a4 a5 a6).state := by
  unfold applyMgmtPortSet
  repeat' first
    | with_reducible (first
        | assumption | intro _ | apply Res_fail_good | apply Res_ok_good | apply State_restartLater_good
        | apply State_setMgmtPort_good | apply next_good | apply ite_good | apply iteR_good | apply iteP_good
        | apply iteO_good)
    | split
    | (with_reducible refine Good.mk' (Good.flat ?_))

theorem execMgmtPortSet_good {s0 : State} {a0 a1 a2 a3 a4 a5} (ha5 : Good s0 a5) :
    GoodO s0 (@execMgmtPortSet a0 a1 a2 a3 a4 a5) := by
  unfold execMgmtPortSet
  repeat' first
    | with_reducible (first
        | assumption | intro _ | apply State_doRestarts_good | apply Slostan_run_good | apply applyMgmtPortSet_good
        | apply next_good | apply ite_good | apply iteR_good | apply iteP_good | apply iteO_good)
    | split
    | (with_reducible refine Good.mk' (Good.flat ?_))

theorem execMgmtStatusGet_good {s0 : State} {a0 a1} (ha1 : Good s0 a1) : GoodO s0 (@execMgmtStatusGet a0 a1) := by
  unfold execMgmtStatusGet
  repeat' first
    | with_reducible (first
        | assumption | intro _ | apply Slostan_run_good | apply Res_okWith_good | apply next_good | apply ite_good
        | apply iteR_good | apply iteP_good | apply iteO_good)
    | split
    | (with_reducible refine Good.mk' (Good.flat ?_))

theorem execMgmtRestart_good {s0 : State} {a0 a1 a2} (ha2 : Good s0 a2) : GoodO s0 (@execMgmtRestart a0 a1 a2) := by
  unfold execMgmtRestart
  repeat' first
    | with_reducible (first
        | assumption | intro _ | apply State_doRestarts_good | apply Slostan_run_good | apply regGuard_good
        | apply Res_ok_good | apply State_restartLater_good | apply next_good | apply ite_good | apply iteR_good
        | apply iteP_good | apply iteO_good)
    | split
    | (with_reducible refine Good.mk' (Good.flat ?_))

theorem State_noteSender_good {s0 : State} {a0 a1 a2 a3 a4} (ha0 : Good s0 a0) :
    Good s0 (@State.noteSender a0 a1 a2 a3 a4) := by
  unfold State.noteSender
  repeat' first
    | with_reducible (first
        | assumption | intro _ | apply State_updSession_good | apply next_good | apply ite_good | apply iteR_good
        | apply iteP_good | apply iteO_good)
    | split
    | (with_reducible refine Good.mk' (Good.flat ?_))

theorem State_takeSlostan_good {s0 : State} {a0 a1 a2} (ha0 : Good s0 a0) :
    Good s0 (@State.takeSlostan a0 a1 a2) := by
  unfold State.takeSlostan
  repeat' first
    | with_reducible (first
        | assumption | intro _ | apply State_countMalformed_good | apply State_forward_good
        | apply State_noteSender_good | apply next_good | apply ite_good | apply iteR_good | apply iteP_good
        | apply iteO_good)
    | split
    | (with_reducible refine Good.mk' (Good.flat ?_))

theorem execMgmtFrameReceive_good {s0 : State} {a0 a1 a2} (ha2 : Good s0 a2) :
    GoodO s0 (@execMgmtFrameReceive a0 a1 a2) := by
  unfold execMgmtFrameReceive
  repeat' first
    | with_reducible (first
        | assumption | intro _ | apply State_cnt_good | apply State_jeuriDropped_good | apply State_takeSlostan_good
        | apply next_good | apply ite_good | apply iteR_good | apply iteP_good | apply iteO_good)
    | split
    | (with_reducible refine Good.mk' (Good.flat ?_))

theorem State_queueRequest_good {s0 : State} {a0 a1 a2 a3 a4 a5} (ha0 : Good s0 a0) :
    Good s0 (@State.queueRequest a0 a1 a2 a3 a4 a5) := by
  unfold State.queueRequest
  repeat' first
    | with_reducible (first
        | assumption | intro _ | apply State_sendReply_good | apply State_cntPkg_good | apply next_good
        | apply ite_good | apply iteR_good | apply iteP_good | apply iteO_good)
    | split
    | (with_reducible refine Good.mk' (Good.flat ?_))

theorem State_admitPacket_good {s0 : State} {a0 a1 a2 a3 a4} (ha0 : Good s0 a0) :
    Good s0 (@State.admitPacket a0 a1 a2 a3 a4) := by
  unfold State.admitPacket
  repeat' first
    | with_reducible (first
        | assumption | intro _ | apply State_countDropped_good | apply State_queueRequest_good
        | apply State_updSession_good | apply next_good | apply ite_good | apply iteR_good | apply iteP_good
        | apply iteO_good)
    | split
    | (with_reducible refine Good.mk' (Good.flat ?_))

theorem execSlostanRequestArrival_good {s0 : State} {a0 a1 a2 a3 a4} (ha4 : Good s0 a4) :
    GoodO s0 (@execSlostanRequestArrival a0 a1 a2 a3 a4) := by
  unfold execSlostanRequestArrival
  repeat' first
    | with_reducible (first
        | assumption | intro _ | apply State_countMalformed_good | apply State_admitPacket_good
        | apply State_noteSender_good | apply State_drainUndefined_good | apply next_good | apply ite_good
        | apply iteR_good | apply iteP_good | apply iteO_good)
    | split
    | (with_reducible refine Good.mk' (Good.flat ?_))

theorem State_callElection_good {s0 : State} {a0} (ha0 : Good s0 a0) : Good s0 (@State.callElection a0) := by
  unfold State.callElection
  repeat' first
    | with_reducible (first
        | assumption | intro _ | apply State_sbPush_good | apply next_good | apply ite_good | apply iteR_good
        | apply iteP_good | apply iteO_good)
    | split
    | (with_reducible refine Good.mk' (Good.flat ?_))

theorem State_dieFails_good {s0 : State} {a0 a1 a2} (ha0 : Good s0 a0) : Good s0 (@State.dieFails a0 a1 a2) := by
  unfold State.dieFails
  repeat' first
    | with_reducible (first
        | assumption | intro _ | apply State_dieUnhealthy_good | apply State_callElection_good | apply next_good
        | apply ite_good | apply iteR_good | apply iteP_good | apply iteO_good)
    | split
    | (with_reducible refine Good.mk' (Good.flat ?_))

theorem State_portFails_good {s0 : State} {a0 a1} (ha0 : Good s0 a0) : Good s0 (@State.portFails a0 a1) := by
  unfold State.portFails
  repeat' first
    | with_reducible (first
        | assumption | intro _ | apply State_portTo_good | apply next_good | apply ite_good | apply iteR_good
        | apply iteP_good | apply iteO_good)
    | split
    | (with_reducible refine Good.mk' (Good.flat ?_))

theorem execHeartbeatReceive_good {s0 s : State} {a b c} (h : Good s0 s) :
    GoodO s0 (execHeartbeatReceive a b c s) := by
  unfold execHeartbeatReceive
  split
  · exact next_good h
  · rename_i m t e
    have h1 : Good s0 t := State_takeSlot_good h e
    extract_lets t1 t2
    have h2 : Good s0 t2 := State_wrB_good (State_updDie_good h1)
    clear_value t2
    exact next_good (ite_good (State_dieFails_good h2) (ite_good (State_dieFails_good h2) h2))

theorem execHeartbeatTimeout_good {s0 : State} {a0 a1} (ha1 : Good s0 a1) :
    GoodO s0 (@execHeartbeatTimeout a0 a1) := by
  unfold execHeartbeatTimeout
  repeat' first
    | with_reducible (first
        | assumption | intro _ | apply State_portFails_good | apply State_dieFails_good | apply next_good
        | apply ite_good | apply iteR_good | apply iteP_good | apply iteO_good)
    | split
    | (with_reducible refine Good.mk' (Good.flat ?_))

theorem State_electIn_good {s0 : State} {a0 a1 a2} (ha0 : Good s0 a0) : Good s0 (@State.electIn a0 a1 a2) := by
  unfold State.electIn
  repeat' first
    | with_reducible (first
        | assumption | intro _ | apply next_good | apply ite_good | apply iteR_good | apply iteP_good
        | apply iteO_good)
    | split
    | (with_reducible refine Good.mk' (Good.flat ?_))

theorem execElect_good {s0 : State} {a0 a1 a2 a3} (ha3 : Good s0 a3) : GoodO s0 (@execElect a0 a1 a2 a3) := by
  unfold execElect
  repeat' first
    | with_reducible (first
        | assumption | intro _ | apply State_electIn_good | apply State_wrB_good | apply State_callElection_good
        | apply next_good | apply ite_good | apply iteR_good | apply iteP_good | apply iteO_good)
    | split
    | (with_reducible refine Good.mk' (Good.flat ?_))

theorem State_loadMirror_good {s0 : State} {a0} (ha0 : Good s0 a0) : Good s0 (@State.loadMirror a0) := by
  unfold State.loadMirror
  repeat' first
    | with_reducible (first
        | assumption | intro _ | apply State_fresh_good | apply State_auditStaged_good | apply foldl_good
        | apply next_good | apply ite_good | apply iteR_good | apply iteP_good | apply iteO_good)
    | split
    | (with_reducible refine Good.mk' (Good.flat ?_))

theorem State_takeOver_good {s0 : State} {a0 a1 a2} (ha0 : Good s0 a0) : Good s0 (@State.takeOver a0 a1 a2) := by
  unfold State.takeOver
  repeat' first
    | with_reducible (first
        | assumption | intro _ | apply State_loadMirror_good | apply State_endAllSessions_good | apply wr_good
        | apply State_mbReset_good | apply State_chooseSuccessor_good | apply State_raisePkg_good
        | apply State_cntPkg_good | apply State_powerEval_good | apply State_kxLeaderChange_good | apply next_good
        | apply ite_good | apply iteR_good | apply iteP_good | apply iteO_good)
    | split
    | (with_reducible refine Good.mk' (Good.flat ?_))

theorem State_firstLeader_good {s0 : State} {a0} (ha0 : Good s0 a0) : Good s0 (@State.firstLeader a0) := by
  unfold State.firstLeader
  repeat' first
    | with_reducible (first
        | assumption | intro _ | apply wr_good | apply next_good | apply ite_good | apply iteR_good
        | apply iteP_good | apply iteO_good)
    | split
    | (with_reducible refine Good.mk' (Good.flat ?_))

theorem State_joinHealthy_good {s0 : State} {a0 a1} (ha0 : Good s0 a0) : Good s0 (@State.joinHealthy a0 a1) := by
  unfold State.joinHealthy
  repeat' first
    | with_reducible (first
        | assumption | intro _ | apply State_setHealthy_good | apply each_good | apply next_good | apply ite_good
        | apply iteR_good | apply iteP_good | apply iteO_good)
    | split
    | (with_reducible refine Good.mk' (Good.flat ?_))

theorem State_changeLeader_good {s0 : State} {a0 a1} (ha0 : Good s0 a0) : Good s0 (@State.changeLeader a0 a1) := by
  unfold State.changeLeader
  repeat' first
    | with_reducible (first
        | assumption | intro _ | apply State_takeOver_good | apply next_good | apply ite_good | apply iteR_good
        | apply iteP_good | apply iteO_good)
    | split
    | (with_reducible refine Good.mk' (Good.flat ?_))

theorem execElectionWindowClose_good {s0 : State} {a0} (ha0 : Good s0 a0) :
    GoodO s0 (@execElectionWindowClose a0) := by
  unfold execElectionWindowClose
  repeat' first
    | with_reducible (first
        | assumption | intro _ | apply State_chooseSuccessor_good | apply State_firstLeader_good
        | apply State_joinHealthy_good | apply State_changeLeader_good | apply next_good | apply ite_good
        | apply iteR_good | apply iteP_good | apply iteO_good)
    | split
    | (with_reducible refine Good.mk' (Good.flat ?_))

theorem execSlowClockCalibrated_good {s0 : State} {a0 a1} (ha1 : Good s0 a1) :
    GoodO s0 (@execSlowClockCalibrated a0 a1) := by
  unfold execSlowClockCalibrated
  repeat' first
    | with_reducible (first
        | assumption | intro _ | apply wr_good | apply next_good | apply ite_good | apply iteR_good
        | apply iteP_good | apply iteO_good)
    | split
    | (with_reducible refine Good.mk' (Good.flat ?_))

theorem execCrystalStart_good {s0 : State} {a0} (ha0 : Good s0 a0) : GoodO s0 (@execCrystalStart a0) := by
  unfold execCrystalStart
  repeat' first
    | with_reducible (first
        | assumption | intro _ | apply wr_good | apply next_good | apply ite_good | apply iteR_good
        | apply iteP_good | apply iteO_good)
    | split
    | (with_reducible refine Good.mk' (Good.flat ?_))

theorem execCrystalFail_good {s0 : State} {a0} (ha0 : Good s0 a0) : GoodO s0 (@execCrystalFail a0) := by
  unfold execCrystalFail
  repeat' first
    | with_reducible (first
        | assumption | intro _ | apply wr_good | apply State_raisePkg_good | apply next_good | apply ite_good
        | apply iteR_good | apply iteP_good | apply iteO_good)
    | split
    | (with_reducible refine Good.mk' (Good.flat ?_))

theorem execRefclkLost_good {s0 : State} {a0} (ha0 : Good s0 a0) : GoodO s0 (@execRefclkLost a0) := by
  unfold execRefclkLost
  repeat' first
    | with_reducible (first
        | assumption | intro _ | apply wr_good | apply State_updExtrap_good | apply State_raisePkg_good
        | apply each_good | apply next_good | apply ite_good | apply iteR_good | apply iteP_good | apply iteO_good)
    | split
    | (with_reducible refine Good.mk' (Good.flat ?_))

theorem State_refUnhealthy_good {s0 : State} {a0 a1} (ha0 : Good s0 a0) : Good s0 (@State.refUnhealthy a0 a1) := by
  unfold State.refUnhealthy
  repeat' first
    | with_reducible (first
        | assumption | intro _ | apply State_updDie_good | apply State_dieUnhealthy_good | apply next_good
        | apply ite_good | apply iteR_good | apply iteP_good | apply iteO_good)
    | split
    | (with_reducible refine Good.mk' (Good.flat ?_))

theorem execRefclkHoldoverEnd_good {s0 : State} {a0} (ha0 : Good s0 a0) : GoodO s0 (@execRefclkHoldoverEnd a0) := by
  unfold execRefclkHoldoverEnd
  repeat' first
    | with_reducible (first
        | assumption | intro _ | apply State_pllUnlock_good | apply State_chooseSuccessor_good
        | apply State_refUnhealthy_good | apply each_good | apply next_good | apply ite_good | apply iteR_good
        | apply iteP_good | apply iteO_good)
    | split
    | (with_reducible refine Good.mk' (Good.flat ?_))

theorem execRefclkReturn_good {s0 : State} {a0} (ha0 : Good s0 a0) : GoodO s0 (@execRefclkReturn a0) := by
  unfold execRefclkReturn
  repeat' first
    | with_reducible (first
        | assumption | intro _ | apply State_updExtrap_good | apply wr_good | apply each_good | apply next_good
        | apply ite_good | apply iteR_good | apply iteP_good | apply iteO_good)
    | split
    | (with_reducible refine Good.mk' (Good.flat ?_))

theorem State_sysRelocked_good {s0 : State} {a0 a1} (ha0 : Good s0 a0) : Good s0 (@State.sysRelocked a0 a1) := by
  unfold State.sysRelocked
  repeat' first
    | with_reducible (first
        | assumption | intro _ | apply State_updDie_good | apply State_chooseSuccessor_good
        | apply State_setHealthy_good | apply next_good | apply ite_good | apply iteR_good | apply iteP_good
        | apply iteO_good)
    | split
    | (with_reducible refine Good.mk' (Good.flat ?_))

theorem execPllLock_good {s0 : State} {a0 a1 a2} (ha2 : Good s0 a2) : GoodO s0 (@execPllLock a0 a1 a2) := by
  unfold execPllLock
  repeat' first
    | with_reducible (first
        | assumption | intro _ | apply wr_good | apply State_noteCauses_good | apply State_sysRelocked_good
        | apply next_good | apply ite_good | apply iteR_good | apply iteP_good | apply iteO_good)
    | split
    | (with_reducible refine Good.mk' (Good.flat ?_))

theorem execPllLockLost_good {s0 : State} {a0 a1 a2} (ha2 : Good s0 a2) : GoodO s0 (@execPllLockLost a0 a1 a2) := by
  unfold execPllLockLost
  repeat' first
    | with_reducible (first
        | assumption | intro _ | apply State_pllUnlock_good | apply State_dieFails_good | apply State_updDie_good
        | apply next_good | apply ite_good | apply iteR_good | apply iteP_good | apply iteO_good)
    | split
    | (with_reducible refine Good.mk' (Good.flat ?_))

theorem State_dieReset_good {s0 s : State} {d} (h : Good s0 s) : Good s0 (s.dieReset d) := by
  unfold State.dieReset
  extract_lets mine s1 s2 x1 x2 x3 s3 s4 s5 own _
  have h1 : Good s0 s1 := Good.mk' (Flat.setRegs h.flat (NMap.drop_wf mine h.regs))
  clear_value s1
  have h2 : Good s0 s2 := wr_good _ _ _ h1
  clear_value s2
  have h3 : Good s0 s3 := State_updDie_good h2
  clear_value s3
  have h4 : Good s0 s4 := ite_good (State_wipeAttempts_good h3) h3
  clear_value s4
  have h5 : Good s0 s5 := clearCounters_good _ h4
  clear_value s5
  exact Good.mk' h5.flat

theorem State_endPendOn_good {s0 : State} {a0 a1} (ha0 : Good s0 a0) : Good s0 (@State.endPendOn a0 a1) := by
  unfold State.endPendOn
  repeat' first
    | with_reducible (first
        | assumption | intro _ | apply State_finalReply_good | apply each_good | apply next_good | apply ite_good
        | apply iteR_good | apply iteP_good | apply iteO_good)
    | split
    | (with_reducible refine Good.mk' (Good.flat ?_))

theorem State_incomplete_good {s0 : State} {a0 a1} (ha0 : Good s0 a0) : Good s0 (@State.incomplete a0 a1) := by
  unfold State.incomplete
  repeat' first
    | with_reducible (first
        | assumption | intro _ | apply next_good | apply ite_good | apply iteR_good | apply iteP_good
        | apply iteO_good)
    | split
    | (with_reducible refine Good.mk' (Good.flat ?_))

theorem State_cutCommit_good {s0 : State} {a0} (ha0 : Good s0 a0) : Good s0 (@State.cutCommit a0) := by
  unfold State.cutCommit
  repeat' first
    | with_reducible (first
        | assumption | intro _ | apply State_fresh_good | apply State_syncNvm_good | apply next_good
        | apply ite_good | apply iteR_good | apply iteP_good | apply iteO_good)
    | split
    | (with_reducible refine Good.mk' (Good.flat ?_))

theorem limitUsed_since (c : LimitCut) (f : Fuses) : Fuses.Since f (limitUsed c f) := by
  cases c <;> exact ⟨Nat.le_refl _, Nat.le_refl _, Nat.le_refl _, id, fun _ => rfl, rfl, rfl, rfl⟩

theorem State_cutLimit_good {s0 s : State} {c} (h : Good s0 s) : Good s0 (s.cutLimit c) := by
  unfold State.cutLimit
  split
  · exact h
  · rename_i c
    refine ite_good ?_ h
    have k := limitUsed_since c s.nv.fuses
    have h1 : Good s0 (s.updFuses (limitUsed c)) := by
      refine State_updFuses_good h ?_ ?_ ?_ k
      · cases c <;> exact h.lifecycle
      · cases c <;> exact h.ownerSlot
      · cases c <;> exact h.secver
    exact Good.mk' h1.flat

theorem execSupplyFault_good {s0 : State} {a0 a1 a2} (ha2 : Good s0 a2) : GoodO s0 (@execSupplyFault a0 a1 a2) := by
  unfold execSupplyFault
  repeat' first
    | with_reducible (first
        | assumption | intro _ | apply State_raiseAt_good | apply State_incomplete_good | apply State_cutLimit_good
        | apply State_cutCommit_good | apply State_electIn_good | apply State_portFails_good
        | apply State_fabricOff_good | apply State_updDie_good | apply State_dieReset_good
        | apply State_ldisFollow_good | apply wr_good | apply State_showKeys_good | apply State_endPendOn_good
        | apply State_mbReset_good | apply State_dieFails_good | apply State_endAllSessions_good | apply foldl_good
        | apply next_good | apply ite_good | apply iteR_good | apply iteP_good | apply iteO_good)
    | split
    | (with_reducible refine Good.mk' (Good.flat ?_))

theorem execLockstepMismatch_good {s0 : State} {a0 a1} (ha1 : Good s0 a1) :
    GoodO s0 (@execLockstepMismatch a0 a1) := by
  unfold execLockstepMismatch
  repeat' first
    | with_reducible (first
        | assumption | intro _ | apply State_raise_good | apply wr_good | apply State_mbReset_good
        | apply State_sbPush_good | apply next_good | apply ite_good | apply iteR_good | apply iteP_good
        | apply iteO_good)
    | split
    | (with_reducible refine Good.mk' (Good.flat ?_))

theorem State_eccCorrected_good {s0 : State} {a0 a1 a2} (ha0 : Good s0 a0) :
    Good s0 (@State.eccCorrected a0 a1 a2) := by
  unfold State.eccCorrected
  repeat' first
    | with_reducible (first
        | assumption | intro _ | apply State_incSat_good | apply State_cntN_good | apply next_good | apply ite_good
        | apply iteR_good | apply iteP_good | apply iteO_good)
    | split
    | (with_reducible refine Good.mk' (Good.flat ?_))

theorem State_eccUncorrectable_good {s0 : State} {a0 a1 a2} (ha0 : Good s0 a0) :
    Good s0 (@State.eccUncorrectable a0 a1 a2) := by
  unfold State.eccUncorrectable
  repeat' first
    | with_reducible (first
        | assumption | intro _ | apply State_incSat_good | apply State_cnt_good | apply State_raise_good
        | apply State_fence_good | apply State_freshEpoch_good | apply State_zeroiseDie_good
        | apply State_kxKick_good | apply State_mbReset_good | apply State_showKeys_good
        | apply State_dropAttempts_good | apply next_good | apply ite_good | apply iteR_good | apply iteP_good
        | apply iteO_good)
    | split
    | (with_reducible refine Good.mk' (Good.flat ?_))

theorem execMemScrub_good {s0 : State} {a0 a1 a2 a3} (ha3 : Good s0 a3) : GoodO s0 (@execMemScrub a0 a1 a2 a3) := by
  unfold execMemScrub
  repeat' first
    | with_reducible (first
        | assumption | intro _ | apply State_updSafe_good | apply State_eccCorrected_good
        | apply State_eccUncorrectable_good | apply each_good | apply next_good | apply ite_good | apply iteR_good
        | apply iteP_good | apply iteO_good)
    | split
    | (with_reducible refine Good.mk' (Good.flat ?_))

theorem execEccErrorAtAccess_good {s0 : State} {a0 a1 a2 a3} (ha3 : Good s0 a3) :
    GoodO s0 (@execEccErrorAtAccess a0 a1 a2 a3) := by
  unfold execEccErrorAtAccess
  repeat' first
    | with_reducible (first
        | assumption | intro _ | apply State_eccUncorrectable_good | apply State_eccCorrected_good | apply next_good
        | apply ite_good | apply iteR_good | apply iteP_good | apply iteO_good)
    | split
    | (with_reducible refine Good.mk' (Good.flat ?_))

theorem State_loadUnits_good {s0 : State} {a0 a1} (ha0 : Good s0 a0) : Good s0 (@State.loadUnits a0 a1) := by
  unfold State.loadUnits
  repeat' first
    | with_reducible (first
        | assumption | intro _ | apply wr_good | apply State_serviceChanged_good | apply State_showPipes_good
        | apply next_good | apply ite_good | apply iteR_good | apply iteP_good | apply iteO_good)
    | split
    | (with_reducible refine Good.mk' (Good.flat ?_))

theorem State_loadTest_good {s0 : State} {a0 a1} (ha0 : Good s0 a0) : Good s0 (@State.loadTest a0 a1) := by
  unfold State.loadTest
  repeat' first
    | with_reducible (first
        | assumption | intro _ | apply wr_good | apply next_good | apply ite_good | apply iteR_good
        | apply iteP_good | apply iteO_good)
    | split
    | (with_reducible refine Good.mk' (Good.flat ?_))

theorem State_putTest_good {s0 : State} {a0 a1 a2} (ha0 : Good s0 a0) : Good s0 (@State.putTest a0 a1 a2) := by
  unfold State.putTest
  repeat' first
    | with_reducible (first
        | assumption | intro _ | apply State_loadTest_good | apply next_good | apply ite_good | apply iteR_good
        | apply iteP_good | apply iteO_good)
    | split
    | (with_reducible refine Good.mk' (Good.flat ?_))

theorem State_endTest_good {s0 : State} {a0 a1 a2} (ha0 : Good s0 a0) : Good s0 (@State.endTest a0 a1 a2) := by
  unfold State.endTest
  repeat' first
    | with_reducible (first
        | assumption | intro _ | apply State_updDie_good | apply wr_good | apply State_updCiph_good
        | apply State_loadUnits_good | apply State_raise_good | apply State_putTest_good | apply each_good
        | apply next_good | apply ite_good | apply iteR_good | apply iteP_good | apply iteO_good)
    | split
    | (with_reducible refine Good.mk' (Good.flat ?_))

theorem State_leaveTest_good {s0 : State} {a0 a1} (ha0 : Good s0 a0) : Good s0 (@State.leaveTest a0 a1) := by
  unfold State.leaveTest
  repeat' first
    | with_reducible (first
        | assumption | intro _ | apply wr_good | apply State_updSafe_good | apply State_raise_good
        | apply State_fabricOn_good | apply State_armFollow_good | apply next_good | apply ite_good
        | apply iteR_good | apply iteP_good | apply iteO_good)
    | split
    | (with_reducible refine Good.mk' (Good.flat ?_))

theorem State_finishTest_good {s0 : State} {a0 a1 a2 a3} (ha0 : Good s0 a0) :
    Good s0 (@State.finishTest a0 a1 a2 a3) := by
  unfold State.finishTest
  repeat' first
    | with_reducible (first
        | assumption | intro _ | apply State_leaveTest_good | apply State_endTest_good | apply each_good
        | apply next_good | apply ite_good | apply iteR_good | apply iteP_good | apply iteO_good)
    | split
    | (with_reducible refine Good.mk' (Good.flat ?_))

theorem applySelftestRun_good {s0 : State} {a0 a1 a2 a3} (ha3 : Good s0 a3) :
    Good s0 (@applySelftestRun a0 a1 a2 a3).state := by
  unfold applySelftestRun
  repeat' first
    | with_reducible (first
        | assumption | intro _ | apply Res_fail_good | apply Res_pending_good | apply State_beginTest_good
        | apply each_good | apply next_good | apply ite_good | apply iteR_good | apply iteP_good | apply iteO_good)
    | split
    | (with_reducible refine Good.mk' (Good.flat ?_))

theorem execSelftestRun_good {s0 : State} {a0 a1 a2} (ha2 : Good s0 a2) : GoodO s0 (@execSelftestRun a0 a1 a2) := by
  unfold execSelftestRun
  repeat' first
    | with_reducible (first
        | assumption | intro _ | apply Slostan_run_good | apply applySelftestRun_good | apply next_good
        | apply ite_good | apply iteR_good | apply iteP_good | apply iteO_good)
    | split
    | (with_reducible refine Good.mk' (Good.flat ?_))

theorem execSelftestResultGet_good {s0 : State} {a0 a1 a2} (ha2 : Good s0 a2) :
    GoodO s0 (@execSelftestResultGet a0 a1 a2) := by
  unfold execSelftestResultGet
  repeat' first
    | with_reducible (first
        | assumption | intro _ | apply Slostan_run_good | apply Res_okWith_good | apply next_good | apply ite_good
        | apply iteR_good | apply iteP_good | apply iteO_good)
    | split
    | (with_reducible refine Good.mk' (Good.flat ?_))

theorem execSelftestOverdue_good {s0 : State} {a0} (ha0 : Good s0 a0) : GoodO s0 (@execSelftestOverdue a0) := by
  unfold execSelftestOverdue
  repeat' first
    | with_reducible (first
        | assumption | intro _ | apply State_raisePkg_good | apply next_good | apply ite_good | apply iteR_good
        | apply iteP_good | apply iteO_good)
    | split
    | (with_reducible refine Good.mk' (Good.flat ?_))

theorem State_updDiag_good {s0 : State} {a0 a1 a2} (ha0 : Good s0 a0) : Good s0 (@State.updDiag a0 a1 a2) := by
  unfold State.updDiag
  repeat' first
    | with_reducible (first
        | assumption | intro _ | apply State_updDie_good | apply next_good | apply ite_good | apply iteR_good
        | apply iteP_good | apply iteO_good)
    | split
    | (with_reducible refine Good.mk' (Good.flat ?_))

theorem State_setPattern_good {s0 : State} {a0 a1 a2 a3} (ha0 : Good s0 a0) :
    Good s0 (@State.setPattern a0 a1 a2 a3) := by
  unfold State.setPattern
  repeat' first
    | with_reducible (first
        | assumption | intro _ | apply wr_good | apply State_updDiag_good | apply next_good | apply ite_good
        | apply iteR_good | apply iteP_good | apply iteO_good)
    | split
    | (with_reducible refine Good.mk' (Good.flat ?_))

theorem applyPatternSet_good {s0 : State} {a0 a1 a2 a3 a4 a5} (ha5 : Good s0 a5) :
    Good s0 (@applyPatternSet a0 a1 a2 a3 a4 a5).state := by
  unfold applyPatternSet
  repeat' first
    | with_reducible (first
        | assumption | intro _ | apply Res_fail_good | apply Res_ok_good | apply State_setPattern_good
        | apply next_good | apply ite_good | apply iteR_good | apply iteP_good | apply iteO_good)
    | split
    | (with_reducible refine Good.mk' (Good.flat ?_))

theorem execPatternSet_good {s0 : State} {a0 a1 a2 a3 a4} (ha4 : Good s0 a4) :
    GoodO s0 (@execPatternSet a0 a1 a2 a3 a4) := by
  unfold execPatternSet
  repeat' first
    | with_reducible (first
        | assumption | intro _ | apply Slostan_run_good | apply applyPatternSet_good | apply next_good
        | apply ite_good | apply iteR_good | apply iteP_good | apply iteO_good)
    | split
    | (with_reducible refine Good.mk' (Good.flat ?_))

theorem execPatternStatusGet_good {s0 : State} {a0 a1 a2 a3} (ha3 : Good s0 a3) :
    GoodO s0 (@execPatternStatusGet a0 a1 a2 a3) := by
  unfold execPatternStatusGet
  repeat' first
    | with_reducible (first
        | assumption | intro _ | apply Slostan_run_good | apply Res_badParam_good | apply Res_fail_good
        | apply Res_okWith_good | apply next_good | apply ite_good | apply iteR_good | apply iteP_good
        | apply iteO_good)
    | split
    | (with_reducible refine Good.mk' (Good.flat ?_))

theorem execPatternCheckerSync_good {s0 : State} {a0 a1 a2 a3 a4 a5} (ha5 : Good s0 a5) :
    GoodO s0 (@execPatternCheckerSync a0 a1 a2 a3 a4 a5) := by
  unfold execPatternCheckerSync
  repeat' first
    | with_reducible (first
        | assumption | intro _ | apply State_updDiag_good | apply State_wrB_good | apply next_good | apply ite_good
        | apply iteR_good | apply iteP_good | apply iteO_good)
    | split
    | (with_reducible refine Good.mk' (Good.flat ?_))

theorem State_readPatgLo_good {s0 : State} {a0 a1 a2} (ha0 : Good s0 a0) :
    Good s0 (@State.readPatgLo a0 a1 a2).2 := by
  unfold State.readPatgLo
  repeat' first
    | with_reducible (first
        | assumption | intro _ | apply wr_good | apply next_good | apply ite_good | apply iteR_good
        | apply iteP_good | apply iteO_good)
    | split
    | (with_reducible refine Good.mk' (Good.flat ?_))

theorem execPatgCountLoRead_good {s0 : State} {a0 a1 a2 a3} (ha3 : Good s0 a3) :
    GoodO s0 (@execPatgCountLoRead a0 a1 a2 a3) := by
  unfold execPatgCountLoRead
  repeat' first
    | with_reducible (first
        | assumption | intro _ | apply Slostan_run_good | apply regGuard_good | apply Res_okWith_good
        | apply State_readPatgLo_good | apply next_good | apply ite_good | apply iteR_good | apply iteP_good
        | apply iteO_good)
    | split
    | (with_reducible refine Good.mk' (Good.flat ?_))

theorem applyErrorInject_good {s0 : State} {a0 a1 a2 a3 a4 a5} (ha5 : Good s0 a5) :
    Good s0 (@applyErrorInject a0 a1 a2 a3 a4 a5).state := by
  unfold applyErrorInject
  repeat' first
    | with_reducible (first
        | assumption | intro _ | apply Res_badParam_good | apply Res_fail_good | apply Res_ok_good
        | apply State_setInject_good | apply next_good | apply ite_good | apply iteR_good | apply iteP_good
        | apply iteO_good)
    | split
    | (with_reducible refine Good.mk' (Good.flat ?_))

theorem execErrorInject_good {s0 : State} {a0 a1 a2 a3 a4} (ha4 : Good s0 a4) :
    GoodO s0 (@execErrorInject a0 a1 a2 a3 a4) := by
  unfold execErrorInject
  repeat' first
    | with_reducible (first
        | assumption | intro _ | apply Slostan_run_good | apply applyErrorInject_good | apply next_good
        | apply ite_good | apply iteR_good | apply iteP_good | apply iteO_good)
    | split
    | (with_reducible refine Good.mk' (Good.flat ?_))

theorem applyLoopbackSet_good {s0 : State} {a0 a1 a2 a3 a4} (ha4 : Good s0 a4) :
    Good s0 (@applyLoopbackSet a0 a1 a2 a3 a4).state := by
  unfold applyLoopbackSet
  repeat' first
    | with_reducible (first
        | assumption | intro _ | apply Res_badParam_good | apply Res_fail_good | apply Res_ok_good | apply wr_good
        | apply next_good | apply ite_good | apply iteR_good | apply iteP_good | apply iteO_good)
    | split
    | (with_reducible refine Good.mk' (Good.flat ?_))

theorem execLoopbackSet_good {s0 : State} {a0 a1 a2 a3} (ha3 : Good s0 a3) :
    GoodO s0 (@execLoopbackSet a0 a1 a2 a3) := by
  unfold execLoopbackSet
  repeat' first
    | with_reducible (first
        | assumption | intro _ | apply Slostan_run_good | apply applyLoopbackSet_good | apply next_good
        | apply ite_good | apply iteR_good | apply iteP_good | apply iteO_good)
    | split
    | (with_reducible refine Good.mk' (Good.flat ?_))

theorem applyCaptureSet_good {s0 : State} {a0 a1 a2 a3 a4} (ha4 : Good s0 a4) :
    Good s0 (@applyCaptureSet a0 a1 a2 a3 a4).state := by
  unfold applyCaptureSet
  repeat' first
    | with_reducible (first
        | assumption | intro _ | apply Res_badParam_good | apply Res_fail_good | apply State_updDiag_good
        | apply Res_pending_good | apply wr_good | apply State_wrB_good | apply next_good | apply ite_good
        | apply iteR_good | apply iteP_good | apply iteO_good)
    | split
    | (with_reducible refine Good.mk' (Good.flat ?_))

theorem execCaptureSet_good {s0 : State} {a0 a1 a2 a3} (ha3 : Good s0 a3) :
    GoodO s0 (@execCaptureSet a0 a1 a2 a3) := by
  unfold execCaptureSet
  repeat' first
    | with_reducible (first
        | assumption | intro _ | apply Slostan_run_good | apply applyCaptureSet_good | apply next_good
        | apply ite_good | apply iteR_good | apply iteP_good | apply iteO_good)
    | split
    | (with_reducible refine Good.mk' (Good.flat ?_))

theorem execCaptureDone_good {s0 : State} {a0 a1 a2} (ha2 : Good s0 a2) : GoodO s0 (@execCaptureDone a0 a1 a2) := by
  unfold execCaptureDone
  repeat' first
    | with_reducible (first
        | assumption | intro _ | apply State_updDiag_good | apply State_finishPend_good | apply wr_good
        | apply next_good | apply ite_good | apply iteR_good | apply iteP_good | apply iteO_good)
    | split
    | (with_reducible refine Good.mk' (Good.flat ?_))

theorem execCaptureRead_good {s0 : State} {a0 a1 a2} (ha2 : Good s0 a2) : GoodO s0 (@execCaptureRead a0 a1 a2) := by
  unfold execCaptureRead
  repeat' first
    | with_reducible (first
        | assumption | intro _ | apply Slostan_run_good | apply Res_badParam_good | apply Res_okWith_good
        | apply Res_fail_good | apply next_good | apply ite_good | apply iteR_good | apply iteP_good
        | apply iteO_good)
    | split
    | (with_reducible refine Good.mk' (Good.flat ?_))

end Sys2Proof.Machine
end

