-- ==== Sys2Proof/Laws/KeepsSettings.lean ====
section
/-! SUPPORT. A sound state stays sound, and takes back nothing, through every operation and command of:
register access, the settings store, starts and transactions. Proved alike for each operation, from the lemmas of those it calls. -/

namespace Sys2Proof.Machine

theorem execLineStatusGet_good {s0 : State} {a0 a1 a2} (ha2 : Good s0 a2) :
    GoodO s0 (@execLineStatusGet a0 a1 a2) := by
  unfold execLineStatusGet
  repeat' first
    | with_reducible (first
        | assumption | intro _ | apply Slostan_run_good | apply Res_okWith_good | apply next_good | apply ite_good
        | apply iteR_good | apply iteP_good | apply iteO_good)
    | split
    | (with_reducible refine Good.mk' (Good.flat ?_))

theorem State_readFcLo_good {s0 : State} {a0 a1 a2} (ha0 : Good s0 a0) : Good s0 (@State.readFcLo a0 a1 a2).2 := by
  unfold State.readFcLo
  repeat' first
    | with_reducible (first
        | assumption | intro _ | apply wr_good | apply next_good | apply ite_good | apply iteR_good
        | apply iteP_good | apply iteO_good)
    | split
    | (with_reducible refine Good.mk' (Good.flat ?_))

theorem State_readWord_good {s0 : State} {a0 a1 a2 a3} (ha0 : Good s0 a0) :
    Good s0 (@State.readWord a0 a1 a2 a3).2 := by
  unfold State.readWord
  repeat' first
    | with_reducible (first
        | assumption | intro _ | apply State_readTimeLo_good | apply State_readFcLo_good
        | apply State_readInjRes_good | apply State_readFifo_good | apply State_readLatLo_good
        | apply State_readPatgLo_good | apply next_good | apply ite_good | apply iteR_good | apply iteP_good
        | apply iteO_good)
    | split
    | (with_reducible refine Good.mk' (Good.flat ?_))

theorem State_readWords_good {s0 s : State} {d b n w} (h : Good s0 s) : Good s0 (State.readWords d b n w s).2 := by
  induction n generalizing s w with
  | zero => exact h
  | succ n ih =>
    unfold State.readWords
    exact ih (State_readWord_good h)

theorem State_writeFld_good {s0 : State} {a0 a1 a2 a3} (ha2 : Good s0 a2) :
    Good s0 (@State.writeFld a0 a1 a2 a3) := by
  unfold State.writeFld
  repeat' first
    | with_reducible (first
        | assumption | intro _ | apply wr_good | apply next_good | apply ite_good | apply iteR_good
        | apply iteP_good | apply iteO_good)
    | split
    | (with_reducible refine Good.mk' (Good.flat ?_))

theorem State_writeFields_good {s0 : State} {a0 a1 a2 a3 a4} (ha0 : Good s0 a0) :
    Good s0 (@State.writeFields a0 a1 a2 a3 a4) := by
  unfold State.writeFields
  repeat' first
    | with_reducible (first
        | assumption | intro _ | apply State_writeFld_good | apply foldl_good | apply next_good | apply ite_good
        | apply iteR_good | apply iteP_good | apply iteO_good)
    | split
    | (with_reducible refine Good.mk' (Good.flat ?_))

theorem State_writeIf_good {s0 : State} {a0 a1 a2 a3 a4 a5} (ha0 : Good s0 a0) :
    Good s0 (@State.writeIf a0 a1 a2 a3 a4 a5).state := by
  unfold State.writeIf
  repeat' first
    | with_reducible (first
        | assumption | intro _ | apply Res_badParam_good | apply Res_ok_good | apply State_writeFields_good
        | apply next_good | apply ite_good | apply iteR_good | apply iteP_good | apply iteO_good)
    | split
    | (with_reducible refine Good.mk' (Good.flat ?_))

theorem writeLtx_good {s0 : State} {a0 a1 a2 a3 a4} (ha4 : Good s0 a4) :
    Good s0 (@writeLtx a0 a1 a2 a3 a4).state := by
  unfold writeLtx
  repeat' first
    | with_reducible (first
        | assumption | intro _ | apply State_writeFields_good | apply State_setForce_good | apply Res_andThen_good
        | apply Res_ok_good | apply State_requestFirSwap_good | apply State_requestPdSwap_good
        | apply State_writeIf_good | apply State_setDelay_good | apply Res_badParam_good | apply Res_fail_good
        | apply State_keepTx_good | apply State_noteFir_good | apply State_notePd_good | apply next_good
        | apply ite_good | apply iteR_good | apply iteP_good | apply iteO_good)
    | split
    | (with_reducible refine Good.mk' (Good.flat ?_))

theorem writeLrx_good {s0 : State} {a0 a1 a2 a3} (ha3 : Good s0 a3) : Good s0 (@writeLrx a0 a1 a2 a3).state := by
  unfold writeLrx
  repeat' first
    | with_reducible (first
        | assumption | intro _ | apply State_writeFields_good | apply State_writeIf_good | apply Res_ok_good
        | apply State_updRx_good | apply State_writeFadeCtrl_good | apply Res_fail_good | apply State_setPath_good
        | apply next_good | apply ite_good | apply iteR_good | apply iteP_good | apply iteO_good)
    | split
    | (with_reducible refine Good.mk' (Good.flat ?_))

theorem writeDec_good {s0 : State} {a0 a1 a2 a3} (ha3 : Good s0 a3) : Good s0 (@writeDec a0 a1 a2 a3).state := by
  unfold writeDec
  repeat' first
    | with_reducible (first
        | assumption | intro _ | apply Res_badParam_good | apply Res_fail_good | apply Res_ok_good
        | apply State_writeFields_good | apply State_setPoolCtrl_good | apply next_good | apply ite_good
        | apply iteR_good | apply iteP_good | apply iteO_good)
    | split
    | (with_reducible refine Good.mk' (Good.flat ?_))

theorem writeDacb_good {s0 : State} {a0 a1 a2 a3 a4} (ha4 : Good s0 a4) :
    Good s0 (@writeDacb a0 a1 a2 a3 a4).state := by
  unfold writeDacb
  repeat' first
    | with_reducible (first
        | assumption | intro _ | apply State_writeFields_good | apply regSwClr_good | apply State_writeFld_good
        | apply Res_ok_good | apply Res_badParam_good | apply Res_refuse_good | apply State_dacSetCfg_good
        | apply regDacCode_good | apply regDacPush_good | apply State_dacWave_good | apply next_good
        | apply ite_good | apply iteR_good | apply iteP_good | apply iteO_good)
    | split
    | (with_reducible refine Good.mk' (Good.flat ?_))

theorem writeMadc_good {s0 : State} {a0 a1 a2 a3 a4} (ha4 : Good s0 a4) :
    Good s0 (@writeMadc a0 a1 a2 a3 a4).state := by
  unfold writeMadc
  repeat' first
    | with_reducible (first
        | assumption | intro _ | apply State_writeFields_good | apply State_writeIf_good | apply Res_badParam_good
        | apply Res_ok_good | apply State_updConv_good | apply State_ownTrigger_good | apply next_good
        | apply ite_good | apply iteR_good | apply iteP_good | apply iteO_good)
    | split
    | (with_reducible refine Good.mk' (Good.flat ?_))

theorem writePatgCfg_good {s0 : State} {a0 a1 a2} (ha2 : Good s0 a2) : Good s0 (@writePatgCfg a0 a1 a2).state := by
  unfold writePatgCfg
  repeat' first
    | with_reducible (first
        | assumption | intro _ | apply Res_badParam_good | apply Res_fail_good | apply Res_ok_good | apply wr_good
        | apply State_setPattern_good | apply each_good | apply next_good | apply ite_good | apply iteR_good
        | apply iteP_good | apply iteO_good)
    | split
    | (with_reducible refine Good.mk' (Good.flat ?_))

theorem writeMgmtPreset_good {s0 : State} {a0 a1 a2} (ha2 : Good s0 a2) :
    Good s0 (@writeMgmtPreset a0 a1 a2).state := by
  unfold writeMgmtPreset
  repeat' first
    | with_reducible (first
        | assumption | intro _ | apply Res_badParam_good | apply State_writeFields_good | apply Res_ok_good
        | apply State_takePreset_good | apply next_good | apply ite_good | apply iteR_good | apply iteP_good
        | apply iteO_good)
    | split
    | (with_reducible refine Good.mk' (Good.flat ?_))

theorem writeMgmtCtrl_good {s0 : State} {a0 a1 a2} (ha2 : Good s0 a2) : Good s0 (@writeMgmtCtrl a0 a1 a2).state := by
  unfold writeMgmtCtrl
  repeat' first
    | with_reducible (first
        | assumption | intro _ | apply State_writeFields_good | apply Res_badParam_good | apply Res_ok_good
        | apply State_restartLater_good | apply next_good | apply ite_good | apply iteR_good | apply iteP_good
        | apply iteO_good)
    | split
    | (with_reducible refine Good.mk' (Good.flat ?_))

theorem writeRest_good {s0 : State} {a0 a1 a2 a3 a4 a5} (ha5 : Good s0 a5) :
    Good s0 (@writeRest a0 a1 a2 a3 a4 a5).state := by
  unfold writeRest
  repeat' first
    | with_reducible (first
        | assumption | intro _ | apply State_writeFields_good | apply Res_badParam_good | apply Res_ok_good
        | apply State_powerEval_good | apply Res_fail_good | apply State_unprotRise_good
        | apply State_setRetain_good | apply State_treeRecompute_good | apply State_ldisFollow_good
        | apply State_safetyClrFollow_good | apply clearCounters_good | apply State_commitCounter_good
        | apply next_good | apply ite_good | apply iteR_good | apply iteP_good | apply iteO_good)
    | split
    | (with_reducible refine Good.mk' (Good.flat ?_))

theorem State_writeWord_good {s0 : State} {a0 a1 a2 a3 a4 a5} (ha0 : Good s0 a0) :
    Good s0 (@State.writeWord a0 a1 a2 a3 a4 a5).state := by
  unfold State.writeWord
  repeat' first
    | with_reducible (first
        | assumption | intro _ | apply writeLtx_good | apply writeLrx_good | apply writeDec_good
        | apply writeMgmtCtrl_good | apply writeMgmtPreset_good | apply State_writeIf_good | apply writeDacb_good
        | apply writeMadc_good | apply writePatgCfg_good | apply writeRest_good | apply next_good | apply ite_good
        | apply iteR_good | apply iteP_good | apply iteO_good)
    | split
    | (with_reducible refine Good.mk' (Good.flat ?_))

theorem applyRegRead_good {s0 : State} {a0 a1 a2 a3 a4} (ha4 : Good s0 a4) :
    Good s0 (@applyRegRead a0 a1 a2 a3 a4).state := by
  unfold applyRegRead
  repeat' first
    | with_reducible (first
        | assumption | intro _ | apply regGuard_good | apply State_readWords_good | apply Res_okWith_good
        | apply next_good | apply ite_good | apply iteR_good | apply iteP_good | apply iteO_good)
    | split
    | (with_reducible refine Good.mk' (Good.flat ?_))

theorem execRegRead_good {s0 : State} {a0 a1 a2 a3} (ha3 : Good s0 a3) : GoodO s0 (@execRegRead a0 a1 a2 a3) := by
  unfold execRegRead
  repeat' first
    | with_reducible (first
        | assumption | intro _ | apply Slostan_run_good | apply applyRegRead_good | apply next_good | apply ite_good
        | apply iteR_good | apply iteP_good | apply iteO_good)
    | split
    | (with_reducible refine Good.mk' (Good.flat ?_))

theorem applyRegWrite_good {s0 : State} {a0 a1 a2 a3 a4 a5} (ha5 : Good s0 a5) :
    Good s0 (@applyRegWrite a0 a1 a2 a3 a4 a5).state := by
  unfold applyRegWrite
  repeat' first
    | with_reducible (first
        | assumption | intro _ | apply regGuard_good | apply State_writeWord_good | apply next_good | apply ite_good
        | apply iteR_good | apply iteP_good | apply iteO_good)
    | split
    | (with_reducible refine Good.mk' (Good.flat ?_))

theorem execRegWrite_good {s0 : State} {a0 a1 a2 a3 a4} (ha4 : Good s0 a4) :
    GoodO s0 (@execRegWrite a0 a1 a2 a3 a4) := by
  unfold execRegWrite
  repeat' first
    | with_reducible (first
        | assumption | intro _ | apply State_doRestarts_good | apply State_fireCommand_good | apply Slostan_run_good
        | apply applyRegWrite_good | apply next_good | apply ite_good | apply iteR_good | apply iteP_good
        | apply iteO_good)
    | split
    | (with_reducible refine Good.mk' (Good.flat ?_))

theorem execFrameCountLoRead_good {s0 : State} {a0 a1 a2 a3} (ha3 : Good s0 a3) :
    GoodO s0 (@execFrameCountLoRead a0 a1 a2 a3) := by
  unfold execFrameCountLoRead
  repeat' first
    | with_reducible (first
        | assumption | intro _ | apply Slostan_run_good | apply regGuard_good | apply Res_okWith_good
        | apply State_readFcLo_good | apply next_good | apply ite_good | apply iteR_good | apply iteP_good
        | apply iteO_good)
    | split
    | (with_reducible refine Good.mk' (Good.flat ?_))

theorem State_sbAccess_good {s0 s : State} {d w a v} (h : Good s0 s) : Good s0 (s.sbAccess d w a v).2.2 := by
  unfold State.sbAccess
  split
  · exact h
  · split
    · exact h
    · split
      · exact State_doRestarts_good (State_fireCommand_good (State_writeWord_good h))
      · exact State_readWord_good h

theorem execSbReq_good {s0 s : State} {a b c w x v} (h : Good s0 s) : GoodO s0 (execSbReq a b c w x v s) := by
  unfold execSbReq
  split
  · exact next_good h
  · rename_i m t e
    have h1 : Good s0 t := State_takeSlot_good h e
    extract_lets sets
    clear_value sets
    split
    · exact next_good (State_sbQueue_good h1)
    · exact next_good (State_sbPush_good (State_sbAccess_good h1))

theorem opOf_good {s0 s t : State} {c i body} (e : opOf s c = some (i, body)) (r : Req) (x : Session) (h : Good s0 t) :
    Good s0 (body r x t).state := by
  cases c <;> cases e
  all_goals repeat' first
    | with_reducible (first
        | assumption | intro _ | apply applyArbSet_good | apply applyEventSubscribe_good | apply applyEventAck_good
        | apply applyEventFilterSet_good | apply applyEventUnsubscribe_good | apply regGuard_good
        | apply Res_ok_good | apply clearCounters_good | apply State_commitCounter_good | apply applyTagSet_good
        | apply applyTimebaseSet_good | apply applyIntervalSet_good | apply applyLaserCeilingSet_good
        | apply applyNodeIdentitySet_good | apply applyOwnerKeySet_good | apply applyOwnerKeyRevoke_good
        | apply applyFwLoad_good | apply Res_fail_good | apply State_updSession_good | apply applySlostanCfgSet_good
        | apply applyClaim_good | apply applyRelease_good | apply applyBegin_good | apply applyAbort_good
        | apply applyDacChSet_good | apply applyDacWrite_good | apply regDacCode_good | apply regDacPush_good
        | apply applyDacWaveSet_good | apply regSwClr_good | apply applyMadcConvert_good
        | apply applyMadcSeqSet_good | apply applyMadcTriggerSet_good | apply applyMadcCalibrate_good
        | apply applyMadcTestdacSet_good | apply State_ownTrigger_good | apply applySafetyLimitSet_good
        | apply applySafetyReset_good | apply State_updFab_good | apply applyRouteSet_good
        | apply applyTxBankLoad_good | apply applyTxPdLoad_good | apply State_requestFirSwap_good
        | apply State_requestPdSwap_good | apply State_setDelay_good | apply applyLineTxSet_good
        | apply applyTxAdaptSet_good | apply applyTxMaskSet_good | apply applyDecPoolSet_good
        | apply State_setPoolCtrl_good | apply applyRxBankLoad_good | apply applyRxBankSwap_good
        | apply State_writeFadeCtrl_good | apply applyRxAdaptSet_good | apply applyRxPathSet_good
        | apply State_setPath_good | apply applyLineRxSet_good | apply applyFrameLockSet_good
        | apply applyPowerPolicySet_good | apply applyWakeCmpSet_good | apply applyCipherPolicySet_good
        | apply applyKeyModeSet_good | apply State_setPsk_good | apply applyKeyLifeSet_good
        | apply State_powerEval_good | apply each_good | apply State_setRetain_good | apply applyKeyZeroise_good
        | apply applyKeyAgreeStart_good | apply applyKeyRack_good | apply applyCipherSfClear_good
        | apply applyLineRealign_good | apply applyDeskewSet_good | apply applyToppingSet_good
        | apply applyProfileSet_good | apply applyPortPlanSet_good | apply applyHostLaneSet_good
        | apply applyLineUp_good | apply applyLineDown_good | apply applyMgmtPortSet_good
        | apply State_restartLater_good | apply applySelftestRun_good | apply applyPatternSet_good
        | apply applyErrorInject_good | apply applyLoopbackSet_good | apply applyCaptureSet_good
        | apply applyRegWrite_good | apply next_good | apply ite_good | apply iteR_good | apply iteP_good
        | apply iteO_good)
    | split

theorem State_stageTx_good {s0 : State} {a0 a1 a2} (ha0 : Good s0 a0) : Good s0 (@State.stageTx a0 a1 a2).state := by
  unfold State.stageTx
  repeat' first
    | with_reducible (first
        | assumption | intro _ | apply Res_ok_good | apply State_updTx_good | apply Res_fail_good | apply next_good
        | apply ite_good | apply iteR_good | apply iteP_good | apply iteO_good)
    | split
    | (with_reducible refine Good.mk' (Good.flat ?_))

theorem State_restoreAdapt_good {s0 : State} {a0 a1 a2 a3 a4 a5} (ha0 : Good s0 a0) :
    Good s0 (@State.restoreAdapt a0 a1 a2 a3 a4 a5).state := by
  unfold State.restoreAdapt
  repeat' first
    | with_reducible (first
        | assumption | intro _ | apply Res_fail_good | apply State_setRxAdapt_good | apply State_setRxEnables_good
        | apply State_setDfe_good | apply Res_ok_good | apply State_updRx_good | apply State_setNle_good
        | apply next_good | apply ite_good | apply iteR_good | apply iteP_good | apply iteO_good)
    | split
    | (with_reducible refine Good.mk' (Good.flat ?_))

theorem State_restoreCfg_good {s0 : State} {a0 a1 a2 a3} (ha0 : Good s0 a0) :
    Good s0 (@State.restoreCfg a0 a1 a2 a3) := by
  unfold State.restoreCfg
  repeat' first
    | with_reducible (first
        | assumption | intro _ | apply wr_good | apply State_setOut_good | apply State_dacSetCfg_good
        | apply next_good | apply ite_good | apply iteR_good | apply iteP_good | apply iteO_good)
    | split
    | (with_reducible refine Good.mk' (Good.flat ?_))

theorem State_restoreCode_good {s0 : State} {a0 a1 a2 a3} (ha0 : Good s0 a0) :
    Good s0 (@State.restoreCode a0 a1 a2 a3) := by
  unfold State.restoreCode
  repeat' first
    | with_reducible (first
        | assumption | intro _ | apply wr_good | apply State_dacPut_good | apply next_good | apply ite_good
        | apply iteR_good | apply iteP_good | apply iteO_good)
    | split
    | (with_reducible refine Good.mk' (Good.flat ?_))

theorem State_restoreWave_good {s0 : State} {a0 a1 a2 a3} (ha0 : Good s0 a0) :
    Good s0 (@State.restoreWave a0 a1 a2 a3) := by
  unfold State.restoreWave
  repeat' first
    | with_reducible (first
        | assumption | intro _ | apply State_dacWave_good | apply wr_good | apply State_updDac_good
        | apply next_good | apply ite_good | apply iteR_good | apply iteP_good | apply iteO_good)
    | split
    | (with_reducible refine Good.mk' (Good.flat ?_))

theorem State_restorePort_good {s0 : State} {a0 a1 a2 a3 a4 a5} (ha0 : Good s0 a0) :
    Good s0 (@State.restorePort a0 a1 a2 a3 a4 a5).state := by
  unfold State.restorePort
  repeat' first
    | with_reducible (first
        | assumption | intro _ | apply Res_fail_good | apply Res_ok_good | apply State_setMgmtPort_good
        | apply State_restartLater_good | apply next_good | apply ite_good | apply iteR_good | apply iteP_good
        | apply iteO_good)
    | split
    | (with_reducible refine Good.mk' (Good.flat ?_))

theorem State_applyRecord_good {s0 s : State} {b c} (h : Good s0 s) : Good s0 (s.applyRecord b c).state := by
  unfold State.applyRecord
  split
  case h_17 =>
    split
    · rename_i e
      exact iteR_good h (opOf_good e _ _ h)
    · exact h
  all_goals repeat' first
    | with_reducible (first
        | assumption | intro _ | apply Res_fail_good | apply Res_ok_good | apply State_setProfile_good
        | apply State_stageTx_good | apply State_restoreAdapt_good | apply wr_good | apply State_setPolicyOnly_good
        | apply State_setPolicy_good | apply each_good | apply State_restoreCfg_good | apply State_restoreCode_good
        | apply State_restoreWave_good | apply applyTagSet_good | apply State_updFab_good | apply applyRouteSet_good
        | apply State_restorePort_good | apply State_writeFields_good | apply State_setRetain_good
        | apply applyRegWrite_good | apply opOf_good | apply next_good | apply ite_good | apply iteR_good
        | apply iteP_good | apply iteO_good)
    | split

theorem Restore_state_good {s0 : State} {a0} (ha0 : Good s0 a0.state) : Good s0 (@Restore.state a0) := by
  unfold Restore.state
  repeat' first
    | with_reducible (first
        | assumption | intro _ | apply next_good | apply ite_good | apply iteR_good | apply iteP_good
        | apply iteO_good)
    | split
    | (with_reducible refine Good.mk' (Good.flat ?_))

theorem Restore_step_good {s0 : State} {x hot n c} {q : Restore} (h : Good s0 q.state) :
    Good s0 (q.step x hot n c).state := by
  unfold Restore.step
  split
  · exact h
  · split
    · exact h
    · extract_lets c' p
      have hp : Good s0 p.state := State_applyRecord_good h
      clear_value p
      split
      · exact hp
      · exact h

theorem Restore_runFrom_good {s0 : State} {x hot n l} {q : Restore} (h : Good s0 q.state) :
    Good s0 (Restore.runFrom x hot n l q).state := by
  induction l generalizing q n with
  | nil => exact h
  | cons a l ih =>
    unfold Restore.runFrom
    exact ih (Restore_step_good h)

theorem State_settleTx_good {s0 : State} {a0 a1} (ha0 : Good s0 a0) : Good s0 (@State.settleTx a0 a1) := by
  unfold State.settleTx
  repeat' first
    | with_reducible (first
        | assumption | intro _ | apply State_keepTx_good | apply State_doTxLoad_good | apply next_good
        | apply ite_good | apply iteR_good | apply iteP_good | apply iteO_good)
    | split
    | (with_reducible refine Good.mk' (Good.flat ?_))

theorem State_applyBody_good {s0 s : State} {x l} (h : Good s0 s) : Good s0 (s.applyBody x l).state := by
  unfold State.applyBody
  extract_lets q
  have hq : Good s0 q.state := Restore_runFrom_good (q := ⟨s, false, none⟩) h
  clear_value q
  split
  · exact h
  · have ht : Good s0 (((q.state.each s.popDies fun s l => s.settleTx l).powerEval 1).showKeys) :=
      State_showKeys_good (State_powerEval_good (each_good (fun _ _ k => State_settleTx_good k) hq))
    exact ite_good (wr_good _ _ _ ht) ht

theorem State_bringUp_good {s0 : State} {a0 a1} (ha0 : Good s0 a0) : Good s0 (@State.bringUp a0 a1) := by
  unfold State.bringUp
  repeat' first
    | with_reducible (first
        | assumption | intro _ | apply State_showKeys_good | apply State_kxKick_good | apply State_laneUp_good
        | apply each_good | apply next_good | apply ite_good | apply iteR_good | apply iteP_good | apply iteO_good)
    | split
    | (with_reducible refine Good.mk' (Good.flat ?_))

theorem State_lanesTo_good {s0 : State} {a0 a1 a2} (ha0 : Good s0 a0) : Good s0 (@State.lanesTo a0 a1 a2) := by
  unfold State.lanesTo
  repeat' first
    | with_reducible (first
        | assumption | intro _ | apply State_laneDown_good | apply State_bringUp_good | apply each_good
        | apply next_good | apply ite_good | apply iteR_good | apply iteP_good | apply iteO_good)
    | split
    | (with_reducible refine Good.mk' (Good.flat ?_))

theorem applyVintageCommit_good {s0 s : State} {n l r x} (h : Good s0 s) :
    Good s0 (applyVintageCommit n l r x s).state := by
  unfold applyVintageCommit
  refine iteR_good h ?_
  have hq := State_fresh_good h
  generalize s.fresh = q at hq
  obtain ⟨v, t⟩ := q
  dsimp -zeta only
  extract_lets n c
  clear_value c
  refine Res_pending_good (State_syncNvm_good (Good.mk' { hq.flat with commits := ?_ }))
  exact Nat.le_succ_of_le hq.commits

theorem execVintageCommit_good {s0 : State} {a0 a1 a2 a3} (ha3 : Good s0 a3) :
    GoodO s0 (@execVintageCommit a0 a1 a2 a3) := by
  unfold execVintageCommit
  repeat' first
    | with_reducible (first
        | assumption | intro _ | apply Slostan_run_good | apply applyVintageCommit_good | apply next_good
        | apply ite_good | apply iteR_good | apply iteP_good | apply iteO_good)
    | split
    | (with_reducible refine Good.mk' (Good.flat ?_))

theorem applyVintageRestore_good {s0 s : State} {n r x} (h : Good s0 s) :
    Good s0 (applyVintageRestore n r x s).state := by
  unfold applyVintageRestore
  refine iteR_good h ?_
  split
  · exact Res_badParam_good h
  · extract_lets q t ch _ t2
    have hq : Good s0 q.state := State_applyBody_good h
    have h2 : Good s0 t2 := Good.mk' hq.flat
    clear_value t2
    split
    · exact h
    · exact Res_pending_good (State_lanesTo_good h2)

theorem execVintageRestore_good {s0 : State} {a0 a1 a2} (ha2 : Good s0 a2) :
    GoodO s0 (@execVintageRestore a0 a1 a2) := by
  unfold execVintageRestore
  repeat' first
    | with_reducible (first
        | assumption | intro _ | apply State_doRestarts_good | apply State_fireCommand_good | apply Slostan_run_good
        | apply applyVintageRestore_good | apply next_good | apply ite_good | apply iteR_good | apply iteP_good
        | apply iteO_good)
    | split
    | (with_reducible refine Good.mk' (Good.flat ?_))

theorem State_endRestore_good {s0 : State} {a0} (ha0 : Good s0 a0) : Good s0 (@State.endRestore a0) := by
  unfold State.endRestore
  repeat' first
    | with_reducible (first
        | assumption | intro _ | apply State_finalReply_good | apply next_good | apply ite_good | apply iteR_good
        | apply iteP_good | apply iteO_good)
    | split
    | (with_reducible refine Good.mk' (Good.flat ?_))

theorem execVintageRestoreDone_good {s0 : State} {a0} (ha0 : Good s0 a0) : GoodO s0 (@execVintageRestoreDone a0) := by
  unfold execVintageRestoreDone
  repeat' first
    | with_reducible (first
        | assumption | intro _ | apply State_endRestore_good | apply State_bringUp_good | apply next_good
        | apply ite_good | apply iteR_good | apply iteP_good | apply iteO_good)
    | split
    | (with_reducible refine Good.mk' (Good.flat ?_))

theorem execVintageList_good {s0 : State} {a0 a1} (ha1 : Good s0 a1) : GoodO s0 (@execVintageList a0 a1) := by
  unfold execVintageList
  repeat' first
    | with_reducible (first
        | assumption | intro _ | apply Slostan_run_good | apply Res_okWith_good | apply next_good | apply ite_good
        | apply iteR_good | apply iteP_good | apply iteO_good)
    | split
    | (with_reducible refine Good.mk' (Good.flat ?_))

theorem applyVintagePrefer_good {s0 : State} {a0 a1 a2 a3} (ha3 : Good s0 a3) :
    Good s0 (@applyVintagePrefer a0 a1 a2 a3).state := by
  unfold applyVintagePrefer
  repeat' first
    | with_reducible (first
        | assumption | intro _ | apply Res_fail_good | apply Res_badParam_good | apply Res_ok_good
        | apply State_syncNvm_good | apply next_good | apply ite_good | apply iteR_good | apply iteP_good
        | apply iteO_good)
    | split
    | (with_reducible refine Good.mk' (Good.flat ?_))

theorem execVintagePrefer_good {s0 : State} {a0 a1 a2} (ha2 : Good s0 a2) :
    GoodO s0 (@execVintagePrefer a0 a1 a2) := by
  unfold execVintagePrefer
  repeat' first
    | with_reducible (first
        | assumption | intro _ | apply Slostan_run_good | apply applyVintagePrefer_good | apply next_good
        | apply ite_good | apply iteR_good | apply iteP_good | apply iteO_good)
    | split
    | (with_reducible refine Good.mk' (Good.flat ?_))

theorem applyVintageDelete_good {s0 : State} {a0 a1 a2 a3} (ha3 : Good s0 a3) :
    Good s0 (@applyVintageDelete a0 a1 a2 a3).state := by
  unfold applyVintageDelete
  repeat' first
    | with_reducible (first
        | assumption | intro _ | apply Res_fail_good | apply Res_ok_good | apply State_syncNvm_good
        | apply next_good | apply ite_good | apply iteR_good | apply iteP_good | apply iteO_good)
    | split
    | (with_reducible refine Good.mk' (Good.flat ?_))

theorem execVintageDelete_good {s0 : State} {a0 a1 a2} (ha2 : Good s0 a2) :
    GoodO s0 (@execVintageDelete a0 a1 a2) := by
  unfold execVintageDelete
  repeat' first
    | with_reducible (first
        | assumption | intro _ | apply Slostan_run_good | apply applyVintageDelete_good | apply next_good
        | apply ite_good | apply iteR_good | apply iteP_good | apply iteO_good)
    | split
    | (with_reducible refine Good.mk' (Good.flat ?_))

theorem State_enterDeployed_good {s0 : State} {a0} (ha0 : Good s0 a0) : Good s0 (@State.enterDeployed a0) := by
  unfold State.enterDeployed
  repeat' first
    | with_reducible (first
        | assumption | intro _ | apply next_good | apply ite_good | apply iteR_good | apply iteP_good
        | apply iteO_good)
    | split
    | (with_reducible refine Good.mk' (Good.flat ?_))

theorem State_forceBody_good {s0 s : State} {l} (h : Good s0 s) : Good s0 (s.forceBody l) := by
  unfold State.forceBody
  have h1 : Good s0 (l.foldl (fun s c => (s.applyRecord true (s.adjustRec [] c)).state) s) :=
    foldl_good (fun _ _ k => State_applyRecord_good k) h
  generalize (l.foldl (fun s c => (s.applyRecord true (s.adjustRec [] c)).state) s) = t1 at h1
  have h2 : Good s0 (t1.each s.popDies fun s l => s.settleTx l) := each_good (fun _ _ k => State_settleTx_good k) h1
  dsimp only
  generalize (t1.each s.popDies fun s l => s.settleTx l) = t2 at *
  have h3 : Good s0 ((t2.powerEval 1).showKeys) := State_showKeys_good (State_powerEval_good h2)
  generalize (t2.powerEval 1).showKeys = t3 at h3
  exact State_lanesTo_good (Good.mk' h3.flat)

theorem State_enterRetired_good {s0 : State} {a0} (ha0 : Good s0 a0) : Good s0 (@State.enterRetired a0) := by
  unfold State.enterRetired
  repeat' first
    | with_reducible (first
        | assumption | intro _ | apply State_setPsk_good | apply State_zeroiseAll_good | apply State_syncFuse_good
        | apply State_forceBody_good | apply State_syncNvm_good | apply next_good | apply ite_good | apply iteR_good
        | apply iteP_good | apply iteO_good)
    | split
    | (with_reducible refine Good.mk' (Good.flat ?_))

theorem advance_good {s0 s : State} {n} (h : Good s0 s) :
    Good s0 (match n with
      | 2 => s.enterDeployed
      | 3 => s.enterRetired
      | _ => s) := by
  split
  · exact State_enterDeployed_good h
  · exact State_enterRetired_good h
  · exact h

theorem applyLifecycleAdvance_good {s0 s : State} {t r x} (h : Good s0 s) : Good s0 (applyLifecycleAdvance t r x s).state := by
  unfold applyLifecycleAdvance
  extract_lets n s1
  split
  · exact h
  rename_i e1
  split
  · exact Res_badParam_good h
  rename_i e2
  refine iteR_good h (iteR_good h (iteR_good h ?_))
  have h1 : Good s0 s1 := by
    have k := h.lifecycle
    refine State_updFuses_good h ?_ ?_ ?_ ?_
    · dsimp only; omega
    · exact h.ownerSlot
    · exact h.secver
    · exact ⟨by dsimp only; omega, Nat.le_refl _, Nat.le_refl _, id, fun _ => rfl, rfl, rfl, rfl⟩
  clear_value s1
  exact Res_ok_good (advance_good h1)

theorem execLifecycleAdvance_good {s0 : State} {a0 a1 a2 a3} (ha3 : Good s0 a3) :
    GoodO s0 (@execLifecycleAdvance a0 a1 a2 a3) := by
  unfold execLifecycleAdvance
  repeat' first
    | with_reducible (first
        | assumption | intro _ | apply State_doRestarts_good | apply Slostan_run_good
        | apply applyLifecycleAdvance_good | apply next_good | apply ite_good | apply iteR_good | apply iteP_good
        | apply iteO_good)
    | split
    | (with_reducible refine Good.mk' (Good.flat ?_))

theorem applyCleartextWithdraw_good {s0 s : State} {r x} (h : Good s0 s) :
    Good s0 (applyCleartextWithdraw r x s).state := by
  unfold applyCleartextWithdraw
  refine iteR_good h (Res_ok_good (State_setPolicyCode_good ?_))
  refine State_updFuses_good h ?_ ?_ ?_ ?_
  · exact h.lifecycle
  · exact h.ownerSlot
  · exact h.secver
  · exact ⟨Nat.le_refl _, Nat.le_refl _, Nat.le_refl _, fun k => Bool.noConfusion k, fun _ => rfl, rfl, rfl, rfl⟩

theorem execCleartextWithdraw_good {s0 : State} {a0 a1 a2} (ha2 : Good s0 a2) :
    GoodO s0 (@execCleartextWithdraw a0 a1 a2) := by
  unfold execCleartextWithdraw
  repeat' first
    | with_reducible (first
        | assumption | intro _ | apply Slostan_run_good | apply applyCleartextWithdraw_good | apply next_good
        | apply ite_good | apply iteR_good | apply iteP_good | apply iteO_good)
    | split
    | (with_reducible refine Good.mk' (Good.flat ?_))

theorem applyOwnerCertSet_good {s0 : State} {a0 a1 a2 a3} (ha3 : Good s0 a3) :
    Good s0 (@applyOwnerCertSet a0 a1 a2 a3).state := by
  unfold applyOwnerCertSet
  repeat' first
    | with_reducible (first
        | assumption | intro _ | apply Res_ok_good | apply State_kxKick_good | apply State_syncFuse_good
        | apply Res_fail_good | apply next_good | apply ite_good | apply iteR_good | apply iteP_good
        | apply iteO_good)
    | split
    | (with_reducible refine Good.mk' (Good.flat ?_))

theorem execOwnerCertSet_good {s0 : State} {a0 a1 a2} (ha2 : Good s0 a2) : GoodO s0 (@execOwnerCertSet a0 a1 a2) := by
  unfold execOwnerCertSet
  repeat' first
    | with_reducible (first
        | assumption | intro _ | apply Slostan_run_good | apply applyOwnerCertSet_good | apply next_good
        | apply ite_good | apply iteR_good | apply iteP_good | apply iteO_good)
    | split
    | (with_reducible refine Good.mk' (Good.flat ?_))

theorem State_trialRestart_good {s0 : State} {a0 a1 a2} (ha0 : Good s0 a0) :
    Good s0 (@State.trialRestart a0 a1 a2) := by
  unfold State.trialRestart
  repeat' first
    | with_reducible (first
        | assumption | intro _ | apply State_mbReset_good | apply next_good | apply ite_good | apply iteR_good
        | apply iteP_good | apply iteO_good)
    | split
    | (with_reducible refine Good.mk' (Good.flat ?_))

theorem applyFwActivate_good {s0 s : State} {r x} (h : Good s0 s) : Good s0 (applyFwActivate r x s).state := by
  unfold applyFwActivate
  refine iteR_good h (iteR_good h (iteR_good h ?_))
  extract_lets t
  split <;> exact Res_pending_good (State_syncFw_good (State_trialRestart_good h))

theorem execFwActivate_good {s0 : State} {a0 a1 a2} (ha2 : Good s0 a2) : GoodO s0 (@execFwActivate a0 a1 a2) := by
  unfold execFwActivate
  repeat' first
    | with_reducible (first
        | assumption | intro _ | apply Slostan_run_good | apply applyFwActivate_good | apply next_good
        | apply ite_good | apply iteR_good | apply iteP_good | apply iteO_good)
    | split
    | (with_reducible refine Good.mk' (Good.flat ?_))

theorem State_trialDone_good {s0 s : State} (h : Good s0 s) : Good s0 s.trialDone := by
  unfold State.trialDone
  have hn : s.nv.standby.secver ≤ 63 := of_decide_eq_true h.standby
  have hv := h.secver
  have h1 : Good s0 { s with nv := { s.nv with
      active := s.nv.standby
      standby := { s.nv.active with valid := s.nv.active.valid && decide (max s.nv.fuses.secver s.nv.standby.secver ≤ s.nv.active.secver) }
      trial := none } } := Good.mk' { h.flat with active := h.standby, standby := h.active }
  refine State_finishPend_good (State_syncFw_good (State_updFuses_good h1 ?_ ?_ ?_ ?_))
  · exact h.lifecycle
  · exact h.ownerSlot
  · dsimp only; omega
  · exact ⟨Nat.le_refl _, by dsimp only; omega, Nat.le_refl _, id, fun _ => rfl, rfl, rfl, rfl⟩

theorem State_trialRevert_good {s0 s : State} {t} (h : Good s0 s) : Good s0 (s.trialRevert t) := by
  unfold State.trialRevert
  have h1 : Good s0 (s.each t.moved fun s d => s.mbReset d .core) := each_good (fun _ _ k => State_mbReset_good k) h
  dsimp only
  generalize (s.each t.moved fun s d => s.mbReset d .core) = s1 at h1
  exact State_finishPend_good (State_auditOwn_good (wr_good _ _ _ (State_syncFw_good
    (Good.mk' { h1.flat with standby := h1.standby }))))

theorem execFwDieRejoin_good {s0 s : State} {d o} (h : Good s0 s) : GoodO s0 (execFwDieRejoin d o s) := by
  unfold execFwDieRejoin
  have h1 (t) : Good s0 { s with nv := { s.nv with trial := t } } := Good.mk' h.flat
  split
  · exact next_good h
  · rename_i t _
    refine iteO_good (next_good h) (iteO_good (next_good (State_trialRevert_good h)) ?_)
    extract_lets t2 _ s2
    have h2 : Good s0 s2 := h1 _
    clear_value s2
    split
    · exact next_good (State_trialRestart_good h2)
    · exact iteO_good (next_good (State_trialDone_good h2)) (next_good (State_sbPush_good h2))

theorem execFwRejoinTimeout_good {s0 : State} {a0 a1} (ha1 : Good s0 a1) : GoodO s0 (@execFwRejoinTimeout a0 a1) := by
  unfold execFwRejoinTimeout
  repeat' first
    | with_reducible (first
        | assumption | intro _ | apply State_trialRevert_good | apply next_good | apply ite_good | apply iteR_good
        | apply iteP_good | apply iteO_good)
    | split
    | (with_reducible refine Good.mk' (Good.flat ?_))

theorem applyShutdown_good {s0 : State} {a0 a1 a2 a3} (ha3 : Good s0 a3) :
    Good s0 (@applyShutdown a0 a1 a2 a3).state := by
  unfold applyShutdown
  repeat' first
    | with_reducible (first
        | assumption | intro _ | apply State_auditOwn_good | apply State_laneDown_good | apply Res_pending_good
        | apply each_good | apply next_good | apply ite_good | apply iteR_good | apply iteP_good | apply iteO_good)
    | split
    | (with_reducible refine Good.mk' (Good.flat ?_))

theorem execShutdown_good {s0 : State} {a0 a1 a2} (ha2 : Good s0 a2) : GoodO s0 (@execShutdown a0 a1 a2) := by
  unfold execShutdown
  repeat' first
    | with_reducible (first
        | assumption | intro _ | apply State_shutFollow_good | apply Slostan_run_good | apply applyShutdown_good
        | apply next_good | apply ite_good | apply iteR_good | apply iteP_good | apply iteO_good)
    | split
    | (with_reducible refine Good.mk' (Good.flat ?_))

theorem State_commitDone_good {s0 : State} {a0} (ha0 : Good s0 a0) : Good s0 (@State.commitDone a0) := by
  unfold State.commitDone
  repeat' first
    | with_reducible (first
        | assumption | intro _ | apply State_syncNvm_good | apply State_finishPend_good | apply next_good
        | apply ite_good | apply iteR_good | apply iteP_good | apply iteO_good)
    | split
    | (with_reducible refine Good.mk' (Good.flat ?_))

theorem execVintageCommitDone_good {s0 : State} {a0} (ha0 : Good s0 a0) : GoodO s0 (@execVintageCommitDone a0) := by
  unfold execVintageCommitDone
  repeat' first
    | with_reducible (first
        | assumption | intro _ | apply State_commitDone_good | apply next_good | apply ite_good | apply iteR_good
        | apply iteP_good | apply iteO_good)
    | split
    | (with_reducible refine Good.mk' (Good.flat ?_))

theorem State_skipTest_good {s0 : State} {a0 a1} (ha0 : Good s0 a0) : Good s0 (@State.skipTest a0 a1) := by
  unfold State.skipTest
  repeat' first
    | with_reducible (first
        | assumption | intro _ | apply State_putTest_good | apply next_good | apply ite_good | apply iteR_good
        | apply iteP_good | apply iteO_good)
    | split
    | (with_reducible refine Good.mk' (Good.flat ?_))

theorem State_enterOff_good {s0 s : State} (h : Good s0 s) : Good s0 s.enterOff := by
  unfold State.enterOff
  have h1 : Good s0 (((s.zeroiseAll).endAllSessions.portTo .a 0).portTo .b 0) :=
    State_portTo_good (State_portTo_good (State_endAllSessions_good (State_zeroiseAll_good h)))
  dsimp only
  generalize (((s.zeroiseAll).endAllSessions.portTo .a 0).portTo .b 0) = s1 at h1
  refine Good.mk' { Good.flat (each_good (fun _ _ k => ?_) h1) with loading := rfl }
  exact emit_good _ (State_updPwr_good (State_fabricOff_good (State_pllsStop_good (wr_good _ _ _ (wr_good _ _ _ (wr_good _ _ _ k))))))

theorem State_endShutdown_good {s0 : State} {a0 a1} (ha0 : Good s0 a0) : Good s0 (@State.endShutdown a0 a1) := by
  unfold State.endShutdown
  repeat' first
    | with_reducible (first
        | assumption | intro _ | apply State_commitDone_good | apply State_finishTest_good
        | apply State_skipTest_good | apply State_enterOff_good | apply State_finishPend_good | apply each_good
        | apply next_good | apply ite_good | apply iteR_good | apply iteP_good | apply iteO_good)
    | split
    | (with_reducible refine Good.mk' (Good.flat ?_))

theorem execShutdownComplete_good {s0 : State} {a0 a1} (ha1 : Good s0 a1) :
    GoodO s0 (@execShutdownComplete a0 a1) := by
  unfold execShutdownComplete
  repeat' first
    | with_reducible (first
        | assumption | intro _ | apply State_endShutdown_good | apply State_shutFollow_good | apply next_good
        | apply ite_good | apply iteR_good | apply iteP_good | apply iteO_good)
    | split
    | (with_reducible refine Good.mk' (Good.flat ?_))

theorem execSelftestDone_good {s0 : State} {a0 a1} (ha1 : Good s0 a1) : GoodO s0 (@execSelftestDone a0 a1) := by
  unfold execSelftestDone
  repeat' first
    | with_reducible (first
        | assumption | intro _ | apply State_shutFollow_good | apply State_endShutdown_good
        | apply State_finishTest_good | apply State_finishPend_good | apply next_good | apply ite_good
        | apply iteR_good | apply iteP_good | apply iteO_good)
    | split
    | (with_reducible refine Good.mk' (Good.flat ?_))

theorem State_packageReset_good {s0 s : State} {aon cut} (h : Good s0 s) : Good s0 (s.packageReset aon cut) := by
  unfold State.packageReset
  have h1 : Good s0 ((s.each s.popDies fun s d => s.incomplete d).cutCommit.cutLimit cut) :=
    State_cutLimit_good (State_cutCommit_good (each_good (fun _ _ k => State_incomplete_good k) h))
  dsimp only
  generalize (s.each s.popDies fun s d => s.incomplete d).cutCommit.cutLimit cut = s1 at h1
  have hs : (if s1.nv.loading.isSome then { s1.nv.standby with valid := false } else s1.nv.standby).ok = true := by
    split <;> exact h1.standby
  generalize (if s1.nv.loading.isSome then { s1.nv.standby with valid := false } else s1.nv.standby) = sby at hs
  refine State_updExtrap_good (each_good (fun _ _ k => State_ldisFollow_good k) (ite_good ?_ (each_good (fun _ _ k => wr_good _ _ _ k) ?_)))
  all_goals exact Good.mk' ⟨h1.part, h1.pending, h1.out, NMap.drop_wf (fun k => !(if aon then keyPin k else keyKept k)) h1.regs, rfl, rfl,
    h1.cal, h1.ring, h1.run, h1.commits, h1.lifecycle, h1.ownerSlot, h1.secver, h1.since, h1.active, hs, rfl⟩

theorem execResetNFall_good {s0 : State} {a0 a1} (ha1 : Good s0 a1) : GoodO s0 (@execResetNFall a0 a1) := by
  unfold execResetNFall
  repeat' first
    | with_reducible (first
        | assumption | intro _ | apply State_packageReset_good | apply next_good | apply ite_good | apply iteR_good
        | apply iteP_good | apply iteO_good)
    | split
    | (with_reducible refine Good.mk' (Good.flat ?_))

theorem execPowerOnResetRelease_good {s0 : State} {a0} (ha0 : Good s0 a0) :
    GoodO s0 (@execPowerOnResetRelease a0) := by
  unfold execPowerOnResetRelease
  repeat' first
    | with_reducible (first
        | assumption | intro _ | apply State_fresh_good | apply State_packageReset_good | apply next_good
        | apply ite_good | apply iteR_good | apply iteP_good | apply iteO_good)
    | split
    | (with_reducible refine Good.mk' (Good.flat ?_))

theorem State_startElect_good {s0 s : State} {m} (h : Good s0 s) : Good s0 (s.startElect m) := by
  unfold State.startElect
  have h1 : Good s0 (s.each s.popDies fun s d =>
    let s := (s.setHealthy d true).wrB d DIE_STAT_FW_VALID (s.fwFound m d)
    let s := ((s.wr d CLK_PLL_STAT_SYS_LOCK 1).wr d CLK_PLL_STAT_HOST_LOCK 1).wr d CLK_PLL_STAT_REF_OK 1
    let s := if d.val < 2 then s.wr d CLK_PLL_STAT_MGMT_LOCK 1 else s
    (s.fabricOn d).updDie d fun x => { x with sb := { x.sb with lastHb := s.time.now } }) := by
    refine each_good (fun s d k => ?_) h
    extract_lets a b c
    have ha : Good s0 a := State_wrB_good (State_setHealthy_good k)
    clear_value a
    have hb : Good s0 b := wr_good _ _ _ (wr_good _ _ _ (wr_good _ _ _ ha))
    clear_value b
    have hc : Good s0 c := ite_good (wr_good _ _ _ hb) hb
    clear_value c
    exact State_updDie_good (State_fabricOn_good hc)
  extract_lets s1 _ s2 s3
  change Good s0 s1 at h1
  have h3 : Good s0 s3 := State_firstLeader_good (Good.mk' h1.flat)
  clear_value s3
  refine ite_good h3 (ite_good h3 (Good.mk' { h3.flat with active := h3.standby, standby := h3.active }))

theorem State_startLoad_good {s0 : State} {a0} (ha0 : Good s0 a0) : Good s0 (@State.startLoad a0) := by
  unfold State.startLoad
  repeat' first
    | with_reducible (first
        | assumption | intro _ | apply State_syncNvm_good | apply State_syncFw_good | apply State_syncFuse_good
        | apply wr_good | apply State_auditOwn_good | apply State_loadTest_good | apply State_loadLimit_good
        | apply loadCal_good | apply State_loadUnits_good | apply each_good | apply next_good | apply ite_good
        | apply iteR_good | apply iteP_good | apply iteO_good)
    | split
    | (with_reducible refine Good.mk' (Good.flat ?_))

theorem State_quickRecord_good {s0 : State} {a0 a1} (ha0 : Good s0 a0) : Good s0 (@State.quickRecord a0 a1) := by
  unfold State.quickRecord
  repeat' first
    | with_reducible (first
        | assumption | intro _ | apply State_putTest_good | apply next_good | apply ite_good | apply iteR_good
        | apply iteP_good | apply iteO_good)
    | split
    | (with_reducible refine Good.mk' (Good.flat ?_))

theorem State_applyChoice_good {s0 s : State} {n b} (h : Good s0 s) : Good s0 (State.applyChoice n b s).1 := by
  induction n generalizing b with
  | zero => exact h
  | succ n ih =>
    unfold State.applyChoice
    generalize s.choose b = q
    obtain ⟨src, slot⟩ := q
    dsimp -zeta only
    extract_lets body q
    have hq : Good s0 q.state := State_applyBody_good h
    clear_value q
    split
    · exact ih
    · exact hq

theorem State_repair_good {s0 : State} {a0 a1} (ha0 : Good s0 a0) : Good s0 (@State.repair a0 a1) := by
  unfold State.repair
  repeat' first
    | with_reducible (first
        | assumption | intro _ | apply wr_good | apply State_syncNvm_good | apply next_good | apply ite_good
        | apply iteR_good | apply iteP_good | apply iteO_good)
    | split
    | (with_reducible refine Good.mk' (Good.flat ?_))

theorem State_startVintage_good {s0 s : State} (h : Good s0 s) : Good s0 s.startVintage := by
  unfold State.startVintage
  have hq := State_applyChoice_good (n := 9) (b := []) h
  generalize State.applyChoice 9 [] s = q at hq
  obtain ⟨t, src, slot, body, bad⟩ := q
  dsimp only at hq ⊢
  have h1 : Good s0 (t.each ((List.range 8).filter fun k => t.slotUsed k && (!t.slotValid k || bad.contains k))
      fun s k => (s.wr 0 NVM_STAT_SKIPPED 1).auditOwn 5 k) :=
    each_good (fun _ _ k => State_auditOwn_good (wr_good _ _ _ k)) hq
  generalize (t.each ((List.range 8).filter fun k => t.slotUsed k && (!t.slotValid k || bad.contains k))
      fun s k => (s.wr 0 NVM_STAT_SKIPPED 1).auditOwn 5 k) = s1 at h1
  refine State_takeEther_good (Good.mk' (Good.flat (wr_good _ _ _ (wr_good _ _ _ ?_))))
  split
  · exact State_repair_good h1
  · exact h1

theorem State_startOpen_good {s0 : State} {a0} (ha0 : Good s0 a0) : Good s0 (@State.startOpen a0) := by
  unfold State.startOpen
  repeat' first
    | with_reducible (first
        | assumption | intro _ | apply State_auditOwn_good | apply wr_good | apply State_powerEval_good
        | apply State_portTo_good | apply State_fireCommand_good | apply State_chooseSuccessor_good
        | apply State_bringUp_good | apply each_good | apply next_good | apply ite_good | apply iteR_good
        | apply iteP_good | apply iteO_good)
    | split
    | (with_reducible refine Good.mk' (Good.flat ?_))

theorem State_recover_good {s0 : State} {a0} (ha0 : Good s0 a0) : Good s0 (@State.recover a0) := by
  unfold State.recover
  repeat' first
    | with_reducible (first
        | assumption | intro _ | apply State_startLoad_good | apply wr_good | apply State_portTo_good
        | apply next_good | apply ite_good | apply iteR_good | apply iteP_good | apply iteO_good)
    | split
    | (with_reducible refine Good.mk' (Good.flat ?_))

theorem execStartUp_good {s0 : State} {a0 a1 a2} (ha2 : Good s0 a2) : GoodO s0 (@execStartUp a0 a1 a2) := by
  unfold execStartUp
  repeat' first
    | with_reducible (first
        | assumption | intro _ | apply State_recover_good | apply State_startElect_good | apply State_startLoad_good
        | apply State_finishTest_good | apply State_safePowered_good | apply State_startVintage_good
        | apply State_quickRecord_good | apply State_startOpen_good | apply each_good | apply next_good
        | apply ite_good | apply iteR_good | apply iteP_good | apply iteO_good)
    | split
    | (with_reducible refine Good.mk' (Good.flat ?_))

theorem opAll_good {s0 s t : State} {c i body} (e : opAll s c = some (i, body)) (r : Req) (x : Session) (h : Good s0 t) :
    Good s0 (body r x t).state := by
  unfold opAll at e
  split at e
  case h_10 => exact opOf_good e r x h
  all_goals
    cases e
    repeat' first
      | with_reducible (first
          | assumption | intro _ | apply applyVintageCommit_good | apply applyVintageRestore_good
          | apply applyVintagePrefer_good | apply applyVintageDelete_good | apply applyShutdown_good
          | apply applyLifecycleAdvance_good | apply applyCleartextWithdraw_good | apply applyOwnerCertSet_good
          | apply applyFwActivate_good | apply opOf_good | apply next_good | apply ite_good | apply iteR_good
          | apply iteP_good | apply iteO_good)
      | split

theorem execStagedCommand_good {s0 s : State} {c} (h : Good s0 s) : GoodO s0 (execStagedCommand c s) := by
  unfold execStagedCommand
  split
  · rename_i e
    exact iteO_good (next_good (State_doRestarts_good (State_fireCommand_good
      (Slostan_run_good (fun r x _ k => opAll_good e r x k) h)))) (next_good h)
  · exact next_good h

theorem State_runStaged_good {s0 s : State} {ch c} (h : Good s0 s) : Good s0 (s.runStaged ch c).state := by
  unfold State.runStaged
  split
  · rename_i e _
    split
    · exact h
    · refine iteR_good h ?_
      split
      · exact Res_badParam_good h
      · exact iteR_good h (iteR_good h (opAll_good e _ _ (State_cntPkg_good h)))
  · exact h

theorem Res_keep_good {s0 : State} {a0 a1 a2} (ha0 : Good s0 a0.state) : Good s0 (@Res.keep a0 a1 a2) := by
  unfold Res.keep
  repeat' first
    | with_reducible (first
        | assumption | intro _ | apply Res_state_good | apply next_good | apply ite_good | apply iteR_good
        | apply iteP_good | apply iteO_good)
    | split
    | (with_reducible refine Good.mk' (Good.flat ?_))

theorem State_runAll_good {s0 s : State} {x b l} (h : Good s0 s) : Good s0 (State.runAll x b l s).1 := by
  induction l generalizing s with
  | nil => exact h
  | cons a l ih =>
    unfold State.runAll
    extract_lets q
    have hq : Good s0 q.state := State_runStaged_good h
    clear_value q
    split
    · exact h
    · exact ih (Res_keep_good hq)

theorem State_auditOne_good {s0 : State} {a0 a1 a2 a3} (ha0 : Good s0 a0) :
    Good s0 (@State.auditOne a0 a1 a2 a3) := by
  unfold State.auditOne
  repeat' first
    | with_reducible (first
        | assumption | intro _ | apply State_auditCode_good | apply next_good | apply ite_good | apply iteR_good
        | apply iteP_good | apply iteO_good)
    | split
    | (with_reducible refine Good.mk' (Good.flat ?_))

theorem State_notApplied_good {s0 : State} {a0 a1 a2 a3 a4} (ha0 : Good s0 a0) :
    Good s0 (@State.notApplied a0 a1 a2 a3 a4).state := by
  unfold State.notApplied
  repeat' first
    | with_reducible (first
        | assumption | intro _ | apply State_auditStaged_good | apply next_good | apply ite_good | apply iteR_good
        | apply iteP_good | apply iteO_good)
    | split
    | (with_reducible refine Good.mk' (Good.flat ?_))

theorem applyCommit_good {s0 s : State} {r x} (h : Good s0 s) : Good s0 (applyCommit r x s).state := by
  unfold applyCommit
  split
  · exact iteR_good (State_updSession_good h) h
  · rename_i t _
    extract_lets s1
    have h1 : Good s0 s1 := State_updSession_good h
    clear_value s1
    split
    · exact State_notApplied_good h1
    · have hq := State_runAll_good (x := x) (b := t.mode == .atomic) (l := t.staged) h1
      generalize State.runAll x (t.mode == .atomic) t.staged s1 = q at hq
      obtain ⟨u, k⟩ := q
      dsimp -zeta only
      split
      · exact State_notApplied_good h1
      · exact Res_okWith_good (foldl_good (fun _ _ k => State_auditOne_good k) hq)

theorem execCommit_good {s0 : State} {a0 a1} (ha1 : Good s0 a1) : GoodO s0 (@execCommit a0 a1) := by
  unfold execCommit
  repeat' first
    | with_reducible (first
        | assumption | intro _ | apply State_doRestarts_good | apply State_fireCommand_good | apply Slostan_run_good
        | apply applyCommit_good | apply next_good | apply ite_good | apply iteR_good | apply iteP_good
        | apply iteO_good)
    | split
    | (with_reducible refine Good.mk' (Good.flat ?_))

end Sys2Proof.Machine
end

