-- ==== Sys2Proof/WellFormed.lean ====
section
/-! DEFINITION. Well-formed commands: every value fits the field that carries it (R394), and a list has the length that
its packet or its measurement gives it. What lies in range but is not allowed is the interpreter's to refuse (R362). -/

namespace Sys2Proof

/-- Whether a number fits a field of `n` bytes. -/
def fits (n v : Nat) : Bool := decide (v < 256 ^ n)

/-- Whether a number fits a signed byte, or two. -/
def fitsS8 (v : Int) : Bool := decide (-128 ≤ v ∧ v ≤ 127)
def fitsS16 (v : Int) : Bool := decide (-32768 ≤ v ∧ v ≤ 32767)

/-- Whether a command is well formed; the rows at the end carry values whose types hold nothing else. -/
def Instr.wf : Instr → Bool
  | .ping _ echo => echo.all fun b => decide (b.length ≤ 64)
  | .secureHello _ nonce point cert _ => decide (nonce.length = 32 ∧ point.length = 97 ∧ cert.length ≤ 1200)
  | .secureFinish _ _ sig mac => decide (sig.length = 96 ∧ mac.length = 48)
  | .slostanCfgSet _ _ idle _ => idle.all (fits 2)
  | .hostLaneSet _ lane eq _ => fits 1 lane && eq.all fun e => fits 1 e.1 && fits 1 e.2.1 && fits 1 e.2.2
  | .lineTxSet _ _ force swing shape _ adaptEn => [force, swing, shape, adaptEn].all fun v => v.all (fits 1)
  | .lineRxSet _ _ capThr losThr bw fastEn fbSuggest => [capThr, losThr, bw, fastEn, fbSuggest].all (fits 1)
  | .lineRealign _ lane => fits 1 lane
  | .claim _ claims lease => claims.all (fun c => fits 1 c.cls && fits 1 c.inst) && lease.all (fits 4)
  | .release _ claims => claims.all fun c => fits 1 c.cls && fits 1 c.inst
  | .stagedCommand c => c.wf
  | .vintageCommit _ slot label => fits 1 slot && label.all fun b => decide (b.length ≤ 32)
  | .vintageRestore _ slot => fits 1 slot
  | .vintagePrefer _ slot => fits 1 slot
  | .vintageDelete _ slot => fits 1 slot
  | .powerPolicySet _ groups => groups.all fun g => fits 4 g.budget
  | .wakeCmpSet _ _ cmps _ => cmps.all fun c => fits 1 c.ainSel && fits 1 c.thr && fits 1 c.hyst
  | .keyPskSet _ psk => decide (psk.length = 32)
  | .keyLifeSet _ frameLog2 timeLimit => frameLog2.all (fits 1) && timeLimit.all (fits 2)
  | .cipherSfClear _ lane => fits 1 lane
  | .dacChSet _ _ ch cfg => fits 1 ch && fits 1 cfg.range && fits 2 cfg.park && fits 2 cfg.clear
  | .dacWrite _ _ ch codes => fits 1 ch && decide (1 ≤ codes.length ∧ codes.length ≤ 32) && codes.all (fits 2)
  | .dacWaveSet _ _ ch wave => fits 1 ch && fits 1 wave.shape && [wave.span, wave.offset, wave.point].all (fits 2) && fits 4 wave.rate
      && fits 4 wave.relPhase
  | .madcConvert _ _ conv input preset => fits 1 conv && fits 1 input && preset.all (fits 1)
  | .madcSeqSet _ _ conv entries preset => fits 1 conv && (entries.all fun e => fits 1 e.input && fits 1 e.ts && fits 1 e.gain) && preset.all (fits 1)
  | .madcTriggerSet _ _ conv source delay period => fits 1 conv && fits 1 source && fits 2 delay && period.all (fits 4)
  | .madcCalibrate _ _ conv _ => fits 1 conv
  | .madcRead _ _ conv count => fits 1 conv && count.all (fits 2)
  | .madcTestdacSet _ _ conv code => fits 1 conv && fits 2 code
  | .eventSubscribe _ rate sevMin _ => fits 2 rate && sevMin.all (fits 1)
  | .eventFilterSet _ _ sevMin rate => sevMin.all (fits 1) && rate.all (fits 2)
  | .intervalSet _ us _ => us.all (fits 4)
  | .counterRead _ first count => fits 2 first && fits 2 count
  | .tagSet _ k _ => fits 1 k
  | .tagRead _ _ count => count.all (fits 2)
  | .topdownRead _ lane => fits 1 lane
  | .safetyLimitSet _ limits => limits.all fun e => fits 1 e.lane && fits 1 e.input && decide (-2 ^ 31 ≤ e.code ∧ e.code < 2 ^ 31)
  | .safetyReset _ lane _ => fits 1 lane
  | .nodeSet _ node => fits 2 node
  | .routeSet _ routes => routes.all fun e => fits 2 e.1
  | .laserCeilingSet _ ceilings => ceilings.all fun c => fits 1 c.1 && fits 2 c.2
  | .ownerKeySet _ key => decide (key.length = 97)
  | .ownerCertSet _ cert => decide (cert.length ≤ 1200)
  | .auditRead _ first count => fits 2 first && fits 2 count
  | .patternSet _ _ pattern lane => fits 1 pattern && fits 1 lane
  | .patternStatusGet _ _ lane => fits 1 lane
  | .errorInject _ kind lane count => fits 1 kind && fits 1 lane && fits 4 count
  | .loopbackSet _ lane mode => fits 1 lane && fits 1 mode
  | .captureSet _ lane cfg => fits 1 lane && fits 1 cfg.point && fits 1 cfg.trigger && fits 2 cfg.len && fits 2 cfg.pre
  | .captureRead _ lane => fits 1 lane
  | .regRead _ _ count => count.all (fits 2)
  | .txBankLoad _ lane bank coeffs _ => fits 1 lane && fits 1 bank && coeffs.all fitsS16
  | .txAdaptSet _ lane _ => fits 1 lane
  | .txPdLoad _ lane bank coeffs _ => fits 1 lane && fits 1 bank && coeffs.all fitsS16
  | .txMaskSet _ lane lims action => fits 1 lane && decide (lims.length = 8) && lims.all (fits 1) && fits 1 action
  | .rxBankLoad _ lane bank main coeffs _ fade => fits 1 lane && fits 1 bank && fits 1 main && coeffs.all fitsS16 && fade.all fun f => fits 1 f.1 && fits 1 f.2
  | .rxBankSwap _ lane bank fade => fits 1 lane && fits 1 bank && fade.all fun f => fits 1 f.1 && fits 1 f.2
  | .rxAdaptSet _ lane _ enables dfe nle => fits 1 lane && enables.all (fits 1) && dfe.all (fun f => fitsS8 f.1 && fitsS8 f.2)
      && nle.all fun l => decide (l.length = 6) && l.all fitsS16
  | .rxPathSet _ lane pin clear maxTries tryFrames => [lane, pin, clear, maxTries, tryFrames].all (fits 1)
  | .rxBankRead _ lane kind index => [lane, kind, index].all (fits 1)
  | .decPoolSet _ lane cap manFence => [lane, cap, manFence].all (fits 1)
  | .frameLockSet _ lane tol lockN lossN slipWin => [lane, tol, lockN, lossN, slipWin].all (fits 1)
  | .deskewSet _ lane guard => fits 1 lane && fits 2 guard
  | .toppingSet _ rxEn copyHold => fits 1 rxEn && fits 1 copyHold
  | .arbSet _ _ arbs => arbs.all fun a => fits 1 a.1 && fits 1 a.2
  | .timebaseSet _ ns frac => fits 8 ns && fits 2 frac
  | .dacCodeWrite _ _ _ code => decide (code < 4096)
  | .dacQueuePush _ _ _ code => decide (code < 4096)
  | .counterWriteCommit _ _ hi => fits 4 hi
  | .chunk _ opcode offset total _ _ => fits 2 opcode && fits 4 offset && fits 4 total
  | .jeuriHello _ _ hops _ hello => fits 1 hops && fits 2 hello.node && fits 2 hello.root && fits 1 hello.rootHops && fits 2 hello.helloMs
  | .jeuriRoutes _ _ ads => ads.all fun a => fits 2 a.node && fits 1 a.hops
  | .jeuriData _ hops _ => fits 1 hops
  | .maskMeasurement _ powers => decide (powers.length = 8)
  | .losDeclare _ powers => decide (powers.length = 8)
  | .losClear _ powers => decide (powers.length = 64)
  | .captureStep _ before after _ => decide (before.length = 16 ∧ after.length = 2)
  | .blindEqConverged _ coefs => decide (coefs.length = 41) && coefs.all fitsS16
  | .interleaverGroupQueue _ group samples => decide (group < 16 ∧ samples.length = 82656)
  | .decodeDone _ _ _ _ result _ => decide (result.length = 40)
  | .hostCodewordReceive _ _ _ units => decide (units.length = 20)
  | .mailboxPost _ _ _ _ _ msg => decide (msg.words.length ≤ 31)
  | .sessionOpen .. | .sessionClose .. | .profileSet .. | .profileChangeDone .. | .lineUp .. | .portPlanSet ..
  | .lineDown .. | .lineStatusGet .. | .leaseRenew .. | .begin .. | .commit .. | .abort .. | .vintageCommitDone ..
  | .vintageList .. | .powerStateGet .. | .shutdown .. | .cipherPolicySet .. | .keyModeSet .. | .keyRetainSet ..
  | .keyZeroise .. | .keyAgreeStart .. | .keyRack .. | .cipherStatusGet .. | .dacRangeSwitch .. | .dacParkEnd ..
  | .dacStatusGet .. | .eventAck .. | .eventUnsubscribe .. | .eventNotify .. | .timeGet .. | .safetyStatusGet ..
  | .selftestRun .. | .selftestResultGet .. | .routeGet .. | .mgmtPortSet .. | .mgmtStatusGet .. | .neighbourGet ..
  | .lifecycleAdvance .. | .cleartextWithdraw .. | .nodeIdentitySet .. | .ownerKeyRevoke .. | .fwLoad ..
  | .fwLoadDone .. | .fwActivate .. | .fwDieRejoin .. | .fwRejoinTimeout .. | .limitsGet .. | .captureDone ..
  | .regWrite .. | .arbStatusGet .. | .firSwap .. | .pdSwap .. | .launchDelayWrite .. | .fadeReq .. | .pathClear ..
  | .manFenceWrite .. | .mgmtRestart .. | .swClr .. | .injStart .. | .madcFifoRead .. | .injResRead ..
  | .clearAll .. | .cntLatLoRead .. | .frameCountLoRead .. | .patgCountLoRead .. | .timeLoRead ..
  | .mgmtFrameReceive .. | .slostanRequestArrival .. | .chunkTransferTimeout .. | .secureHelloTimeout ..
  | .sessionIdleTimeout .. | .leaseExpiry .. | .portDownClaimRelease .. | .safetyEventResend .. | .helloInterval ..
  | .neighbourDead .. | .triggerHoldoffEnd .. | .routesRefresh .. | .routeAgeOut .. | .kxHello .. | .kxResponse ..
  | .kxConfirm .. | .kxAck .. | .kxAbort .. | .kxResyncReq .. | .keyAgreeTimeout .. | .keyAgreeBackoffEnd ..
  | .keyLifeThreshold .. | .keyExpired .. | .rackChangeover .. | .rxOldKeyZeroise .. | .retainedKeyExpiry ..
  | .frameTransmit .. | .txHoldEnd .. | .adaptHoldEnd .. | .noFeedbackTimeout .. | .firSuggestion ..
  | .captureStepForget .. | .gainSettled .. | .freqFound .. | .acqTimeout .. | .markerCandidate .. | .frameLock ..
  | .markerCheck .. | .fastReacqTryEnd .. | .pathMemoryRefresh .. | .adcSpareHandover .. | .adcSubRetired ..
  | .fadeStart .. | .fadeEnd .. | .frameReceiveOverhead .. | .engineWatchdog .. | .engineSliceDone ..
  | .engineSliceStart .. | .checkerSelfTest .. | .frameRelease .. | .deskewAlignRetry .. | .deskewSlewStep ..
  | .erasureNotice .. | .toppingWindowEnd .. | .treeChange .. | .cipherPipeCheck .. | .cipherSliceDone ..
  | .hostLaneLoss .. | .hostLaneRecover .. | .hostPairOffset .. | .sbSlotArbitration .. | .sbReq .. | .sbRsp ..
  | .sbReqResend .. | .mbAck .. | .mailboxReceiverReset .. | .mbMutualFull .. | .heartbeat ..
  | .heartbeatReceive .. | .heartbeatTimeout .. | .elect .. | .electionWindowClose .. | .mirror ..
  | .sbSafetyBroadcast .. | .sbDeadlineMissed .. | .sbStarvation .. | .d2dTransferReceive .. | .d2dLinkDown ..
  | .d2dRetrain .. | .d2dLinkUp .. | .telemetryBoundary .. | .latch .. | .snapshotComplete .. | .syncInEdge ..
  | .slowClockCalibrated .. | .crystalStart .. | .crystalFail .. | .refclkLost .. | .refclkHoldoverEnd ..
  | .refclkReturn .. | .pllLock .. | .dieStateEntryDone .. | .wakeSource .. | .wakeDone .. | .wakeCmpTrip ..
  | .thermalConversion .. | .safetyConversion .. | .safetyConversionMissing .. | .comparatorTest ..
  | .emissionTrip .. | .sfLArmed .. | .ldisStuck .. | .safeMonFault .. | .lockstepMismatch .. | .supplyFault ..
  | .memScrub .. | .selftestOverdue .. | .selftestDone .. | .dacUpdate .. | .dacShort .. | .clrNAssert ..
  | .clrNRelease .. | .madcTimer .. | .madcTriggerDelayEnd .. | .madcConversionDone .. | .madcInjectedTrigger ..
  | .madcCalibrationDone .. | .mgmtSignalDetect .. | .mgmtTrainingComplete .. | .mgmtTrainFail ..
  | .mgmtBackoffEnd .. | .mgmtLinkUp .. | .mgmtLinkDown .. | .lpiIdleTimer .. | .powerOnResetRelease ..
  | .resetNFall .. | .startUp .. | .eccErrorAtAccess .. | .pllLockLost .. | .vintageRestoreDone ..
  | .shutdownComplete .. | .hostTxBlockDue .. | .mgmtSignalLoss .. | .mgmtPartnerLpi .. | .wakeCmpRearm ..
  | .mailboxMessageRead .. | .markerConfirmation .. | .patternCheckerSync .. => true

end Sys2Proof
end

