-- ==== Sys2Proof/Tests/Slice0.lean ====
section
/-! SUPPORT. The model's own tests: what the well-formedness checks refuse, values that the spec states, and for every
statement with hypotheses states and operands that meet them. -/

set_option Elab.async false

namespace Sys2Proof.Tests
open Sys2Proof.Machine

/-! ### States and operands that the tests use -/

def wQ : Req := ⟨.portA, 0x80#8, 1#16, 0x10#16, .good, [], 5, none⟩
def wQ0 : Req := ⟨.portA, 0#8, 1#16, 0x10#16, .good, [], 5, none⟩
def wS : Session :=
  { channel := 0x80#8, secure := true, src := 0x10#16, mac := 5, medium := .portA, priv := .custodian, restricted := false,
    lastAt := 2 ^ 90, seqLast := none, cache := [], leaseMs := 1000, leaseUntil := 2 ^ 100, claims := [], leaseLost := false,
    txn := none, txnLost := false, chunk := none, keys := none, txNum := 0, rxHigh := 0, rxSeen := [], vlan := none,
    closing := false, noRouteAt := none }
def wSess (x : Session) : State :=
  { (State.reset.wr 0 SB_STAT_HEALTHY 0xFF) with
      phase := .ready
      sl := { State.reset.sl with sessions := [x], execQ := [⟨0, 1, wQ⟩] }
      nv := { State.reset.nv with fuses := { State.reset.nv.fuses with packageId := 1, macA := 2, macB := 3 } } }
def wB : State := wSess wS
/-- A request stands in the execution queue (R367). -/
def asks (r : Req) (s : State) : State := { s with sl := { s.sl with execQ := [⟨0, 1, r⟩] } }
def wSc : Session := { wS with claims := [⟨5, 0⟩], noRouteAt := some 0 }
def wSt : Session := { wSc with txn := some ⟨.atomic, [], none⟩ }
def wHs : Handshake := ⟨0x91, .portA, 5, none, 0x10, 0, 0, .observer, false, [], [], ⟨[], []⟩, []⟩
def wChunk : ChunkXfer := ⟨0x0A08, 100, [1#8, 2#8], 0⟩
def wEv : EvRec := ⟨1, .safety, false, false, false, 0, 1, []⟩
def wSub : Subscriber := ⟨0, 0x80, 100, 0, BitVec.allOnes 544, [], 2, [⟨1, wEv, 0⟩], 0, 0, 0⟩
def wSubbed : State := { wB with sl := { wB.sl with subs := [wSub] } }
def late (s : State) : State := { s with time := { s.time with now := 2 ^ 90 } }
def wSF : Session := { wS with src := 0xFFFF }
def wUp : State :=
  { (wSess wSF) with sl := { (wSess wSF).sl with subs := [wSub] } } |>.wr 0 MGMT_STAT_STATE 2
def wOutE : SbOut := ⟨1, 3, 0, 0, false, 0, 0⟩
def wOut : State := wB.updDie 0 fun x => { x with sb := { x.sb with outs := [wOutE] } }
def wMark (cls count : Nat) : State :=
  wB.updDie 0 fun x => { x with sb := { x.sb with reqs := [⟨cls, count, 2 ^ 30, false, 1, .mirror, 0, []⟩] } }
def wMsg : MbMsg := ⟨0, 0, []⟩
def wMail : State :=
  { wB with sb := { wB.sb with mail := [⟨0, .core, 1, .safe, List.replicate 4 wMsg, 0⟩, ⟨1, .safe, 0, .core, List.replicate 4 wMsg, 0⟩] } }
def wOwed : State := { wB with sb := { wB.sb with owed := [(0, .core, 1, .safe)] } }
def wLink : State := wB.setBit 0 D2D_PORT_STAT_UP 0 true
def wRep : HbReport := ⟨.active, true, false, false, false⟩
def wEl : Election := ⟨0, [(1, true)], none⟩
def wElr : Election := ⟨0, [(1, true)], some 0⟩
def wElect (n : Nat) : State := { wB with sb := { wB.sb with slot := n, election := some wEl }}
def wElected (s : State) : State := { s with sb := { s.sb with elected := true } }
def wFuse (g : Fuses → Fuses) : State := { wB with nv := { wB.nv with fuses := g wB.nv.fuses } }
def wNv (g : NvState → NvState) : State := { wB with nv := g wB.nv }
def wTrial : FwTrial := ⟨[], 7, 0, none⟩
def wTr : State := wNv fun n => { n with trial := some wTrial }
def wPark : DacPark := ⟨0, 1, false, 0⟩
def wParked (b : Bool) : State :=
  (late wB).updDac 0 0 fun x => { x with park := some { wPark with switched := b } }
def wSafe : State := (wB.wr 0 SAFE_LIMIT_VALID 1).updSafe 0 fun x =>
  { x with testedA := true, testedB := true, below := true }
def wHello : Hello := ⟨9, 17, false, true, 0, 0, 0, 3, 100⟩
def wNbr : Nbr := ⟨0, 0, 7, wHello, 0, false⟩
def wPort : State := (wB.wr 0 MGMT_STAT_STATE 2).wr 0 FAB_NODE 3
def wNbrs : State := { wPort with fab := { wPort.fab with nbrs := [wNbr] } }
def wInb : State := wB.updInb 0 fun x => { x with txq := [[1#8, 2#8]], rxSeq := some 5 }
def wSeg : Segment := ⟨true, false, true, 9, []⟩
def wRx (st : RxState) : State := late (wB.wr 0 LRX_STAT_ACQ_STATE (RxState.code st))
def wStd (s : State) : State := { s with profile := .standard }
def wLock (st : RxState) : State := (wRx st).wr 0 DEC_MARK_STAT_FLOCK 1
def wFade (f : Fade) : State := (wRx .locked).updRx 0 fun x => { x with fade := some f }
def wBank : List Int := [0, 0, 0, 30]
def wFullPath : State := ((wB.wr 0 LRX_PATH_STAT_VALID 255).wr 0 LRX_PATH_CTRL_PIN 255).updRx 0 fun x => { x with order := allDies }
def wJob : CwJob := ⟨0, 5, false, []⟩
def wEng (g : Engine → Engine) : State := wB.updEngine 0 1 g
def wKey : TKey := ⟨1, [], [], 0, 0⟩
def wKeys : State := wB.updKeys 0 fun _ => ⟨some wKey, none, [wKey]⟩
def wKxSt : State := ((wB.wr 0 LRX_STAT_ACQ_STATE (RxState.code .locked)).wr 0 CIPH_CFG_MODE 2)
def wAtt : Attempt :=
  { session := 7, epoch := 1, mode := .psk, start := 0, secret := some 0, nonce := [1#8], hello := [], response := [],
    confirm := [], peer := [], key := none, kci := [], kcr := [] }
def wRec : KxRec := ⟨1, 2, 7, 1, true, [1#8], [], [], [], [], [], 0, []⟩
def wKx (tx rx : Option Attempt) : State :=
  { (wKxSt.updKx fun x => { x with tx := tx, rx := rx }) with
      nv := { wKxSt.nv with psk := some [], fuses := { wKxSt.nv.fuses with lifecycle := 2 } } }
def wPow (d : Die) (st : PowerState) : State := wB.wr d PWR_STATE_CUR (PowerState.code st)
def wPlan : State := { late wB with plan := [⟨0, .w200⟩] }
def wDec : State := { wPlan with clockMode := .decoupled }
def wAl : State := wPlan.wr 0 DEC_DSK_STAT_ALIGNED 1
def wHdr : Header := ⟨1, 0, 0, 0, 9, 0, 0, 0, 0, false, false, false⟩
def wFrame : RxFrame :=
  { idx := 3, header := some wHdr, own := true, ohSeen := true, tag := 0, crc := 0, laneBad := false, seqBad := false, arrival := 0,
    done := 7, failed := 2, queued := 7, owed := [], rebuilt := 0, delivered := 0, corr := 0, iters := 0, attempts := 0, redone := 0, its := [], words := [], precode := false,
    seqExt := 0, policy := 0, starts := [], ends := [] }
def wAss : State := { late wB with profile := .assured }
def wRel (d : Die) : State := wAss.updTop d fun x => { x with rel := some wFrame }
def wHostP : State := wPlan.wr 0 (HOST_LANE_STAT_ALIGN_OK 0) 1
def wAvail : State := (((wAl.wr 0 DEC_MARK_STAT_FLOCK 1).updDie 0 fun x => { x with rxOut := { x.rxOut with avail := true } }).updPortQ 0
  fun q => { q with back := [Blocks.idle] })
def wMg (st : Nat) (g : PortSt → PortSt) : State := ((late wB).wr 0 MGMT_STAT_STATE st).updPort .a g
def wEth : EthFrame := ⟨0, 5, none, 0x88B5, [], 64, true⟩
def wUnderTest : State := wB.updDie 0 fun x => { x with safe := { x.safe with underTest := true } }
def wOutcome : TestOutcome := ⟨0, 0, 0, 0, 0, none, 1, 1⟩
def wSeqS : Session := { wSc with txn := some ⟨.sequence, [], none⟩ }
def wDoomS : Session := { wSc with txn := some ⟨.atomic, [], some (.badParam, 5)⟩ }
def wOff (d : Die) : State := wPow d .doze
def wAl0 : State := wAl
def wAlD : State := { wAl.wr 0 DEC_DSK_CTRL_GUARD 5 with clockMode := .decoupled }
def wAddr7 : Word := BitVec.ofNat 32 (2 ^ 26 + 7 * 2 ^ 18)
def wQuick : State :=
  { wNv fun n => { n with safety := { n.safety with tests := Vector.replicate 8 (some ⟨0, 0, 0, 0, 0, 0, 0, 0, 0⟩), passAt := Vector.replicate 8 (some 0) } } with
      phase := .inReset }

/-- A slot has come to a die (R461), and the state without it. -/
def came (dst src : Die) (m : SlotMsg) (s : State) : State := { s with sb := { s.sb with inbox := [⟨dst, src, m⟩] } }
def wRsp : SlotMsg := .rsp 1 3 false 0
def wPart : SlotMsg := .ctr 1 3 0 0 0 false false
def wBeat : SlotMsg := .heartbeat wRep none
def wReqM (a : Word) : SlotMsg := .req 1 3 true a 0
def wPools (g : RxFrame) : State := wB.updPool 0 fun x => { x with frames := [g] }
def wHeld (f : TopFrame) : State := (late wAss).updTop 7 fun x => { x with waiting := some f }
def wOver : Overhead := { header := wHdr, gcmTag := 0, payloadCrc := 0, mgmt := wSeg, feedback := ⟨0, 0, 0, 0, 0, [], false, false, 0⟩, topping := ⟨0, 0, false, 0⟩, copies := [] }
def wTop : TopFrame := ⟨9, (0, 0), .live, wOver, false, false⟩

/-! ### Well-formedness: for each check a command that it refuses -/

/-- Session, profile, claims, vintage and power groups. -/
theorem test_wf_refuses_sessions : ([
    .ping wQ (some (List.replicate 65 0)), .secureHello wQ [] [] [] .observer, .secureFinish wQ 1 [] [],
    .slostanCfgSet wQ none (some 65536) none, .hostLaneSet wQ 256 none none, .hostLaneSet wQ 0 (some (256, 0, 0)) none,
    .lineTxSet wQ 1 (some 256) none none none none, .lineTxSet wQ 1 none (some 256) none none none,
    .lineTxSet wQ 1 none none (some 256) none none, .lineTxSet wQ 1 none none none none (some 256),
    .lineRxSet wQ 1 256 10 0 0 0, .lineRealign wQ 256, .claim wQ [⟨256, 0⟩] none, .claim wQ [⟨0, 256⟩] none,
    .claim wQ [] (some (2 ^ 32)), .release wQ [⟨256, 0⟩], .stagedCommand (.lineRealign wQ 256), .vintageCommit wQ 256 none,
    .vintageCommit wQ 0 (some (List.replicate 33 0)), .vintageRestore wQ 256, .vintagePrefer wQ 256, .vintageDelete wQ 256,
    .powerPolicySet wQ [⟨1, false, 2 ^ 32⟩], .wakeCmpSet wQ 1 [⟨true, 256, 0, 0⟩] none,
    .wakeCmpSet wQ 1 [⟨true, 0, 256, 0⟩] none, .wakeCmpSet wQ 1 [⟨true, 0, 0, 256⟩] none] : List Instr).all
    (fun i => !i.wf) = true := by decide +kernel

/-- Cipher, housekeeping, telemetry, safety, fabric and lifecycle groups. -/
theorem test_wf_refuses_services : ([
    .keyPskSet wQ [], .keyLifeSet wQ (some 256) none, .keyLifeSet wQ none (some 65536), .cipherSfClear wQ 256,
    .dacChSet wQ 1 256 ⟨0, 0, 0⟩, .dacChSet wQ 1 0 ⟨256, 0, 0⟩, .dacChSet wQ 1 0 ⟨0, 65536, 0⟩,
    .dacChSet wQ 1 0 ⟨0, 0, 65536⟩, .dacWrite wQ 1 0 [], .dacWrite wQ 1 0 (List.replicate 33 0), .dacWrite wQ 1 0 [65536],
    .dacWaveSet wQ 1 0 ⟨0, 65536, 0, 0, 0, 0⟩, .dacWaveSet wQ 1 0 ⟨0, 0, 0, 2 ^ 32, 0, 0⟩,
    .dacWaveSet wQ 1 0 ⟨0, 0, 0, 0, 2 ^ 32, 0⟩, .madcConvert wQ 1 0 256 none, .madcConvert wQ 1 0 0 (some 256),
    .madcSeqSet wQ 1 0 [⟨256, 0, 0⟩] none, .madcTriggerSet wQ 1 0 0 65536 none, .madcTriggerSet wQ 1 0 0 0 (some (2 ^ 32)),
    .madcCalibrate wQ 1 256 .internal, .madcRead wQ 1 0 (some 65536), .madcTestdacSet wQ 1 0 65536,
    .eventSubscribe wQ 65536 none none, .eventFilterSet wQ none none (some 65536), .intervalSet wQ (some (2 ^ 32)) none,
    .counterRead wQ 65536 1, .counterRead wQ 0 65536, .tagSet wQ 256 0, .tagRead wQ 1 (some 65536), .topdownRead wQ 256,
    .safetyLimitSet wQ [⟨0, 0, 2 ^ 31⟩], .safetyLimitSet wQ [⟨256, 0, 0⟩], .safetyReset wQ 256 true, .nodeSet wQ 65536,
    .routeSet wQ [(65536, .portA)], .laserCeilingSet wQ [(256, 0)], .laserCeilingSet wQ [(0, 65536)], .ownerKeySet wQ [],
    .ownerCertSet wQ (List.replicate 1201 0), .auditRead wQ 65536 1, .auditRead wQ 0 65536] : List Instr).all
    (fun i => !i.wf) = true := by decide +kernel

/-- Diagnostics group, expert opcodes and register steps. -/
theorem test_wf_refuses_expert : ([
    .patternSet wQ .lineTx 256 0, .patternSet wQ .lineTx 0 256, .patternStatusGet wQ .lineTx 256, .errorInject wQ 256 0 0,
    .errorInject wQ 0 256 0, .errorInject wQ 0 0 (2 ^ 32), .loopbackSet wQ 256 0, .loopbackSet wQ 0 256,
    .captureSet wQ 0 ⟨256, 0, 0, 0⟩, .captureSet wQ 0 ⟨0, 0, 65536, 0⟩, .captureRead wQ 256, .regRead wQ 0 (some 65536),
    .txBankLoad wQ 0 256 [] false, .txBankLoad wQ 0 0 [32768] false, .txAdaptSet wQ 256 0, .txPdLoad wQ 0 0 [-32769] false,
    .txMaskSet wQ 0 [] 0, .txMaskSet wQ 0 (List.replicate 8 256) 0, .rxBankLoad wQ 0 0 256 [] false none,
    .rxBankLoad wQ 0 0 0 [] false (some (256, 0)), .rxBankSwap wQ 0 256 none, .rxAdaptSet wQ 0 none (some 256) none none,
    .rxAdaptSet wQ 0 none none (some (128, 0)) none, .rxAdaptSet wQ 0 none none none (some []), .rxPathSet wQ 0 256 0 1 0,
    .rxBankRead wQ 0 256 0, .decPoolSet wQ 0 256 0, .frameLockSet wQ 0 256 0 0 0, .deskewSet wQ 0 65536, .toppingSet wQ 256 0,
    .arbSet wQ 1 [(256, 1)], .timebaseSet wQ (2 ^ 64) 0, .timebaseSet wQ 0 65536, .dacCodeWrite wQ 0 0 4096,
    .dacQueuePush wQ 0 0 4096, .counterWriteCommit wQ 0 (2 ^ 32), .chunk wQ 65536 0 0 [] none, .chunk wQ 0 (2 ^ 32) 0 [] none,
    .chunk wQ 0 0 (2 ^ 32) [] none] : List Instr).all (fun i => !i.wf) = true := by decide +kernel

/-- Events that bring numbers or measurements with them. -/
theorem test_wf_refuses_events : ([
    .jeuriHello .portA 5 256 0x48 wHello, .jeuriHello .portA 5 0 0x48 { wHello with node := 65536 },
    .jeuriHello .portA 5 0 0x48 { wHello with root := 65536 }, .jeuriHello .portA 5 0 0x48 { wHello with rootHops := 256 },
    .jeuriHello .portA 5 0 0x48 { wHello with helloMs := 65536 }, .jeuriRoutes .portA 0x48 [⟨65536, 1⟩],
    .jeuriRoutes .portA 0x48 [⟨1, 256⟩], .jeuriData .portA 256 [], .maskMeasurement 0 [],
    .losDeclare 0 (List.replicate 7 1), .losClear 0 (List.replicate 8 1), .captureStep 0 [] [1, 1] 0,
    .captureStep 0 (List.replicate 16 1) [1] 0, .blindEqConverged 0 [], .blindEqConverged 0 (List.replicate 41 32768),
    .interleaverGroupQueue 0 16 [], .interleaverGroupQueue 0 0 [], .decodeDone 0 0 true 1 [] false,
    .hostCodewordReceive 0 false 0 [], .mailboxPost 0 1 .core .safe true ⟨0, 0, List.replicate 32 0⟩] : List Instr).all
    (fun i => !i.wf) = true := by decide +kernel

/-- Ordinary commands are well formed. -/
theorem test_wf_accepts : ([
    .ping wQ none, .lineTxSet wQ 1 none (some 15) none none none, .claim wQ [⟨5, 0⟩] (some 1000), .keyPskSet wQ (List.replicate 32 1),
    .dacWrite wQ 1 0 [4095], .rxAdaptSet wQ 0 none none (some (-128, 127)) (some [0, 0, 0, 0, 0, -512]),
    .txMaskSet wQ 0 (List.replicate 8 255) 2, .jeuriHello .portA 5 255 0x48 wHello, .maskMeasurement 0 (List.replicate 8 1000),
    .hostCodewordReceive 0 false 0 (List.replicate 20 0), .captureStep 0 (List.replicate 16 1) [1, 1] 9] :
    List Instr).all Instr.wf = true := by decide +kernel

/-- No word of the command table spells a command: the table gives no row any bits. -/
theorem test_table_words : decodeTableWord 32 0 = none := rfl

/-! ### Values from the spec -/

/-- The state after a command (the state before, were there none). -/
def after (c : Instr) (s : State) : State :=
  match exec c s with
  | .next t => t
  | _ => s

/-- The status of the last reply sent (R384). -/
def lastStatus (s : State) : Option Bytes :=
  match s.out.getLast? with
  | some (.reply _ _ _ _ _ _ _ ((⟨0x0004, v⟩ : Tlv) :: _)) => some v
  | some (.reply _ _ _ _ _ _ _ (t :: _)) => some t.value
  | _ => none

/-- The register addresses that the chapters give as examples (R33, R62, R103, R137, R189, R235, R265, R316, R343, R416,
R448, R452, R518, R548, R549, R574, R599): their die, block and word are those of the registers' fields. -/
def addressIs (a : Word) (d : Die) (f : Fld) : Bool := addrDie a == d && addrBlk a == f.blk && addrWord a == f.word

theorem test_addresses : (addressIs 0x0C240014 3 LFR_OH_STAT_VER_MISMATCH && addressIs 0x041C000C 1 LTX_DELAY_INT
    && addressIs 0x08200014 2 LRX_FADE_CTRL_LEN && addressIs 0x0428000C 1 DEC_POOL_STAT_FENCED
    && addressIs 0x1C2C0008 7 TOP_STAT_ACTIVE && addressIs 0x10300008 4 CIPH_RX_STAT_KEY_VALID
    && addressIs 0x14240018 5 LFR_STD_STAT_PRBS_HOST && addressIs 0x18640018 6 PATG_STAT_INJ_BUSY
    && addressIs 0x04380004 1 MGMT_STAT_STATE && addressIs 0x0C3C0008 3 FAB_STAT_ROOT
    && addressIs 0x08040018 2 (PWR_WAKE_CMP_THR 0) && addressIs 0x00400060 0 (DACB_CFG_PARK 1)
    && addressIs 0x0C440094 3 (MADC_STAT_FIFO_LOST 1) && addressIs 0x0C480004 3 SAFE_STAT_TRIPPED) = true := by
  decide +kernel

/-- The CRC-32 of R90 of the nine characters 123456789 is 0xFC891918 (the catalogued check value of this generator,
preset and complement without reflection). -/
theorem test_crc32 : crc32 [0x31, 0x32, 0x33, 0x34, 0x35, 0x36, 0x37, 0x38, 0x39] = 0xFC891918#32 := by decide +kernel

/-- PING replies OK with its ECHO (R395). -/
theorem test_ping : (after (.ping wQ (some [7#8])) wB).out.length = 1 ∧
    lastStatus (after (.ping wQ (some [7#8])) wB) = some [0, 0] := by decide +kernel

/-- TOPPING_SET sets RX_EN and COPY_HOLD on every die (R265). -/
theorem test_topping_set : ∀ d : Die, (after (.toppingSet wQ 0 5) wB).rd d TOP_CTRL_COPY_HOLD = 5 ∧
    (after (.toppingSet wQ 0 5) wB).rd d TOP_CTRL_RX_EN = 0 := by decide +kernel

/-- A COPY_HOLD above 64 is refused with BAD_PARAM, 0x8003 (R265, R384). -/
theorem test_topping_set_refused : lastStatus (after (.toppingSet wQ 1 65) wB) = some [0x80, 0x03] := by decide +kernel

/-- WAKE_CMP_SET writes the comparator that its TLV names and no other (R663). -/
theorem test_wake_cmp_set :
    let t := after (.wakeCmpSet wQ 2 [⟨true, 3, 20, 7⟩] (some true)) wB
    t.rd 1 (PWR_WAKE_CMP_THR 1) = 20 ∧ t.rd 1 (PWR_WAKE_CMP_HYST 1) = 7 ∧ t.rd 1 (PWR_WAKE_CMP_AIN_SEL 1) = 3 ∧
    t.rd 1 PWR_WAKE_EN_CMP1 = 1 ∧ t.rd 1 PWR_WAKE_EN_CMP0 = 0 ∧ t.rd 1 (PWR_WAKE_CMP_THR 0) = 0x3F ∧
    t.rd 0 (PWR_WAKE_CMP_THR 1) = 0x3F := by decide +kernel

/-- At reset both FIR banks hold c_3 = 48 and zeros, and bank 0 is active (R120). -/
theorem test_fir_reset : wB.firBank 0 0 = [0, 0, 0, 48, 0, 0, 0, 0, 0, 0] ∧ wB.firBank 0 1 = wB.firBank 0 0 ∧
    wB.rd 0 LTX_CTRL_FIR_ACTIVE = 0 := by decide +kernel

/-- TX_BANK_LOAD of the inactive bank writes it, signs and all, and of the active bank is refused with BANK_BUSY, 0x8009,
and writes nothing (R116, R384). -/
theorem test_tx_bank_load : (after (.txBankLoad wQ 0 1 [-3, 0, 5, 40] false) wB).firBank 0 1 = [-3, 0, 5, 40, 0, 0, 0, 0, 0, 0] ∧
    (after (.txBankLoad wQ 0 0 [-3, 0, 5, 40] false) wB).firBank 0 0 = wB.firBank 0 0 ∧
    lastStatus (after (.txBankLoad wQ 0 0 [-3, 0, 5, 40] false) wB) = some [0x80, 0x09] := by decide +kernel

/-- A comparator that fails its test trips SF-L: TRIPPED with cause CMP_TEST and LDIS_N low (R555, R556). -/
theorem test_comparator_trip :
    let t := after (.comparatorTest 0 false false) (late wSafe)
    t.flag 0 SAFE_STAT_TRIPPED = true ∧ (t.safe 0).ldisHigh = false := by decide +kernel

/-- A write of REG_WRITE with MASK changes only the masked bits of a field (R419): SLIP_WIN and the rest stay. -/
theorem test_reg_write_mask :
    let t := after (.regWrite wQ 0x08040018 0x00000515 (some 0x0000003F)) wB
    t.rd 2 (PWR_WAKE_CMP_THR 0) = 0x15 ∧ t.rd 2 (PWR_WAKE_CMP_HYST 0) = 4 := by decide +kernel

/-- A session without the privilege gets NOT_PERMITTED, 0x8004 (R360, R384). -/
theorem test_not_permitted :
    lastStatus (after (.toppingSet wQ 1 3) (wSess { wS with priv := .operator })) = some [0x80, 0x04] := by decide +kernel

/-- A claim held by another session's lane gives OWNED_BY_OTHER, 0x8006 (R370, R384). -/
theorem test_owned_by_other :
    lastStatus (after (.txMaskSet wQ 0 (List.replicate 8 40) 0)
      { wB with sl := { wB.sl with sessions := [wS, { wSc with channel := 0x81 }] } }) = some [0x80, 0x06] := by decide +kernel

/-- A repeated sequence is answered with the stored reply, and nothing is executed again (R361). -/
theorem test_repeat :
    let t := after (.toppingSet wQ 1 5) wB
    lastStatus (after (.toppingSet wQ 1 9) (asks wQ t)) = some [0, 0] ∧ (after (.toppingSet wQ 1 9) (asks wQ t)).rd 0 TOP_CTRL_COPY_HOLD = 5 := by
  decide +kernel

/-- In a transaction a command is staged, and COMMIT applies it (R373, R374). -/
theorem test_transaction :
    let s := wSess { wS with claims := [⟨9, 0⟩, ⟨5, 0⟩], txn := some ⟨.sequence, [], none⟩ }
    let t := after (.txMaskSet wQ 0 (List.replicate 8 40) 2) s
    t.rd 0 (LTX_MASK_LIM 3) = 0 ∧ (after (.commit { wQ with seq := 2 }) (asks { wQ with seq := 2 } t)).rd 0 (LTX_MASK_LIM 3) = 40 := by decide +kernel

/-- The epoch after the last one is 1 (R290), and a fourth tap of a FIR set must be positive (R111). -/
theorem test_epoch : epochAfter 0xFFFF = 1 ∧ LineFormat.firValid [0, 0, 0, -5] = false := by decide

/-- Waiting commands run first in, first out. -/
theorem test_queue : ∃ t, step { wB with pending := [.toppingSet wQ 1 5, .helloInterval] } = .next t ∧
    t.pending = [.helloInterval] ∧ t.rd 0 TOP_CTRL_COPY_HOLD = 5 := by
  refine ⟨_, rfl, ?_⟩
  decide +kernel


/-- The CRC-16 of R460 of the nine characters 123456789 is 0x29B1 (the catalogued check value of this generator and preset
without reflection). -/
theorem test_crc16 : crc16 (([0x31, 0x32, 0x33, 0x34, 0x35, 0x36, 0x37, 0x38, 0x39] : List Nat).flatMap fun b =>
    msbBits (BitVec.ofNat 8 b)) = 0x29B1 := by decide +kernel

/-- A request acts only at the head of the execution queue (R367): another one changes nothing. -/
theorem test_not_at_head : after (.ping { wQ with seq := 2 } none) wB = wB := by decide +kernel
/-! ### Witnesses of the statements -/

theorem wRuns {s : State} {r : Req} {i : CmdInfo} {x : Session} (h : Executes s r i x = true) :
    Runs s r i x (s.runAt r) := ⟨h, rfl⟩
theorem wRuns0 {s : State} {r : Req} (h : Executes0 s r = true) : Runs0 s r (s.runAt0 r) := ⟨h, rfl⟩
/-- Whatever the comparator's offset, a level above limit and tolerance lies above the threshold (R553). -/
theorem wThreshold : tripThreshold (wSafe.rd 0 SAFE_LIMIT) 0 true < 20000 := by
  have h : wSafe.rd 0 SAFE_LIMIT = 0 := by decide +kernel
  rw [h]; simp only [tripThreshold]; omega

/-- StepRunsTheFront: states and operands that meet the hypotheses. -/
theorem witness_StepRunsTheFront :
    ∃ (s : State) (c : Instr) (rest : List Instr), s.pending = c :: rest :=
  ⟨{ wB with pending := [.helloInterval] }, .helloInterval, [], by decide +kernel⟩

/-- EmptyQueueTicks: states and operands that meet the hypotheses. -/
theorem witness_EmptyQueueTicks :
    ∃ (s : State), s.pending = [] :=
  ⟨wB, by decide +kernel⟩

/-- SessionRequestsRun: states and operands that meet the hypotheses of each clause. -/
theorem witness_SessionRequestsRun :
    (∃ (s : State) (t : State) (r : Req) (x : Session), r.channel ≠ 0 ∧ Runs s r infoPing x t) ∧
    (∃ (s : State) (t : State) (r : Req) (x : Session), Runs s r infoSessionClose x t) ∧
    (∃ (s : State) (t : State) (r : Req) (x : Session) (e : _) (idle : _) (pm : _), Runs s r (infoSlostanCfgSet
      e idle pm) x t ∧ ¬(t.nv.fuses.lifecycle = 2 ∧ pm = some .expert)) ∧
    (∃ (s : State) (t : State) (r : Req) (x : Session) (cs : _) (lease : _), Runs s r (infoClaim cs lease) x t ∧
      claimsRise cs = true ∧ (∀ c ∈ cs, ∀ h ∈ x.claims, claimLt h c = true) ∧ (∀ c ∈ cs, t.heldByOther r.channel
      c = false)) ∧
    (∃ (s : State) (t : State) (r : Req) (x : Session) (cs : _), Runs s r (infoRelease cs) x t) ∧
    (∃ (s : State) (t : State) (r : Req) (x : Session), Runs s r infoLeaseRenew x t) ∧
    (∃ (s : State) (t : State) (r : Req) (x : Session), Runs s r infoBegin x t ∧ x.claims ≠ [] ∧ x.txn = none) ∧
    (∃ (s : State) (t : State) (r : Req) (x : Session) (k : _), Runs s r infoAbort x t ∧ x.txn = some k) :=
  ⟨⟨wB, State.runAt (wB) wQ, wQ, wS, by decide +kernel, wRuns (by decide +kernel)⟩,
    ⟨wB, State.runAt wB wQ, wQ, wS, wRuns (by decide +kernel)⟩,
    ⟨wB, State.runAt wB wQ, wQ, wS, none, some 60, none, wRuns (by decide +kernel), by decide +kernel⟩,
    ⟨wB, State.runAt wB wQ, wQ, wS, [⟨5, 0⟩, ⟨5, 1⟩, ⟨9, 0⟩], none, wRuns (by decide +kernel),
      by decide +kernel⟩,
    ⟨(wSess wSc), State.runAt (wSess wSc) wQ, wQ, wSc, [], wRuns (by decide +kernel)⟩,
    ⟨wB, State.runAt wB wQ, wQ, wS, wRuns (by decide +kernel)⟩,
    ⟨(wSess wSc), State.runAt (wSess wSc) wQ, wQ, wSc, wRuns (by decide +kernel), by decide +kernel⟩,
    ⟨(wSess wSt), State.runAt (wSess wSt) wQ, wQ, wSt, ⟨.atomic, [], none⟩, wRuns (by decide +kernel),
      by decide +kernel⟩⟩

/-- SessionsOpenAndTime (SessionsOpen): states and operands that meet the hypotheses of each clause. -/
theorem witness_SessionsOpen :
    (∃ (s : State) (t : State) (r : Req), Runs0 s r t) ∧
    (∃ (s : State) (t : State) (r : Req) (c : _), Runs0 s r t ∧ s.full = false ∧ 0x01 ≤ c.toNat ∧ c.toNat ≤ 0x7F
      ∧ s.channelFree c = true) ∧
    (∃ (s : State) (t : State) (r : Req) (c : _), Runs0 s r t ∧ s.nv.fuses.lifecycle ≠ 3 ∧ s.full = false ∧
      s.sl.handshakes.length < 4 ∧ 0x80 ≤ c.toNat ∧ c.toNat ≤ 0xFE ∧ s.channelFree c = true) ∧
    (∃ (s : State) (t : State) (r : Req) (ch : BitVec 8) (h : Handshake), Runs0 s r t ∧ t.sl.handshakes.find?
      (fun h => h.channel == ch && h.medium == r.medium && h.src == r.src) = some h) :=
  ⟨⟨asks wQ0 (wB), State.runAt0 (asks wQ0 (wB)) wQ0, wQ0, wRuns0 (by decide +kernel)⟩,
    ⟨asks wQ0 (wB), State.runAt0 (asks wQ0 (wB)) wQ0, wQ0, 0x01, wRuns0 (by decide +kernel), by decide +kernel⟩,
    ⟨asks wQ0 (wB), State.runAt0 (asks wQ0 (wB)) wQ0, wQ0, 0x90, wRuns0 (by decide +kernel), by decide +kernel⟩,
    ⟨asks wQ0 ({ wB with sl := { wB.sl with handshakes := [wHs] } }), State.runAt0 (asks wQ0
      ({ wB with sl := { wB.sl with handshakes := [wHs] } })) wQ0, wQ0, 0x91, wHs, wRuns0 (by decide +kernel),
      by decide +kernel⟩⟩

/-- SessionsOpenAndTime (SessionTimers): states and operands that meet the hypotheses of each clause. -/
theorem witness_SessionTimers :
    (∃ (s : State) (ch : BitVec 8) (h : Handshake), s.sl.handshakes.find? (fun h => h.channel == ch) = some h) ∧
    (∃ (s : State) (ch : BitVec 8) (x : Session), s.session? ch = some x) ∧
    (∃ (s : State) (ch : BitVec 8) (x : Session), s.session? ch = some x ∧ x.claims ≠ []) ∧
    (∃ (s : State) (ch : BitVec 8) (x : Session) (t : _), s.session? ch = some x ∧ x.claims ≠ [] ∧ s.sessionDown
      x = some t) ∧
    (∃ (s : State) (ch : BitVec 8) (x : Session) (c : _), s.session? ch = some x ∧ x.chunk = some c) :=
  ⟨⟨{ wB with sl := { wB.sl with handshakes := [wHs] } }, 0x91, wHs, by decide +kernel⟩,
    ⟨wB, 0x80, wS, by decide +kernel⟩,
    ⟨wSess wSc, 0x80, wSc, by decide +kernel⟩,
    ⟨wSess wSc, 0x80, wSc, 0, by decide +kernel⟩,
    ⟨wSess { wS with chunk := some wChunk }, 0x80, { wS with chunk := some wChunk }, wChunk, by decide +kernel⟩⟩

/-- SubscriptionsRun: states and operands that meet the hypotheses of each clause. -/
theorem witness_SubscriptionsRun :
    (∃ (s : State) (t : State) (r : Req) (x : Session) (rate : _) (sev : _), Runs s r (infoEventSubscribe rate
      sev) x t ∧ t.sub? r.channel = none ∧ t.sl.subs.length < 4) ∧
    (∃ (s : State) (t : State) (r : Req) (x : Session) (rate : _) (sev : _) (u : _), Runs s r
      (infoEventSubscribe rate sev) x t ∧ t.sub? r.channel = some u) ∧
    (∃ (s : State) (t : State) (r : Req) (x : Session) (u : _), Runs s r infoEventAck x t ∧ t.sub? r.channel =
      some u) ∧
    (∃ (s : State) (t : State) (r : Req) (x : Session) (sev : _) (rate : _) (u : _), Runs s r
      (infoEventFilterSet sev rate) x t ∧ t.sub? r.channel = some u) ∧
    (∃ (s : State) (t : State) (r : Req) (x : Session) (u : _), Runs s r infoEventUnsubscribe x t ∧ t.sub?
      r.channel = some u) ∧
    (∃ (s : State) (r : Req) (x : Session), s.turn r = true ∧ s.open? = true ∧ ((s.dequeue
      r).expireDue).session? r.channel = some x ∧ ((s.dequeue r).expireDue).fits x r.src r.medium = true ∧
      r.form = .good ∧ seqVerdict x r.seq = .fresh) ∧
    (∃ (s : State) (ch : BitVec 8) (seq : _) (u : _) (x : Session), s.sub? ch = some u ∧ s.session? ch = some x
      ∧ s.mediumUp (s.pathTo x.src x.medium) = true ∧ (u.unacked.any fun a => a.seq == seq && decide (a.sentAt +
      msU 10 ≤ s.time.now)) = true) :=
  ⟨⟨wB, State.runAt wB wQ, wQ, wS, 100, none, wRuns (by decide +kernel), by decide +kernel⟩,
    ⟨(wSubbed), State.runAt (wSubbed) wQ, wQ, wS, 100, none, wSub, wRuns (by decide +kernel), by decide +kernel⟩,
    ⟨(wSubbed), State.runAt (wSubbed) wQ, wQ, wS, wSub, wRuns (by decide +kernel), by decide +kernel⟩,
    ⟨(wSubbed), State.runAt (wSubbed) wQ, wQ, wS, some 1, none, wSub, wRuns (by decide +kernel),
      by decide +kernel⟩,
    ⟨(wSubbed), State.runAt (wSubbed) wQ, wQ, wS, wSub, wRuns (by decide +kernel), by decide +kernel⟩,
    ⟨wB, wQ, wS, by decide +kernel⟩,
    ⟨late wUp, 0x80, 1, wSub, wSF, by decide +kernel⟩⟩

/-- CountersAndTimeRun: states and operands that meet the hypotheses of each clause. -/
theorem witness_CountersAndTimeRun :
    (∃ (s : State) (t : State) (r : Req) (x : Session) (first : _) (count : _), Runs s r (infoCounterRead s
      first count) x t) ∧
    (∃ (s : State) (t : State) (r : Req) (x : Session) (lane : _), Runs s r (infoTopdownRead lane) x t) ∧
    (∃ (s : State) (t : State) (r : Req) (x : Session) (d : Die), Runs s r (regInfo d 0x14 0 true) x t ∧
      t.blockOff d 0x14 true = false) ∧
    (∃ (s : State) (t : State) (r : Req) (x : Session) (d : Die), Runs s r (regInfo d 0x14 5 true) x t ∧
      t.blockOff d 0x14 true = false) ∧
    (∃ (s : State) (t : State) (r : Req) (x : Session) (d : Die), Runs s r (regInfo d 0x14 2 false) x t ∧
      t.blockOff d 0x14 false = false) ∧
    (∃ (s : State) (t : State) (r : Req) (x : Session) (d : Die), Runs s r (regInfo d 0x02 2 false) x t ∧
      t.blockOff d 0x02 false = false) ∧
    (∃ (s : State) (t : State) (r : Req) (x : Session) (k : _) (seed : _), Runs s r (infoTagSet k seed) x t) ∧
    (∃ (s : State) (t : State) (r : Req) (x : Session) (dies : _) (count : _), Runs s r (infoTagRead dies count)
      x t) ∧
    (∃ (s : State) (t : State) (r : Req) (x : Session), Runs s r infoTimeGet x t) ∧
    (∃ (s : State) (t : State) (r : Req) (x : Session) (ns : _) (frac : _), Runs s r (infoTimebaseSet ns frac) x
      t) ∧
    (∃ (s : State) (t : State) (r : Req) (x : Session) (us : _), Runs s r (infoIntervalSet us) x t) :=
  ⟨⟨wB, State.runAt wB wQ, wQ, wS, 0, 4, wRuns (by decide +kernel)⟩,
    ⟨wB, State.runAt wB wQ, wQ, wS, 0, wRuns (by decide +kernel)⟩,
    ⟨wB, State.runAt wB wQ, wQ, wS, 0, wRuns (by decide +kernel), by decide +kernel⟩,
    ⟨wB, State.runAt wB wQ, wQ, wS, 0, wRuns (by decide +kernel), by decide +kernel⟩,
    ⟨wB, State.runAt wB wQ, wQ, wS, 0, wRuns (by decide +kernel), by decide +kernel⟩,
    ⟨wB, State.runAt wB wQ, wQ, wS, 0, wRuns (by decide +kernel), by decide +kernel⟩,
    ⟨wB, State.runAt wB wQ, wQ, wS, 8, 1, wRuns (by decide +kernel)⟩,
    ⟨wB, State.runAt wB wQ, wQ, wS, 1, none, wRuns (by decide +kernel)⟩,
    ⟨wB, State.runAt wB wQ, wQ, wS, wRuns (by decide +kernel)⟩,
    ⟨wB, State.runAt wB wQ, wQ, wS, 1000, 0, wRuns (by decide +kernel)⟩,
    ⟨wB, State.runAt wB wQ, wQ, wS, some 1000, wRuns (by decide +kernel)⟩⟩

/-- TelemetryRuns: states and operands that meet the hypotheses of each clause. -/
theorem witness_TelemetryRuns :
    (∃ (s : State), s.started = true ∧ s.sbRuns = true ∧ s.time.nextBoundary ≤ s.time.now) ∧
    (∃ (s : State) (d : Die) (e : _) (n : _) (ns : _), s.pop d = true ∧ s.healthy d = true ∧ s.power d ≠
      .dormant ∧ s.power d ≠ .off ∧ s.sb.inbox.find? (fun e => e.dst == d && SlotMsg.latchNum? e.msg != none) =
      some e ∧ e.msg = .latch n ns ∧ s.tel.sets.any (fun x => x.die == d.val && x.num == n) = false) ∧
    (∃ (s : State) (b : _), s.leads = true ∧ s.collecting = some b ∧ s.collectable b.num = true) :=
  ⟨⟨wB, by decide +kernel⟩,
    ⟨came 0 0 (.latch 1 0) wB, 0, ⟨0, 0, .latch 1 0⟩, 1, 0, by decide +kernel⟩,
    ⟨{ wB with tel := { wB.tel with bounds := [⟨1, 0, 0, false, false, false⟩], sets := (List.range 9).map fun d => ⟨d, 1, [], [], false, 0x3F⟩ } },
      ⟨1, 0, 0, false, false, false⟩, by decide +kernel⟩⟩

/-- NonSubscribers: states and operands that meet the hypotheses of each clause. -/
theorem witness_NonSubscribers :
    (∃ (s : State) (t : State) (r : Req) (x : Session), Runs s r infoEventAck x t ∧ t.sub? r.channel = none) ∧
    (∃ (s : State) (t : State) (r : Req) (x : Session) (sev : _) (rate : _), Runs s r (infoEventFilterSet sev
      rate) x t ∧ t.sub? r.channel = none) ∧
    (∃ (s : State) (t : State) (r : Req) (x : Session), Runs s r infoEventUnsubscribe x t ∧ t.sub? r.channel =
      none) ∧
    (∃ (s : State) (t : State) (r : Req) (x : Session) (rate : _) (sev : _) (u : _), Runs s r
      (infoEventSubscribe rate sev) x t ∧ t.sub? r.channel = some u) :=
  ⟨⟨wB, State.runAt wB wQ, wQ, wS, wRuns (by decide +kernel), by decide +kernel⟩,
    ⟨wB, State.runAt wB wQ, wQ, wS, none, none, wRuns (by decide +kernel), by decide +kernel⟩,
    ⟨wB, State.runAt wB wQ, wQ, wS, wRuns (by decide +kernel), by decide +kernel⟩,
    ⟨(wSubbed), State.runAt (wSubbed) wQ, wQ, wS, 100, none, wSub, wRuns (by decide +kernel), by decide +kernel⟩⟩

/-- CountersWrap: states and operands that meet the hypotheses of each clause. -/
theorem witness_CountersWrap :
    (∃ (s : State), s.tel.ctr.wf = true) ∧
    (∃ (s : State) (v : _), s.tel.ctr.wf = true ∧ v < 2 ^ 48) :=
  ⟨⟨{ wB with tel := { wB.tel with ctr := [(5, 2 ^ 48 - 1)] } }, by decide +kernel⟩,
    ⟨wB, 7, by decide +kernel⟩⟩

/-- DeadlinesSet: states and operands that meet the hypotheses of each clause. -/
theorem witness_DeadlinesSet :
    (∃ (s : State) (t : State) (r : Req) (x : Session) (dies : _) (arbs : _), t.regs.wf = true ∧ Runs s r
      (infoArbSet dies arbs) x t) ∧
    (∃ (s : State) (t : State) (r : Req) (x : Session), Runs s r infoArbStatusGet x t) :=
  ⟨⟨wB, State.runAt wB wQ, wQ, wS, 1, [(3, 10)], by decide +kernel, wRuns (by decide +kernel)⟩,
    ⟨wB, State.runAt wB wQ, wQ, wS, wRuns (by decide +kernel)⟩⟩

/-- Arbitration: states and operands that meet the hypotheses. -/
theorem witness_Arbitration :
    ∃ (s : State), s.sbRuns = true :=
  ⟨wB, by decide +kernel⟩

/-- SidebandEvents: states and operands that meet the hypotheses of each clause. -/
theorem witness_SidebandEvents :
    (∃ (s : State) (u : State) (a : Die) (b : Die) (tag : _) (m : _), s.takeSlot b a (SlotMsg.answers tag) =
      some (m, u) ∧ ((u.die b).sb.outs.any fun o => o.dst == a && o.tag == tag) = true ∧ SlotMsg.last? m = some
      true) ∧
    (∃ (s : State) (u : State) (a : Die) (b : Die) (tag : _) (m : _), s.takeSlot b a (SlotMsg.answers tag) =
      some (m, u) ∧ SlotMsg.last? m = some false) ∧
    (∃ (s : State) (a : Die) (tag : _) (o : _), ((s.die a).sb.outs.find? fun o => o.tag == tag && decide (o.slot
      + 64 ≤ s.sb.slot)) = some o) ∧
    (∃ (s : State) (u : State) (d : Die) (c : Fin 8), (s.markReq d fun e => e.cls == c.val && e.count == 0 &&
      !e.missed) = some u) ∧
    (∃ (s : State) (u : State) (d : Die) (c : Fin 8), (s.markReq d fun e => e.cls == c.val && e.count == 255 &&
      !e.missed && decide (2 ^ (8 + s.rd d SB_CTRL_STARVE_THR) ≤ e.waited)) = some u) ∧
    (∃ (s : State) (d : Die), s.pop d = true ∧ s.power d ≠ .off ∧ s.sbRuns = true ∧ periodDue (s.die
      d).sb.hbSent (usU 100) s.time.now = true) :=
  ⟨⟨came 1 0 wRsp (wB.updDie 1 fun x => { x with sb := { x.sb with outs := [⟨0, 3, 0, 0, false, 0, 0⟩] } }),
      wB.updDie 1 fun x => { x with sb := { x.sb with outs := [⟨0, 3, 0, 0, false, 0, 0⟩] } }, 0, 1, 3, wRsp,
      by decide +kernel⟩,
    ⟨came 1 0 wPart wB, wB, 0, 1, 3, wPart, by decide +kernel⟩,
    ⟨{ wOut with sb := { wOut.sb with slot := 64 } }, 0, 3, wOutE, by decide +kernel⟩,
    ⟨wMark 1 0, ((wMark 1 0).markReq 0 fun e => e.cls == (1 : Fin 8).val && e.count == 0 && !e.missed).get
      (by decide +kernel), 0, 1, by simp⟩,
    ⟨wMark 1 255, ((wMark 1 255).markReq 0 fun e => e.cls == (1 : Fin 8).val && e.count == 255 && !e.missed &&
      decide (2 ^ (8 + (wMark 1 255).rd 0 SB_CTRL_STARVE_THR) ≤ e.waited)).get (by decide +kernel), 0, 1, by
      simp⟩,
    ⟨late wB, 0, by decide +kernel⟩⟩

/-- Mailboxes: states and operands that meet the hypotheses of each clause. -/
theorem witness_Mailboxes :
    (∃ (s : State) (a : Die) (b : Die), s.pop a = true ∧ s.pop b = true ∧ a ≠ b) ∧
    (∃ (a : Die) (b : Die) (sep : _) (rep : _) (sec : _), mbMap sep rep (a == b) ≠ some sec) ∧
    (∃ (s : State) (a : Die), s.pop a = true) ∧
    (∃ (a : Die) (b : Die), a ≠ b) ∧
    (∃ (s : State) (b : Die), s.pop b = true) ∧
    (∃ (s : State) (u : State) (a : Die) (b : Die) (sep : _) (rep : _) (o : _) (m : _), s.takeSlot b a (fun m =>
      m == .mbAck b sep rep o) = some (m, u)) ∧
    (∃ (s : State) (a : Die) (b : Die) (aep : _) (bep : _), s.regs.wf = true ∧ s.pop a = true ∧ s.pop b = true ∧
      s.bothFull a b aep bep = true ∧ s.owes a aep b bep = false ∧ s.owes b bep a aep = false) :=
  ⟨⟨wB, 0, 1, by decide +kernel⟩,
    ⟨0, 0, .core, .core, true, by decide +kernel⟩,
    ⟨wB, 0, by decide +kernel⟩,
    ⟨0, 1, by decide +kernel⟩,
    ⟨wB, 1, by decide +kernel⟩,
    ⟨came 1 0 (.mbAck 1 .core .safe .stored) wB, wB, 0, 1, .core, .safe, .stored, .mbAck 1 .core .safe .stored,
      by decide +kernel⟩,
    ⟨{ wMail with sb := { wMail.sb with slot := 1000 } }, 0, 1, .core, .safe, by decide +kernel⟩⟩

/-- FabricLinks: states and operands that meet the hypotheses of each clause. -/
theorem witness_FabricLinks :
    (∃ (s : State) (d : Die) (e : Die) (k : Fin 3), s.pop d = true ∧ s.linkUp d k.val = true ∧ s.peer d k.val =
      some e) ∧
    (∃ (s : State) (d : Die) (k : Fin 3), s.pop d = true ∧ s.linkUp d k.val = true) ∧
    (∃ (s : State) (d : Die) (k : Fin 3) (lost : _), s.pop d = true ∧ s.linkUp d k.val = true ∧ (lost = true ∨ 4
      ≤ (s.die d).sb.d2dFails.getD k.val 0)) ∧
    (∃ (s : State) (d : Die) (k : Fin 3), s.pop d = true ∧ (s.peer d k.val).isSome = true ∧ s.linkUp d k.val =
      false ∧ s.past ((s.die d).sb.d2dRetrain.getD k.val 0) (msU 100) = true) ∧
    (∃ (s : State) (d : Die) (k : Fin 3), s.pop d = true ∧ (s.peer d k.val).isSome = true ∧ s.linkUp d k.val =
      false) :=
  ⟨⟨wLink, 0, 1, 0, by decide +kernel⟩,
    ⟨wLink, 0, 0, by decide +kernel⟩,
    ⟨wLink, 0, 0, true, by decide +kernel⟩,
    ⟨late wB, 0, 0, by decide +kernel⟩,
    ⟨wB, 0, 0, by decide +kernel⟩⟩

/-- Leadership: states and operands that meet the hypotheses of each clause. -/
theorem witness_Leadership :
    (∃ (s : State) (u : State) (d : Die) (a : Die) (rep : _) (m : _), s.takeSlot d a (SlotMsg.reports rep) =
      some (m, u)) ∧
    (∃ (s : State) (d : Die), s.pop d = true ∧ s.sbRuns = true ∧ s.healthy d = true ∧ s.hbSilent d = true) ∧
    (∃ (s : State) (d : Die), s.pop d = true) ∧
    (∃ (s : State) (e : _), s.sb.election = some e ∧ s.sb.slot < e.openSlot + 64) ∧
    (∃ (s : State) (e : _), s.sb.election = some e ∧ e.openSlot + 64 ≤ s.sb.slot ∧ s.sb.elected = false) ∧
    (∃ (s : State) (d : _) (l : _), s.candidates = d :: l) ∧
    (∃ (s : State) (e : _), s.regs.wf = true ∧ s.sb.election = some e ∧ e.openSlot + 64 ≤ s.sb.slot ∧
      s.sb.elected = true ∧ s.leaderFailed = false ∧ e.resigned ≠ some s.leader) ∧
    (∃ (s : State) (e : _), s.sb.election = some e ∧ e.openSlot + 64 ≤ s.sb.slot ∧ s.sb.elected = true ∧
      (s.leaderFailed = true ∨ e.resigned = some s.leader) ∧ (∃ d, d ∈ s.candidates ∧ d ≠ s.leader)) ∧
    (∃ (s : State) (l : _) (n : _), s.sl.mirrored = some (l, n)) :=
  ⟨⟨came 1 0 wBeat wB, wB, 1, 0, wRep, wBeat, by decide +kernel⟩,
    ⟨late wB, 1, by decide +kernel⟩,
    ⟨wB, 1, by decide +kernel⟩,
    ⟨wElect 63, wEl, by decide +kernel⟩,
    ⟨wElect 64, wEl, by decide +kernel⟩,
    ⟨wB.wr 3 DIE_STAT_FW_VALID 1, 3, [], by decide +kernel⟩,
    ⟨wElected (wElect 64), wEl, by decide +kernel⟩,
    ⟨((wElected { wElect 64 with sb := { (wElect 64).sb with election := some wElr } }).wr 1 DIE_STAT_FW_VALID
      1), wElr, by decide +kernel, by decide +kernel, by decide +kernel, by decide +kernel, 1,
      by decide +kernel, by decide +kernel⟩,
    ⟨{ wB with sl := { wB.sl with mirrored := some ([], []) } }, [], [], by decide +kernel⟩⟩

/-- LifecycleAndFirmwareRun (LimitedChangesRun): states and operands that meet the hypotheses of each clause. -/
theorem witness_LimitedChangesRun :
    (∃ (s : State) (t : State) (r : Req) (x : Session) (cs : _), Runs s r (infoLaserCeilingSet cs) x t ∧ (∀ c ∈
      cs, ∀ d ∈ oneDie c.1, t.ceilingLeft d ≠ 0)) ∧
    (∃ (s : State) (t : State) (r : Req) (x : Session), Runs s r (infoNodeIdentitySet confirmWord) x t ∧
      t.nv.fuses.identity = none ∧ t.spent .identity = false) ∧
    (∃ (s : State) (t : State) (r : Req) (x : Session) (key : _), Runs s r (infoOwnerKeySet key) x t ∧
      t.nv.fuses.ownerKey = none ∧ t.spent .ownerKey = false) ∧
    (∃ (s : State) (t : State) (r : Req) (x : Session), Runs s r (infoOwnerKeyRevoke confirmWord) x t ∧
      t.slotsUsed < 3) ∧
    (∃ (s : State) (t : State) (r : Req) (x : Session) (target : _), Runs s r (limitInfo 0x0A01 confirmWord 1) x
      t ∧ t.nv.fuses.lifecycle ≠ 3 ∧ Lifecycle.code target = t.nv.fuses.lifecycle + 1 ∧ t.mayAdvance
      (Lifecycle.code target) = true ∧ t.spent .lifecycle = false ∧ (Lifecycle.code target = 3 → t.storeBusy =
      false)) ∧
    (∃ (s : State) (t : State) (r : Req) (x : Session), Runs s r
      { limitInfo 0x0A02 confirmWord 0 with cip := true } x t ∧ t.nv.fuses.permit = true ∧ t.spent .permit =
      false) ∧
    (∃ (s : State) (t : State) (r : Req) (x : Session) (cert : _), Runs s r (infoOwnerCertSet cert) x t) ∧
    (∃ (s : State) (t : State) (r : Req) (x : Session) (first : _) (count : _), Runs s r (infoAuditRead first
      count) x t) ∧
    (∃ (s : State) (t : State) (r : Req) (x : Session), Runs s r infoLimitsGet x t) :=
  ⟨⟨wB, State.runAt wB wQ, wQ, wS, [(0, 100)], wRuns (by decide +kernel), by decide +kernel⟩,
    ⟨wB, State.runAt wB wQ, wQ, wS, wRuns (by decide +kernel), by decide +kernel⟩,
    ⟨wB, State.runAt wB wQ, wQ, wS, List.replicate 97 0#8, wRuns (by decide +kernel), by decide +kernel⟩,
    ⟨wB, State.runAt wB wQ, wQ, wS, wRuns (by decide +kernel), by decide +kernel⟩,
    ⟨(wFuse fun f => { f with identity := some [], ownerKey := some [] }), State.runAt (wFuse fun f =>
      { f with identity := some [], ownerKey := some [] }) wQ, wQ, wS, .provisioned, wRuns (by decide +kernel),
      by decide +kernel⟩,
    ⟨wB, State.runAt wB wQ, wQ, wS, wRuns (by decide +kernel), by decide +kernel⟩,
    ⟨wB, State.runAt wB wQ, wQ, wS, [], wRuns (by decide +kernel)⟩,
    ⟨wB, State.runAt wB wQ, wQ, wS, 0, 1, wRuns (by decide +kernel)⟩,
    ⟨wB, State.runAt wB wQ, wQ, wS, wRuns (by decide +kernel)⟩⟩

/-- LimitsHold: states and operands that meet the hypotheses of each clause. -/
theorem witness_LimitsHold :
    (∃ (s : State) (t : State) (r : Req) (x : Session) (target : _), Runs s r (limitInfo 0x0A01 confirmWord 1) x
      t ∧ (t.nv.fuses.lifecycle = 3 ∨ Lifecycle.code target ≠ t.nv.fuses.lifecycle + 1 ∨ t.spent .lifecycle =
      true ∨ t.mayAdvance (Lifecycle.code target) = false)) ∧
    (∃ (s : State) (t : State) (r : Req) (x : Session) (cs : _), Runs s r (infoLaserCeilingSet cs) x t ∧ (∃ c ∈
      cs, ∃ d ∈ oneDie c.1, t.ceilingLeft d = 0)) ∧
    (∃ (s : State) (t : State) (r : Req) (x : Session), Runs s r (infoNodeIdentitySet confirmWord) x t ∧
      (t.nv.fuses.identity ≠ none ∨ t.spent .identity = true)) ∧
    (∃ (s : State) (t : State) (r : Req) (x : Session), Runs s r
      { limitInfo 0x0A02 confirmWord 0 with cip := true } x t ∧ (t.nv.fuses.permit = false ∨ t.spent .permit =
      true)) ∧
    (∃ (s : State) (t : State) (r : Req) (x : Session), Runs s r (infoOwnerKeyRevoke confirmWord) x t ∧ 3 ≤
      t.slotsUsed) ∧
    (∃ (s : State) (t : State) (r : Req) (x : Session) (key : _), Runs s r (infoOwnerKeySet key) x t ∧
      (t.nv.fuses.ownerKey ≠ none ∨ t.spent .ownerKey = true)) ∧
    (∃ (c : _), c ≠ confirmWord) :=
  ⟨⟨wB, State.runAt wB wQ, wQ, wS, .deployed, wRuns (by decide +kernel), by decide +kernel⟩,
    ⟨(wFuse fun f => { f with ceilings := Vector.replicate 8 [1, 2, 3, 4] }), State.runAt (wFuse fun f =>
      { f with ceilings := Vector.replicate 8 [1, 2, 3, 4] }) wQ, wQ, wS, [(0, 100)], wRuns (by decide +kernel),
      (0, 100), by decide +kernel, 0, by decide +kernel, by decide +kernel⟩,
    ⟨(wFuse fun f => { f with identity := some [] }), State.runAt (wFuse fun f =>
      { f with identity := some [] }) wQ, wQ, wS, wRuns (by decide +kernel), by decide +kernel⟩,
    ⟨(wFuse fun f => { f with permit := false }), State.runAt (wFuse fun f => { f with permit := false }) wQ,
      wQ, wS, wRuns (by decide +kernel), by decide +kernel⟩,
    ⟨(wFuse fun f => { f with ownerSlot := 3 }), State.runAt (wFuse fun f => { f with ownerSlot := 3 }) wQ, wQ,
      wS, wRuns (by decide +kernel), by decide +kernel⟩,
    ⟨(wFuse fun f => { f with ownerKey := some [] }), State.runAt (wFuse fun f =>
      { f with ownerKey := some [] }) wQ, wQ, wS, List.replicate 97 0#8, wRuns (by decide +kernel),
      by decide +kernel⟩,
    ⟨0, by decide +kernel⟩⟩

/-- LifecycleAndFirmwareRun (FirmwareRuns): states and operands that meet the hypotheses of each clause. -/
theorem witness_FirmwareRuns :
    (∃ (s : State) (t : State) (r : Req) (x : Session), Runs s r infoFwLoad x t ∧ t.nv.loading = none ∧
      t.nv.trial = none) ∧
    (∃ (s : State) (b : _), s.nv.loading = some b) ∧
    (∃ (s : State) (r : Req) (x : Session) (offset : _) (total : _) (data : Bytes), s.turn r = true ∧ s.open? =
      true ∧ s.phase ≠ .shuttingDown ∧ ((s.dequeue r).expireDue).session? r.channel = some x ∧ ((s.dequeue
      r).expireDue).fits x r.src r.medium = true ∧ r.form = .good ∧ seqVerdict x r.seq = .fresh ∧ x.txn = none ∧
      ((s.dequeue r).expireDue).testBusy infoFwLoad = false ∧ total ≤ 4194304 ∧
      (match x.chunk with | some c => c.opcode = 0x0A08 ∧ c.total = total ∧ offset = c.data.length ∧ s.time.now < c.lastAt + secU 5 | none => offset = 0)
      ∧ offset + data.length < total) ∧
    (∃ (s : State) (t : State) (r : Req) (x : Session) (d : _) (l : _), Runs s r (infoFwActivate confirmWord) x
      t ∧ t.nv.loading = none ∧ t.nv.trial = none ∧ t.nv.standby.valid = true ∧ t.nv.standby.secver -
      t.nv.fuses.secver ≤ t.secverLeft ∧ t.trialLeft ⟨[], t.leader, t.time.now, none⟩ = d :: l) ∧
    (∃ (s : State) (d : Die) (t : _), s.nv.trial = some t ∧ t.restarting = d ∧ d ∉ t.moved) ∧
    (∃ (s : State) (d : Die) (e : Die) (t : _) (l : _), s.nv.trial = some t ∧ t.restarting = d ∧ d ∉ t.moved ∧
      s.past t.since (secU 1) = false ∧ s.trialLeft { t with moved := t.moved ++ [d] } = e :: l) ∧
    (∃ (s : State) (d : Die) (t : _), s.nv.trial = some t ∧ t.restarting = d ∧ d ∉ t.moved ∧ t.since + secU 1 ≤
      s.time.now) ∧
    (∃ (s : State) (d : Die) (t : _), s.nv.trial = some t ∧ t.restarting = d ∧ d ∉ t.moved ∧ s.past t.since
      (secU 1) = false ∧ s.trialLeft { t with moved := t.moved ++ [d] } = []) ∧
    (∃ (s : State), s.nv.trial = none) :=
  ⟨⟨wB, State.runAt wB wQ, wQ, wS, wRuns (by decide +kernel), by decide +kernel⟩,
    ⟨wNv fun n => { n with loading := some ⟨1, 1, true⟩ }, ⟨1, 1, true⟩, by decide +kernel⟩,
    ⟨wB, wQ, wS, 0, 100, [1#8], by decide +kernel, by decide +kernel, by decide +kernel, by decide +kernel,
      by decide +kernel, by decide +kernel, by decide +kernel, rfl, by decide +kernel, by decide +kernel, (rfl :
      0 = 0), by decide +kernel⟩,
    ⟨(wNv fun n => { n with standby := ⟨1, 1, true⟩ }), State.runAt (wNv fun n =>
      { n with standby := ⟨1, 1, true⟩ }) wQ, wQ, wS, 7, [6, 5, 4, 3, 2, 1], wRuns (by decide +kernel),
      by decide +kernel⟩,
    ⟨wTr, 7, wTrial, by decide +kernel⟩,
    ⟨wTr, 7, 6, wTrial, [5, 4, 3, 2, 1], by decide +kernel⟩,
    ⟨late wTr, 7, wTrial, by decide +kernel⟩,
    ⟨wNv fun n => { n with trial := some ⟨[2, 3, 4, 5, 6, 7], 1, 0, none⟩ }, 1, ⟨[2, 3, 4, 5, 6, 7], 1, 0,
      none⟩, by decide +kernel⟩,
    ⟨wB, by decide +kernel⟩⟩

/-- AnalogueRuns (DacCommandsRun): states and operands that meet the hypotheses of each clause. -/
theorem witness_DacCommandsRun :
    (∃ (s : State) (t : State) (r : Req) (x : Session) (dies : _) (ch : _) (cfg : _), Runs s r (infoDacChSet
      dies ch cfg) x t ∧ t.anaOn (maskDies dies) = true) ∧
    (∃ (s : State) (t : State) (r : Req) (x : Session) (dies : _) (ch : _) (codes : _), Runs s r (infoDacWrite
      dies ch codes) x t ∧ t.anaOn (maskDies dies) = true) ∧
    (∃ (s : State) (t : State) (r : Req) (x : Session) (d : Die) (c : Fin 6), Runs s r (regInfo d 0x10 (17 + 8 *
      c.val) true) x t ∧ t.blockOff d 0x10 true = false) ∧
    (∃ (s : State) (t : State) (r : Req) (x : Session) (d : Die) (c : Fin 6) (code : _), Runs s r (regInfo d
      0x10 (18 + 8 * c.val) true) x t ∧ t.blockOff d 0x10 true = false ∧ t.aboveCeiling d c (code % 4096) =
      false ∧ t.dacBusy d c = false) ∧
    (∃ (s : State) (t : State) (r : Req) (x : Session) (dies : _) (ch : _) (w : _), Runs s r (infoDacWaveSet
      dies ch w) x t ∧ t.anaOn (maskDies dies) = true) ∧
    (∃ (s : State) (t : State) (r : Req) (x : Session) (d : Die), Runs s r (regInfo d 0x10 0 true) x t ∧
      t.blockOff d 0x10 true = false) ∧
    (∃ (s : State) (t : State) (r : Req) (x : Session) (dies : _), Runs s r (infoDacStatusGet dies) x t ∧ (∀ d ∈
      maskDies dies, t.level d .ana ≠ .dead)) :=
  ⟨⟨wB, State.runAt wB wQ, wQ, wS, 1, 0, ⟨1, 10, 20⟩, wRuns (by decide +kernel), by decide +kernel⟩,
    ⟨wB, State.runAt wB wQ, wQ, wS, 1, 0, [100], wRuns (by decide +kernel), by decide +kernel⟩,
    ⟨wB, State.runAt wB wQ, wQ, wS, 0, 0, wRuns (by decide +kernel), by decide +kernel⟩,
    ⟨wB, State.runAt wB wQ, wQ, wS, 0, 1, 100, wRuns (by decide +kernel), by decide +kernel⟩,
    ⟨wB, State.runAt wB wQ, wQ, wS, 1, 1, ⟨1, 100, 1000, 1, 0, 0⟩, wRuns (by decide +kernel), by decide +kernel⟩,
    ⟨wB, State.runAt wB wQ, wQ, wS, 0, wRuns (by decide +kernel), by decide +kernel⟩,
    ⟨wB, State.runAt wB wQ, wQ, wS, 1, wRuns (by decide +kernel), by decide +kernel⟩⟩

/-- DacOutputs: states and operands that meet the hypotheses. -/
theorem witness_DacOutputs :
    ∃ (s : State) (d : Die), s.regs.wf = true ∧ s.pop d = true ∧ s.domainOn d .ana = true ∧ periodDue (s.die
      d).ana.updAt (modU 8) s.time.now = true :=
  ⟨wB, 0, by decide +kernel⟩

/-- AnalogueRuns (DacEvents): states and operands that meet the hypotheses of each clause. -/
theorem witness_DacEvents :
    (∃ (s : State) (d : Die) (c : _) (p : _), (s.dac d c).park = some p ∧ p.switched = false ∧ p.since + usU 10
      ≤ s.time.now) ∧
    (∃ (s : State) (d : Die) (c : _) (p : _), (s.dac d c).park = some p ∧ p.switched = true ∧ p.since + usU 10 ≤
      s.time.now) ∧
    (∃ (s : State) (d : Die), s.pop d = true ∧ s.level d .ana ≠ .dead) ∧
    (∃ (s : State) (d : Die), s.pop d = true ∧ s.level d .ana ≠ .dead) :=
  ⟨⟨wParked false, 0, 0, wPark, by decide +kernel⟩,
    ⟨wParked true, 0, 0, { wPark with switched := true }, by decide +kernel⟩,
    ⟨wB, 0, by decide +kernel⟩,
    ⟨wB, 0, by decide +kernel⟩⟩

/-- ClearsHold: states and operands that meet the hypotheses of each clause. -/
theorem witness_ClearsHold :
    (∃ (s : State) (d : Die) (c : Fin 6), s.regs.wf = true ∧ s.rd d (DACB_CFG_CLEAR c.val) < 4096) ∧
    (∃ (s : State) (t : State) (r : Req) (x : Session) (dies : _) (ch : _) (codes : _), Runs s r (infoDacWrite
      dies ch codes) x t ∧ t.anaOn (maskDies dies) = true ∧ (∀ d ∈ maskDies dies, t.dacHeld d (chOf ch) = true ∧
      ∀ v ∈ codes, t.aboveCeiling d (chOf ch) v = false)) :=
  ⟨⟨wB, 0, 0, by decide +kernel⟩,
    ⟨(wB.updDie 0 fun x => { x with ana := { x.ana with safetyClr := true } }), State.runAt (wB.updDie 0 fun x
      => { x with ana := { x.ana with safetyClr := true } }) wQ, wQ, wS, 1, 0, [0], wRuns (by decide +kernel),
      by decide +kernel⟩⟩

/-- AnalogueRuns (ConverterCommandsRun): states and operands that meet the hypotheses of each clause. -/
theorem witness_ConverterCommandsRun :
    (∃ (s : State) (t : State) (r : Req) (x : Session) (d : _) (conv : _) (input : _) (preset : _), Runs s r
      (infoMadcConvert (1#8 <<< d.val) conv input preset) x t ∧ t.anaOn [d] = true ∧ t.sl.pend.any (fun p =>
      p.kind == .convert d (convOf conv).val) = false) ∧
    (∃ (s : State) (t : State) (r : Req) (x : Session) (dies : _) (conv : _) (es : _) (preset : _), Runs s r
      (infoMadcSeqSet dies conv es preset) x t ∧ t.anaOn (maskDies dies) = true) ∧
    (∃ (s : State) (t : State) (r : Req) (x : Session) (dies : _) (conv : _) (source : _) (delay : _) (period :
      _), Runs s r (infoMadcTriggerSet dies conv source delay period) x t ∧ t.anaOn (maskDies dies) = true) ∧
    (∃ (s : State) (t : State) (r : Req) (x : Session) (dies : _) (conv : _), Runs s r (infoMadcCalibrate dies
      conv) x t ∧ t.anaOn (maskDies dies) = true ∧ (∀ d ∈ maskDies dies, t.convPending d (convOf conv) = false ∧
      t.calMustWait d (convOf conv) = false)) ∧
    (∃ (s : State) (t : State) (r : Req) (x : Session) (d : Die) (conv : _) (count : _), Runs s r (infoMadcRead
      (1#8 <<< d.val) conv count) x t ∧ t.level d .ana ≠ .dead) ∧
    (∃ (s : State) (t : State) (r : Req) (x : Session) (dies : _) (conv : _) (code : _), Runs s r
      (infoMadcTestdacSet dies conv code) x t ∧ t.anaOn (maskDies dies) = true) ∧
    (∃ (s : State) (t : State) (r : Req) (x : Session) (d : Die) (n : Fin 2), Runs s r (regInfo d 0x11 (19 + 16
      * n.val) true) x t ∧ t.blockOff d 0x11 true = false) ∧
    (∃ (s : State) (t : State) (r : Req) (x : Session) (d : Die) (n : Fin 2), Runs s r (regInfo d 0x11 (22 + 16
      * n.val) false) x t ∧ t.blockOff d 0x11 false = false) ∧
    (∃ (s : State) (t : State) (r : Req) (x : Session) (d : Die) (n : Fin 2), Runs s r (regInfo d 0x11 (20 + 16
      * n.val) false) x t ∧ t.blockOff d 0x11 false = false) :=
  ⟨⟨wB, State.runAt wB wQ, wQ, wS, 0, 0, 3, none, wRuns (by decide +kernel), by decide +kernel⟩,
    ⟨wB, State.runAt wB wQ, wQ, wS, 1, 0, [⟨1, 2, 0⟩], none, wRuns (by decide +kernel), by decide +kernel⟩,
    ⟨wB, State.runAt wB wQ, wQ, wS, 1, 0, 0, 100, some 64, wRuns (by decide +kernel), by decide +kernel⟩,
    ⟨wB, State.runAt wB wQ, wQ, wS, 1, 0, wRuns (by decide +kernel), by decide +kernel⟩,
    ⟨wB, State.runAt wB wQ, wQ, wS, 0, 0, none, wRuns (by decide +kernel), by decide +kernel⟩,
    ⟨wB, State.runAt wB wQ, wQ, wS, 1, 0, 512, wRuns (by decide +kernel), by decide +kernel⟩,
    ⟨wB, State.runAt wB wQ, wQ, wS, 0, 0, wRuns (by decide +kernel), by decide +kernel⟩,
    ⟨wB, State.runAt wB wQ, wQ, wS, 0, 1, wRuns (by decide +kernel), by decide +kernel⟩,
    ⟨wB, State.runAt wB wQ, wQ, wS, 0, 0, wRuns (by decide +kernel), by decide +kernel⟩⟩

/-- AnalogueRuns (ConverterEventsRun): states and operands that meet the hypotheses of each clause. -/
theorem witness_ConverterEventsRun :
    (∃ (s : State) (d : Die), s.pop d = true) ∧
    (∃ (s : State) (d : Die) (n : _), s.pop d = true ∧ s.domainOn d .ana = true ∧ (s.conv d n).timerAt + modU
      (s.rd d (MADC_TIMER_PERIOD n.val)) ≤ s.time.now) ∧
    (∃ (s : State) (d : Die) (n : _) (e : _), s.pop d = true ∧ s.domainOn d .ana = true ∧ (s.conv d
      n).ownDelayEnd = none ∧ (s.conv d n).delayEnd = some e ∧ e ≤ s.time.now) ∧
    (∃ (s : State), s.started = true ∧ s.sbRuns = true) ∧
    (∃ (s : State) (d : Die) (n : _) (bits : List Bool), s.pop d = true ∧ s.domainOn d .ana = true ∧ (s.conv d
      n).endsAt ≤ s.time.now ∧ bits.length = 11 * presetD (s.conv d n).preNow) ∧
    (∃ (s : State) (d : Die) (n : _) (k : _), s.pop d = true ∧ s.domainOn d .ana = true ∧ (s.conv d n).act =
      .cal k) :=
  ⟨⟨wB, 0, by decide +kernel⟩,
    ⟨late wB, 0, 0, by decide +kernel⟩,
    ⟨(late wB).updConv 0 0 fun x => { x with delayEnd := some 7 }, 0, 0, 7, by decide +kernel⟩,
    ⟨wB, by decide +kernel⟩,
    ⟨wB, 0, 0, List.replicate (11 * presetD (wB.conv 0 0).preNow) true, by decide +kernel, by decide +kernel,
      by decide +kernel, List.length_replicate⟩,
    ⟨wB.updConv 0 0 fun x => { x with act := .cal .internal }, 0, 0, .internal, by decide +kernel⟩⟩

/-- ConverterFifo: states and operands that meet the hypotheses of each clause. -/
theorem witness_ConverterFifo :
    (∃ (s : State) (d : Die) (n : _), s.regs.wf = true ∧ s.tel.ctr.wf = true ∧ s.pop d = true ∧ (s.conv d
      n).fifo.length ≤ 256) ∧
    (∃ (s : State) (d : Die) (n : _), (s.conv d n).fifo = []) ∧
    (∃ (s : State) (d : Die) (n : _) (v : _) (q : _), (s.conv d n).fifo = v :: q) :=
  ⟨⟨wB.updConv 0 0 fun x => { x with fifo := List.replicate 256 ⟨false, false, 1⟩ }, 0, 0, by decide +kernel⟩,
    ⟨wB, 0, 0, by decide +kernel⟩,
    ⟨wB.updConv 0 0 fun x => { x with fifo := [⟨false, true, -1⟩] }, 0, 0, ⟨false, true, -1⟩, [],
      by decide +kernel⟩⟩

/-- SafetyRuns (SafetyCommandsRun): states and operands that meet the hypotheses of each clause. -/
theorem witness_SafetyCommandsRun :
    (∃ (s : State) (t : State) (r : Req) (x : Session) (ls : _), Runs s r (infoSafetyLimitSet ls) x t ∧ (∀ e ∈
      ls, ∀ d ∈ oneDie e.lane, t.level d .ctrl ≠ .dead)) ∧
    (∃ (s : State) (t : State) (r : Req) (x : Session), Runs s r infoSafetyStatusGet x t) ∧
    (∃ (s : State) (t : State) (r : Req) (x : Session) (d : Die) (pass : _), Runs s r (infoSafetyReset d.val) x
      t ∧ toDie? d.val = some d ∧ t.level d .ctrl ≠ .dead ∧ t.flag d SAFE_STAT_TRIPPED = true ∧ ¬(t.flag d
      SAFE_LIMIT_VALID = true ∧ t.flag d SAFE_LAST_VALID = true ∧ (t.rd d SAFE_LIMIT : Int) < t.rdInt d
      SAFE_LAST_VALUE) ∧ ((t.retest d pass).rd d SAFE_STAT_TRIP_CAUSE = 4 ∨ (t.retest d pass).rd d
      SAFE_STAT_TRIP_CAUSE = 5 → pass = true)) :=
  ⟨⟨wB, State.runAt wB wQ, wQ, wS, [⟨0, 3, 1000⟩], wRuns (by decide +kernel), by decide +kernel⟩,
    ⟨wB, State.runAt wB wQ, wQ, wS, wRuns (by decide +kernel)⟩,
    ⟨(wB.wr 0 SAFE_STAT_TRIPPED 1), State.runAt (wB.wr 0 SAFE_STAT_TRIPPED 1) wQ, wQ, wS, 0, true, wRuns
      (by decide +kernel), by decide +kernel⟩⟩

/-- SafetyRuns (SafetyEventsRun): states and operands that meet the hypotheses of each clause. -/
theorem witness_SafetyEventsRun :
    (∃ (s : State) (d : Die), s.pop d = true ∧ s.armCond d = true) ∧
    (∃ (s : State) (d : Die) (b : _) (level : _), s.monitorRuns d = true ∧ s.flag d SAFE_LIMIT_VALID = true ∧
      tripThreshold (s.rd d SAFE_LIMIT) d b < level) ∧
    (∃ (s : State) (d : Die) (bits : List Bool), s.monitorRuns d = true ∧ periodDue (s.safe d).convAt (msU 1)
      s.time.now = true ∧ bits.length = 11 * presetD 0) ∧
    (∃ (s : State) (d : Die), s.monitorRuns d = true ∧ (s.safe d).lastConvAt + msU 5 ≤ s.time.now) ∧
    (∃ (s : State) (d : Die), s.monitorRuns d = true ∧ s.cmpDue d = true) ∧
    (∃ (s : State) (d : Die), s.pop d = true ∧ s.power d ≠ .off) ∧
    (∃ (s : State) (d : Die), s.pop d = true ∧ s.power d ≠ .off ∧ (s.safe d).ldisHigh = false ∧ (s.safe d).stuck
      = false) ∧
    (∃ (s : State) (d : Die), s.pop d = true ∧ s.power d ≠ .off) :=
  ⟨⟨wSafe, 0, by decide +kernel⟩,
    ⟨wSafe, 0, true, 20000, by decide +kernel, by decide +kernel, wThreshold⟩,
    ⟨late wB, 0, List.replicate (11 * presetD 0) true, by decide +kernel, by decide +kernel,
      List.length_replicate⟩,
    ⟨late wB, 0, by decide +kernel⟩,
    ⟨wB, 0, by decide +kernel⟩,
    ⟨wB, 0, by decide +kernel⟩,
    ⟨wB, 0, by decide +kernel⟩,
    ⟨wB, 0, by decide +kernel⟩⟩

/-- TripsLatch: states and operands that meet the hypotheses of each clause. -/
theorem witness_TripsLatch :
    (∃ (s : State) (d : Die) (k : _), s.regs.wf = true ∧ s.flag d SAFE_STAT_TRIPPED = false ∧ 1 ≤ k ∧ k ≤ 6) ∧
    (∃ (s : State) (d : Die), s.flag d SAFE_STAT_TRIPPED = true) :=
  ⟨⟨wB, 0, 6, by decide +kernel⟩,
    ⟨wB.wr 0 SAFE_STAT_TRIPPED 1, 0, by decide +kernel⟩⟩

/-- FabricRuns: states and operands that meet the hypotheses of each clause. -/
theorem witness_FabricRuns :
    (∃ (s : State) (t : State) (r : Req) (x : Session) (node : _), Runs s r (infoNodeSet node) x t) ∧
    (∃ (s : State) (t : State) (r : Req) (x : Session), Runs s r infoRouteGet x t) ∧
    (∃ (s : State) (t : State) (r : Req) (x : Session), Runs s r infoNeighbourGet x t) ∧
    (∃ (s : State) (t : State) (r : Req) (x : Session) (rs : _), Runs s r (infoRouteSet rs) x t) ∧
    (∃ (s : State) (m : JMedium) (h : Hello), s.arrives m = true ∧ h.packageId ≠ s.nv.fuses.packageId) ∧
    (∃ (s : State) (m : JMedium) (pkg : _) (n : _), s.fab.nbrs.find? (fun n => n.medium == JMedium.index m &&
      n.hello.packageId == pkg) = some n ∧ n.lastAt + msU (s.rd 0 FAB_CFG_DEAD_MULT * s.rd 0 FAB_CFG_HELLO_INT *
      100) ≤ s.time.now) ∧
    (∃ (s : State), s.fab.lastHello + msU (s.rd 0 FAB_CFG_HELLO_INT * 100) ≤ s.time.now) ∧
    (∃ (s : State) (m : JMedium), (s.fab.media.get (JMedium.fin m)).routesDue = true ∧ s.holdoffOver
      (s.fab.media.get (JMedium.fin m)).routesAt = true) ∧
    (∃ (s : State) (m : JMedium), (s.fab.media.get (JMedium.fin m)).helloDue = true ∧ s.holdoffOver
      (s.fab.media.get (JMedium.fin m)).helloAt = true) ∧
    (∃ (s : State) (m : JMedium) (src : _) (n : _), s.arrives m = true ∧ s.nbrFrom m src = some n ∧ s.linkActive
      n = true) ∧
    (∃ (s : State), s.fab.lastRoutes + secU 5 ≤ s.time.now) ∧
    (∃ (s : State) (m : JMedium), s.arrives m = true) :=
  ⟨⟨wB, State.runAt wB wQ, wQ, wS, 8190, wRuns (by decide +kernel)⟩,
    ⟨wB, State.runAt wB wQ, wQ, wS, wRuns (by decide +kernel)⟩,
    ⟨wB, State.runAt wB wQ, wQ, wS, wRuns (by decide +kernel)⟩,
    ⟨wB, State.runAt wB wQ, wQ, wS, [(5, .portA)], wRuns (by decide +kernel)⟩,
    ⟨wPort, .portA, wHello, by decide +kernel⟩,
    ⟨late wNbrs, .portA, 9, wNbr, by decide +kernel⟩,
    ⟨late wB, by decide +kernel⟩,
    ⟨wB.updMedium 0 fun y => { y with routesDue := true }, .portA, by decide +kernel⟩,
    ⟨wB.updMedium 0 fun y => { y with helloDue := true }, .portA, by decide +kernel⟩,
    ⟨wNbrs, .portA, 0x88, wNbr, by decide +kernel⟩,
    ⟨late wB, by decide +kernel⟩,
    ⟨wPort, .portA, by decide +kernel⟩⟩

/-- SegmentsRebuild: states and operands that meet the hypotheses of each clause. -/
theorem witness_SegmentsRebuild :
    (∃ (s : State) (l : Die) (m : _) (rest : _), (s.inb l).txq = m :: rest ∧ (s.inb l).txPos < m.length) ∧
    (∃ (s : State) (l : Die), (s.inb l).txq = []) ∧
    (∃ (s : State) (l : Die) (g : Segment) (n : _), s.regs.wf = true ∧ g.valid = true ∧ g.start = false ∧ (s.inb
      l).rxSeq = some n ∧ g.seq.toNat ≠ (n + 1) % 65536) :=
  ⟨⟨wInb, 0, [1#8, 2#8], [], by decide +kernel⟩,
    ⟨wB, 0, by decide +kernel⟩,
    ⟨wInb, 0, wSeg, 5, by decide +kernel⟩⟩

/-- TransmitterRuns: states and operands that meet the hypotheses of each clause. -/
theorem witness_TransmitterRuns :
    (∃ (s : State) (t : State) (r : Req) (x : Session) (l : Die) (bank : _) (c : _), Runs s r (infoTxBankLoad
      l.val bank c) x t ∧ toDie? l.val = some l ∧ t.txOn [l] = true ∧ (t.flag l LTX_ADAPT_CTRL_EN &&
      !t.standard) = false ∧ t.rd l LTX_CTRL_FIR_ACTIVE ≠ bank) ∧
    (∃ (s : State) (t : State) (r : Req) (x : Session) (l : Die) (bank : _) (c : _), Runs s r (infoTxPdLoad
      l.val bank c) x t ∧ toDie? l.val = some l ∧ t.txOn [l] = true ∧ t.rd l LTX_CTRL_PD_ACTIVE ≠ bank) ∧
    (∃ (s : State) (t : State) (r : Req) (x : Session) (l : Die), Runs s r (regInfo l 0x07 0 true) x t ∧
      t.blockOff l 0x07 true = false) ∧
    (∃ (s : State) (t : State) (r : Req) (x : Session) (l : Die), Runs s r (regInfo l 0x07 0 true) x t ∧
      t.blockOff l 0x07 true = false) ∧
    (∃ (s : State) (t : State) (r : Req) (x : Session) (l : Die), Runs s r
      { regInfo l 0x07 3 true with priv := some .operator } x t ∧ t.blockOff l 0x07 true = false) ∧
    (∃ (s : State) (t : State) (r : Req) (x : Session) (lanes : _) (force : _) (swing : _) (shape : _) (en : _),
      Runs s r (infoLineTxSet lanes force swing shape en) x t ∧ t.txOn (maskDies lanes) = true) ∧
    (∃ (s : State) (t : State) (r : Req) (x : Session) (l : Die) (w : _), Runs s r (infoTxAdaptSet l.val w) x t
      ∧ toDie? l.val = some l ∧ t.txOn [l] = true) ∧
    (∃ (s : State) (t : State) (r : Req) (x : Session) (l : Die) (lims : _) (action : _), Runs s r
      (infoTxMaskSet l.val lims action) x t ∧ toDie? l.val = some l ∧ t.txOn [l] = true) ∧
    (∃ (s : State) (l : Die), s.pop l = true ∧ (s.tx l).holdLeft = 0) ∧
    (∃ (s : State) (l : Die), s.pop l = true ∧ 1024 ≤ (s.tx l).sinceFb) :=
  ⟨⟨wB, State.runAt wB wQ, wQ, wS, 0, 1, wBank, wRuns (by decide +kernel), by decide +kernel⟩,
    ⟨wB, State.runAt wB wQ, wQ, wS, 0, 1, wBank, wRuns (by decide +kernel), by decide +kernel⟩,
    ⟨wB, State.runAt wB wQ, wQ, wS, 0, wRuns (by decide +kernel), by decide +kernel⟩,
    ⟨wB, State.runAt wB wQ, wQ, wS, 0, wRuns (by decide +kernel), by decide +kernel⟩,
    ⟨wB, State.runAt wB wQ, wQ, wS, 0, wRuns (by decide +kernel), by decide +kernel⟩,
    ⟨wB, State.runAt wB wQ, wQ, wS, 1, none, some 3, none, none, wRuns (by decide +kernel), by decide +kernel⟩,
    ⟨wB, State.runAt wB wQ, wQ, wS, 0, 0x4000, wRuns (by decide +kernel), by decide +kernel⟩,
    ⟨wB, State.runAt wB wQ, wQ, wS, 0, List.replicate 8 40, 1, wRuns (by decide +kernel), by decide +kernel⟩,
    ⟨wB, 0, by decide +kernel⟩,
    ⟨wB.updTx 0 fun x => { x with sinceFb := 1024 }, 0, by decide +kernel⟩⟩

/-- TransmitBanks: states and operands that meet the hypotheses of each clause. -/
theorem witness_TransmitBanks :
    (∃ (s : State) (b : _) (c : _), s.regs.wf = true ∧ b < 2 ∧ fits8 c = true) ∧
    (∃ (s : State) (t : State) (r : Req) (x : Session) (l : Die) (bank : _) (c : _), Runs s r (infoTxBankLoad
      l.val bank c) x t ∧ toDie? l.val = some l ∧ t.txOn [l] = true ∧ (t.flag l LTX_ADAPT_CTRL_EN &&
      !t.standard) = false ∧ t.rd l LTX_CTRL_FIR_ACTIVE = bank) ∧
    (∃ (s : State) (l : Die), s.regs.wf = true ∧ (s.tx l).firSwap = some .user ∧ s.rd l LTX_CTRL_FIR_ACTIVE ≤ 1) ∧
    (∃ (s : State) (l : Die), (s.tx l).firSwap = none) :=
  ⟨⟨wB, 1, wBank, by decide +kernel⟩,
    ⟨wB, State.runAt wB wQ, wQ, wS, 0, 0, wBank, wRuns (by decide +kernel), by decide +kernel⟩,
    ⟨wB.updTx 0 fun x => { x with firSwap := some .user }, 0, by decide +kernel⟩,
    ⟨wB, 0, by decide +kernel⟩⟩

/-- LaunchDelaySteps: states and operands that meet the hypotheses. -/
theorem witness_LaunchDelaySteps :
    ∃ (s : State) (l : Die), s.regs.wf = true ∧ s.delayTarget l < 262144 ∧ s.delayNow l < 262144 :=
  ⟨wB, 0, by decide +kernel⟩

/-- MaskMeasured: states and operands that meet the hypotheses of each clause. -/
theorem witness_MaskMeasured :
    (∃ (s : State) (l : Die), s.regs.wf = true ∧ s.tel.ctr.wf = true ∧ s.pop l = true ∧ s.domainOn l .tx = true
      ∧ 64 ≤ (s.tx l).maskFrames) ∧
    (∃ (s : State) (l : Die), (s.tx l).maskFrames < 64) :=
  ⟨⟨wB.updTx 0 fun x => { x with maskFrames := 64 }, 0, by decide +kernel⟩,
    ⟨wB, 0, by decide +kernel⟩⟩

/-- ReceiverRuns (ReceiverCommandsRun): states and operands that meet the hypotheses of each clause. -/
theorem witness_ReceiverCommandsRun :
    (∃ (s : State) (t : State) (r : Req) (x : Session) (l : Die) (bank : _) (main : _) (c : _) (fade : _), Runs
      s r (infoRxBankLoad l.val bank main c fade) x t ∧ toDie? l.val = some l ∧ t.rxOn [l] = true ∧ t.cbBusy l
      bank = false) ∧
    (∃ (s : State) (t : State) (r : Req) (x : Session) (l : Die) (bank : _) (fade : _), Runs s r (infoRxBankSwap
      l.val bank fade) x t ∧ toDie? l.val = some l ∧ t.rxOn [l] = true) ∧
    (∃ (s : State) (t : State) (r : Req) (x : Session) (l : Die), Runs s r (regInfo l 0x08 5 true) x t ∧
      t.blockOff l 0x08 true = false) ∧
    (∃ (s : State) (t : State) (r : Req) (x : Session) (l : Die) (en : _) (nle : _), Runs s r (infoRxAdaptSet
      l.val en nle) x t ∧ toDie? l.val = some l ∧ t.rxOn [l] = true) ∧
    (∃ (s : State) (t : State) (r : Req) (x : Session) (l : Die) (pin : _) (clear : _) (n : _) (f : _), Runs s r
      (infoRxPathSet l.val pin clear n f) x t ∧ toDie? l.val = some l ∧ t.rxOn [l] = true) ∧
    (∃ (s : State) (t : State) (r : Req) (x : Session) (l : Die), Runs s r (regInfo l 0x08 13 true) x t ∧
      t.blockOff l 0x08 true = false) ∧
    (∃ (s : State) (t : State) (r : Req) (x : Session) (lanes : _) (a : _) (b : _) (c : _) (d : _) (e : _), Runs
      s r (infoLineRxSet lanes a b c d e) x t ∧ t.rxOn (maskDies lanes) = true) ∧
    (∃ (s : State) (t : State) (r : Req) (x : Session) (l : Die) (a : _) (b : _) (c : _) (d : _), Runs s r
      (infoFrameLockSet l.val a b c d) x t ∧ toDie? l.val = some l ∧ t.rxOn [l] = true) ∧
    (∃ (s : State) (t : State) (r : Req) (x : Session) (l : Die) (kind : _) (index : _), Runs s r
      (infoRxBankRead l.val kind index) x t ∧ toDie? l.val = some l ∧ t.level l .rx ≠ .dead) ∧
    (∃ (s : State) (t : State) (r : Req) (x : Session) (lanes : _), Runs s r (infoLineStatusGet lanes) x t) :=
  ⟨⟨wB, State.runAt wB wQ, wQ, wS, 0, 1, 3, wBank, none, wRuns (by decide +kernel), by decide +kernel⟩,
    ⟨wB, State.runAt wB wQ, wQ, wS, 0, 1, none, wRuns (by decide +kernel), by decide +kernel⟩,
    ⟨wB, State.runAt wB wQ, wQ, wS, 0, wRuns (by decide +kernel), by decide +kernel⟩,
    ⟨wB, State.runAt wB wQ, wQ, wS, 0, none, none, wRuns (by decide +kernel), by decide +kernel⟩,
    ⟨wB, State.runAt wB wQ, wQ, wS, 0, 0, 1, 4, 1, wRuns (by decide +kernel), by decide +kernel⟩,
    ⟨wB, State.runAt wB wQ, wQ, wS, 0, wRuns (by decide +kernel), by decide +kernel⟩,
    ⟨wB, State.runAt wB wQ, wQ, wS, 1, 5, 20, 1, 1, 0, wRuns (by decide +kernel), by decide +kernel⟩,
    ⟨wB, State.runAt wB wQ, wQ, wS, 0, 4, 4, 8, 2, wRuns (by decide +kernel), by decide +kernel⟩,
    ⟨wB, State.runAt wB wQ, wQ, wS, 0, 0, 1, wRuns (by decide +kernel), by decide +kernel⟩,
    ⟨wB, State.runAt wB wQ, wQ, wS, 1, wRuns (by decide +kernel)⟩⟩

/-- ReceiverRuns (AcquisitionRuns): states and operands that meet the hypotheses of each clause. -/
theorem witness_AcquisitionRuns :
    (∃ (s : State) (l : Die) (ps : List Nat), s.pop l = true ∧ s.domainOn l .rx = true ∧ s.rxState l ≠ .down ∧
      s.flag l LRX_STAT_LOS = false ∧ ps.length = 8 ∧ (∀ p ∈ ps, 4 * s.rd l LRX_FRONT_LOS_THR < p)) ∧
    (∃ (s : State) (l : Die) (ps : List Nat), s.rxIn l [.signalWait] = true ∧ s.flag l LRX_STAT_LOS = true ∧
      ps.length = 64 ∧ (∀ p ∈ ps, p + 8 ≤ 4 * s.rd l LRX_FRONT_LOS_THR)) ∧
    (∃ (s : State) (l : Die), s.rxIn l [.gain] = true) ∧
    (∃ (s : State) (l : Die) (f : Int), s.rxIn l [.freq] = true ∧ f.natAbs ≤ 300 * 64) ∧
    (∃ (s : State) (l : Die), s.rxIn l [.blindEq] = true) ∧
    (∃ (s : State) (l : Die) (before : List Nat) (after : List Nat), s.pop l = true ∧ s.domainOn l .rx = true ∧
      before.length = 16 ∧ after.length = 2 ∧ before.sum < 8 * after.sum ∧ before.sum ^ 10 * 10 ^ s.rd l
      LRX_FRONT_CAP_THR ≤ (8 * after.sum) ^ 10) ∧
    (∃ (s : State) (l : Die) (n : _), s.pop l = true ∧ (s.rx l).capture = some n ∧ 32 ≤ n) ∧
    (∃ (s : State) (l : Die) (us : _), s.pop l = true ∧ s.domainOn l .rx = true ∧ RxState.limitUs (s.rxState l)
      = some us ∧ (s.rx l).since + usU us ≤ s.time.now) ∧
    (∃ (s : State) (l : Die) (pos : _) (window : _) (pilots : _) (j : Die), s.searching l = true ∧ s.standard =
      false ∧ candidateLane (s.rx l).tol window pilots = some j ∧ (candsAt (s.rx l).lockN pos (s.rx
      l).cands).length < 4 ∧ (∀ c ∈ candsAt (s.rx l).lockN pos (s.rx l).cands, c.pos ≠ pos ∧ c.pos + 1320960 ≠
      pos ∧ c.matched < (s.rx l).lockN)) ∧
    (∃ (s : State) (l : Die), s.searching l = true ∧ s.standard = false) ∧
    (∃ (tol : _) (window : _) (pilots : _) (j : _), candidateLane tol window pilots = some j) ∧
    (∃ (s : State) (l : Die), s.searching l = true ∧ s.standard = true) ∧
    (∃ (s : State) (l : Die) (pos : _) (c : _), s.searching l = true ∧ s.standard = false ∧ (s.rx l).cands.find?
      (fun c => decide ((s.rx l).lockN ≤ c.matched)) = some c ∧ c.pos = pos) ∧
    (∃ (s : State) (l : Die) (t : _), s.rxIn l [.fastReacq] = true ∧ (s.rx l).try_ = some t ∧ (t.cur = none ∨
      t.since + (s.rd l LRX_PATH_CTRL_TRY_FRAMES + 1) * 8 * s.frameU ≤ s.time.now)) ∧
    (∃ (s : State) (l : Die) (f : _), s.pop l = true ∧ (s.rx l).fade = some f ∧ f.jump = false ∧ f.begun =
      false) ∧
    (∃ (s : State) (l : Die) (f : _), s.pop l = true ∧ (s.rx l).fade = some f ∧ f.jump = true) ∧
    (∃ (s : State) (l : Die) (f : _), s.pop l = true ∧ (s.rx l).fade = some f ∧ f.begun = true ∧ f.since +
      s.symbolsU f.len ≤ s.time.now) :=
  ⟨⟨(wRx .locked).wr 0 LRX_STAT_LOS 0, 0, List.replicate 8 1000, by decide +kernel⟩,
    ⟨((wRx .signalWait).wr 0 LRX_STAT_LOS 1).wr 0 LRX_FRONT_LOS_THR 30, 0, List.replicate 64 100,
      by decide +kernel⟩,
    ⟨wRx .gain, 0, by decide +kernel⟩,
    ⟨wRx .freq, 0, -64, by decide +kernel⟩,
    ⟨wRx .blindEq, 0, by decide +kernel⟩,
    ⟨wRx .locked, 0, List.replicate 16 0, [1, 1], by decide +kernel⟩,
    ⟨(wRx .locked).updRx 0 fun x => { x with capture := some 32 }, 0, 32, by decide +kernel⟩,
    ⟨wRx .gain, 0, 50, by decide +kernel⟩,
    ⟨wRx .marker, 0, 5, LineFormat.marker, pilotWord 0, 0, by decide +kernel⟩,
    ⟨wRx .marker, 0, by decide +kernel⟩,
    ⟨0, LineFormat.marker, pilotWord 3, 3, by decide +kernel⟩,
    ⟨wStd (wRx .marker), 0, by decide +kernel⟩,
    ⟨(wRx .marker).updRx 0 fun x => { x with cands := [⟨5, 0, 64⟩] }, 0, 5, ⟨5, 0, 64⟩, by decide +kernel⟩,
    ⟨(wRx .fastReacq).updRx 0 fun x => { x with try_ := some ⟨[], none, 0⟩ }, 0, ⟨[], none, 0⟩,
      by decide +kernel⟩,
    ⟨wFade ⟨1, false, false, 0, 0, 64⟩, 0, ⟨1, false, false, 0, 0, 64⟩, by decide +kernel⟩,
    ⟨wFade ⟨1, true, false, 0, 0, 64⟩, 0, ⟨1, true, false, 0, 0, 64⟩, by decide +kernel⟩,
    ⟨wFade ⟨1, false, true, 0, 0, 64⟩, 0, ⟨1, false, true, 0, 0, 64⟩, by decide +kernel⟩⟩

/-- ReceiverRuns (LockedReceiverRuns): states and operands that meet the hypotheses of each clause. -/
theorem witness_LockedReceiverRuns :
    (∃ (s : State) (l : Die), s.pop l = true ∧ s.domainOn l .rx = true ∧ s.flocked l = true ∧ s.standard = true) ∧
    (∃ (s : State) (l : Die), s.pop l = true ∧ s.domainOn l .rx = true ∧ s.flocked l = true ∧ s.standard =
      false) ∧
    (∃ (s : State) (l : Die), s.rxIn l [.locked] = true ∧ 1024 ≤ (s.rx l).sinceRefresh) ∧
    (∃ (s : State) (l : Die), s.rxIn l [.locked] = true ∧ s.flag l LRX_CTRL_FB_SUGGEST = true ∧ s.standard =
      false ∧ 256 ≤ (s.rx l).lockedFrames ∧ 256 ≤ (s.rx l).sinceSuggest) ∧
    (∃ (s : State) (l : Die), s.pop l = true ∧ s.domainOn l .rx = true ∧ s.rxState l ≠ .down ∧ s.flag l
      LRX_ADC_ROT_EN = true ∧ s.flag l LRX_ADC_NO_SPARE = false ∧ (s.rx l).rotAt + 64 * 4 ^ s.rd l
      LRX_ADC_ROT_PERIOD * s.frameU ≤ s.time.now) ∧
    (∃ (s : State) (l : Die) (i : _), s.pop l = true ∧ s.domainOn l .rx = true ∧ i < 65) :=
  ⟨⟨wStd (wLock .locked), 0, by decide +kernel⟩,
    ⟨wLock .locked, 0, by decide +kernel⟩,
    ⟨(wRx .locked).updRx 0 fun x => { x with sinceRefresh := 1024 }, 0, by decide +kernel⟩,
    ⟨((wRx .locked).updRx 0 fun x => { x with lockedFrames := 256, sinceSuggest := 256 }).wr 0
      LRX_CTRL_FB_SUGGEST 1, 0, by decide +kernel⟩,
    ⟨wRx .locked, 0, by decide +kernel⟩,
    ⟨wRx .locked, 0, 64, by decide +kernel⟩⟩

/-- SwapRequests: states and operands that meet the hypotheses of each clause. -/
theorem witness_SwapRequests :
    (∃ (s : State) (t : State) (r : Req) (x : Session) (l : Die) (bank : _) (fade : _), t.regs.wf = true ∧ Runs
      s r (infoRxBankSwap l.val bank fade) x t ∧ toDie? l.val = some l ∧ t.rxOn [l] = true) ∧
    (∃ (s : State) (t : State) (r : Req) (x : Session) (l : Die) (w : Word), t.regs.wf = true ∧ Runs s r
      (regInfo l 0x08 5 true) x t ∧ t.blockOff l 0x08 true = false ∧ w.getLsbD 7 = true) :=
  ⟨⟨wB, State.runAt wB wQ, wQ, wS, 0, 1, none, by decide +kernel, wRuns (by decide +kernel), by decide +kernel⟩,
    ⟨wB, State.runAt wB wQ, wQ, wS, 0, 0x80, by decide +kernel, wRuns (by decide +kernel), by decide +kernel⟩⟩

/-- PathMemoryOrder: states and operands that meet the hypotheses of each clause. -/
theorem witness_PathMemoryOrder :
    (∃ (s : State) (l : Die) (e : Fin 8), s.pickEntry l = some e) ∧
    (∃ (s : State) (l : Die), s.pickEntry l = none) ∧
    (∃ (win : _) (tol : _) (hits : _) (k : _), slipTo win tol hits = some k) ∧
    (∃ (win : _) (tol : _) (hits : _), slipTo win tol hits = none) :=
  ⟨⟨wB, 0, 0, by decide +kernel⟩,
    ⟨wFullPath, 0, by decide +kernel⟩,
    ⟨4, 2, [(-1, 1), (1, 0)], -1, by decide +kernel⟩,
    ⟨4, 2, [], by decide +kernel⟩⟩

/-- PoolRuns: states and operands that meet the hypotheses of each clause. -/
theorem witness_PoolRuns :
    (∃ (s : State) (t : State) (r : Req) (x : Session) (l : Die) (cap : _) (m : _), Runs s r (infoDecPoolSet
      l.val cap m) x t ∧ toDie? l.val = some l ∧ t.rxOn [l] = true) ∧
    (∃ (s : State) (t : State) (r : Req) (x : Session) (l : Die), Runs s r (regInfo l 0x0A 2 true) x t ∧
      t.blockOff l 0x0A true = false) ∧
    (∃ (s : State) (l : Die) (e : _) (conv : _) (it : _) (j : _), s.standard = false ∧ s.pop l = true ∧
      s.engineOn l e = true ∧ (s.engine l e).stalled = false ∧ (s.engine l e).job = some j ∧ 1 ≤ it ∧ it ≤
      (s.engine l e).cap ∧ (conv = true ∨ it = (s.engine l e).cap)) ∧
    (∃ (s : State) (l : Die), s.standard = true ∧ s.pop l = true ∧ s.domainOn l .rx = true ∧ s.flocked l = true) ∧
    (∃ (s : State) (l : Die) (e : _), s.pop l = true ∧ (s.engine l e).job.isSome = true ∧ (s.engine l e).stalled
      = false ∧ (s.engine l e).begun + 16 * (s.engine l e).cap + 32 < s.coreNow) ∧
    (∃ (s : State) (l : Die) (g : _), s.pop l = true ∧ s.flocked l = true ∧ s.rxDelivers l = true ∧ s.domainOn l
      .dataPath = true ∧ g < 16 ∧ s.standard = false) ∧
    (∃ (s : State) (l : Die) (a : _) (b : _), s.pop l = true ∧ (a = false ∨ b = true)) ∧
    (∃ (s : State) (l : Die) (e : Fin 8) (t : _), s.pop l = true ∧ s.bit l DEC_POOL_STAT_FENCED e.val = true ∧
      s.bit l DEC_POOL_STAT_PERM e.val = false ∧ s.bit l DEC_POOL_CTRL_MAN_FENCE e.val = false ∧ (s.engine l
      e).returning = false ∧ (s.engine l e).slicing = false ∧ (s.engine l e).sliceDue = some t ∧ t ≤ s.time.now) ∧
    (∃ (s : State) (l : Die) (e : Fin 8), s.pop l = true ∧ (s.engine l e).slicing = true) ∧
    (∃ (s : State), s.sb.pendRoutes = true) :=
  ⟨⟨wB, State.runAt wB wQ, wQ, wS, 0, 8, 1, wRuns (by decide +kernel), by decide +kernel⟩,
    ⟨wB, State.runAt wB wQ, wQ, wS, 0, wRuns (by decide +kernel), by decide +kernel⟩,
    ⟨(wB.updEngine 0 1 fun x => { x with job := some wJob, cap := 8 }), 0, 1, true, 8, wJob, by decide +kernel⟩,
    ⟨wStd (wLock .locked), 0, by decide +kernel⟩,
    ⟨late (wEng fun x => { x with job := some wJob }), 0, 1, by decide +kernel⟩,
    ⟨wLock .locked, 0, 15, by decide +kernel⟩,
    ⟨wB, 0, false, true, by decide +kernel⟩,
    ⟨(wEng fun x => { x with sliceDue := some 0 }).wr 0 DEC_POOL_STAT_FENCED 2, 0, 1, 0, by decide +kernel⟩,
    ⟨wEng fun x => { x with slicing := true }, 0, 1, by decide +kernel⟩,
    ⟨{ wB with sb := { wB.sb with pendRoutes := true } }, by decide +kernel⟩⟩

/-- DecoderDelivers: states and operands that meet the hypotheses of each clause. -/
theorem witness_DecoderDelivers :
    (∃ (s : State) (l : Die) (i : _) (f : _), s.frame? l i = some f ∧ f.delivered ≤ 256) ∧
    (∃ (s : State) (l : Die) (f : _) (fs : _) (g : _), (s.pool l).frames = f :: fs ∧ (s.deliverFrame l
      f.idx).frame? l f.idx = some g ∧ g.delivered < 256) ∧
    (∃ (s : State) (l : Die), s.regs.wf = true ∧ (s.rd l DEC_POOL_CTRL_CAP ≤ 16)) ∧
    (∃ (s : State) (t : State) (r : Req) (x : Session) (l : Die) (cap : _) (m : _), Runs s r (infoDecPoolSet
      l.val cap m) x t ∧ toDie? l.val = some l ∧ t.rxOn [l] = true ∧ (∃ e : Die, (BitVec.ofNat 8 m).getLsbD
      e.val = true ∧ t.bit l DEC_POOL_CTRL_MAN_FENCE e.val = false) ∧ (∀ e : Fin 8, t.engineOn l e = true →
      (BitVec.ofNat 8 m).getLsbD e.val = true)) ∧
    (∃ (s : State) (l : Die) (e : Fin 8), s.regs.wf = true ∧ s.tel.ctr.wf = true ∧ s.pop l = true ∧ s.engineOn l
      e = true) :=
  ⟨⟨wB.updPool 0 fun p => { p with frames := [wFrame] }, 0, 3, wFrame, by decide +kernel⟩,
    ⟨wPools wFrame, 0, wFrame, [], { wFrame with delivered := 3 }, by decide +kernel⟩,
    ⟨wB, 0, by decide +kernel⟩,
    ⟨wB, State.runAt wB wQ, wQ, wS, 0, 8, 255, wRuns (by decide +kernel), by decide +kernel, by decide +kernel,
      ⟨0, by decide +kernel⟩, by decide +kernel⟩,
    ⟨wB, 0, 1, by decide +kernel⟩⟩

/-- KeysRun (KeyCommandsRun): states and operands that meet the hypotheses of each clause. -/
theorem witness_KeyCommandsRun :
    (∃ (s : State) (t : State) (r : Req) (x : Session), Runs s r (keyInfo 0x0501 .custodian true none) x t) ∧
    (∃ (s : State) (t : State) (r : Req) (x : Session), Runs s r (keyInfo 0x0502 .custodian true none) x t) ∧
    (∃ (s : State) (t : State) (r : Req) (x : Session) (psk : Bytes), Runs s r (keyInfo 0x0503 .custodian true
      (if psk.all fun b => b == 0#8 then some 0 else none)) x t) ∧
    (∃ (s : State) (t : State) (r : Req) (x : Session) (fl : _) (tl : _), Runs s r (keyInfo 0x0504 .custodian
      true (keyLifeBad fl tl)) x t) ∧
    (∃ (s : State) (t : State) (r : Req) (x : Session), Runs s r (keyInfo 0x0505 .custodian true none) x t) ∧
    (∃ (s : State) (t : State) (r : Req) (x : Session), Runs s r (keyInfo 0x0506 .custodian true none) x t) ∧
    (∃ (s : State) (t : State) (r : Req) (x : Session), Runs s r
      { keyInfo 0x0507 .operator false none with ns := true } x t) ∧
    (∃ (s : State) (t : State) (r : Req) (x : Session), Runs s r
      { keyInfo 0x0508 .operator false none with ns := true, rt := true } x t) ∧
    (∃ (s : State) (t : State) (r : Req) (x : Session) (l : Die), Runs s r
      { keyInfo 0x0509 .custodian true (numBad l.val 8 0) with ns := true, dies := oneDie l.val } x t ∧ toDie?
      l.val = some l ∧ t.domainOn l .dataPath = true) ∧
    (∃ (s : State) (t : State) (r : Req) (x : Session) (lanes : _), Runs s r (infoCipherStatusGet lanes) x t) ∧
    (∃ (s : State) (k : _), (s.keys s.keyHome).txCur = some k ∧ s.cipherOn = true ∧ s.keySpent k = true ∧
      (s.keys s.keyHome).txNext = none ∧ s.kx.expired = false) ∧
    (∃ (s : State) (d : Die), s.pop d = true ∧ s.power d = .dormant ∧ s.retainedOld d = true) :=
  ⟨⟨wB, State.runAt wB wQ, wQ, wS, wRuns (by decide +kernel)⟩,
    ⟨wB, State.runAt wB wQ, wQ, wS, wRuns (by decide +kernel)⟩,
    ⟨wB, State.runAt wB wQ, wQ, wS, [1#8], wRuns (by decide +kernel)⟩,
    ⟨wB, State.runAt wB wQ, wQ, wS, some 31, some 1440, wRuns (by decide +kernel)⟩,
    ⟨wB, State.runAt wB wQ, wQ, wS, wRuns (by decide +kernel)⟩,
    ⟨wB, State.runAt wB wQ, wQ, wS, wRuns (by decide +kernel)⟩,
    ⟨wB, State.runAt wB wQ, wQ, wS, wRuns (by decide +kernel)⟩,
    ⟨wB, State.runAt wB wQ, wQ, wS, wRuns (by decide +kernel)⟩,
    ⟨wB, State.runAt wB wQ, wQ, wS, 0, wRuns (by decide +kernel), by decide +kernel⟩,
    ⟨wB, State.runAt wB wQ, wQ, wS, 1, wRuns (by decide +kernel)⟩,
    ⟨late wKeys, wKey, by decide +kernel⟩,
    ⟨(late wKeys).wr 0 PWR_STATE_CUR 4, 0, by decide +kernel⟩⟩

/-- KeysRun (KeyAgreementRuns): states and operands that meet the hypotheses of each clause. -/
theorem witness_KeyAgreementRuns :
    (∃ (s : State) (l : Die), s.kxArrives l = true) ∧
    (∃ (s : State) (l : Die) (c : KxRec) (a : Attempt), s.kxArrives l = true ∧ KxRec.headOk c = true ∧ s.kx.tx =
      some a ∧ a.session = c.session ∧ a.response = []) ∧
    (∃ (s : State) (l : Die) (c : KxRec) (a : Attempt), s.kxArrives l = true ∧ KxRec.headOk c = true ∧ s.kx.rx =
      some a ∧ a.session = c.session) ∧
    (∃ (s : State) (l : Die) (c : KxRec) (a : Attempt), s.kxArrives l = true ∧ KxRec.headOk c = true ∧ s.kx.tx =
      some a ∧ a.session = c.session ∧ a.confirm ≠ []) ∧
    (∃ (s : State) (l : Die) (c : KxRec) (a : Attempt), s.kxArrives l = true ∧ KxRec.headOk c = true ∧ s.kx.tx =
      some a ∧ a.session = c.session) ∧
    (∃ (s : State) (l : Die) (c : KxRec) (a : Attempt), s.kxArrives l = true ∧ KxRec.headOk c = true ∧ s.kx.tx =
      none ∧ s.kx.rx = some a ∧ a.session = c.session) ∧
    (∃ (s : State) (l : Die) (c : KxRec), s.kxArrives l = true ∧ (KxRec.headOk c = false ∨ s.kx.tx = none ∧
      s.kx.rx = none)) ∧
    (∃ (s : State) (l : Die) (c : KxRec), s.kxArrives l = true ∧ KxRec.headOk c = true ∧ s.cipherOn = true) ∧
    (∃ (s : State) (a : Attempt), s.kx.tx = some a ∧ a.start + secU 2 ≤ s.time.now) ∧
    (∃ (s : State) (a : Attempt), s.kx.rx = some a ∧ a.start + secU 2 ≤ s.time.now) ∧
    (∃ (s : State) (t : _), s.kx.due = some t ∧ t ≤ s.time.now) ∧
    (∃ (s : State) (e : _) (t : _) (m : _), s.kx.newer = some (e, t, m) ∧ t + 4096 * s.frameU ≤ s.time.now) ∧
    (∃ (s : State) (l : Die), s.pop l = true ∧ (s.ciph l).announced = true ∧ (s.ciph l).cd = 1 ∧ (s.ciph
      l).onNext = false ∧ (s.keys l).txNext.isSome = true) ∧
    (∃ (s : State) (l : Die), s.ciphRuns l = true ∧ s.standard = false ∧ periodDue (s.ciph l).checkAt s.frameU
      s.time.now = true) ∧
    (∃ (s : State) (l : Die) (rx : Bool) (q : _), s.sparePipe l rx = some q) ∧
    (∃ (s : State) (l : Die) (rx : Bool) (p : Fin 4), s.ciphRuns l = true ∧ s.pipeSliceDue l rx p = true ∧ (if
      rx then (s.die l).units.rxPipes else (s.die l).units.txPipes).getLsbD p.val = false ∧ (rx = true ∨ s.flag
      l CIPH_FLAGS_SF_C = false) ∧ (if rx then (s.ciph l).rxFenced else (s.ciph l).txFenced).getLsbD p.val =
      false) :=
  ⟨⟨wKx none none, 0, by decide +kernel⟩,
    ⟨wKx (some wAtt) none, 0, wRec, wAtt, by decide +kernel⟩,
    ⟨wKx none (some wAtt), 0, wRec, wAtt, by decide +kernel⟩,
    ⟨wKx (some { wAtt with confirm := [1#8] }) none, 0, wRec, { wAtt with confirm := [1#8] }, by decide +kernel⟩,
    ⟨wKx (some wAtt) none, 0, wRec, wAtt, by decide +kernel⟩,
    ⟨wKx none (some wAtt), 0, wRec, wAtt, by decide +kernel⟩,
    ⟨wKx none none, 0, wRec, by decide +kernel⟩,
    ⟨wKx none none, 0, wRec, by decide +kernel⟩,
    ⟨late (wKx (some wAtt) none), wAtt, by decide +kernel⟩,
    ⟨late (wKx none (some wAtt)), wAtt, by decide +kernel⟩,
    ⟨wB.updKx fun x => { x with due := some 0 }, 0, by decide +kernel⟩,
    ⟨(late wB).updKx fun x => { x with newer := some (2, 0, 1) }, 2, 0, 1, by decide +kernel⟩,
    ⟨(wB.updKeys 0 fun _ => ⟨some wKey, some wKey, []⟩).updCiph 0 fun c =>
      { c with announced := true, cd := 1 }, 0, by decide +kernel⟩,
    ⟨wB, 0, by decide +kernel⟩,
    ⟨wB, 0, false, 3, by decide +kernel⟩,
    ⟨late wB, 0, true, 3, by decide +kernel⟩⟩

/-- NoncesDecide: states and operands that meet the hypotheses of each clause. -/
theorem witness_NoncesDecide :
    (∃ (ni : Bytes) (nr : Bytes), ni.length = 32 ∧ nr.length = 32) ∧
    (∃ (c : KxRec) (nonce : _), c.nonce = nonce) ∧
    (∃ (s : State) (l : Die) (c : KxRec) (a : Attempt), s.kxArrives l = true ∧ KxRec.headOk c = true ∧ s.kx.tx =
      some a ∧ a.session = c.session ∧ a.response = [] ∧ c.mode = KeyMode.code a.mode ∧ s.kxCredential a.mode =
      true ∧ c.nonce = a.nonce) :=
  ⟨⟨List.replicate 32 0#8, List.replicate 32 1#8, by decide +kernel⟩,
    ⟨wRec, [1#8], by decide +kernel⟩,
    ⟨wKx (some wAtt) none, 0, wRec, wAtt, by decide +kernel⟩⟩

/-- KeysHeld: states and operands that meet the hypotheses of each clause. -/
theorem witness_KeysHeld :
    (∃ (e : _), e ≤ 0xFFFF) ∧
    (∃ (s : State), (s.keys s.keyHome).txCur = none) ∧
    (∃ (s : State) (d : _), d ∈ s.keyDies) ∧
    (∃ (s : State), s.regs.wf = true) :=
  ⟨⟨0xFFFF, by decide +kernel⟩,
    ⟨wB, by decide +kernel⟩,
    ⟨wB, 0, by decide +kernel⟩,
    ⟨wB, by decide +kernel⟩⟩

/-- PowerRuns: states and operands that meet the hypotheses of each clause. -/
theorem witness_PowerRuns :
    (∃ (s : State) (t : State) (r : Req) (x : Session) (gs : _), Runs s r (infoPowerPolicySet s gs) x t) ∧
    (∃ (s : State) (t : State) (r : Req) (x : Session), Runs s r infoPowerStateGet x t) ∧
    (∃ (s : State) (d : Die), s.pop d = true ∧ s.flag d PWR_STATE_TRANS = true ∧ (s.pwr d).waking = false ∧
      ((s.tx d).running = false ∨ s.rd d LTX_STAT_TX_STATE = 0)) ∧
    (∃ (s : State) (d : Die), s.pop d = true ∧ s.flag d PWR_STATE_TRANS = true ∧ (s.pwr d).waking = true ∧
      s.pllsReady d (PowerState.ofCode (s.rd d PWR_STATE_TARGET)) = true) ∧
    (∃ (s : State) (d : Die) (src : _), s.pop d = true ∧ s.srcFires d src = true) ∧
    (∃ (s : State) (d : Die) (n : Fin 2) (level : _), s.pop d = true ∧ s.power d ≠ .off ∧ s.cmpArmed d n = true
      ∧ s.rd d (PWR_WAKE_CMP_THR n.val) * 16 < level) ∧
    (∃ (s : State) (d : Die) (n : Fin 2) (level : _), s.pop d = true ∧ s.power d ≠ .off ∧ level < (s.rd d
      (PWR_WAKE_CMP_THR n.val) - s.rd d (PWR_WAKE_CMP_HYST n.val)) * 16) ∧
    (∃ (s : State) (d : Die) (bits : List Bool), s.thermalRuns d = true ∧ periodDue (s.pwr d).tjAt (msU 8)
      s.time.now = true ∧ bits.length = 11 * presetD 0) :=
  ⟨⟨wB, State.runAt wB wQ, wQ, wS, [⟨1, true, 100⟩], wRuns (by decide +kernel)⟩,
    ⟨wB, State.runAt wB wQ, wQ, wS, wRuns (by decide +kernel)⟩,
    ⟨wB.wr 0 PWR_STATE_TRANS 1, 0, by decide +kernel⟩,
    ⟨(((((wB.wr 0 PWR_STATE_TRANS 1).wr 0 CLK_PLL_STAT_SYS_LOCK 1).wr 0 CLK_PLL_STAT_HOST_LOCK 1).wr 0
      CLK_PLL_STAT_MGMT_LOCK 1).updPwr 0 fun x => { x with waking := true }), 0, by decide +kernel⟩,
    ⟨wB.wr 0 PWR_WAKE_EN_MRX 1, 0, .mrx, by decide +kernel⟩,
    ⟨wB, 0, 0, 1023, by decide +kernel⟩,
    ⟨wB, 0, 0, 0, by decide +kernel⟩,
    ⟨late wB, 0, List.replicate (11 * presetD 0) true, by decide +kernel, by decide +kernel,
      List.length_replicate⟩⟩

/-- WakeComparators: states and operands that meet the hypotheses of each clause. -/
theorem witness_WakeComparators :
    (∃ (s : State) (t : State) (r : Req) (x : Session) (dies : _) (cs : _), Runs s r (infoWakeCmpSet dies cs) x
      t) ∧
    (∃ (s : State) (t : State) (r : Req) (x : Session) (dies : _) (cs : _), t.regs.wf = true ∧ Runs s r
      (infoWakeCmpSet dies cs) x t) :=
  ⟨⟨wB, State.runAt wB wQ, wQ, wS, 3, [⟨true, 3, 20, 4⟩, ⟨true, 4, 30, 5⟩], wRuns (by decide +kernel)⟩,
    ⟨wB, State.runAt wB wQ, wQ, wS, 1, [⟨true, 0, 20, 4⟩], by decide +kernel, wRuns (by decide +kernel)⟩⟩

/-- BudgetsAdmit: states and operands that meet the hypotheses of each clause. -/
theorem witness_BudgetsAdmit :
    (∃ (s : State) (gs : _), (groupsOverlap gs = true ∨ splitsPort s.profile s.plan gs = true)) ∧
    (∃ (s : State) (d : Die), s.regs.wf = true ∧ s.pop d = true) :=
  ⟨⟨wB, [⟨1, true, 100⟩, ⟨3, true, 100⟩], by decide +kernel⟩,
    ⟨wB, 0, by decide +kernel⟩⟩

/-- DataPathRuns (HostPathRuns): states and operands that meet the hypotheses of each clause. -/
theorem witness_HostPathRuns :
    (∃ (s : State) (o : Die) (k : Die) (t : _), s.groupKeys.find? (fun k => s.groupOwner k == o) = some k ∧
      s.aligned k = false ∧ (s.dsk k).retryAt = some t ∧ t ≤ s.time.now) ∧
    (∃ (s : State) (o : Die) (k : Die), s.groupKeys.find? (fun k => s.groupOwner k == o) = some k ∧ (s.dsk
      k).slew ≠ 0 ∧ (s.dsk k).slewAt + 8 * s.frameU ≤ s.time.now) ∧
    (∃ (s : State) (t : State) (r : Req) (x : Session) (l : Die), Runs s r (infoLineRealign l.val) x t ∧ toDie?
      l.val = some l ∧ (t.alignGroup l).isEmpty = false ∧ t.rxOn [l] = true ∧ (t.dsk (t.groupKey l)).slew = 0 ∧
      t.aligned l = true ∧ t.rateMatched = false) ∧
    (∃ (s : State) (t : State) (r : Req) (x : Session) (l : Die) (v : _), Runs s r (infoLineRealign l.val) x t ∧
      toDie? l.val = some l ∧ (t.alignGroup l).isEmpty = false ∧ t.rxOn [l] = true ∧ (t.dsk (t.groupKey l)).slew
      = 0 ∧ t.aligned l = true ∧ t.rateMatched = true ∧ t.leastSlack l = some v) ∧
    (∃ (s : State) (t : State) (r : Req) (x : Session) (l : Die) (g : _), Runs s r (infoDeskewSet l.val g) x t ∧
      toDie? l.val = some l ∧ t.rxOn [l] = true) ∧
    (∃ (s : State) (t : State) (r : Req) (x : Session) (en : _) (hold : _), Runs s r
      { infoToppingSet en hold with insts := s.popDies.map Fin.val } x t ∧ (t.popDies.all fun d => t.domainOn d
      .dataPath) = true) ∧
    (∃ (s : State) (h : _) (units : _) (p : _) (d : Die), s.portAt h = some p ∧ s.hostLoops h = false ∧
      s.standard = false ∧ s.phase = .ready ∧ s.hostOk p = true ∧ units.length = 20 ∧ ((s.startCount p
      units).portQ h).counting = true ∧ d = (s.startCount p units).codewordDie p ((s.startCount p units).portQ
      h).cwNum ∧ s.domainOn d .host = true) ∧
    (∃ (s : State) (h : _), s.hostLoops h = true ∧ s.domainOn (HostLane.die h) .host = true ∧ s.portAt h = none) ∧
    (∃ (s : State) (h : _) (p : _), s.portOf h = some p ∧ s.domainOn (HostLane.die h) .host = true) ∧
    (∃ (s : State) (h : _) (p : _), s.portOf h = some p ∧ s.domainOn (HostLane.die h) .host = true) ∧
    (∃ (s : State) (d : Die) (b : _), s.pop d = true ∧ s.paired d = true ∧ (s.portQ (Fin.ofNat 16 (2 * d.val +
      1))).pairBad = !b) ∧
    (∃ (s : State) (h : _) (p : _), s.portAt h = some p ∧ s.dataRuns = true ∧ ((s.portDies p).all fun d =>
      s.domainOn d .host && s.healthy d && !(s.die d).safe.underTest) = true ∧ s.hostLoops h = false) :=
  ⟨⟨wPlan.updDsk 0 fun x => { x with retryAt := some 0 }, 0, 0, 0, by decide +kernel⟩,
    ⟨wPlan.updDsk 0 fun x => { x with slew := 3 }, 0, 0, by decide +kernel⟩,
    ⟨(wAl0), State.runAt (wAl0) wQ, wQ, wS, 0, wRuns (by decide +kernel), by decide +kernel⟩,
    ⟨(wAlD), State.runAt (wAlD) wQ, wQ, wS, 0, 0, wRuns (by decide +kernel), by decide +kernel⟩,
    ⟨wB, State.runAt wB wQ, wQ, wS, 0, 20, wRuns (by decide +kernel), by decide +kernel⟩,
    ⟨wB, State.runAt wB wQ, wQ, wS, 1, 3, wRuns (by decide +kernel), by decide +kernel⟩,
    ⟨(wHostP.wr 0 (HOST_LANE_STAT_ALIGN_OK 1) 1).updPortQ 0 fun q => { q with counting := true }, 0,
      List.replicate 20 0, ⟨0, .w200⟩, 0, by decide +kernel⟩,
    ⟨wB.wr 0 PATG_CFG_LOOPBACK 1, 0, by decide +kernel⟩,
    ⟨wPlan, 0, ⟨0, .w200⟩, by decide +kernel⟩,
    ⟨wPlan, 0, ⟨0, .w200⟩, by decide +kernel⟩,
    ⟨{ wB with plan := [⟨0, .w200⟩, ⟨1, .w200⟩] }, 0, true, by decide +kernel⟩,
    ⟨wPlan, 0, ⟨0, .w200⟩, by decide +kernel⟩⟩

/-- DataPathRuns (FramesRun): states and operands that meet the hypotheses of each clause. -/
theorem witness_FramesRun :
    (∃ (s : State) (l : Die) (f : _), s.pop l = true ∧ s.flocked l = true ∧ s.rxDelivers l = true ∧ s.domainOn l
      .dataPath = true ∧ s.standard = false ∧ (s.pool l).frames.find? (fun f => !f.ohSeen) = some f ∧
      f.done.getLsbD 0 = true) ∧
    (∃ (s : State) (o : Die) (k : Die) (fc : _), s.groupKeys.find? (fun k => s.groupOwner k == o) = some k ∧
      s.aligned k = true ∧ (s.dsk k).next = fc ∧ (s.releaseNext k).1 ≤ s.coreNow) ∧
    (∃ (s : State) (die : Die) (src : Die) (cw : _) (f : _), (s.top src).rel = some f ∧ s.assured = true ∧
      s.inTree die = true ∧ s.inTree src = true ∧ die ≠ src ∧ 1 ≤ cw ∧ cw < 256 ∧ s.cwFailed src cw = true) ∧
    (∃ (s : State) (l : Die) (fc : _) (cw : _) (f : _) (h : _), s.pop l = true ∧ s.assured = true ∧ (s.top
      l).rel = some f ∧ f.header = some h ∧ h.frameCount.toNat = fc ∧ 1 ≤ cw ∧ cw < 256 ∧ (s.top l).relAt + 362
      ≤ s.coreNow) ∧
    (∃ (s : State) (l : Die), s.pop l = true ∧ s.dataRuns = true ∧ s.domainOn l .tx = true) ∧
    (∃ (s : State) (fc : _) (m : Die) (w : _), s.assured = true ∧ s.healthy s.topLane = true ∧ (s.top
      s.topLane).waiting = some w ∧ w.fc = fc ∧ s.coreCycle (s.tx s.topLane).sentAt + 362 ≤ s.coreNow ∧
      s.dataLanes.contains m = true ∧ (s.tx m).running = true ∧ 2 ≤ s.rd m LTX_STAT_TX_STATE ∧ (s.top
      s.topLane).missing = none) :=
  ⟨⟨(wLock .locked).updPool 0 fun x => { x with frames := [{ wFrame with ohSeen := false }] }, 0,
      { wFrame with ohSeen := false }, by decide +kernel⟩,
    ⟨wAl.updDsk 0 fun x => { x with next := 9 }, 0, 0, 9, by decide +kernel⟩,
    ⟨wRel 1, 0, 1, 1, wFrame, by decide +kernel⟩,
    ⟨wRel 0, 0, 9, 1, wFrame, wHdr, by decide +kernel⟩,
    ⟨((wB.updTx 0 fun x => { x with up := true, running := true }).wr 0 CLK_PLL_STAT_LINE_LOCK 1), 0,
      by decide +kernel⟩,
    ⟨((wHeld wTop).updTx 0 fun x => { x with running := true }).wr 0 LTX_STAT_TX_STATE 2, 9, 0, wTop,
      by decide +kernel⟩⟩

/-- PortsAndLanesRun (PortsRun): states and operands that meet the hypotheses of each clause. -/
theorem witness_PortsRun :
    (∃ (s : State) (t : State) (r : Req) (x : Session) (prof : _) (clock : _) (ps : _), Runs s r (infoProfileSet
      s prof clock ps) x t ∧ t.lanesBusy = false) ∧
    (∃ (s : State), s.allDown = true) ∧
    (∃ (s : State) (t : State) (r : Req) (x : Session) (ps : _), Runs s r (infoPortPlanSet s ps) x t ∧
      t.lanesBusy = false) ∧
    (∃ (s : State) (t : State) (r : Req) (x : Session) (h : HostLane) (eq : _), Runs s r (infoHostLaneSet h.val
      eq) x t ∧ t.domainOn (HostLane.die h) .host = true) ∧
    (∃ (s : State) (t : State) (r : Req) (x : Session) (lanes : _), Runs s r (infoLineUpDown 0x0102 lanes) x t ∧
      t.linesOn (maskDies lanes) = true ∧ t.lanesBusy = false) ∧
    (∃ (s : State) (t : State) (r : Req) (x : Session) (lanes : _), Runs s r (infoLineUpDown 0x0106 lanes) x t ∧
      t.linesOn (maskDies lanes) = true) :=
  ⟨⟨wB, State.runAt wB wQ, wQ, wS, .full, none, [], wRuns (by decide +kernel), by decide +kernel⟩,
    ⟨wB, by decide +kernel⟩,
    ⟨wB, State.runAt wB wQ, wQ, wS, [], wRuns (by decide +kernel), by decide +kernel⟩,
    ⟨wB, State.runAt wB wQ, wQ, wS, 0, none, wRuns (by decide +kernel), by decide +kernel⟩,
    ⟨wB, State.runAt wB wQ, wQ, wS, 1, wRuns (by decide +kernel), by decide +kernel⟩,
    ⟨wB, State.runAt wB wQ, wQ, wS, 1, wRuns (by decide +kernel), by decide +kernel⟩⟩

/-- PortsAndLanesRun (ManagementPortsRun): states and operands that meet the hypotheses of each clause. -/
theorem witness_ManagementPortsRun :
    (∃ (s : State) (p : MPort), s.portRuns p = true ∧ s.portState p = 0) ∧
    (∃ (s : State) (p : MPort), s.portRuns p = true ∧ (s.portState p = 1 ∨ s.portState p = 3)) ∧
    (∃ (s : State) (p : MPort), s.portRuns p = true ∧ s.portState p = 1 ∧ s.portFixed p = false ∧ (s.mport
      p).trained = false) ∧
    (∃ (s : State) (p : MPort), s.portRuns p = true ∧ s.portState p = 1 ∧ s.portFixed p = false ∧ (s.mport
      p).since + msU (if (s.mport p).trained then 100 else 500) ≤ s.time.now) ∧
    (∃ (s : State) (p : MPort), s.portRuns p = true ∧ s.portState p = 3 ∧ (s.mport p).since + secU (min (2 ^
      ((s.mport p).retries - 1)) 64) ≤ s.time.now) ∧
    (∃ (s : State) (p : MPort), s.portRuns p = true ∧ s.mayLock p = true) ∧
    (∃ (s : State) (p : MPort), s.portRuns p = true ∧ s.portUp p = true) ∧
    (∃ (s : State) (p : MPort), s.portRuns p = true ∧ s.portUp p = true ∧ s.flag (MPort.die p) MGMT_CTRL_EEE_EN
      = true ∧ (s.mport p).idleSince + usU (s.rd (MPort.die p) MGMT_CTRL_LPI_IDLE) ≤ s.time.now) ∧
    (∃ (s : State) (p : MPort), s.portRuns p = true ∧ s.portUp p = true ∧ s.flag (MPort.die p) MGMT_CTRL_EEE_EN
      = true) ∧
    (∃ (s : State) (t : State) (r : Req) (x : Session) (p : _), Runs s r (infoMgmtPortSet p) x t ∧ t.domainOn
      (MPort.die p) .mgmt = true) ∧
    (∃ (s : State) (t : State) (r : Req) (x : Session), Runs s r infoMgmtStatusGet x t) ∧
    (∃ (s : State) (t : State) (r : Req) (x : Session) (p : _), Runs s r (regInfo (MPort.die p) 0x0E 0 true) x t
      ∧ t.blockOff (MPort.die p) 0x0E true = false) ∧
    (∃ (s : State) (p : MPort) (f : EthFrame), s.portRuns p = true ∧ s.portUp p = true ∧ f.fcsOk = true ∧ 64 ≤
      f.len ∧ f.len ≤ 1522 ∧ f.ethertype = s.sl.etherType ∧ (f.dst = s.ownMac p ∨ f.dst = BitVec.allOnes 48) ∧
      f.dst ≠ jeuriMac ∧ f.ethertype ≠ 0x8808#16) ∧
    (∃ (s : State) (m : Medium) (p : _), s.open? = true ∧ s.mediumUp m = true ∧ packetWellFormed p = true ∧
      s.ownPacket p = true) ∧
    (∃ (s : State) (m : Medium) (p : _), s.open? = true ∧ s.mediumUp m = true ∧ packetWellFormed p = false) :=
  ⟨⟨wMg 0 id, .a, by decide +kernel⟩,
    ⟨wMg 1 id, .a, by decide +kernel⟩,
    ⟨wMg 1 id, .a, by decide +kernel⟩,
    ⟨wMg 1 id, .a, by decide +kernel⟩,
    ⟨wMg 3 id, .a, by decide +kernel⟩,
    ⟨wMg 3 id, .a, by decide +kernel⟩,
    ⟨wMg 2 id, .a, by decide +kernel⟩,
    ⟨(wMg 2 id).wr 0 MGMT_CTRL_EEE_EN 1, .a, by decide +kernel⟩,
    ⟨(wMg 2 id).wr 0 MGMT_CTRL_EEE_EN 1, .a, by decide +kernel⟩,
    ⟨wB, State.runAt wB wQ, wQ, wS, .a, wRuns (by decide +kernel), by decide +kernel⟩,
    ⟨wB, State.runAt wB wQ, wQ, wS, wRuns (by decide +kernel)⟩,
    ⟨wB, State.runAt wB wQ, wQ, wS, .a, wRuns (by decide +kernel), by decide +kernel⟩,
    ⟨wMg 2 id, .a, wEth, by decide +kernel⟩,
    ⟨wMg 2 id, .portA, [0x10#8] ++ List.replicate 11 0#8, by decide +kernel⟩,
    ⟨wMg 2 id, .portA, [], by decide +kernel⟩⟩

/-- ClocksFaultsTestsRun (ClocksAndFaultsRun): states and operands that meet the hypotheses of each clause. -/
theorem witness_ClocksAndFaultsRun :
    (∃ (s : State) (n : _), s.time.refclk = true ∧ (s.popDies.any fun d => s.flag d CLK_PLL_STAT_SYS_LOCK) =
      true ∧ s.time.slowCalAt + 16 * n * (64 * nsU / 10) ≤ s.time.now) ∧
    (∃ (s : State), s.flag 0 CLK_SLOW_SRC = true) ∧
    (∃ (s : State), s.time.refclk = true) ∧
    (∃ (s : State) (t : _), s.time.refclk = false ∧ s.time.refLostAt = some t ∧ t + msU 10 ≤ s.time.now ∧
      s.refNeeded = true) ∧
    (∃ (s : State), s.time.refclk = false) ∧
    (∃ (s : State) (d : Die) (p : _), s.pop d = true ∧ s.flag d (pllFld p) = false ∧ (pllRuns d p (s.power d) =
      true ∨ pllRuns d p (s.heading d) = true) ∧ s.pllHasRef d p = true) ∧
    (∃ (s : State) (d : Die) (p : _), s.pop d = true ∧ s.flag d (pllFld p) = true) ∧
    (∃ (s : State) (d : Die), s.pop d = true ∧ s.phase ≠ .powerOff ∧ s.power d ≠ .off) ∧
    (∃ (s : State) (d : Die), s.pop d = true ∧ s.level d .ctrl ≠ .dead ∧ s.phase ≠ .powerOff) ∧
    (∃ (s : State) (d : Die), s.memRuns d = true ∧ periodDue (s.die d).safe.scrubAt (secU 1) s.time.now = true) ∧
    (∃ (s : State) (d : Die), s.memRuns d = true) ∧
    (∃ (s : State) (t : State) (r : Req) (x : Session) (dies : _), Runs s r (infoSelftestRun dies) x t ∧
      ((maskDies dies).any fun d => t.level d .ctrl == .dead) = false ∧ ((maskDies dies).all fun d =>
      (t.testLanes d).all t.laneIsDown) = true) ∧
    (∃ (s : State) (os : _) (ds : _), s.phase ≠ .shuttingDown ∧ s.phase ≠ .stopping ∧ s.testing = some ds ∧
      coverDies os ds = true) ∧
    (∃ (s : State) (t : State) (r : Req) (x : Session) (dies : _), Runs s r (infoSelftestResultGet dies) x t) ∧
    (∃ (s : State), s.started = true ∧ s.popDies.any s.overdue = true ∧ (∀ t, s.nv.safety.overdueAt = some t → t
      + dayU ≤ s.nv.safety.service)) :=
  ⟨⟨late (wB.wr 0 CLK_PLL_STAT_SYS_LOCK 1), 5, by decide +kernel⟩,
    ⟨wB.wr 0 CLK_SLOW_SRC 1, by decide +kernel⟩,
    ⟨wB, by decide +kernel⟩,
    ⟨{ late wB with time := { (late wB).time with refclk := false, refLostAt := some 0 } }, 0,
      by decide +kernel⟩,
    ⟨{ wB with time := { wB.time with refclk := false } }, by decide +kernel⟩,
    ⟨wB, 0, .sys, by decide +kernel⟩,
    ⟨wB.wr 0 CLK_PLL_STAT_SYS_LOCK 1, 0, .sys, by decide +kernel⟩,
    ⟨wB, 0, by decide +kernel⟩,
    ⟨wB, 0, by decide +kernel⟩,
    ⟨wB, 0, by decide +kernel⟩,
    ⟨wB, 0, by decide +kernel⟩,
    ⟨wB, State.runAt wB wQ, wQ, wS, 1, wRuns (by decide +kernel), by decide +kernel⟩,
    ⟨wUnderTest, [wOutcome], [0], by decide +kernel⟩,
    ⟨wB, State.runAt wB wQ, wQ, wS, 1, wRuns (by decide +kernel)⟩,
    ⟨wNv fun n => { n with safety := { n.safety with service := 2 ^ 100 } }, by decide +kernel⟩⟩

/-- ClocksFaultsTestsRun (DiagnosticsRun): states and operands that meet the hypotheses of each clause. -/
theorem witness_DiagnosticsRun :
    (∃ (s : State) (t : State) (r : Req) (x : Session) (p : _) (pattern : _) (lane : _), Runs s r
      (infoPatternSet p pattern lane) x t ∧ ((Point.die p lane).toList.all fun d => t.domainOn d .dataPath) =
      true ∧ (pattern = 0 ∨ t.pointFree p lane = true)) ∧
    (∃ (s : State) (t : State) (r : Req) (x : Session) (p : _) (lane : _) (d : Die), Runs s r
      (infoPatternStatusGet p lane) x t ∧ Point.die p lane = some d ∧ t.domainOn d .dataPath = true) ∧
    (∃ (s : State) (l : Die) (c : _), s.pop l = true ∧ s.domainOn l .dataPath = true ∧ s.rd l (checkerFld c) ≠
      0) ∧
    (∃ (s : State) (t : State) (r : Req) (x : Session) (d : Die) (err : Bool), Runs s r (regInfo d 0x19 (if err
      then 4 else 2) false) x t ∧ t.blockOff d 0x19 false = false) ∧
    (∃ (s : State) (t : State) (r : Req) (x : Session) (kind : _) (lane : _) (d : Die), Runs s r
      (infoErrorInject kind lane) x t ∧ injectDie kind lane = some d ∧ t.domainOn d .dataPath = true ∧ t.flag d
      PATG_STAT_INJ_BUSY = false) ∧
    (∃ (s : State) (t : State) (r : Req) (x : Session) (l : Die) (mode : _), Runs s r (infoLoopbackSet l.val
      mode) x t ∧ toDie? l.val = some l ∧ t.domainOn l .dataPath = true ∧ t.loopFree l mode = true) ∧
    (∃ (s : State) (t : State) (r : Req) (x : Session) (l : Die) (c : _), Runs s r (infoCaptureSet l.val c) x t
      ∧ toDie? l.val = some l ∧ t.domainOn l .dataPath = true ∧ (t.diag l).capture = none) ∧
    (∃ (s : State) (l : Die) (c : _) (samples : List (BitVec 8)), (s.diag l).capture = some c ∧ s.flag l
      PATG_STAT_CAP_ARMED = false ∧ samples.length = c.len * 1024 ∧ s.domainOn l .dataPath = true) ∧
    (∃ (s : State) (t : State) (r : Req) (x : Session) (l : Die), Runs s r (infoCaptureRead l.val) x t ∧ toDie?
      l.val = some l ∧ t.domainOn l .dataPath = true) :=
  ⟨⟨wB, State.runAt wB wQ, wQ, wS, .lineTx, 1, 0, wRuns (by decide +kernel), by decide +kernel⟩,
    ⟨wB, State.runAt wB wQ, wQ, wS, .lineTx, 0, 0, wRuns (by decide +kernel), by decide +kernel⟩,
    ⟨wB.wr 0 (checkerFld 0) 1, 0, 0, by decide +kernel⟩,
    ⟨wB, State.runAt wB wQ, wQ, wS, 0, true, wRuns (by decide +kernel), by decide +kernel⟩,
    ⟨wB, State.runAt wB wQ, wQ, wS, 0, 0, 0, wRuns (by decide +kernel), by decide +kernel⟩,
    ⟨wB, State.runAt wB wQ, wQ, wS, 0, 1, wRuns (by decide +kernel), by decide +kernel⟩,
    ⟨wB, State.runAt wB wQ, wQ, wS, 0, ⟨0, 0, 1, 0⟩, wRuns (by decide +kernel), by decide +kernel⟩,
    ⟨wB.updDie 0 fun x => { x with diag := { x.diag with capture := some ⟨0, 0, 0, 0⟩ } }, 0, ⟨0, 0, 0, 0⟩, [],
      by decide +kernel⟩,
    ⟨wB, State.runAt wB wQ, wQ, wS, 0, wRuns (by decide +kernel), by decide +kernel⟩⟩

/-- SettingsAndRegistersRun (RegisterAccessRuns): states and operands that meet the hypotheses of each clause.
  -/
theorem witness_RegisterAccessRuns :
    (∃ (s : State) (t : State) (r : Req) (x : Session) (a : _) (n : _), Runs s r (infoRegRead a n) x t ∧
      t.blockOff (addrDie a) (addrBlk a) false = false) ∧
    (∃ (s : State) (t : State) (r : Req) (x : Session) (a : _) (v : _) (mask : _), Runs s r (infoRegWrite s a v
      mask) x t ∧ t.blockOff (addrDie a) (addrBlk a) true = false) ∧
    (∃ (s : State) (t : State) (r : Req) (x : Session) (d : Die) (rx : Bool), Runs s r (regInfo d 0x09 (if rx
      then 4 else 2) false) x t ∧ t.blockOff d 0x09 false = false) ∧
    (∃ (s : State) (t : State) (src : Die) (dst : Die) (tag : _) (write : _) (a : _) (v : _) (m : _), s.takeSlot
      dst src (fun m => m == .req dst tag write a v) = some (m, t) ∧ collectAsked write a = none ∧ addrBad a =
      false ∧ (Part.cipher t.part = true ∨ addrBlk a ≠ 0x0C ∧ addrBlk a ≠ 0x0D) ∧ t.blockOff dst (addrBlk a)
      write = false) ∧
    (∃ (s : State) (t : State) (src : Die) (dst : Die) (tag : _) (write : _) (a : _) (v : _) (m : _), s.takeSlot
      dst src (fun m => m == .req dst tag write a v) = some (m, t) ∧ collectAsked write a = none ∧ (addrBad a =
      true ∨ Part.cipher t.part = false ∧ (addrBlk a = 0x0C ∨ addrBlk a = 0x0D))) :=
  ⟨⟨wB, State.runAt wB wQ, wQ, wS, 0, none, wRuns (by decide +kernel), by decide +kernel⟩,
    ⟨wB, State.runAt wB wQ, wQ, wS, 0, 0, none, wRuns (by decide +kernel), by decide +kernel⟩,
    ⟨wB, State.runAt wB wQ, wQ, wS, 0, true, wRuns (by decide +kernel), by decide +kernel⟩,
    ⟨came 1 0 (wReqM 0) wB, wB, 0, 1, 3, true, 0, 0, wReqM 0, by decide +kernel⟩,
    ⟨came 1 0 (wReqM 2) wB, wB, 0, 1, 3, true, 2, 0, wReqM 2, by decide +kernel⟩⟩

/-- DomainOff: states and operands that meet the hypotheses. -/
theorem witness_DomainOff :
    ∃ (s : State) (t : State) (src : Die) (dst : Die) (tag : _) (write : _) (a : _) (v : _) (m : _), s.takeSlot
      dst src (fun m => m == .req dst tag write a v) = some (m, t) ∧ addrBad a = false ∧ (Part.cipher t.part =
      true ∨ addrBlk a ≠ 0x0C ∧ addrBlk a ≠ 0x0D) ∧ t.blockOff dst (addrBlk a) write = true :=
  ⟨came 1 0 (wReqM wAddr7) (wOff 1), wOff 1, 0, 1, 3, true, wAddr7, 0, wReqM wAddr7, by decide +kernel⟩

/-- SettingsAndRegistersRun (SettingsRun): states and operands that meet the hypotheses of each clause. -/
theorem witness_SettingsRun :
    (∃ (s : State) (t : State) (r : Req) (x : Session) (slot : _), Runs s r (vintageInfo 0x0301 (numBad slot 8
      0)) x t ∧ t.storeBusy = false) ∧
    (∃ (s : State) (t : State) (r : Req) (x : Session) (slot : _) (body : _), Runs s r (infoVintageRestore s
      slot) x t ∧ t.storeBusy = false ∧ t.bodyOf slot = some body) ∧
    (∃ (s : State) (m : _), s.restoring = some m ∧ (s.popDies.all fun l => (s.tx l).up || (s.rxState l == .down
      && s.rd l LTX_STAT_TX_STATE == 0)) = true) ∧
    (∃ (s : State) (t : State) (r : Req) (x : Session), Runs s r infoVintageList x t) ∧
    (∃ (s : State) (t : State) (r : Req) (x : Session) (slot : _), (Runs s r (vintageInfo 0x0304 (if slot < 8 ∨
      slot = 0xFF then none else some 0)) x t) ∧ t.storeBusy = false ∧ (slot = 0xFF ∨ t.slotUsed slot = true)) ∧
    (∃ (s : State) (t : State) (r : Req) (x : Session) (slot : _), Runs s r (vintageInfo 0x0305 (numBad slot 8
      0)) x t ∧ t.storeBusy = false) ∧
    (∃ (s : State) (c : _) (r : Req) (i : _) (body : _), req? c = some r ∧ opAll s c = some (i, body) ∧
      ((s.session? r.channel).any fun x => x.txn.isSome) = true) ∧
    (∃ (s : State) (t : State) (r : Req) (x : Session) (k : _), Runs s r infoCommit x t ∧ x.txn = some k ∧
      k.doomed = none ∧ k.mode = .sequence) ∧
    (∃ (s : State) (t : State) (r : Req) (x : Session), Runs s r (infoShutdown s) x t) ∧
    (∃ (s : State), s.phase = .shuttingDown ∧ s.allDown = true ∧ s.underTest = []) ∧
    (∃ (s : State), s.phase ≠ .powerOff) ∧
    (∃ (s : State), (s.phase = .powerOff ∨ s.phase = .inReset ∨ s.supplyLost = true)) ∧
    (∃ (s : State) (fwOk : _), s.phase = .inReset ∧ s.time.refclk = true ∧ s.supplyLost = false ∧ (s.popDies.all
      fun d => !s.fwFound fwOk d) = false ∧ s.quickPath = true) :=
  ⟨⟨wB, State.runAt wB wQ, wQ, wS, 7, wRuns (by decide +kernel), by decide +kernel⟩,
    ⟨wB, State.runAt wB wQ, wQ, wS, 0xFF, rootstock .ko3208C, wRuns (by decide +kernel), by decide +kernel⟩,
    ⟨{ wB with restoring := some 0 }, 0, by decide +kernel⟩,
    ⟨wB, State.runAt wB wQ, wQ, wS, wRuns (by decide +kernel)⟩,
    ⟨wB, State.runAt wB wQ, wQ, wS, 0xFF, wRuns (by decide +kernel), by decide +kernel⟩,
    ⟨wB, State.runAt wB wQ, wQ, wS, 7, wRuns (by decide +kernel), by decide +kernel⟩,
    ⟨wSess wSt, .vintageDelete wQ 7, wQ, vintageInfo 0x0305 (numBad 7 8 0), applyVintageDelete 7, rfl, rfl,
      by decide +kernel⟩,
    ⟨(wSess wSeqS), State.runAt (wSess wSeqS) wQ, wQ, wSeqS, ⟨.sequence, [], none⟩, wRuns (by decide +kernel),
      by decide +kernel⟩,
    ⟨wB, State.runAt wB wQ, wQ, wS, wRuns (by decide +kernel)⟩,
    ⟨{ wB with phase := .shuttingDown }, by decide +kernel⟩,
    ⟨wB, by decide +kernel⟩,
    ⟨{ wB with phase := .powerOff }, by decide +kernel⟩,
    ⟨wQuick, 255, by decide +kernel⟩⟩

/-- ClaimOrder: states and operands that meet the hypotheses of each clause. -/
theorem witness_ClaimOrder :
    (∃ (s : State) (t : State) (r : Req) (x : Session) (cs : _) (lease : _), Runs s r (infoClaim cs lease) x t) ∧
    (∃ (s : State) (t : State) (r : Req) (x : Session) (cs : _), Runs s r (infoRelease cs) x t ∧ cs ≠ []) :=
  ⟨⟨wB, State.runAt wB wQ, wQ, wS, [⟨5, 1⟩, ⟨5, 0⟩], none, wRuns (by decide +kernel)⟩,
    ⟨(wSess wSc), State.runAt (wSess wSc) wQ, wQ, wSc, [⟨5, 0⟩], wRuns (by decide +kernel), by decide +kernel⟩⟩

/-- TransmitStates: states and operands that meet the hypotheses of each clause. -/
theorem witness_TransmitStates :
    (∃ (s : State) (l : Die) (c : _), s.causeOn l c = true) ∧
    (∃ (s : State) (l : Die) (c : _), s.pop l = true ∧ s.causeOn l c = true) :=
  ⟨⟨wB, 0, .notUp, by decide +kernel⟩,
    ⟨wB, 0, .notUp, by decide +kernel⟩⟩

/-- LineCode: states and operands that meet the hypotheses of each clause. -/
theorem witness_LineCode :
    (∃ (info : List (BitVec 256)), info.length = 35) ∧
    (∃ (g : _) (t : _), g < 320 ∧ t < 4096) ∧
    (∃ (c : _) (n : _), c < 256 ∧ n < 5120) ∧
    (∃ (us : List Nat), (∀ u ∈ us, u < 4)) :=
  ⟨⟨List.replicate 35 0, by decide +kernel⟩,
    ⟨319, 4095, by decide +kernel⟩,
    ⟨255, 5119, by decide +kernel⟩,
    ⟨[3], by decide +kernel⟩⟩

/-- AtomicAppliesNothing: states and operands that meet the hypotheses. -/
theorem witness_AtomicAppliesNothing :
    ∃ (s : State) (t : State) (r : Req) (x : Session) (k : _) (st : _) (seq : _), t.regs.wf = true ∧ Runs s r
      infoCommit x t ∧ x.txn = some k ∧ k.mode = .atomic ∧ (k.doomed = some (st, seq) ∨ (k.doomed = none ∧ ∃ c,
      c.seq = seq ∧ (State.runAll x true k.staged (t.updSession x.channel fun y =>
      { y with txn := none })).2.find? (fun p => !Status.good p.2) = some (c, st))) :=
  ⟨(wSess wDoomS), State.runAt (wSess wDoomS) wQ, wQ, wDoomS, ⟨.atomic, [], some (.badParam, 5)⟩, .badParam, 5,
    by decide +kernel, wRuns (by decide +kernel), rfl, rfl, Or.inl rfl⟩

/-- UnitsOfFrames: states and operands that meet the hypotheses of each clause. -/
theorem witness_UnitsOfFrames :
    (∃ (p : _), p ≤ 256) ∧
    (∃ (p : _), p ≤ 256) :=
  ⟨⟨256, by decide +kernel⟩,
    ⟨256, by decide +kernel⟩⟩

/-- RegisterWrites: states and operands that meet the hypotheses of each clause. -/
theorem witness_RegisterWrites :
    (∃ (s : State) (blk : _), s.regs.wf = true ∧ blk < 26) ∧
    (∃ (s : State), s.regs.wf = true) ∧
    (∃ (i : _), i < 32) :=
  ⟨⟨wB, 0, by decide +kernel⟩,
    ⟨wB, by decide +kernel⟩,
    ⟨31, by decide +kernel⟩⟩
/-! ### Witnesses of the remaining clauses -/

/-- StepKeepsSound, StepTakesNothingBack, ExecLeavesTheQueue: the state after reset is sound, and both steps are taken. -/
theorem wSound : State.reset.Sound := by
  constructor <;> decide +kernel

theorem witness_StepKeepsSound : ∃ s t : State, s.Sound ∧ step s = .next t := ⟨State.reset, _, wSound, rfl⟩

theorem witness_StepTakesNothingBack : ∃ s t : State, s.Sound ∧ step s = .next t := witness_StepKeepsSound

theorem witness_ExecLeavesTheQueue : ∃ (c : Instr) (s t : State), s.Sound ∧ exec c s = .next t :=
  ⟨.powerStateGet wQ, State.reset, _, wSound, rfl⟩

/-- SwapRequests: a bank that is not valid, a state that takes no request, and the active bank with no fade. -/
theorem witness_SwapRequests_clauses :
    ((wB.wr 0 (LRX_CB_M 1) 41).runAt wQ).cbValid 0 1 = false ∧
    ((wB.runAt wQ).cbValid 0 1 = true ∧ (wB.runAt wQ).rxState 0 ≠ .pilotEq ∧ (wB.runAt wQ).rxState 0 ≠ .locked) ∧
    (((wRx .locked).runAt wQ).cbValid 0 0 = true ∧ ((wRx .locked).runAt wQ).rxState 0 = .locked ∧
      0 = ((wRx .locked).runAt wQ).cbActive 0 ∧ (((wRx .locked).runAt wQ).rx 0).fade = none) := by decide +kernel

/-- TransmitBanks, LaunchDelaySteps: both modes, a target above, below and reached. -/
def wDelay (mode int now : Nat) : State :=
  ((wB.wr 0 LTX_DELAY_MODE mode).wr 0 LTX_DELAY_INT int).wr 0 LTX_DELAY_NOW_INT now

theorem witness_LaunchDelaySteps_clauses :
    ((wDelay 1 9 0).flag 0 LTX_DELAY_MODE = true ∧ (wDelay 1 9 0).delayTarget 0 < 262144) ∧
    ((wDelay 0 4095 0).flag 0 LTX_DELAY_MODE = false ∧ (wDelay 0 4095 0).delayNow 0 < (wDelay 0 4095 0).delayTarget 0) ∧
    ((wDelay 0 0 4095).flag 0 LTX_DELAY_MODE = false ∧ (wDelay 0 0 4095).delayTarget 0 < (wDelay 0 0 4095).delayNow 0) ∧
    (wDelay 0 5 5).delayTarget 0 = (wDelay 0 5 5).delayNow 0 := by decide +kernel

/-- MaskMeasured: eight equal powers are 9.03 dB below the total each, 36 quarters of a decibel (R132); no band below its
limit; one band below, after no violation and after one. -/
def wMask (run : Nat) : State := (wB.wr 0 (LTX_MASK_LIM 2) 40).updTx 0 fun x => { x with violRun := run }

theorem witness_MaskMeasured_clauses :
    relOf 1 8 = 36 ∧ relOf 0 7 = 255 ∧
    (∀ b : Die, ¬((wMask 0).rd 0 (LTX_MASK_LIM b.val) ≠ 0 ∧
      ((wMask 0).maskRels [1, 1, 0, 1, 1, 1, 1, 1]).1.getD b.val 0 < (wMask 0).rd 0 (LTX_MASK_LIM b.val))) ∧
    (∃ b : Die, (wMask 0).rd 0 (LTX_MASK_LIM b.val) ≠ 0 ∧
      ((wMask 0).maskRels (List.replicate 8 1)).1.getD b.val 0 < (wMask 0).rd 0 (LTX_MASK_LIM b.val)) ∧
    ((wMask 0).tx 0).violRun = 0 ∧ ((wMask 1).tx 0).violRun = 1 := by decide +kernel

/-- RoutesLearned: a withdrawal; a node unknown with room; a known node from the same neighbour and with fewer hops. -/
def wLearned : Learned := ⟨40, 3, 0, 9, 0⟩

theorem witness_RoutesLearned :
    (16 ≤ (⟨40, 16⟩ : RouteAd).hops) ∧
    (1 ≤ (⟨40, 15⟩ : RouteAd).hops ∧ (⟨40, 15⟩ : RouteAd).hops < 16 ∧ (∀ e ∈ wB.fab.learned, e.node ≠ 40) ∧
      wB.routeEntries.length < 1024) ∧
    (let s : State := { wNbrs with fab := { wNbrs.fab with learned := [wLearned] } }
     s.fab.learned.find? (fun e => e.node == 40) = some wLearned ∧
     ((wLearned.medium = wNbr.medium ∧ wLearned.packageId = wNbr.hello.packageId) ∨ 2 < wLearned.hops)) := by
  decide +kernel

/-- RegisterWrites: a read-write field of a word, and a field of another word. -/
theorem witness_RegisterWrites_fields :
    (LTX_DELAY_INT ∈ blockRows 0x07 ∧ LTX_DELAY_INT.word = 3 ∧ LTX_DELAY_INT.acc = .rw ∧ LTX_DELAY_INT.fixedAt 0 = false) ∧
    (PWR_WAKE_CMP_TRIPPED 0 ∈ blockRows 0x01 ∧ (PWR_WAKE_CMP_TRIPPED 0).word = 6 ∧ (PWR_WAKE_CMP_TRIPPED 0).acc = .w1c) ∧
    (LTX_DELAY_BUSY ∈ blockRows 0x07 ∧ LTX_DELAY_BUSY.word = 3 ∧ LTX_DELAY_BUSY.acc = .ro) ∧
    (∀ f ∈ blockRows 0x07, f.word = 3 → (LTX_MASK_LIM 0).key 1 ≠ f.key 0) := by decide +kernel

/-- PathMemoryOrder, KeysHeld, DecoderDelivers: what follows the hypotheses happens. -/
theorem witness_order_clauses :
    wFullPath.pickEntry 0 = none ∧ wB.pickEntry 0 = some 0 ∧
    ((wB.installRx wKey).keys 0).rx = [wKey] ∧
    doneRun 7 256 0 = 3 := by decide +kernel

/-- BudgetsAdmit: a budget of 0, one of all ones, and one between. -/
theorem witness_BudgetsAdmit_clauses :
    wB.bestState [0] false 0 = .active ∧ wB.bestState [0] false 0xFFFFFFFF = .dormant ∧
    wB.bestState [0] false 1 ≠ .dormant := by decide +kernel

end Sys2Proof.Tests
end

/-! What every step keeps, what a write of a register word does to its fields, and what reset leaves: the proofs of the
statements of spec/00_scope.md. -/

namespace Sys2Proof.Machine

/-! ### Every step keeps a state good -/

section

variable {s0 s t : State}

/-- Every arm of the dispatch keeps a state sound and takes nothing back: one lemma for each command and event. -/
theorem exec_good (h : Good s0 s) : ∀ c : Instr, GoodO s0 (exec c s)
  | .ping .. => execPing_good h | .sessionOpen .. => execSessionOpen_good h
  | .secureHello .. => execSecureHello_good h | .secureFinish .. => execSecureFinish_good h
  | .sessionClose .. => execSessionClose_good h | .slostanCfgSet .. => execSlostanCfgSet_good h
  | .profileSet .. => execProfileSet_good h | .profileChangeDone => execProfileChangeDone_good h
  | .lineUp .. => execLineUp_good h | .portPlanSet .. => execPortPlanSet_good h
  | .hostLaneSet .. => execHostLaneSet_good h | .lineTxSet .. => execLineTxSet_good h
  | .lineDown .. => execLineDown_good h | .lineRxSet .. => execLineRxSet_good h
  | .lineRealign .. => execLineRealign_good h | .lineStatusGet .. => execLineStatusGet_good h
  | .claim .. => execClaim_good h | .release .. => execRelease_good h | .leaseRenew .. => execLeaseRenew_good h
  | .begin .. => execBegin_good h | .commit .. => execCommit_good h | .abort .. => execAbort_good h
  | .stagedCommand .. => execStagedCommand_good h | .vintageCommit .. => execVintageCommit_good h
  | .vintageCommitDone => execVintageCommitDone_good h | .vintageRestore .. => execVintageRestore_good h
  | .vintageList .. => execVintageList_good h | .vintagePrefer .. => execVintagePrefer_good h
  | .vintageDelete .. => execVintageDelete_good h | .powerPolicySet .. => execPowerPolicySet_good h
  | .powerStateGet .. => execPowerStateGet_good h | .wakeCmpSet .. => execWakeCmpSet_good h
  | .shutdown .. => execShutdown_good h | .cipherPolicySet .. => execCipherPolicySet_good h
  | .keyModeSet .. => execKeyModeSet_good h | .keyPskSet .. => execKeyPskSet_good h
  | .keyLifeSet .. => execKeyLifeSet_good h | .keyRetainSet .. => execKeyRetainSet_good h
  | .keyZeroise .. => execKeyZeroise_good h | .keyAgreeStart .. => execKeyAgreeStart_good h
  | .keyRack .. => execKeyRack_good h | .cipherSfClear .. => execCipherSfClear_good h
  | .cipherStatusGet .. => execCipherStatusGet_good h | .dacChSet .. => execDacChSet_good h
  | .dacRangeSwitch .. => execDacRangeSwitch_good h | .dacParkEnd .. => execDacParkEnd_good h
  | .dacWrite .. => execDacWrite_good h | .dacWaveSet .. => execDacWaveSet_good h
  | .dacStatusGet .. => execDacStatusGet_good h | .madcConvert .. => execMadcConvert_good h
  | .madcSeqSet .. => execMadcSeqSet_good h | .madcTriggerSet .. => execMadcTriggerSet_good h
  | .madcCalibrate .. => execMadcCalibrate_good h | .madcRead .. => execMadcRead_good h
  | .madcTestdacSet .. => execMadcTestdacSet_good h | .eventSubscribe .. => execEventSubscribe_good h
  | .eventAck .. => execEventAck_good h | .eventFilterSet .. => execEventFilterSet_good h
  | .eventUnsubscribe .. => execEventUnsubscribe_good h | .eventNotify .. => execEventNotify_good h
  | .intervalSet .. => execIntervalSet_good h | .counterRead .. => execCounterRead_good h
  | .tagSet .. => execTagSet_good h | .tagRead .. => execTagRead_good h | .topdownRead .. => execTopdownRead_good h
  | .timeGet .. => execTimeGet_good h | .safetyLimitSet .. => execSafetyLimitSet_good h
  | .safetyStatusGet .. => execSafetyStatusGet_good h | .safetyReset .. => execSafetyReset_good h
  | .selftestRun .. => execSelftestRun_good h | .selftestResultGet .. => execSelftestResultGet_good h
  | .nodeSet .. => execNodeSet_good h | .routeGet .. => execRouteGet_good h | .routeSet .. => execRouteSet_good h
  | .mgmtPortSet .. => execMgmtPortSet_good h | .mgmtStatusGet .. => execMgmtStatusGet_good h
  | .neighbourGet .. => execNeighbourGet_good h | .lifecycleAdvance .. => execLifecycleAdvance_good h
  | .cleartextWithdraw .. => execCleartextWithdraw_good h | .laserCeilingSet .. => execLaserCeilingSet_good h
  | .nodeIdentitySet .. => execNodeIdentitySet_good h | .ownerKeySet .. => execOwnerKeySet_good h
  | .ownerKeyRevoke .. => execOwnerKeyRevoke_good h | .ownerCertSet .. => execOwnerCertSet_good h
  | .fwLoad .. => execFwLoad_good h | .fwLoadDone => execFwLoadDone_good h | .fwActivate .. => execFwActivate_good h
  | .fwDieRejoin .. => execFwDieRejoin_good h | .fwRejoinTimeout .. => execFwRejoinTimeout_good h
  | .auditRead .. => execAuditRead_good h | .limitsGet .. => execLimitsGet_good h
  | .patternSet .. => execPatternSet_good h | .patternStatusGet .. => execPatternStatusGet_good h
  | .errorInject .. => execErrorInject_good h | .loopbackSet .. => execLoopbackSet_good h
  | .captureSet .. => execCaptureSet_good h | .captureDone .. => execCaptureDone_good h
  | .captureRead .. => execCaptureRead_good h | .regRead .. => execRegRead_good h
  | .regWrite .. => execRegWrite_good h | .txBankLoad .. => execTxBankLoad_good h
  | .txAdaptSet .. => execTxAdaptSet_good h | .txPdLoad .. => execTxPdLoad_good h
  | .txMaskSet .. => execTxMaskSet_good h | .rxBankLoad .. => execRxBankLoad_good h
  | .rxBankSwap .. => execRxBankSwap_good h | .rxAdaptSet .. => execRxAdaptSet_good h
  | .rxPathSet .. => execRxPathSet_good h | .rxBankRead .. => execRxBankRead_good h
  | .decPoolSet .. => execDecPoolSet_good h | .frameLockSet .. => execFrameLockSet_good h
  | .deskewSet .. => execDeskewSet_good h | .toppingSet .. => execToppingSet_good h | .arbSet .. => execArbSet_good h
  | .arbStatusGet .. => execArbStatusGet_good h | .timebaseSet .. => execTimebaseSet_good h
  | .firSwap .. => execFirSwap_good h | .pdSwap .. => execPdSwap_good h
  | .launchDelayWrite .. => execLaunchDelayWrite_good h | .fadeReq .. => execFadeReq_good h
  | .pathClear .. => execPathClear_good h | .manFenceWrite .. => execManFenceWrite_good h
  | .mgmtRestart .. => execMgmtRestart_good h | .swClr .. => execSwClr_good h
  | .dacCodeWrite .. => execDacCodeWrite_good h | .dacQueuePush .. => execDacQueuePush_good h
  | .injStart .. => execInjStart_good h | .madcFifoRead .. => execMadcFifoRead_good h
  | .injResRead .. => execInjResRead_good h | .clearAll .. => execClearAll_good h
  | .counterWriteCommit .. => execCounterWriteCommit_good h | .cntLatLoRead .. => execCntLatLoRead_good h
  | .frameCountLoRead .. => execFrameCountLoRead_good h | .patgCountLoRead .. => execPatgCountLoRead_good h
  | .timeLoRead .. => execTimeLoRead_good h | .mgmtFrameReceive .. => execMgmtFrameReceive_good h
  | .slostanRequestArrival .. => execSlostanRequestArrival_good h | .chunk .. => execChunk_good h
  | .chunkTransferTimeout .. => execChunkTransferTimeout_good h
  | .secureHelloTimeout .. => execSecureHelloTimeout_good h | .sessionIdleTimeout .. => execSessionIdleTimeout_good h
  | .leaseExpiry .. => execLeaseExpiry_good h | .portDownClaimRelease .. => execPortDownClaimRelease_good h
  | .safetyEventResend .. => execSafetyEventResend_good h
  | .jeuriHello _ _ hops sender _ => execJeuriHello_good (a2 := hops) (a3 := sender) h
  | .jeuriRoutes .. => execJeuriRoutes_good h | .jeuriData .. => execJeuriData_good h
  | .helloInterval => execHelloInterval_good h | .neighbourDead .. => execNeighbourDead_good h
  | .triggerHoldoffEnd .. => execTriggerHoldoffEnd_good h | .routesRefresh => execRoutesRefresh_good h
  | .routeAgeOut .. => execRouteAgeOut_good h | .kxHello .. => execKxHello_good h
  | .kxResponse .. => execKxResponse_good h | .kxConfirm .. => execKxConfirm_good h | .kxAck .. => execKxAck_good h
  | .kxAbort .. => execKxAbort_good h | .kxResyncReq .. => execKxResyncReq_good h
  | .keyAgreeTimeout .. => execKeyAgreeTimeout_good h | .keyAgreeBackoffEnd => execKeyAgreeBackoffEnd_good h
  | .keyLifeThreshold => execKeyLifeThreshold_good h | .keyExpired => execKeyExpired_good h
  | .rackChangeover .. => execRackChangeover_good h
  | .rxOldKeyZeroise lane => execRxOldKeyZeroise_good (a0 := lane) h
  | .retainedKeyExpiry .. => execRetainedKeyExpiry_good h | .frameTransmit .. => execFrameTransmit_good h
  | .txHoldEnd .. => execTxHoldEnd_good h | .maskMeasurement .. => execMaskMeasurement_good h
  | .adaptHoldEnd .. => execAdaptHoldEnd_good h | .noFeedbackTimeout .. => execNoFeedbackTimeout_good h
  | .firSuggestion .. => execFirSuggestion_good h | .losDeclare .. => execLosDeclare_good h
  | .losClear .. => execLosClear_good h | .captureStep .. => execCaptureStep_good h
  | .captureStepForget .. => execCaptureStepForget_good h | .gainSettled .. => execGainSettled_good h
  | .freqFound .. => execFreqFound_good h | .blindEqConverged .. => execBlindEqConverged_good h
  | .acqTimeout .. => execAcqTimeout_good h | .markerCandidate .. => execMarkerCandidate_good h
  | .frameLock .. => execFrameLock_good h | .markerCheck .. => execMarkerCheck_good h
  | .fastReacqTryEnd .. => execFastReacqTryEnd_good h | .pathMemoryRefresh .. => execPathMemoryRefresh_good h
  | .adcSpareHandover .. => execAdcSpareHandover_good h | .adcSubRetired .. => execAdcSubRetired_good h
  | .fadeStart .. => execFadeStart_good h | .fadeEnd .. => execFadeEnd_good h
  | .frameReceiveOverhead .. => execFrameReceiveOverhead_good h
  | .interleaverGroupQueue .. => execInterleaverGroupQueue_good h | .decodeDone .. => execDecodeDone_good h
  | .engineWatchdog .. => execEngineWatchdog_good h | .engineSliceDone .. => execEngineSliceDone_good h
  | .engineSliceStart .. => execEngineSliceStart_good h | .checkerSelfTest .. => execCheckerSelfTest_good h
  | .frameRelease .. => execFrameRelease_good h | .deskewAlignRetry .. => execDeskewAlignRetry_good h
  | .deskewSlewStep .. => execDeskewSlewStep_good h | .erasureNotice .. => execErasureNotice_good h
  | .toppingWindowEnd .. => execToppingWindowEnd_good h | .treeChange => execTreeChange_good h
  | .cipherPipeCheck .. => execCipherPipeCheck_good h | .cipherSliceDone .. => execCipherSliceDone_good h
  | .hostCodewordReceive .. => execHostCodewordReceive_good h | .hostLaneLoss .. => execHostLaneLoss_good h
  | .hostLaneRecover .. => execHostLaneRecover_good h | .hostPairOffset .. => execHostPairOffset_good h
  | .sbSlotArbitration .. => execSbSlotArbitration_good h | .sbReq .. => execSbReq_good h
  | .sbRsp .. => execSbRsp_good h | .sbReqResend .. => execSbReqResend_good h
  | .mailboxPost .. => execMailboxPost_good h | .mbAck .. => execMbAck_good h
  | .mailboxReceiverReset .. => execMailboxReceiverReset_good h | .mbMutualFull .. => execMbMutualFull_good h
  | .heartbeat .. => execHeartbeat_good h | .heartbeatReceive .. => execHeartbeatReceive_good h
  | .heartbeatTimeout .. => execHeartbeatTimeout_good h | .elect .. => execElect_good h
  | .electionWindowClose => execElectionWindowClose_good h | .mirror => execMirror_good h
  | .sbSafetyBroadcast .. => execSbSafetyBroadcast_good h | .sbDeadlineMissed .. => execSbDeadlineMissed_good h
  | .sbStarvation .. => execSbStarvation_good h | .d2dTransferReceive .. => execD2dTransferReceive_good h
  | .d2dLinkDown .. => execD2dLinkDown_good h | .d2dRetrain .. => execD2dRetrain_good h
  | .d2dLinkUp .. => execD2dLinkUp_good h | .telemetryBoundary => execTelemetryBoundary_good h
  | .latch .. => execLatch_good h | .snapshotComplete => execSnapshotComplete_good h
  | .syncInEdge => execSyncInEdge_good h | .slowClockCalibrated .. => execSlowClockCalibrated_good h
  | .crystalStart => execCrystalStart_good h | .crystalFail => execCrystalFail_good h
  | .refclkLost => execRefclkLost_good h | .refclkHoldoverEnd => execRefclkHoldoverEnd_good h
  | .refclkReturn => execRefclkReturn_good h | .pllLock .. => execPllLock_good h
  | .dieStateEntryDone .. => execDieStateEntryDone_good h | .wakeSource .. => execWakeSource_good h
  | .wakeDone .. => execWakeDone_good h | .wakeCmpTrip .. => execWakeCmpTrip_good h
  | .thermalConversion .. => execThermalConversion_good h | .safetyConversion .. => execSafetyConversion_good h
  | .safetyConversionMissing .. => execSafetyConversionMissing_good h
  | .comparatorTest .. => execComparatorTest_good h | .emissionTrip .. => execEmissionTrip_good h
  | .sfLArmed .. => execSfLArmed_good h | .ldisStuck .. => execLdisStuck_good h
  | .safeMonFault .. => execSafeMonFault_good h | .lockstepMismatch .. => execLockstepMismatch_good h
  | .supplyFault .. => execSupplyFault_good h | .memScrub .. => execMemScrub_good h
  | .selftestOverdue => execSelftestOverdue_good h | .selftestDone .. => execSelftestDone_good h
  | .dacUpdate .. => execDacUpdate_good h | .dacShort .. => execDacShort_good h
  | .clrNAssert => execClrNAssert_good h | .clrNRelease => execClrNRelease_good h
  | .madcTimer .. => execMadcTimer_good h | .madcTriggerDelayEnd .. => execMadcTriggerDelayEnd_good h
  | .madcConversionDone .. => execMadcConversionDone_good h
  | .madcInjectedTrigger .. => execMadcInjectedTrigger_good h
  | .madcCalibrationDone .. => execMadcCalibrationDone_good h | .mgmtSignalDetect .. => execMgmtSignalDetect_good h
  | .mgmtTrainingComplete .. => execMgmtTrainingComplete_good h | .mgmtTrainFail .. => execMgmtTrainFail_good h
  | .mgmtBackoffEnd .. => execMgmtBackoffEnd_good h | .mgmtLinkUp .. => execMgmtLinkUp_good h
  | .mgmtLinkDown .. => execMgmtLinkDown_good h | .lpiIdleTimer .. => execLpiIdleTimer_good h
  | .powerOnResetRelease => execPowerOnResetRelease_good h | .resetNFall .. => execResetNFall_good h
  | .startUp .. => execStartUp_good h | .eccErrorAtAccess .. => execEccErrorAtAccess_good h
  | .pllLockLost .. => execPllLockLost_good h | .vintageRestoreDone => execVintageRestoreDone_good h
  | .shutdownComplete .. => execShutdownComplete_good h | .hostTxBlockDue .. => execHostTxBlockDue_good h
  | .mgmtSignalLoss .. => execMgmtSignalLoss_good h | .mgmtPartnerLpi .. => execMgmtPartnerLpi_good h
  | .wakeCmpRearm .. => execWakeCmpRearm_good h | .mailboxMessageRead .. => execMailboxMessageRead_good h
  | .markerConfirmation .. => execMarkerConfirmation_good h | .patternCheckerSync .. => execPatternCheckerSync_good h

/-- The queue is no part of soundness. -/
theorem State.Sound.setPending (h : s.Sound) (q : List Instr) : State.Sound { s with pending := q } :=
  ⟨h.regs, h.ctr, h.ctr48, h.cal, h.ring, h.run, h.lifecycle, h.ownerSlot, h.secver, h.active, h.standby, h.loading⟩

/-- A good state takes back nothing that the first one holds. -/
theorem Good.toSince (h : Good s0 s) : s0.Since s := ⟨h.part, h.since, h.commits, h.out⟩

/-- A step ends good with respect to the state whose queue holds what is left of it. -/
theorem step_good (h : s.Sound) (e : step s = .next t) : Good { s with pending := s.pending.tail } t := by
  have h' := Good.refl (h.setPending s.pending.tail)
  unfold step at e
  split at e
  case h_1 q =>
    cases e
    rw [q] at h' ⊢
    have he : { s with pending := [] } = s := by rw [← q]
    exact State_tick_good (he ▸ h')
  case h_2 i rest q =>
    rw [q] at h' ⊢
    exact exec_good h' i t e

end

/-- Settles O6: every operation keeps `Good`, which carries permanence along with soundness. -/
theorem stepTakesNothingBack : Obligations.StepTakesNothingBack := by
  intro s t h e
  obtain ⟨part, fuses, commits, out⟩ := (step_good h e).toSince
  exact ⟨part, fuses, commits, out⟩

/-! ### The fields of a block stand in different places -/

/-- A field's place in its block: what its key holds below the die and the block. -/
def Fld.slot (f : Fld) : Nat := (f.word * 32 + f.hi) % 2097152

theorem Fld.slot_eq_key_mod (f : Fld) (d : Die) : f.slot = f.key d % 2097152 := by
  simp only [Fld.slot, Fld.key]
  omega

/-- No register table of the spec gives a place twice. -/
theorem blockRows_slots_nodup : ∀ blk < 26, ((blockRows blk).map Fld.slot).Nodup := by decide +kernel

/-- The fields of a block have different keys on each die. -/
theorem blockRows_keys_differ {blk : Nat} (hb : blk < 26) (d : Die) :
    (blockRows blk).Pairwise fun f g => f.key d ≠ g.key d := by
  refine (List.pairwise_map.mp (blockRows_slots_nodup blk hb)).imp fun {f g} hne hk => hne ?_
  rw [f.slot_eq_key_mod d, g.slot_eq_key_mod d, hk]

/-! ### A write, field by field (R6) -/

/-- What a field that holds `v` holds after a write of the word `m` to its register. -/
def Fld.written (f : Fld) (d : Die) (m : Word) (v : Nat) : Nat :=
  match f.acc with
  | .rw => if f.fixedAt d then v else f.of m
  | .w1c => (v - (v &&& f.of m)) % 2 ^ f.width
  | _ => v

section

variable {s : State} {d e : Die} {m : Word} {f g : Fld}

theorem Fld.of_lt (f : Fld) (m : Word) : f.of m < 2 ^ f.width := Nat.mod_lt _ (Nat.two_pow_pos _)

theorem State.writeFld_wf (h : s.regs.wf = true) : (s.writeFld m d f).regs.wf = true := by
  unfold State.writeFld
  split
  · split
    · exact h
    · exact s.wr_wf h d f _
  · exact s.wr_wf h d f _
  · exact h

/-- A field of another key keeps its value. -/
theorem State.rd_writeFld_ne (h : s.regs.wf = true) (hk : g.key e ≠ f.key d) :
    (s.writeFld m d f).rd e g = s.rd e g := by
  unfold State.writeFld
  split
  · split
    · rfl
    · exact s.rd_wr_ne h _ hk
  · exact s.rd_wr_ne h _ hk
  · rfl

/-- The field itself takes the value that its access gives. -/
theorem State.rd_writeFld (h : s.regs.wf = true) : (s.writeFld m d f).rd d f = f.written d m (s.rd d f) := by
  unfold State.writeFld Fld.written
  cases f.acc with
  | rw =>
    by_cases hx : f.fixedAt d = true
    · rw [if_pos hx, if_pos hx]
    · rw [if_neg hx, if_neg hx, s.rd_wr h, Nat.mod_eq_of_lt (f.of_lt m)]
  | w1c => exact s.rd_wr h d f _
  | ro | wo | rc => rfl

theorem State.writeFld_leaves : (s.writeFld m d f).dies = s.dies ∧ (s.writeFld m d f).tel = s.tel ∧
    (s.writeFld m d f).out = s.out := by
  unfold State.writeFld
  split
  · split <;> exact ⟨rfl, rfl, rfl⟩
  · exact ⟨rfl, rfl, rfl⟩
  · exact ⟨rfl, rfl, rfl⟩

/-! ### A write of a list of fields -/

theorem State.rd_foldl_writeFld_ne {l : List Fld} (h : s.regs.wf = true) (hk : ∀ f ∈ l, g.key e ≠ f.key d) :
    (l.foldl (State.writeFld m d) s).rd e g = s.rd e g := by
  induction l generalizing s with
  | nil => rfl
  | cons a l ih =>
    obtain ⟨ha, hl⟩ := List.forall_mem_cons.mp hk
    exact (ih (s.writeFld_wf h) hl).trans (s.rd_writeFld_ne h ha)

/-- Where the fields have different keys, each is written once. -/
theorem State.rd_foldl_writeFld {l : List Fld} (h : s.regs.wf = true) (hl : l.Pairwise fun f g => f.key d ≠ g.key d)
    (hf : f ∈ l) : (l.foldl (State.writeFld m d) s).rd d f = f.written d m (s.rd d f) := by
  induction l generalizing s with
  | nil => cases hf
  | cons a l ih =>
    obtain ⟨ha, hl⟩ := List.pairwise_cons.mp hl
    have hw := s.writeFld_wf (m := m) (d := d) (f := a) h
    rcases List.mem_cons.mp hf with rfl | hf
    · exact (State.rd_foldl_writeFld_ne hw ha).trans (s.rd_writeFld h)
    · rw [List.foldl_cons, ih hw hl hf, s.rd_writeFld_ne h (ha f hf).symm]

theorem State.foldl_writeFld_leaves (l : List Fld) : (l.foldl (State.writeFld m d) s).dies = s.dies ∧
    (l.foldl (State.writeFld m d) s).tel = s.tel ∧ (l.foldl (State.writeFld m d) s).out = s.out := by
  induction l generalizing s with
  | nil => exact ⟨rfl, rfl, rfl⟩
  | cons a l ih =>
    obtain ⟨hd, ht, ho⟩ := ih (s := s.writeFld m d a)
    obtain ⟨gd, gt, go⟩ := s.writeFld_leaves (m := m) (d := d) (f := a)
    exact ⟨hd.trans gd, ht.trans gt, ho.trans go⟩

/-! ### A write of a register word -/

theorem State.rd_writeFields {blk : Nat} (h : s.regs.wf = true) (hb : blk < 26) (hf : f ∈ blockRows blk) :
    (s.writeFields d blk f.word m).rd d f = f.written d m (s.rd d f) :=
  State.rd_foldl_writeFld h ((blockRows_keys_differ hb d).filter _) (List.mem_filter.mpr ⟨hf, beq_self_eq_true _⟩)

theorem State.rd_writeFields_ne {blk word : Nat} (h : s.regs.wf = true)
    (hk : ∀ f ∈ blockRows blk, f.word = word → g.key e ≠ f.key d) :
    (s.writeFields d blk word m).rd e g = s.rd e g := by
  refine State.rd_foldl_writeFld_ne h fun f hf => ?_
  obtain ⟨hf, hw⟩ := List.mem_filter.mp hf
  exact hk f hf (eq_of_beq hw)

/-- Taking from a number the ones that it shares with another clears exactly those bits. -/
theorem testBit_sub_and (v w i : Nat) : (v - (v &&& w)).testBit i = (v.testBit i && !w.testBit i) := by
  have low : ∀ a b : Nat, (a &&& b) % 2 = 1 ↔ a % 2 = 1 ∧ b % 2 = 1 := fun _ _ => Nat.and_mod_two_eq_one
  have le : ∀ a b : Nat, a &&& b ≤ a := fun _ _ => Nat.and_le_left
  induction i generalizing v w with
  | zero =>
    have lowv := low v w
    have lev := le v w
    simp only [Nat.testBit_zero, ← decide_not, ← Bool.decide_and, decide_eq_decide]
    omega
  | succ i ih =>
    have half : (v - (v &&& w)) / 2 = v / 2 - (v / 2 &&& w / 2) := by
      have lowv := low v w
      have lev := le (v / 2) (w / 2)
      rw [← Nat.and_div_two] at lev ⊢
      omega
    rw [Nat.testBit_succ, half, ih, ← Nat.testBit_succ, ← Nat.testBit_succ]

/-- A write-1-to-clear field keeps a bit exactly when 0 was written to it. -/
theorem Fld.testBit_written_w1c (ha : f.acc = .w1c) (v : Nat) {i : Nat} (hi : i < f.width) :
    (f.written d m v).testBit i = (v.testBit i && !(f.of m).testBit i) := by
  simp only [Fld.written, ha, Nat.testBit_mod_two_pow, hi, decide_true, Bool.true_and, testBit_sub_and]

theorem Fld.written_rw (ha : f.acc = .rw) (hx : f.fixedAt d = false) (v : Nat) : f.written d m v = f.of m := by
  simp [Fld.written, ha, hx]

theorem Fld.written_of_ne (hr : f.acc ≠ .rw) (hc : f.acc ≠ .w1c) (v : Nat) : f.written d m v = v := by
  cases ha : f.acc with
  | rw => exact absurd ha hr
  | w1c => exact absurd ha hc
  | ro | wo | rc => simp only [Fld.written, ha]

/-- A write under a mask presents the value's bits where the mask has ones, the read-write bits elsewhere (R419). -/
theorem State.getLsbD_merge (s : State) (d : Die) (blk word : Nat) (v mask : Word) {i : Nat} (hi : i < 32) :
    (s.merge d blk word v mask).getLsbD i =
      if mask.getLsbD i then v.getLsbD i else (s.rwWord d blk word).getLsbD i := by
  simp only [State.merge, BitVec.getLsbD_or, BitVec.getLsbD_and, BitVec.getLsbD_not, hi, decide_true, Bool.true_and]
  cases mask.getLsbD i <;> simp

end

/-- Settles O60: the fields of a word have different keys, so each takes the value of its own access once. -/
theorem registerWrites : Obligations.RegisterWrites := by
  refine ⟨?fields, fun s d blk word m h e g => s.rd_writeFields_ne h,
    fun s d blk word m => State.foldl_writeFld_leaves _,
    fun s d blk word v mask i => s.getLsbD_merge d blk word v mask⟩
  rintro s d blk _ m h hb f hf rfl
  rw [s.rd_writeFields h hb hf]
  exact ⟨fun ha hx => f.written_rw ha hx _, fun ha i => f.testBit_written_w1c ha _,
    fun hr hc => f.written_of_ne hr hc _⟩

/-! ### Reset -/

/-- The register table is empty after reset, so every field reads its reset value. -/
theorem State.rd_reset (d : Die) (f : Fld) : State.reset.rd d f = f.rst := Nat.zero_xor f.rst

/-- Settles O8: the registers by `State.rd_reset`, the interpreter by the values that the reset state gives. -/
theorem resetState : Obligations.ResetState :=
  ⟨State.rd_reset, rfl, rfl, rfl, rfl, rfl, rfl, rfl, rfl, rfl, rfl⟩

end Sys2Proof.Machine

/-! What the profile, port plan, lane and management port commands do when their conditions hold: the proofs of the
statements of spec/01_part_at_a_glance.md. -/

namespace Sys2Proof.Machine

section

variable {s t : State} {r : Req} {i : CmdInfo} {x : Session} {p : MPort}

/-! ### Requests that run (R362) -/

/-- A request that runs is answered with what its body gives in the state it runs in. -/
theorem Runs.run_eq {body : Req → Session → State → Res} {q : Res} (h : Runs s r i x t) (hq : body r x t = q) (c : Instr) :
    Slostan.run r c i body s = State.replied r x i q := by
  obtain ⟨executes, rfl⟩ := h
  rw [Slostan.run_of_executes executes, hq]

/-- A register access of a domain that is on has its own result. -/
theorem regGuard_of_on {d : Die} {blk : Nat} {write : Bool} (h : s.blockOff d blk write = false) (q : Res) :
    regGuard d blk write s q = q :=
  if_neg (Bool.eq_false_iff.mp h)

/-! ### What the profile, plan and lane requests do -/

theorem applyProfileSet_of_idle {prof : Profile} {clock : Option ClockMode} {ps : List Port} (h : s.lanesBusy = false) :
    applyProfileSet prof clock ps r x s =
      if s.profile = prof ∧ s.clockMode = clockAsked clock then .ok (s.setProfile prof (clockAsked clock) ps)
      else .pending .profile (s.setProfile prof (clockAsked clock) ps) :=
  if_neg (Bool.eq_false_iff.mp h)

theorem applyPortPlanSet_of_idle {ps : List Port} (h : s.lanesBusy = false) :
    applyPortPlanSet ps r x s = .ok (s.usePlan ps) :=
  if_neg (Bool.eq_false_iff.mp h)

theorem applyHostLaneSet_of_on {h : HostLane} {eq : Option (Nat × Nat × Nat)} {pol : Option (Bool × Bool)}
    (on : s.domainOn (HostLane.die h) .host = true) :
    applyHostLaneSet h.val eq pol r x s = .ok (s.setHostLane h eq pol) :=
  (dif_pos h.isLt).trans (if_pos on)

theorem applyLineUp_of_on {lanes : BitVec 8} (on : s.linesOn (maskDies lanes) = true) (h : s.lanesBusy = false) :
    applyLineUp lanes r x s = .ok ((s.each (maskDies lanes) fun u l => u.laneUp l).kxKick.showKeys) :=
  (if_neg (by simp [on])).trans (if_neg (by simp [h]))

theorem applyLineDown_of_on {lanes : BitVec 8} (on : s.linesOn (maskDies lanes) = true) :
    applyLineDown lanes r x s = .ok (s.each (maskDies lanes) fun u l => u.laneDown l) :=
  if_neg (by simp [on])

theorem applyMgmtPortSet_of_on {fixed fec eee : Bool} (on : s.domainOn (MPort.die p) .mgmt = true) :
    applyMgmtPortSet p fixed fec eee r x s = .ok ((s.setMgmtPort p fixed fec eee).restartLater p) :=
  if_neg (by simp [on])

/-! ### The states of a management port (R422 to R426) -/

theorem execMgmtSignalDetect_of_down (runs : s.portRuns p = true) (down : s.portState p = 0) :
    execMgmtSignalDetect p s = .next (s.portTo p 1) :=
  congrArg Host.Outcome.next (if_pos (by simp [runs, down]))

theorem execMgmtSignalLoss_of_trying (runs : s.portRuns p = true) (trying : s.portState p = 1 ∨ s.portState p = 3) :
    execMgmtSignalLoss p s = .next (((s.portTo p 0).endMrxHold p).powerEval 1) :=
  congrArg Host.Outcome.next (if_pos (by simp [runs, trying]))

theorem execMgmtTrainingComplete_of_training (runs : s.portRuns p = true) (training : s.portState p = 1)
    (notFixed : s.portFixed p = false) (untrained : (s.mport p).trained = false) :
    execMgmtTrainingComplete p s = .next (s.updPort p fun x => { x with trained := true, since := s.time.now }) :=
  congrArg Host.Outcome.next (if_pos (by simp [runs, training, notFixed, untrained]))

/-- Training that is not done in its time has failed (R424). -/
theorem State.trainFailed_of_late (training : s.portState p = 1) (notFixed : s.portFixed p = false)
    (late : (s.mport p).since + msU (if (s.mport p).trained then 100 else 500) ≤ s.time.now) :
    s.trainFailed p = true := by
  simp only [State.trainFailed, State.past, training, notFixed, late, beq_self_eq_true, Bool.not_false, decide_true,
    Bool.and_true]

theorem execMgmtTrainFail_of_failed (runs : s.portRuns p = true) (failed : s.trainFailed p = true) :
    ∃ u, u = (s.portTo p 3).updPort p (fun x => { x with retries := x.retries + 1 }) ∧
      execMgmtTrainFail p s = .next (((((u.wr (MPort.die p) MGMT_STAT_TRAIN_FAIL 1).incSat (MPort.die p)
        MGMT_STAT_TRAIN_FAILS 1).wr (MPort.die p) MGMT_STAT_BACKOFF (backoffSec (u.mport p).retries)).cnt (MPort.die p)
          150).raise (MPort.die p) evMGMT_TRAIN_FAIL (portArg p)) :=
  ⟨_, rfl, if_neg (by simp [runs, failed])⟩

theorem execMgmtBackoffEnd_of_due (runs : s.portRuns p = true) (waits : s.portState p = 3)
    (due : (s.mport p).since + secU (backoffSec (s.mport p).retries) ≤ s.time.now) :
    execMgmtBackoffEnd p s = .next (s.portTo p 1) :=
  congrArg Host.Outcome.next (if_pos (by simp [State.past, runs, waits, due]))

theorem execMgmtLinkUp_of_mayLock (runs : s.portRuns p = true) (may : s.mayLock p = true) :
    execMgmtLinkUp p s = .next (s.portComesUp p) :=
  congrArg Host.Outcome.next (if_pos (by simp [runs, may]))

theorem execMgmtLinkDown_of_up (runs : s.portRuns p = true) (up : s.portUp p = true) :
    execMgmtLinkDown p s = .next (((((s.wr (MPort.die p) MGMT_STAT_LINK_LOST 1).cnt (MPort.die p) 151).portTo p
      (if s.flag (MPort.die p) MGMT_STAT_ON_PRESET then 3 else 1)).raise (MPort.die p) evMGMT_LINK_DOWN
        (portArg p)).powerEval 1) :=
  if_neg (by simp [runs, up])

/-! ### Low-power idle (R427) -/

theorem execLpiIdleTimer_of_idle (runs : s.portRuns p = true) (up : s.portUp p = true)
    (eee : s.flag (MPort.die p) MGMT_CTRL_EEE_EN = true)
    (idle : (s.mport p).idleSince + usU (s.rd (MPort.die p) MGMT_CTRL_LPI_IDLE) ≤ s.time.now) :
    execLpiIdleTimer p s = .next (s.wr (MPort.die p) MGMT_STAT_LPI_TX 1) :=
  congrArg Host.Outcome.next (if_pos (by simp [State.past, runs, up, eee, idle]))

theorem execMgmtPartnerLpi_of_up {enter : Bool} (runs : s.portRuns p = true) (up : s.portUp p = true)
    (eee : s.flag (MPort.die p) MGMT_CTRL_EEE_EN = true) :
    execMgmtPartnerLpi p enter s = .next (s.wrB (MPort.die p) MGMT_STAT_LPI_RX enter) :=
  congrArg Host.Outcome.next (if_pos (by simp [runs, up, eee]))

/-! ### Frames and packets that arrive (R349, R421, R428) -/

@[simp] theorem State.cnt_sl (s : State) (d : Die) (n : Nat) : (s.cnt d n).sl = s.sl := by
  unfold State.cnt State.cntN
  split <;> rfl

@[simp] theorem State.cnt_ownMac (s : State) (d : Die) (n : Nat) : (s.cnt d n).ownMac p = s.ownMac p := by
  unfold State.cnt State.cntN
  split <;> rfl

/-- A frame in order of the Slostan EtherType, addressed to this port and not to the fabric. -/
theorem execMgmtFrameReceive_of_slostan {f : EthFrame} (runs : s.portRuns p = true) (up : s.portUp p = true)
    (fcs : f.fcsOk = true) (atLeast : 64 ≤ f.len) (atMost : f.len ≤ 1522) (ether : f.ethertype = s.sl.etherType)
    (own : f.dst = s.ownMac p ∨ f.dst = BitVec.allOnes 48) (notJeuri : f.dst ≠ jeuriMac)
    (notControl : f.ethertype ≠ 0x8808#16) :
    execMgmtFrameReceive p f s = .next ((s.cnt (MPort.die p) 144).takeSlostan p f) := by
  have inOrder : (decide (1522 < f.len) || f.ethertype == 0x8808#16) = false := by simp [atMost, notControl]
  have long : ¬f.len < 64 := Nat.not_lt.mpr atLeast
  have toJeuri : (f.dst == jeuriMac) = false := beq_eq_false_iff_ne.mpr notJeuri
  have ours : ((f.dst == s.ownMac p || f.dst == BitVec.allOnes 48) && f.ethertype == s.sl.etherType) = true := by
    simpa [ether] using own
  simp only [execMgmtFrameReceive, runs, up, fcs, inOrder, long, toJeuri, State.cnt_ownMac, State.cnt_sl, ours,
    Bool.and_self, Bool.not_true, Bool.false_eq_true, if_false, if_true]

theorem execSlostanRequestArrival_of_own {m : Medium} {mac : BitVec 48} {vlan : Option (BitVec 16)} {b : Bytes}
    (opened : s.open? = true) (up : s.mediumUp m = true) (formed : packetWellFormed b = true) (own : s.ownPacket b = true) :
    ∃ u, u = (s.noteSender m mac vlan b).admitPacket m mac vlan b ∧
      execSlostanRequestArrival m mac vlan b s = .next (u.drainUndefined u.sl.execQ.length) :=
  ⟨_, rfl, (if_neg (by simp [opened, up])).trans <| (if_neg (by simp [formed])).trans (if_neg (by simp [own]))⟩

theorem execSlostanRequestArrival_of_malformed {m : Medium} {mac : BitVec 48} {vlan : Option (BitVec 16)} {b : Bytes}
    (opened : s.open? = true) (up : s.mediumUp m = true) (malformed : packetWellFormed b = false) :
    execSlostanRequestArrival m mac vlan b s = .next (s.countMalformed m) :=
  (if_neg (by simp [opened, up])).trans (if_pos (by simp [malformed]))

end

/-- Settles O51: a request that runs is its body on the state it runs in, and an event whose condition holds has its
effect. -/
theorem portsAndLanesRun : Obligations.PortsAndLanesRun := by
  refine ⟨?profileSet, ?profileDone, ?portPlanSet, ?hostLaneSet, ?lineUp, ?lineDown, ?detect, ?loss, ?trained, ?trainFail,
    ?backoff, ?linkUp, ?linkDown, ?idle, ?partnerLpi, ?portSet, ?statusGet, ?restart, ?frame, ?arrival, ?malformed⟩
  case profileSet =>
    intro s t r x prof clock ps h idle
    exact congrArg Host.Outcome.next (h.run_eq (applyProfileSet_of_idle idle) _)
  case profileDone => exact fun s down => congrArg Host.Outcome.next (if_pos down)
  case portPlanSet =>
    intro s t r x ps h idle
    exact congrArg Host.Outcome.next (h.run_eq (applyPortPlanSet_of_idle idle) _)
  case hostLaneSet =>
    intro s t r x lane eq pol h on
    exact congrArg Host.Outcome.next (h.run_eq (applyHostLaneSet_of_on on) _)
  case lineUp =>
    intro s t r x lanes h on idle
    exact congrArg Host.Outcome.next (h.run_eq (applyLineUp_of_on on idle) _)
  case lineDown =>
    intro s t r x lanes h on
    exact congrArg Host.Outcome.next (h.run_eq (applyLineDown_of_on on) _)
  case portSet =>
    intro s t r x p fixed fec eee h on
    exact congrArg (fun u => Host.Outcome.next u.doRestarts) (h.run_eq (applyMgmtPortSet_of_on on) _)
  case statusGet => exact fun s t r x h => congrArg Host.Outcome.next (h.run_eq rfl _)
  case restart =>
    intro s t r x p h on
    exact congrArg (fun u => Host.Outcome.next u.doRestarts) (h.run_eq
      (body := fun _ _ u => regGuard (MPort.die p) 0x0E true u (.ok (u.restartLater p))) (regGuard_of_on on _) _)
  case detect => exact fun s p => execMgmtSignalDetect_of_down
  case loss => exact fun s p => execMgmtSignalLoss_of_trying
  case trained => exact fun s p => execMgmtTrainingComplete_of_training
  case trainFail =>
    exact fun s p runs training notFixed late =>
      execMgmtTrainFail_of_failed runs (State.trainFailed_of_late training notFixed late)
  case backoff => exact fun s p => execMgmtBackoffEnd_of_due
  case linkUp => exact fun s p => execMgmtLinkUp_of_mayLock
  case linkDown => exact fun s p => execMgmtLinkDown_of_up
  case idle => exact fun s p => execLpiIdleTimer_of_idle
  case partnerLpi => exact fun s p enter => execMgmtPartnerLpi_of_up
  case frame => exact fun s p f => execMgmtFrameReceive_of_slostan
  case arrival => exact fun s m mac vlan b => execSlostanRequestArrival_of_own
  case malformed => exact fun s m mac vlan b => execSlostanRequestArrival_of_malformed

end Sys2Proof.Machine

/-! How units fill the payload of a frame: the proof of the statement of spec/02_host_side.md on them. -/

namespace Sys2Proof.Machine

section

variable {bad : BitVec 256} {p a b : Nat} {carry bits : List Bool} {tail mark : Bool}

/-! ### One unit (R46) -/

/-- A unit of given payload bits, or the error block where it is marked. -/
def markedUnit (mark : Bool) (bits : List Bool) : Bool × PortUnit :=
  (mark, if mark then Blocks.errorUnit else Blocks.unitOf bits)

@[simp] theorem markedUnit_fst : (markedUnit mark bits).1 = mark := rfl

theorem markedUnit_snd_of_marked (h : (markedUnit mark bits).1 = true) : (markedUnit mark bits).2 = Blocks.errorUnit :=
  if_pos h

theorem markedUnit_snd_of_unmarked (h : (markedUnit mark bits).1 = false) :
    (markedUnit mark bits).2 = Blocks.unitOf bits :=
  if_neg (Bool.eq_false_iff.mp h)

/-- A span no longer than a codeword's payload touches no codeword but those of its first and its last bit. -/
theorem spoilt_iff (nonempty : a < b) (short : b ≤ a + 8960) :
    spoilt bad a b = true ↔ ∃ i, a ≤ i ∧ i < b ∧ bad.getLsbD (i / 8960 + 1) = true := by
  simp only [spoilt, Bool.or_eq_true]
  constructor
  · rintro (h | h)
    · exact ⟨a, Nat.le_refl a, nonempty, h⟩
    · exact ⟨b - 1, by omega, by omega, h⟩
  · rintro ⟨i, ha, hb, h⟩
    have ends : i / 8960 = a / 8960 ∨ i / 8960 = (b - 1) / 8960 := by omega
    rcases ends with e | e
    · exact .inl (e ▸ h)
    · exact .inr (e ▸ h)

/-- The unit of 257 payload bits from bit `a` on. -/
def unitAt (bad : BitVec 256) (a : Nat) (bits : List Bool) : Bool × PortUnit :=
  markedUnit (spoilt bad a (a + 257)) (bits.take 257)

/-! ### The units of a frame (R53, R54, R81) -/

theorem unitsFrom_eq_map (n : Nat) : unitsFrom bad n a bits = (List.range n).map fun i =>
    unitAt bad (a + 257 * i) (bits.drop (257 * i)) := by
  induction n generalizing a bits with
  | zero => rfl
  | succ n ih =>
    have next : ∀ i, a + 257 + 257 * i = a + 257 * (i + 1) ∧ 257 + 257 * i = 257 * (i + 1) := fun i => by omega
    simp only [unitsFrom, ih, List.range_succ_eq_map, List.map_cons, List.map_map, Function.comp_def, List.drop_drop, next]
    rfl

/-- Whether the unit begun before a frame is error-marked: it had begun so, is not whole, or touches a spoilt codeword. -/
def firstMarked (bad : BitVec 256) (p : Nat) (carry : List Bool) (tail : Bool) : Bool :=
  tail || carry.length + p != 257 || spoilt bad 0 p

/-- The units that end in a frame: the one begun before it, if any, and one for each whole place after that. -/
theorem frameUnits_eq : frameUnits bad p carry tail bits =
    (if p = 0 then [] else [markedUnit (firstMarked bad p carry tail) (carry ++ bits.take p)]) ++
      (List.range ((payloadBits - p) / 257)).map fun i => unitAt bad (p + 257 * i) (bits.drop (p + 257 * i)) := by
  simp only [frameUnits, unitsFrom_eq_map, List.drop_drop]
  rfl

theorem firstMarked_iff (begun : p ≠ 0) (hp : p ≤ 256) :
    firstMarked bad p carry tail = true ↔
      tail = true ∨ carry.length + p ≠ 257 ∨ ∃ i, i < p ∧ bad.getLsbD (i / 8960 + 1) = true := by
  simp only [firstMarked, Bool.or_eq_true, bne_iff_ne, spoilt_iff (Nat.pos_of_ne_zero begun) (by omega : p ≤ 0 + 8960),
    Nat.zero_le, true_and, or_assoc]

theorem length_frameUnits : (frameUnits bad p carry tail bits).length =
    (if p = 0 then 0 else 1) + (payloadBits - p) / 257 := by
  rw [frameUnits_eq, List.length_append, List.length_map, List.length_range]
  split <;> rfl

theorem frameUnits_marked_are_error :
    ∀ u ∈ frameUnits bad p carry tail bits, u.1 = true → u.2 = Blocks.errorUnit := by
  rw [frameUnits_eq, List.forall_mem_append]
  refine ⟨?first, ?rest⟩
  case first =>
    split
    · exact fun u h => absurd h List.not_mem_nil
    · exact List.forall_mem_singleton.mpr markedUnit_snd_of_marked
  case rest => exact List.forall_mem_map.mpr fun i _ => markedUnit_snd_of_marked

theorem head?_frameUnits (begun : p ≠ 0) : (frameUnits bad p carry tail bits).head? =
    some (markedUnit (firstMarked bad p carry tail) (carry ++ bits.take p)) := by
  rw [frameUnits_eq, if_neg begun]
  rfl

/-- The unit of the `n`-th whole place stands after the one begun before the frame. -/
theorem getElem?_frameUnits {n : Nat} (h : n < (payloadBits - p) / 257) :
    (frameUnits bad p carry tail bits)[n + (if p = 0 then 0 else 1)]? =
      some (unitAt bad (p + 257 * n) (bits.drop (p + 257 * n))) := by
  rw [frameUnits_eq]
  split <;> simp [h]

/-! ### Units begun in a frame, and the phase of the next (R53) -/

theorem unitsBegun_eq (p : Nat) : unitsBegun p = (2284799 - p) / 257 + 1 := rfl

/-- The units begun in a frame reach to its end. -/
theorem payloadBits_le_add_unitsBegun (p : Nat) : payloadBits ≤ p + 257 * unitsBegun p := by
  have bits : payloadBits = 2284800 := rfl
  rw [unitsBegun_eq]
  omega

theorem add_unitsBegun (p : Nat) : p + 257 * unitsBegun p = payloadBits + phaseAfter p :=
  (Nat.add_sub_cancel' (payloadBits_le_add_unitsBegun p)).symm

theorem phaseAfter_le (hp : p ≤ 256) : phaseAfter p ≤ 256 := by
  have bits : payloadBits = 2284800 := rfl
  have filled := add_unitsBegun p
  rw [unitsBegun_eq] at filled
  omega

/-- The whole places of a frame are the units that begin in it but for one left unfinished. -/
theorem wholePlaces_add (hp : p ≤ 256) :
    (payloadBits - p) / 257 + (if phaseAfter p = 0 then 0 else 1) = unitsBegun p := by
  have bits : payloadBits = 2284800 := rfl
  have filled := add_unitsBegun p
  have next := phaseAfter_le hp
  split <;> omega

end

/-- Settles O59: a frame's units are the one begun before it and one for each whole place (`frameUnits_eq`), each marked
exactly when it touches a spoilt codeword (`spoilt_iff`). -/
theorem unitsOfFrames : Obligations.UnitsOfFrames := by
  refine ⟨fun p hp => ⟨phaseAfter_le hp, add_unitsBegun p, unitsBegun_eq p⟩, fun bad p carry tail bits hp =>
    ⟨?count, frameUnits_marked_are_error, ?first, ?places⟩⟩
  case count => rw [length_frameUnits, ← wholePlaces_add hp, Nat.add_assoc, Nat.add_comm]
  case first =>
    exact fun begun => ⟨_, head?_frameUnits begun, firstMarked_iff begun hp, markedUnit_snd_of_unmarked⟩
  case places =>
    exact fun n h => ⟨_, getElem?_frameUnits h, spoilt_iff (by omega) (by omega), markedUnit_snd_of_unmarked⟩

end Sys2Proof.Machine

/-! What the deskew, topping, host and frame operations do when their conditions hold: the proof of the statement of
spec/02_host_side.md on them. -/

namespace Sys2Proof.Machine

section

variable {s t : State} {r : Req} {x : Session} {l o k : Die} {h : HostLane} {p : Port} {fc cw : Nat}

/-! ### Alignment groups (R217, R219, R220) -/

/-- A retry that is due tries to align the group that its lane owns. -/
theorem execDeskewAlignRetry_of_due {due : Nat} (owned : s.groupKeys.find? (fun k => s.groupOwner k == o) = some k)
    (lost : s.aligned k = false) (waits : (s.dsk k).retryAt = some due) (past : due ≤ s.time.now) :
    execDeskewAlignRetry o s = .next (s.tryAlign k) := by
  simp only [execDeskewAlignRetry, owned, lost, waits, past, if_true]

theorem execDeskewSlewStep_of_due (owned : s.groupKeys.find? (fun k => s.groupOwner k == o) = some k)
    (slews : (s.dsk k).slew ≠ 0) (past : (s.dsk k).slewAt + 8 * s.frameU ≤ s.time.now) :
    execDeskewSlewStep o s = .next (s.slewStep k) := by
  simp only [execDeskewSlewStep, owned]
  exact if_pos ⟨slews, decide_eq_true past⟩

/-- LINE_REALIGN aligns a group anew where it is not rate-matched. -/
theorem applyLineRealign_of_unmatched (die : toDie? l.val = some l) (grouped : (t.alignGroup l).isEmpty = false)
    (on : t.rxOn [l] = true) (still : (t.dsk (t.groupKey l)).slew = 0) (aligned : t.aligned l = true)
    (unmatched : t.rateMatched = false) : applyLineRealign l.val r x t = .ok ((t.unalign l).tryAlign l) := by
  simp only [applyLineRealign, die, grouped, on, still, aligned, unmatched, ne_eq, not_true, Bool.not_true, Bool.not_false,
    Bool.false_eq_true, if_true, if_false]

/-- LINE_REALIGN slews a rate-matched group to GUARD. -/
theorem applyLineRealign_of_matched {v : Int} (die : toDie? l.val = some l) (grouped : (t.alignGroup l).isEmpty = false)
    (on : t.rxOn [l] = true) (still : (t.dsk (t.groupKey l)).slew = 0) (aligned : t.aligned l = true)
    (matched : t.rateMatched = true) (least : t.leastSlack l = some v) :
    ∃ g u, g = t.takeGuard l ∧
      u = g.startSlew l ((g.alignGroup l).filter fun d => !g.flag d DEC_DSK_STAT_EXCLUDED) ((g.guardOf l : Int) - v) ∧
      applyLineRealign l.val r x t =
        if (g.guardOf l : Int) - v = 0 then .ok g else if (u.dsk (t.groupKey l)).slew = 0 then .ok u
        else .pending (.realign (t.groupKey l)) u := by
  refine ⟨_, _, rfl, rfl, ?_⟩
  simp only [applyLineRealign, die, grouped, on, still, aligned, matched, least, ne_eq, not_true, Bool.not_true,
    Bool.false_eq_true, if_false]

theorem applyDeskewSet_of_on {guard : Nat} (die : toDie? l.val = some l) (on : t.rxOn [l] = true) :
    applyDeskewSet l.val guard r x t = .ok (t.wr (t.groupOwner l) DEC_DSK_CTRL_GUARD guard) := by
  simp only [applyDeskewSet, die]
  exact if_neg (by simp [on])

theorem applyToppingSet_of_on {en hold : Nat} (on : (t.popDies.all fun d => t.domainOn d .dataPath) = true) :
    applyToppingSet en hold r x t = .ok (t.setTopping en hold) :=
  if_pos on

/-! ### Host codewords (R43, R44, R49) -/

variable {units : List PortUnit}

@[simp] theorem State.startCount_standard : (s.startCount p units).standard = s.standard := by
  unfold State.startCount
  split <;> rfl

@[simp] theorem State.startCount_phase : (s.startCount p units).phase = s.phase := by
  unfold State.startCount
  split <;> rfl

@[simp] theorem State.startCount_hostOk (q : Port) : (s.startCount p units).hostOk q = s.hostOk q := by
  unfold State.startCount
  split <;> rfl

@[simp] theorem State.startCount_domainOn (d : Die) (m : Domain) :
    (s.startCount p units).domainOn d m = s.domainOn d m := by
  unfold State.startCount
  split <;> rfl

theorem State.plan_each_emit (g : PortUnit → Output) : (s.each units fun s u => s.emit (g u)).plan = s.plan := by
  induction units generalizing s with
  | nil => rfl
  | cons u us ih => exact ih

/-- A host codeword of a port that is aligned and numbered is counted by its die, and its units go to the line. -/
theorem execHostCodewordReceive_of_counting {uncorr : Bool} {n : Nat} {d : Die} (port : s.portAt h = some p)
    (through : s.hostLoops h = false) (coherent : s.standard = false) (ready : s.phase = .ready) (ok : s.hostOk p = true)
    (whole : units.length = 20) (counting : ((s.startCount p units).portQ h).counting = true)
    (its : d = (s.startCount p units).codewordDie p ((s.startCount p units).portQ h).cwNum) (on : s.domainOn d .host = true) :
    ∃ (bad : Bool) (u v w : State), (bad, u) = (s.startCount p units).takeInject (HostLane.die h) 3 (portNo h) ∧
      v = (u.cnt d (4 * portNo h)).updPortQ h (fun q => { q with cwNum := q.cwNum + 1 }) ∧
      w = (if uncorr then (v.cnt d (4 * portNo h + 2)).wr d (HFEC_STAT_UNCORR_SEEN (portNo h)) 1
        else (v.cntN d (4 * portNo h + 1) (if bad then n + 1 else n)).updPortQ (Fin.ofNat 16 (2 * d.val + portNo h)) fun q =>
            { q with symbols := q.symbols + (if bad then n + 1 else n) }) ∧
      execHostCodewordReceive h uncorr n units s = .next
        (w.unitsToLine p d ((s.startCount p units).portQ h).cwNum
          (if uncorr then List.replicate 20 Blocks.errorUnit else units)) := by
  rcases injected : (s.startCount p units).takeInject (HostLane.die h) 3 (portNo h) with ⟨bad, u⟩
  refine ⟨bad, u, _, _, rfl, rfl, rfl, ?_⟩
  simp only [execHostCodewordReceive, port, through, coherent, ready, ok, whole, counting, on, ← its, injected,
    State.startCount_standard, State.startCount_phase, State.startCount_hostOk, State.startCount_domainOn, bne_self_eq_false,
    Bool.not_true, Bool.or_self, Bool.false_and, Bool.false_eq_true, if_false]

theorem execHostCodewordReceive_of_looped {uncorr : Bool} {n : Nat} (loops : s.hostLoops h = true)
    (on : s.domainOn (HostLane.die h) .host = true) (free : s.portAt h = none) :
    execHostCodewordReceive h uncorr n units s = .next (s.each units fun s u => s.emit (.hostBlock h (.looped u))) := by
  have portless : (s.each units fun s u => s.emit (.hostBlock h (.looped u))).portAt h = none := by
    rw [State.portAt, State.plan_each_emit]
    exact free
  simp only [execHostCodewordReceive, loops, on, portless, Bool.and_self, if_true]

/-! ### Host lanes lost and regained (R42, R47, R66) -/

/-- A lane that loses signal, marker lock and alignment takes its port's alignment along. -/
theorem execHostLaneLoss_of_all {cdr : Bool} (port : s.portOf h = some p) (on : s.domainOn (HostLane.die h) .host = true) :
    ∃ u v w, u = s.fall (HostLane.die h) (HOST_LANE_STAT_SIG_DET (portNo h)) (HOST_LANE_STAT_SIG_LOST (portNo h)) ∧
      v = (if cdr then u.fall (HostLane.die h) (HOST_LANE_STAT_CDR_LOCK (portNo h)) (HOST_LANE_STAT_CDR_LOST (portNo h)) else u) ∧
      w = (v.fall (HostLane.die h) (HOST_LANE_STAT_AM_LOCK (portNo h)) (HOST_LANE_STAT_AM_LOST (portNo h))).stdHost h false ∧
      execHostLaneLoss h true cdr true true s = .next ((w.each (w.portLanes p) fun s g =>
        s.fall (HostLane.die g) (HOST_LANE_STAT_ALIGN_OK (portNo g)) (HOST_LANE_STAT_ALIGN_LOST (portNo g))).updPortQ p.first
          fun q => { q with runs := false, counting := false, fifo := [], part := [] }) := by
  refine ⟨_, _, _, rfl, rfl, rfl, ?_⟩
  simp only [execHostLaneLoss, port, on, Bool.true_or, Bool.not_true, Bool.false_eq_true, if_true, if_false]

theorem execHostLaneRecover_of_port (port : s.portOf h = some p) (on : s.domainOn (HostLane.die h) .host = true) :
    ∃ u, u = (((s.wr (HostLane.die h) (HOST_LANE_STAT_SIG_DET (portNo h)) 1).wr (HostLane.die h)
        (HOST_LANE_STAT_CDR_LOCK (portNo h)) 1).wr (HostLane.die h) (HOST_LANE_STAT_AM_LOCK (portNo h)) 1).stdHost h true ∧
      execHostLaneRecover h s = .next
        (if (u.portLanes p).all fun g => u.flag (HostLane.die g) (HOST_LANE_STAT_AM_LOCK (portNo g)) then
          u.each (u.portLanes p) fun s g => s.wr (HostLane.die g) (HOST_LANE_STAT_ALIGN_OK (portNo g)) 1
        else u) := by
  refine ⟨_, rfl, ?_⟩
  simp only [execHostLaneRecover, port]
  exact if_neg (by simp [on])

theorem execHostPairOffset_of_change {d : Die} {exceeds : Bool} (populated : s.pop d = true) (paired : s.paired d = true)
    (change : (s.portQ (Fin.ofNat 16 (2 * d.val + 1))).pairBad = !exceeds) :
    ∃ u, u = s.updPortQ (Fin.ofNat 16 (2 * d.val + 1)) (fun q => { q with pairBad := exceeds }) ∧
      execHostPairOffset d exceeds s = .next (if exceeds then u.raiseLane d evHOST_PAIR_OFFSET else u) := by
  have lane : (⟨2 * d.val + 1, by have := d.isLt; omega⟩ : HostLane) = Fin.ofNat 16 (2 * d.val + 1) :=
    Fin.ext (Nat.mod_eq_of_lt (by have := d.isLt; omega)).symm
  refine ⟨_, rfl, ?_⟩
  simp only [execHostPairOffset, lane, populated, paired, change]
  exact if_neg (by simp)

/-! ### Blocks to the host (R45, R48) -/

theorem execHostTxBlockDue_of_runs (port : s.portAt h = some p) (runs : s.dataRuns = true)
    (fit : ((s.portDies p).all fun d => s.domainOn d .host && s.healthy d && !(s.die d).safe.underTest) = true)
    (through : s.hostLoops h = false) :
    execHostTxBlockDue h s = .next
      (if s.phase = .stopping ∨ s.phase = .shuttingDown then (s.dropToHost h).emit (.hostBlock h .localFault)
      else if s.standard then s.each (s.portDies p) fun s d =>
        s.emit (.hostBlock h (if s.flag d LFR_STD_STAT_PRBS_HOST then .prbs d else .through d))
      else if (s.portDies p).all s.active = false ∨ s.portAvail p = false then
        (s.dropToHost h).emit (.hostBlock h .localFault)
      else if s.rateMatched then s.blockToHost p else s.unitToHost p) := by
  simp only [execHostTxBlockDue, port, runs, fit, through, Bool.not_true, Bool.or_self, Bool.false_eq_true, if_false,
    Bool.or_eq_true, Bool.not_eq_true', apply_ite (Host.Outcome.next (φ := Fault) (ρ := Refusal))]

/-! ### Frames received (R99, R100, R212) -/

theorem execFrameReceiveOverhead_of_done {f : RxFrame} (populated : s.pop l = true) (locked : s.flocked l = true)
    (delivers : s.rxDelivers l = true) (on : s.domainOn l .dataPath = true) (coherent : s.standard = false)
    (first : (s.pool l).frames.find? (fun f => !f.ohSeen) = some f) (done : f.done.getLsbD 0 = true) :
    ∃ u, u = (match f.overhead l with
        | .decFail => (s.cnt l 64).ohLost l f.idx false
        | .crcFail => (s.cnt l 64).ohLost l f.idx true
        | .ok v => (s.cnt l 64).ohGood l f v) ∧
      execFrameReceiveOverhead l s = .next ((u.alignFollow l).unprotRise) := by
  refine ⟨_, rfl, (if_neg (by simp [populated, locked, delivers, on, coherent])).trans ?_⟩
  rw [first]
  exact if_neg (by simp [done])

/-! ### Frames released (R215, R234, R255) -/

theorem execFrameRelease_of_due (owned : s.groupKeys.find? (fun k => s.groupOwner k == o) = some k)
    (aligned : s.aligned k = true) (next : (s.dsk k).next = fc) (due : (s.releaseNext k).1 ≤ s.coreNow) :
    ∃ (at_ : Int) (u w : State) (used : List Die), (at_, u) = s.releaseNext k ∧
      (used, w) = u.lanesRelease fc at_ (s.alignGroup k) ∧
      execFrameRelease o fc s = .next
        (if w.assured then
          (((w.dropCopies fc used).followSet fc).each (s.alignGroup k) fun s l => s.releaseAssured fc used l).unprotRise.unprotFall
        else
          let v := w.each (s.alignGroup k) fun s l => s.releaseFull fc used l
          if v.mustRealign k then (v.unalign k).tryAlign k else v) := by
  rcases released : s.releaseNext k with ⟨at_, u⟩
  rcases parts : u.lanesRelease fc at_ (s.alignGroup k) with ⟨used, w⟩
  refine ⟨at_, u, w, used, rfl, parts.symm, ?_⟩
  rw [released] at due
  simp only [execFrameRelease, owned, aligned, next, released, parts, due, beq_self_eq_true, decide_true, Bool.and_self,
    Bool.not_true, Bool.false_eq_true, if_false, apply_ite (Host.Outcome.next (φ := Fault) (ρ := Refusal))]

/-! ### Topping (R255, R257) -/

theorem execErasureNotice_of_failed {die src : Die} {f : RxFrame} (released : (s.top src).rel = some f)
    (assured : s.assured = true) (dieIn : s.inTree die = true) (srcIn : s.inTree src = true) (other : die ≠ src)
    (low : 1 ≤ cw) (high : cw < 256) (failed : s.cwFailed src cw = true) :
    ∃ u v, u = (if (s.top src).rebuilds.contains cw = true ∨ (s.top src).noRoom.contains cw = true then s
        else s.updTop src fun x =>
          if 32 ≤ x.rebuilds.length then { x with noRoom := x.noRoom ++ [cw] } else { x with rebuilds := x.rebuilds ++ [cw] }) ∧
      v = (match u.parent src die with
        | some e => u.d2dSend e die true 1
        | none => u) ∧
      execErasureNotice die src cw s = .next
        (if ((die == u.topLane || u.inclMask.getLsbD die.val) && !v.cwFailed die cw) = true then
          match v.parent src die with
          | some e => (v.d2dSend die e true 1).cnt die 101
          | none => v
        else v) := by
  simp only [execErasureNotice, released]
  refine ⟨_, _, ?noted, rfl, (if_neg (by simp [assured, dieIn, srcIn, other, low, high, failed])).trans rfl⟩
  case noted => simp only [Bool.or_eq_true]

theorem execToppingWindowEnd_of_due {got : BitVec 8} {f : RxFrame} {hd : Header} {u v : State} (populated : s.pop l = true)
    (assured : s.assured = true) (released : (s.top l).rel = some f) (header : f.header = some hd)
    (its : hd.frameCount.toNat = fc) (low : 1 ≤ cw) (high : cw < 256) (due : (s.top l).relAt + 362 ≤ s.coreNow)
    (noted : u = if s.cwFailed l cw = true then
        (s.updTop l fun x => { x with rel := x.rel.map fun f => { f with failed := f.failed ||| (1#256 <<< cw) } }).noteRebuild l
          fc cw (s.rebuildOutcome l cw got)
      else s)
    (ended : v = u.updTop l fun x =>
      { x with rebuilds := x.rebuilds.filter (· != cw), noRoom := x.noRoom.filter (· != cw) }) :
    execToppingWindowEnd l fc cw got s = .next
      (if cw < 255 then v else match (v.top l).rel with
        | some f => v.settle l f (f.own || (v.copyFor l fc).isSome)
        | none => v) := by
  refine (if_neg (by simp [populated, assured, released, header, its, low, high, due])).trans ?_
  simp only [← noted, ← ended]
  by_cases more : cw < 255
  · simp only [more, if_true]
  · simp only [more, if_false]
    cases (v.top l).rel <;> rfl

/-! ### Frames sent (R121 to R124, R254) -/

/-- At its boundary a lane whose transmitter does not run stands idle. -/
theorem execFrameTransmit_of_idle {bypass : Option (Fin 256)} {z : State} (populated : s.pop l = true)
    (runs : s.dataRuns = true) (on : s.domainOn l .tx = true) (flushed : z = if s.isTop l then s.flushTop else s)
    (idle : z.txRuns l = false) : execFrameTransmit l bypass s = .next (z.txIdle l).shutFollow := by
  subst flushed
  exact (if_neg (by simp [populated, runs, on])).trans (if_pos (by simp [idle]))

/-- At its boundary a running transmitter sends a frame in the state that its causes require, the first one at once. -/
theorem execFrameTransmit_of_running {bypass : Option (Fin 256)} {z : State} (populated : s.pop l = true)
    (runs : s.dataRuns = true) (on : s.domainOn l .tx = true) (flushed : z = if s.isTop l then s.flushTop else s)
    (running : z.txRuns l = true) : ∃ (t a b u v : State) (st : TxState),
        t = z.each (z.portsOn l) (fun s p => s.drainNow p) ∧
        a = (if (t.tx l).running then t.txAdvance l else t.txStart l) ∧
        b = (if (a.assured && a.countsWindow l) = true then a.toppingWindow else a) ∧
        u = (b.rackStep l (t.lastGcm l)).txBoundary l ∧
        st = (if (t.tx l).running then
          nextTxState (TxState.ofCode (t.rd l LTX_STAT_TX_STATE)) (u.txWant l) (u.tx l).held else u.txWant l) ∧
        v = ((u.holdCauses l).showTx l st).kxKick ∧
        execFrameTransmit l bypass s = .next
          (((if TxState.code st < 2 then v else v.kxFlush).sendFrame l st bypass).showKeys).shutFollow := by
  refine ⟨_, _, _, _, _, _, rfl, rfl, rfl, rfl, rfl, rfl, ?_⟩
  cases was : ((z.each (z.portsOn l) fun s p => s.drainNow p).tx l).running <;>
    simp only [execFrameTransmit, populated, runs, on, ← flushed, running, was, Bool.and_self, Bool.not_true,
      Bool.false_eq_true, if_true, if_false]

/-- A hold that ends without a data lane's contribution leaves the lane out of the frame. -/
theorem execTxHoldEnd_of_missing {m : Die} {w : TopFrame} (assured : s.assured = true)
    (healthy : s.healthy s.topLane = true) (waiting : (s.top s.topLane).waiting = some w) (its : w.fc = fc)
    (due : s.coreCycle (s.tx s.topLane).sentAt + 362 ≤ s.coreNow) (lane : s.dataLanes.contains m = true)
    (running : (s.tx m).running = true) (sends : 2 ≤ s.rd m LTX_STAT_TX_STATE) (noneYet : (s.top s.topLane).missing = none) :
    execTxHoldEnd fc m s = .next
      ((((s.updTop s.topLane fun x => { x with missing := some (fc, 0#8 ||| (1#8 <<< m.val)) }).wr s.topLane
        TOP_STAT_TX_MISSING 1).cnt s.topLane 100).raise s.topLane evTOP_TX_MISSING (evArg m.val 0xFF [])) := by
  have contributes : decide (s.rd m LTX_STAT_TX_STATE < 2) = false := decide_eq_false (Nat.not_lt.mpr sends)
  simp only [execTxHoldEnd, waiting, its, due, contributes, assured, healthy, lane, running, noneYet, decide_true,
    Bool.and_false, Bool.false_and, Bool.and_self, Bool.not_false, Bool.not_true, Bool.false_eq_true, if_false]

end

/-- Settles O50: a request that runs is its body on the state it runs in, and an event whose condition holds has its
effect. -/
theorem dataPathRuns : Obligations.DataPathRuns := by
  refine ⟨?retry, ?slew, ?realign, ?realignMatched, ?deskewSet, ?toppingSet, ?codeword, ?looped, ?loss, ?recover, ?offset,
    ?blockDue, ?overhead, ?release, ?notice, ?windowEnd, ?transmit, ?holdEnd⟩
  case retry => exact fun s o k due => execDeskewAlignRetry_of_due
  case slew => exact fun s o k => execDeskewSlewStep_of_due
  case realign =>
    intro s t r x l runs die grouped on still aligned unmatched
    exact congrArg Host.Outcome.next
      (runs.run_eq (applyLineRealign_of_unmatched die grouped on still aligned unmatched) _)
  case realignMatched =>
    intro s t r x l v runs die grouped on still aligned matched least
    obtain ⟨g, u, guarded, slewed, applied⟩ := applyLineRealign_of_matched (r := r) (x := x) die grouped on still aligned
      matched least
    exact ⟨g, u, guarded, slewed, congrArg Host.Outcome.next (runs.run_eq applied _)⟩
  case deskewSet =>
    intro s t r x l guard runs die on
    exact congrArg Host.Outcome.next (runs.run_eq (applyDeskewSet_of_on die on) _)
  case toppingSet =>
    intro s t r x en hold runs on
    exact congrArg Host.Outcome.next (runs.run_eq (applyToppingSet_of_on on) _)
  case codeword => exact fun s h uncorr n units p d => execHostCodewordReceive_of_counting
  case looped => exact fun s h uncorr n units => execHostCodewordReceive_of_looped
  case loss => exact fun s h cdr p => execHostLaneLoss_of_all
  case recover => exact fun s h p => execHostLaneRecover_of_port
  case offset => exact fun s d exceeds => execHostPairOffset_of_change
  case blockDue => exact fun s h p => execHostTxBlockDue_of_runs
  case overhead => exact fun s l f => execFrameReceiveOverhead_of_done
  case release => exact fun s o k fc => execFrameRelease_of_due
  case notice => exact fun s die src cw f => execErasureNotice_of_failed
  case windowEnd =>
    exact fun s l fc cw got f hd populated assured released header its low high due => ⟨_, _, rfl, rfl,
      execToppingWindowEnd_of_due populated assured released header its low high due rfl rfl⟩
  case transmit =>
    exact fun s l bypass populated runs on => ⟨_, rfl, execFrameTransmit_of_idle populated runs on rfl,
      execFrameTransmit_of_running populated runs on rfl⟩
  case holdEnd => exact fun s fc m w => execTxHoldEnd_of_missing

end Sys2Proof.Machine

/-! The line code: the proof of the statement of spec/03_line_format.md on the code, the interleaving, the scrambler and
the precoder. -/

namespace Sys2Proof.Machine.LineFormat

section

variable {i j : Nat} {info : List (BitVec 256)}

/-! ### The parity-check matrix on information and on parity (R78, R80) -/

@[simp] theorem shift_zero (x : BitVec 256) : shift x 0 = x := by
  refine BitVec.eq_of_getLsbD_eq fun k hk => ?_
  simp [shift, hk]

/-- On the information columns a block row sums what `lamFrom` sums; the parity columns follow. -/
theorem checkRow_append (w : List (BitVec 256)) (h : j + info.length ≤ 35) :
    checkRow i j (info ++ w) = lamFrom i j info ^^^ checkRow i (j + info.length) w := by
  induction info generalizing j with
  | nil => exact BitVec.zero_xor.symm
  | cons x xs ih =>
    rw [List.length_cons] at h
    have column : baseMatrix i j = some (baseEntry i j) := if_pos (by omega)
    have rest := ih (j := j + 1) (by omega)
    rw [List.cons_append, checkRow, column, rest, lamFrom, List.length_cons, BitVec.xor_assoc, Nat.add_assoc,
      Nat.add_comm 1]

/-- A block row of an encoded word: what `lam` gives, and the row of the parity blocks. -/
theorem checkRow_encode (h : info.length = 35) :
    checkRow i 0 (encode info) = lamFrom i 0 info ^^^ checkRow i 35 (parity info) := by
  rw [encode, checkRow_append _ (by omega), h]

theorem checkRow_parity_columns (a b c d e : BitVec 256) :
    checkRow 0 35 [a, b, c, d, e] = shift a 1 ^^^ b ∧
    checkRow 1 35 [a, b, c, d, e] = b ^^^ c ∧
    checkRow 2 35 [a, b, c, d, e] = a ^^^ (c ^^^ d) ∧
    checkRow 3 35 [a, b, c, d, e] = d ^^^ e ∧
    checkRow 4 35 [a, b, c, d, e] = shift a 1 ^^^ e := by
  simp [checkRow, baseMatrix]

/-- A block row vanishes when its last parity block is the sum of its other blocks. -/
theorem solved_row_vanishes (a b : BitVec 256) : a ^^^ (b ^^^ (a ^^^ b)) = 0#256 := by
  rw [← BitVec.xor_assoc, BitVec.xor_self]

/-- The last block row needs no parity block of its own: it is the sum of the others, as `p0` is chosen. -/
theorem last_row_vanishes (a b c d e s : BitVec 256) :
    e ^^^ (s ^^^ (d ^^^ (c ^^^ (a ^^^ b ^^^ c ^^^ d ^^^ e) ^^^ (b ^^^ (a ^^^ s))))) = 0#256 := by
  have bitwise : ∀ a b c d e s : Bool,
      (e ^^ (s ^^ (d ^^ (c ^^ (a ^^ b ^^ c ^^ d ^^ e) ^^ (b ^^ (a ^^ s)))))) = false := by decide
  exact BitVec.eq_of_getLsbD_eq fun k _ => by simp only [BitVec.getLsbD_xor, bitwise, BitVec.getLsbD_zero]

/-- The first four block rows are solved for `p1` to `p4` one after the other; the last one then vanishes. -/
theorem isCodeword_encode (h : info.length = 35) : isCodeword (encode info) = true := by
  simp only [isCodeword, List.all_cons, List.all_nil, Bool.and_eq_true, beq_iff_eq, checkRow_encode h, parity,
    checkRow_parity_columns]
  exact ⟨solved_row_vanishes .., solved_row_vanishes .., (BitVec.xor_assoc ..).symm.trans (solved_row_vanishes ..),
    solved_row_vanishes .., last_row_vanishes .., trivial⟩

theorem length_encode (h : info.length = 35) : (encode info).length = 40 := by
  rw [encode, List.length_append, h]
  rfl

theorem take_encode (h : info.length = 35) : (encode info).take 35 = info := by
  rw [encode, ← h, List.take_left]

/-! ### Interleaving (R82) -/

/-- An offset in the 20 data blocks of a row of codewords is 16 times the codeword symbol plus the codeword's place. -/
theorem symbolPos_codewordOf {g t : Nat} (ht : t < 4096) :
    symbolPos (codewordOf g t).1 (codewordOf g t).2 = dataStart g + t := by
  simp only [symbolPos, codewordOf, dataStart]
  omega

theorem codewordOf_lt {g t : Nat} (hg : g < 320) (ht : t < 4096) :
    (codewordOf g t).1 < 256 ∧ (codewordOf g t).2 < 5120 := by
  simp only [codewordOf]
  omega

/-- The block group and the offset in its data block that carry symbol `n` of codeword `c`. -/
def placeOf (c n : Nat) : Nat × Nat :=
  let m := 16 * n + c % 16
  (20 * (c / 16) + m / 4096, m % 4096)

theorem placeOf_lt {c n : Nat} (hc : c < 256) (hn : n < 5120) : (placeOf c n).1 < 320 ∧ (placeOf c n).2 < 4096 := by
  simp only [placeOf]
  omega

theorem codewordOf_placeOf {c n : Nat} (hn : n < 5120) : codewordOf (placeOf c n).1 (placeOf c n).2 = (c, n) := by
  simp only [codewordOf, placeOf, Prod.mk.injEq]
  omega

/-! ### Scrambling and precoding (R83, R86) -/

/-- The sequence does not depend on the bits, and the xor with it is its own inverse. -/
theorem scramble_scramble (r : BitVec 31) (bits : List Bool) : scramble r (scramble r bits) = bits := by
  induction bits generalizing r with
  | nil => rfl
  | cons b bs ih => rw [scramble, scramble, ih, Bool.xor_assoc, Bool.xor_self, Bool.xor_false]

/-- Precoding subtracts the value sent before, which the receiver adds again. -/
theorem unprecode_precode (v : Nat) {us : List Nat} (h : ∀ u ∈ us, u < 4) : unprecode v (precode v us) = us := by
  induction us generalizing v with
  | nil => rfl
  | cons u us ih =>
    obtain ⟨hu, hus⟩ := List.forall_mem_cons.mp h
    have own : ((u + 4 - v % 4) % 4 + v) % 4 = u := by omega
    rw [precode, unprecode, own, ih _ hus]

end

end Sys2Proof.Machine.LineFormat

namespace Sys2Proof.Machine

/-- Settles O57: the parity blocks cancel each block row (`isCodeword_encode`), the interleaver is division with remainder,
and each of scrambler and precoder undoes itself value by value. -/
theorem lineCode : Obligations.LineCode := by
  refine ⟨?code, ?place, ?symbol, LineFormat.scramble_scramble, fun v us => LineFormat.unprecode_precode v⟩
  case code => exact fun info h => ⟨LineFormat.isCodeword_encode h, LineFormat.take_encode h, LineFormat.length_encode h⟩
  case place => exact fun g t hg ht => ⟨LineFormat.symbolPos_codewordOf ht, LineFormat.codewordOf_lt hg ht⟩
  case symbol =>
    intro c n hc hn
    obtain ⟨hg, ht⟩ := LineFormat.placeOf_lt hc hn
    exact ⟨_, _, hg, ht, LineFormat.codewordOf_placeOf hn⟩

end Sys2Proof.Machine

/-! What register access, the settings store, transactions, shut-down, resets and start-up do when their conditions hold:
the proof of the statement of spec/03_line_format.md on them. -/

namespace Sys2Proof.Machine

section

variable {s t : State} {r : Req} {x : Session} {a v : Word} {slot : Nat}

/-! ### Register access (R105, R363, R417, R419) -/

theorem applyRegRead_of_on {n : Option Nat} (on : t.blockOff (addrDie a) (addrBlk a) false = false) :
    applyRegRead a n r x t =
      .okWith (State.readWords (addrDie a) (addrBlk a) (n.getD 1) (addrWord a) t).2
        [tlvData (State.readWords (addrDie a) (addrBlk a) (n.getD 1) (addrWord a) t).1] :=
  regGuard_of_on on _

theorem applyRegWrite_of_on {mask : Option Word} (on : t.blockOff (addrDie a) (addrBlk a) true = false) :
    applyRegWrite a v mask r x t =
      t.writeWord (addrDie a) (addrBlk a) (addrWord a) v (mask.getD (BitVec.allOnes 32)) :=
  regGuard_of_on on _

/-! ### Register access over the sideband (R462) -/

variable {src dst : Die} {tag : Nat} {write : Bool} {m : SlotMsg}

/-- A REQ that asks for no group of counters makes its access and pushes the RSP of what it gave. -/
theorem execSbReq_of_access (taken : s.takeSlot dst src (fun m => m == .req dst tag write a v) = some (m, t))
    (noGroup : collectAsked write a = none) :
    execSbReq src dst tag write a v s = .next ((t.sbAccess dst write a v).2.2.sbPush dst 2 1
      (.rsp src tag (t.sbAccess dst write a v).2.1 (BitVec.ofNat 32 (t.sbAccess dst write a v).1))) := by
  simp only [execSbReq, taken, noGroup]

/-- A REQ of a register that exists, in a domain that is on, makes the access that a request makes. -/
theorem State.sbAccess_of_on (good : addrBad a = false)
    (keyed : Part.cipher t.part = true ∨ addrBlk a ≠ 0x0C ∧ addrBlk a ≠ 0x0D) (on : t.blockOff dst (addrBlk a) write = false) :
    t.sbAccess dst write a v =
      if write then
        (0, false, ((t.writeWord dst (addrBlk a) (addrWord a) v (BitVec.allOnes 32)).state.fireCommand).doRestarts)
      else ((t.readWord dst (addrBlk a) (addrWord a)).1, false, (t.readWord dst (addrBlk a) (addrWord a)).2) :=
  (if_neg (by simpa [good, Decidable.or_iff_not_imp_left] using keyed)).trans (if_neg (by simp [on]))

/-- A REQ of a register that does not exist, or not on this part, reads 0 and takes no write. -/
theorem State.sbAccess_of_absent
    (absent : addrBad a = true ∨ Part.cipher t.part = false ∧ (addrBlk a = 0x0C ∨ addrBlk a = 0x0D)) :
    t.sbAccess dst write a v = (0, false, t) :=
  if_pos (by simpa using absent)

/-! ### The settings store (R401, R604, R608) -/

theorem applyVintageCommit_of_idle {label : Option Bytes} (idle : t.storeBusy = false) :
    ∃ (v : Nat) (u : State), (v, u) = t.fresh ∧ applyVintageCommit slot label r x t =
      .pending (.commit slot) (State.syncNvm { u with nv := { u.nv with
        commits := u.nv.commits + 1
        committing := some { die := 0, second := false, slot, part := u.part, commit := u.nv.commits + 1,
                             timeNs := u.ns, label := label.getD [], body := captureConfig u,
                             crc := BitVec.ofNat 32 v, crcOk := true } } }) :=
  ⟨_, _, rfl, if_neg (by simp [idle])⟩

/-- A body with a record that is refused leaves the state as it was. -/
theorem applyVintageRestore_of_refused {body : List Instr} {st : Status} {n : Nat} (idle : t.storeBusy = false)
    (held : t.bodyOf slot = some body) (refused : (t.applyBody (some x) body).failed = some (st, n)) :
    applyVintageRestore slot r x t = { status := st, err := some n, state := t } := by
  refine (if_neg (by simp [idle])).trans ?_
  simp only [held, refused]

/-- A body of which no record is refused is applied, and the lanes follow it. -/
theorem applyVintageRestore_of_applied {body : List Instr} {q : Restore} (idle : t.storeBusy = false)
    (held : t.bodyOf slot = some body) (ran : t.applyBody (some x) body = q) (applied : q.failed = none) :
    applyVintageRestore slot r x t = .pending (.restore q.adjusted)
      (({ q.state with nv := { q.state.nv with restored := body } } : State).lanesTo (upSet body)
        (q.state.profile != t.profile || q.state.clockMode != t.clockMode)) := by
  refine (if_neg (by simp [idle])).trans ?_
  simp only [held, ran, applied]

theorem execVintageRestoreDone_of_down {lanes : BitVec 8} (restoring : s.restoring = some lanes)
    (down : (s.popDies.all fun l => (s.tx l).up || (s.rxState l == .down && s.rd l LTX_STAT_TX_STATE == 0)) = true) :
    execVintageRestoreDone s = .next (State.endRestore { s.bringUp lanes with restoring := none }) := by
  rw [execVintageRestoreDone, restoring]
  exact if_pos down

theorem applyVintagePrefer_of_used (idle : t.storeBusy = false) (used : slot = 0xFF ∨ t.slotUsed slot = true) :
    applyVintagePrefer slot r x t =
      .ok (State.syncNvm { t with nv := { t.nv with preferred := if slot = 0xFF then none else some slot } }) :=
  (if_neg (by simp [idle])).trans (if_neg (by simpa [Decidable.or_iff_not_imp_left] using used))

theorem applyVintageDelete_of_idle (idle : t.storeBusy = false) :
    applyVintageDelete slot r x t = .ok (State.syncNvm { t with nv := { t.nv with
      copies := t.nv.copies.filter fun c => c.slot != slot
      preferred := if t.nv.preferred = some slot then none else t.nv.preferred } }) :=
  if_neg (by simp [idle])

/-! ### Transactions (R374, R375) -/

theorem execStagedCommand_of_open {c : Instr} {i : CmdInfo} {body : Req → Session → State → Res} (request : req? c = some r)
    (op : opAll s c = some (i, body)) (inTxn : ((s.session? r.channel).any fun x => x.txn.isSome) = true) :
    execStagedCommand c s = .next ((Slostan.run r c i body s).fireCommand).doRestarts := by
  simp only [execStagedCommand, request, op, inTxn, if_true]

/-- COMMIT of a SEQUENCE transaction that is not doomed executes what is staged and replies each outcome. -/
theorem applyCommit_of_sequence {k : Txn} {q : State × List (Staged × Status)} (txn : x.txn = some k)
    (undoomed : k.doomed = none) (mode : k.mode = .sequence)
    (ran : State.runAll x false k.staged (t.updSession x.channel fun y => { y with txn := none }) = q) :
    applyCommit r x t = .okWith (q.2.foldl (fun u p => u.auditOne x p.1 p.2) q.1) (q.2.map fun p => tlvOutcome p.1 p.2) := by
  subst ran
  simp only [applyCommit, txn, undoomed, mode]
  rfl

/-! ### Shut-down (R403, R625) -/

theorem State.shutFollow_of_shuttingDown (ends : s.phase = .shuttingDown) : s.shutFollow = s :=
  if_neg (by simp [ends])

/-- A shut-down with no die under test ends once every lane is down. -/
theorem execShutdownComplete_of_down (ends : s.phase = .shuttingDown) (down : s.allDown = true) (noTest : s.underTest = []) :
    ∃ u, u = s.commitDone ∧
      execShutdownComplete [] s = .next
        ((((u.finishTest 0 [] []).each ((u.finishTest 0 [] []).popDies.filter fun d => !([] : List Die).contains d)
          fun s d => s.skipTest d).finishPend (.shutdown true) .ok []).finishPend (.shutdown false) .ok []).enterOff := by
  have covered : coverDies [] s.underTest = true := by rw [noTest]; rfl
  refine ⟨_, rfl, congrArg Host.Outcome.next ?_⟩
  rw [State.shutFollow_of_shuttingDown ends, State.endShutdown, if_neg (by simp [ends, down, covered]), noTest]

/-! ### Resets and start-up (R377, R622, R636, R647) -/

theorem execResetNFall_of_supplied {cut : Option LimitCut} (supplied : s.phase ≠ .powerOff) :
    execResetNFall cut s = .next (s.packageReset (s.phase = .off) cut) :=
  congrArg Host.Outcome.next (if_neg supplied)

theorem execPowerOnResetRelease_of_held (held : s.phase = .powerOff ∨ s.phase = .inReset ∨ s.supplyLost = true) :
    ∃ (v : Nat) (u : State), (v, u) = s.fresh ∧ execPowerOnResetRelease s = .next (u.packageReset (v % 2 = 0) none) :=
  ⟨_, _, rfl, if_pos (by simpa [or_assoc] using held)⟩

/-- A start on the quick path needs no outcome of a self-test. -/
theorem execStartUp_of_quick {fwOk : BitVec 8} {tests : List TestOutcome} (held : s.phase = .inReset)
    (clocked : s.time.refclk = true) (supplied : s.supplyLost = false)
    (firmware : (s.popDies.all fun d => !s.fwFound fwOk d) = false) (quick : s.quickPath = true) :
    ∃ t u, t = ((s.startElect fwOk).startLoad).each (((s.startElect fwOk).startLoad).popDies) (fun s d => s.safePowered d) ∧
      u = t.startVintage ∧
      execStartUp fwOk tests s = .next (u.each u.popDies fun s d => s.quickRecord d).startOpen := by
  refine ⟨_, _, rfl, rfl, ?_⟩
  simp only [execStartUp, held, clocked, supplied, firmware, quick, bne_self_eq_false, Bool.not_true, Bool.or_self,
    Bool.false_and, Bool.false_eq_true, if_false, if_true]

end

/-- Settles O53: a request that runs is its body on the state it runs in, and an event whose condition holds has its
effect. -/
theorem settingsAndRegistersRun : Obligations.SettingsAndRegistersRun := by
  refine ⟨?regRead, ?regWrite, ?frameCount, ?sbReq, ?sbReqAbsent, ?commit, ?commitDone, ?restore, ?restoreDone, ?list,
    ?prefer, ?delete, ?staged, ?commitTxn, ?shutdown, ?shutdownComplete, ?resetN, ?powerOn, ?startUp⟩
  case regRead =>
    intro s t r x a n runs on
    exact congrArg Host.Outcome.next (runs.run_eq (applyRegRead_of_on on) _)
  case regWrite =>
    intro s t r x a v mask runs on
    exact congrArg (fun u : State => Host.Outcome.next u.fireCommand.doRestarts) (runs.run_eq (applyRegWrite_of_on on) _)
  case frameCount =>
    intro s t r x d rx runs on
    exact congrArg Host.Outcome.next (runs.run_eq (body := fun _ _ u =>
      regGuard d 0x09 false u (.okWith (u.readFcLo d rx).2 [tlvData [(u.readFcLo d rx).1]])) (regGuard_of_on on _) _)
  case sbReq =>
    intro s t src dst tag write a v m taken noGroup good keyed on
    refine (execSbReq_of_access taken noGroup).trans ?_
    rw [State.sbAccess_of_on good keyed on]
    cases write <;> rfl
  case sbReqAbsent =>
    intro s t src dst tag write a v m taken noGroup absent
    refine (execSbReq_of_access taken noGroup).trans ?_
    rw [State.sbAccess_of_absent absent]
  case commit =>
    intro s t r x slot label runs idle
    obtain ⟨v, u, drawn, applied⟩ := applyVintageCommit_of_idle (r := r) (x := x) idle
    exact ⟨v, u, drawn, congrArg Host.Outcome.next (runs.run_eq applied _)⟩
  case commitDone => exact fun s => rfl
  case restore =>
    intro s t r x slot body runs idle held
    refine ⟨_, rfl, congrArg (fun u : State => Host.Outcome.next u.fireCommand.doRestarts) (runs.run_eq ?_ _)⟩
    rcases outcome : (t.applyBody (some x) body).failed with _ | ⟨st, n⟩
    · exact applyVintageRestore_of_applied idle held rfl outcome
    · exact applyVintageRestore_of_refused idle held outcome
  case restoreDone => exact fun s m => execVintageRestoreDone_of_down
  case list => exact fun s t r x runs => congrArg Host.Outcome.next (runs.run_eq rfl _)
  case prefer =>
    intro s t r x slot runs idle used
    exact congrArg Host.Outcome.next (runs.run_eq (applyVintagePrefer_of_used idle used) _)
  case delete =>
    intro s t r x slot runs idle
    exact congrArg Host.Outcome.next (runs.run_eq (applyVintageDelete_of_idle idle) _)
  case staged => exact fun s c r i body => execStagedCommand_of_open
  case commitTxn =>
    intro s t r x k runs txn undoomed mode
    exact ⟨_, rfl, congrArg (fun u : State => Host.Outcome.next u.fireCommand.doRestarts)
      (runs.run_eq (applyCommit_of_sequence txn undoomed mode rfl) _)⟩
  case shutdown =>
    exact fun s t r x test runs => ⟨_, rfl, congrArg (fun u : State => Host.Outcome.next u.shutFollow) (runs.run_eq rfl _)⟩
  case shutdownComplete => exact fun s => execShutdownComplete_of_down
  case resetN => exact fun s cut => execResetNFall_of_supplied
  case powerOn => exact fun s => execPowerOnResetRelease_of_held
  case startUp => exact fun s fwOk tests => execStartUp_of_quick

end Sys2Proof.Machine

/-! The line transmitter: its states, its launch delay, its spectral mask and its commands: the proofs of the statements of
spec/04_line_transmit.md. -/

namespace Sys2Proof.Machine

section

variable {s t : State} {d e l : Die} {g : TxLane → TxLane}

/-! ### What a change of a lane's transmitter leaves -/

theorem State.die_updTx (s : State) (d e : Die) (g : TxLane → TxLane) :
    (s.updTx d g).die e = if d = e then { s.die e with tx := g (s.die e).tx } else s.die e := by
  split
  case isTrue same => exact same ▸ s.die_updDie d _
  case isFalse other => exact s.die_updDie_ne _ other

@[simp] theorem State.tx_updTx (s : State) (d : Die) (g : TxLane → TxLane) : (s.updTx d g).tx d = g (s.tx d) := by
  simp only [State.tx, State.die_updTx, if_true]

theorem State.tx_updTx_ne (g : TxLane → TxLane) (other : d ≠ e) : (s.updTx d g).tx e = s.tx e := by
  simp only [State.tx, State.die_updTx, if_neg other]

@[simp] theorem State.ciph_updTx : (s.updTx d g).ciph e = s.ciph e := by
  simp only [State.ciph, State.die_updTx]
  split <;> rfl

@[simp] theorem State.keys_updTx : (s.updTx d g).keys e = s.keys e := by
  simp only [State.keys, State.die_updTx]
  split <;> rfl

@[simp] theorem State.units_updTx : ((s.updTx d g).die e).units = (s.die e).units := by
  simp only [State.die_updTx]
  split <;> rfl

@[simp] theorem State.pipesOk_updTx {rx : Bool} : (s.updTx d g).pipesOk e rx = s.pipesOk e rx := by
  simp only [State.pipesOk, State.ciph_updTx, State.units_updTx]

/-- The keys of a lane do not depend on its transmitter. -/
@[simp] theorem State.keyUsable_updTx : (s.updTx d g).keyUsable e = s.keyUsable e := by
  simp only [State.keyUsable, State.threePipes, State.laneKey, State.keySpent, State.pipesOk_updTx, State.ciph_updTx,
    State.keys_updTx]
  rfl

/-- The causes of a lane look at nothing of a transmitter but whether it is up and muted by its mask. -/
theorem State.causeOn_updTx (up : ∀ x, (g x).up = x.up) (muted : ∀ x, (g x).maskMute = x.maskMute) (c : Cause) :
    (s.updTx d g).causeOn e c = s.causeOn e c := by
  have kept : ((s.updTx d g).tx e).up = (s.tx e).up ∧ ((s.updTx d g).tx e).maskMute = (s.tx e).maskMute := by
    simp only [State.tx, State.die_updTx]
    split
    · exact ⟨up _, muted _⟩
    · exact ⟨rfl, rfl⟩
  cases c with
  | notUp => simp only [State.causeOn, kept]; rfl
  | mask => exact kept.2
  | agreeFail | noKey => simp only [State.causeOn, State.keyUsable_updTx]; rfl
  | power | linePll | forced | safetyC | noPort => rfl

theorem State.causeState_updTx (c : Cause) : (s.updTx d g).causeState e c = s.causeState e c := by
  unfold State.causeState
  rfl

/-! ### The state that the causes require (R122) -/

theorem mem_allCauses (c : Cause) : c ∈ allCauses := by cases c <;> decide

theorem allCauses_pairwise : allCauses.Pairwise fun c c' => Cause.code c ≤ Cause.code c' := by decide

theorem State.mem_txCauses {c : Cause} : c ∈ s.txCauses l ↔ s.causeOn l c = true := by
  simp only [State.txCauses, List.mem_filter, mem_allCauses c, true_and]

/-- Every cause requires that the transmitter leave LIVE. -/
theorem State.causeState_ne_live (s : State) (l : Die) (c : Cause) : s.causeState l c ≠ .live := by
  unfold State.causeState
  split
  · decide
  · cases c with
    | forced => dsimp only; split <;> decide
    | notUp | power | linePll | mask | safetyC | agreeFail | noKey | noPort => exact nofun

theorem TxState.eq_live_of_code_le {a : TxState} (h : TxState.code .live ≤ TxState.code a) : a = .live := by
  cases a with
  | live => rfl
  | mute | pilot | withheld => exact absurd h (by decide)

theorem TxState.code_stricter (a b : TxState) :
    TxState.code (TxState.stricter a b) = min (TxState.code a) (TxState.code b) := by
  unfold TxState.stricter
  split <;> omega

theorem TxState.stricter_eq (a b : TxState) : TxState.stricter a b = a ∨ TxState.stricter a b = b := by
  unfold TxState.stricter
  split
  · exact .inl rfl
  · exact .inr rfl

/-- The strictest of a list is no less strict than where it starts and than any member. -/
theorem TxState.code_foldl_stricter_le (a : TxState) (as : List TxState) :
    ∀ b ∈ a :: as, TxState.code (as.foldl TxState.stricter a) ≤ TxState.code b := by
  induction as generalizing a with
  | nil => exact List.forall_mem_singleton.mpr le_rfl
  | cons a' as ih =>
    obtain ⟨first, rest⟩ := List.forall_mem_cons.mp (ih (TxState.stricter a a'))
    rw [TxState.code_stricter] at first
    exact List.forall_mem_cons.mpr
      ⟨first.trans (min_le_left _ _), List.forall_mem_cons.mpr ⟨first.trans (min_le_right _ _), rest⟩⟩

theorem TxState.foldl_stricter_mem (a : TxState) (as : List TxState) : as.foldl TxState.stricter a ∈ a :: as := by
  induction as generalizing a with
  | nil => exact List.mem_singleton_self a
  | cons a' as ih =>
    rcases TxState.stricter_eq a a' with same | same <;> rw [List.foldl_cons, same]
    · exact List.mem_cons.mpr ((List.mem_cons.mp (ih a)).imp_right (List.mem_cons_of_mem a'))
    · exact List.mem_cons_of_mem a (ih a')

theorem State.code_txWant_le {c : Cause} (on : s.causeOn l c = true) :
    TxState.code (s.txWant l) ≤ TxState.code (s.causeState l c) :=
  TxState.code_foldl_stricter_le _ _ _
    (List.mem_cons_of_mem _ (List.mem_map_of_mem (State.mem_txCauses.mpr on)))

/-- A state other than LIVE is wanted because a cause requires it. -/
theorem State.exists_cause_of_txWant (restrained : s.txWant l ≠ .live) :
    ∃ c ∈ s.txCauses l, s.causeState l c = s.txWant l :=
  List.mem_map.mp ((List.mem_cons.mp (TxState.foldl_stricter_mem _ _)).resolve_left restrained)

theorem State.txWant_live_iff : s.txWant l = .live ↔ ∀ c, s.causeOn l c = false := by
  constructor
  · intro live c
    refine Bool.eq_false_iff.mpr fun on => s.causeState_ne_live l c (TxState.eq_live_of_code_le ?_)
    exact live ▸ State.code_txWant_le on
  · intro off
    by_contra restrained
    obtain ⟨c, on, _⟩ := State.exists_cause_of_txWant restrained
    exact absurd (State.mem_txCauses.mp on) (Bool.eq_false_iff.mp (off c))

/-! ### The cause shown (R122) -/

/-- The cause shown is the first active one that requires the state wanted. -/
theorem State.txCause_of_restrained (restrained : s.txWant l ≠ .live) :
    ∃ c, s.causeOn l c = true ∧ s.causeState l c = s.txWant l ∧ s.txCause l = Cause.code c := by
  obtain ⟨c, on, requires⟩ := State.exists_cause_of_txWant restrained
  rcases found : (s.txCauses l).find? fun c => s.causeState l c == s.txWant l with _ | c'
  · exact absurd (beq_iff_eq.mpr requires) (List.find?_eq_none.mp found c on)
  · refine ⟨c', State.mem_txCauses.mp (List.mem_of_find?_eq_some found), ?_, ?_⟩
    · simpa using List.find?_some found
    · simp only [State.txCause, found]

/-- No active cause that requires the state wanted has a lower code than the one shown. -/
theorem State.txCause_le {c : Cause} (on : s.causeOn l c = true) (requires : s.causeState l c = s.txWant l) :
    s.txCause l ≤ Cause.code c := by
  have sorted : (s.txCauses l).Pairwise fun c c' => Cause.code c ≤ Cause.code c' := allCauses_pairwise.filter _
  unfold State.txCause
  split
  case h_1 c' found =>
    obtain ⟨_, before, after, split, skipped⟩ := List.find?_eq_some_iff_append.mp found
    have place := State.mem_txCauses.mpr on
    rw [split] at place sorted
    rcases List.mem_append.mp place with early | late
    · exact absurd requires (by simpa using skipped c early)
    · rcases List.mem_cons.mp late with rfl | later
      · exact le_rfl
      · exact List.rel_of_pairwise_cons (List.pairwise_append.mp sorted).2.1 later
  case h_2 => exact Nat.zero_le _

theorem State.txCause_of_live (live : s.txWant l = .live) : s.txCause l = 0 := by
  have none_on : s.txCauses l = [] := List.filter_eq_nil_iff.mpr fun c _ =>
    Bool.eq_false_iff.mp (State.txWant_live_iff.mp live c)
  simp only [State.txCause, none_on, List.find?_nil]

/-! ### Entry and exit of a state (R123, R124) -/

theorem State.each_keeps {α : Type} {Q : State → Prop} {f : State → α → State} {as : List α}
    (keeps : ∀ s, ∀ a ∈ as, Q s → Q (f s a)) (start : Q s) : Q (s.each as f) := by
  induction as generalizing s with
  | nil => exact start
  | cons a as ih =>
    obtain ⟨first, rest⟩ := List.forall_mem_cons.mp (fun a mem s => keeps s a mem)
    exact ih (fun s a mem => rest a mem s) (first s start)

/-- What one element's step sets, where every step keeps it and what it needs, holds at the end. -/
theorem State.each_sets {α : Type} {P Q : State → Prop} {f : State → α → State} {as : List α} {a : α} (mem : a ∈ as)
    (keepsP : ∀ s, ∀ a ∈ as, P s → P (f s a)) (keepsQ : ∀ s, ∀ a ∈ as, Q s → Q (f s a)) (sets : ∀ s, P s → Q (f s a))
    (start : P s) : Q (s.each as f) := by
  obtain ⟨before, after, rfl⟩ := List.append_of_mem mem
  rw [State.each, List.foldl_append, List.foldl_cons]
  refine State.each_keeps (fun s a later => keepsQ s a (by simp [later])) (sets _ ?_)
  exact State.each_keeps (fun s a early => keepsP s a (by simp [early])) start

theorem mem_allDies (d : Die) : d ∈ allDies := by
  revert d
  decide

/-- Whether a state wants the same of the transmitters as another. -/
def State.SameCauses (s t : State) : Prop :=
  ∀ l c, t.causeOn l c = s.causeOn l c ∧ t.causeState l c = s.causeState l c

theorem State.SameCauses.refl (s : State) : s.SameCauses s := fun _ _ => ⟨rfl, rfl⟩

theorem State.SameCauses.holdTx {on : Bool} {st : TxState} (h : s.SameCauses t) : s.SameCauses (t.holdTx d on st) := by
  unfold State.holdTx
  split
  · intro l c
    rw [State.causeOn_updTx, State.causeState_updTx]
    · exact h l c
    · exact fun _ => rfl
    · exact fun _ => rfl
  · exact h

theorem State.mem_held_holdTx {on : Bool} {st st' : TxState} (noted : st ∈ (s.tx l).held) :
    st ∈ ((s.holdTx d on st').tx l).held := by
  unfold State.holdTx
  split
  · by_cases other : d = l
    · subst other
      rw [State.tx_updTx]
      exact List.mem_cons_of_mem _ noted
    · rwa [State.tx_updTx_ne _ other]
  · exact noted

theorem State.mem_held_holdTx_self {st : TxState} : st ∈ ((s.holdTx l true st).tx l).held := by
  unfold State.holdTx
  split
  · rw [State.tx_updTx]
    exact List.mem_cons_self
  case isFalse noted => simpa using noted

theorem State.mem_held_each_holdTx {st : TxState} {sts : List TxState} (noted : st ∈ (s.tx l).held) :
    st ∈ ((s.each sts fun s st => s.holdTx d true st).tx l).held :=
  State.each_keeps (Q := fun u => st ∈ (u.tx l).held) (fun _ _ _ => State.mem_held_holdTx) noted

theorem State.mem_held_each_holdTx_self {st : TxState} {sts : List TxState} (mem : st ∈ sts) :
    st ∈ ((s.each sts fun s st => s.holdTx l true st).tx l).held :=
  State.each_sets (P := fun _ => True) (Q := fun u => st ∈ (u.tx l).held) mem (fun _ _ _ => id)
    (fun _ _ _ => State.mem_held_holdTx) (fun _ _ => State.mem_held_holdTx_self) trivial

/-- Noting the causes of the populated lanes notes every state that one of them requires. -/
theorem State.mem_held_noteCauses {c : Cause} (populated : s.pop l = true) (on : s.causeOn l c = true) :
    s.causeState l c ∈ (s.noteCauses.tx l).held := by
  have mem : l ∈ s.popDies := List.mem_filter.mpr ⟨mem_allDies l, populated⟩
  unfold State.noteCauses
  refine State.each_sets (P := s.SameCauses) (Q := fun u => s.causeState l c ∈ (u.tx l).held) mem ?keepsCauses
    ?keepsNoted ?notes (State.SameCauses.refl s)
  case keepsCauses =>
    exact fun _ _ _ => State.each_keeps (Q := s.SameCauses) fun _ _ _ => State.SameCauses.holdTx
  case keepsNoted => exact fun _ _ _ => State.mem_held_each_holdTx
  case notes =>
    intro t same
    obtain ⟨sameOn, sameState⟩ := same l c
    exact State.mem_held_each_holdTx_self
      (List.mem_map.mpr ⟨c, State.mem_txCauses.mpr (sameOn.trans on), sameState⟩)

theorem nextTxState_of_stricter {now want : TxState} {held : List TxState}
    (stricter : TxState.code want ≤ TxState.code now) : nextTxState now want held = want :=
  if_pos stricter

theorem nextTxState_of_looser {now want : TxState} {held : List TxState} (looser : TxState.code now < TxState.code want) :
    nextTxState now want held = if now ∈ held then now else want := by
  simp only [nextTxState, Nat.not_le.mpr looser, if_false, List.contains_iff_mem]

end

/-- Settles O56: the state wanted is the strictest that an active cause requires (`TxState.code_foldl_stricter_le`), the
cause shown is the first that requires it, and noting causes changes none. -/
theorem transmitStates : Obligations.TransmitStates := by
  refine ⟨fun s l c on => ⟨State.code_txWant_le on, State.txCause_le on⟩, fun s l =>
    ⟨State.txWant_live_iff, State.txCause_of_live, State.txCause_of_restrained⟩, fun now want held =>
    ⟨nextTxState_of_stricter, nextTxState_of_looser⟩, fun s l => ?kept, fun s l c => State.mem_held_noteCauses⟩
  case kept => simp only [State.holdCauses, State.tx_updTx]

section

variable {s t : State} {d e l : Die} {f g : Fld}

/-! ### Fields of different places -/

/-- A field's place: what its key holds below the die. -/
def Fld.place (f : Fld) : Nat := ((f.blk * 65536 + f.word) * 32 + f.hi) % 536870912

theorem Fld.place_eq_key_mod (f : Fld) (d : Die) : f.place = f.key d % 536870912 := by
  simp only [Fld.place, Fld.key]
  omega

theorem Fld.key_ne_of_place_ne (differ : g.place ≠ f.place) (d e : Die) : g.key e ≠ f.key d := by
  intro same
  rw [g.place_eq_key_mod e, f.place_eq_key_mod d, same] at differ
  exact differ rfl

/-- A field of another place reads as before, whichever die it is of. -/
theorem State.rd_wr_of_place_ne (h : s.regs.wf = true) (v : Nat) (differ : g.place ≠ f.place) :
    (s.wr d f v).rd e g = s.rd e g :=
  s.rd_wr_ne h v (Fld.key_ne_of_place_ne differ d e)

theorem State.flag_wrB (h : s.regs.wf = true) (wide : 0 < f.width) (b : Bool) : (s.wrB d f b).flag d f = b := by
  have held : 1 % 2 ^ f.width = 1 := Nat.mod_eq_of_lt (Nat.one_lt_two_pow wide.ne')
  cases b <;> simp [State.flag, State.wrB, s.rd_wr h, held]

/-! ### The launch delay (R129, R130) -/

/-- The delay after a frame: the target at once with MODE 1, and with MODE 0 a step nearer to it. -/
def State.nextDelay (s : State) (l : Die) : Nat :=
  if s.flag l LTX_DELAY_MODE then s.delayTarget l
  else if s.delayNow l < s.delayTarget l then min (s.delayTarget l) (s.delayNow l + 2 ^ s.rd l LTX_DELAY_SLEW)
  else max (s.delayTarget l) (s.delayNow l - 2 ^ s.rd l LTX_DELAY_SLEW)

theorem State.nextDelay_of_jump (jump : s.flag l LTX_DELAY_MODE = true) : s.nextDelay l = s.delayTarget l := if_pos jump

theorem State.nextDelay_of_below (slew : s.flag l LTX_DELAY_MODE = false) (below : s.delayNow l ≤ s.delayTarget l) :
    s.nextDelay l = min (s.delayTarget l) (s.delayNow l + 2 ^ s.rd l LTX_DELAY_SLEW) := by
  have steps := Nat.two_pow_pos (s.rd l LTX_DELAY_SLEW)
  simp only [State.nextDelay, slew, Bool.false_eq_true, if_false]
  split <;> omega

theorem State.nextDelay_of_above (slew : s.flag l LTX_DELAY_MODE = false) (above : s.delayTarget l ≤ s.delayNow l) :
    s.nextDelay l = max (s.delayTarget l) (s.delayNow l - 2 ^ s.rd l LTX_DELAY_SLEW) := by
  simp only [State.nextDelay, slew, Bool.false_eq_true, if_false, Nat.not_lt.mpr above]

theorem State.nextDelay_lt (target : s.delayTarget l < 262144) (now : s.delayNow l < 262144) :
    s.nextDelay l < 262144 := by
  have steps := Nat.two_pow_pos (s.rd l LTX_DELAY_SLEW)
  unfold State.nextDelay
  split
  · exact target
  · split <;> omega

theorem State.stepDelay_eq (s : State) (l : Die) : s.stepDelay l =
    ((s.wr l LTX_DELAY_NOW_INT (s.nextDelay l / 64)).wr l LTX_DELAY_NOW_FRAC (s.nextDelay l)).wrB l LTX_DELAY_BUSY
      (s.nextDelay l != s.delayTarget l) := rfl

/-- The fields of the target are not those that a frame writes. -/
theorem State.delayTarget_stepDelay (h : s.regs.wf = true) : (s.stepDelay l).delayTarget l = s.delayTarget l := by
  have kept (f : Fld) (int : f.place ≠ LTX_DELAY_NOW_INT.place) (frac : f.place ≠ LTX_DELAY_NOW_FRAC.place)
      (busy : f.place ≠ LTX_DELAY_BUSY.place) : (s.stepDelay l).rd l f = s.rd l f := by
    rw [State.stepDelay_eq, State.wrB, State.rd_wr_of_place_ne _ _ busy, State.rd_wr_of_place_ne _ _ frac,
      State.rd_wr_of_place_ne h _ int]
    · exact s.wr_wf h _ _ _
    · exact State.wr_wf _ (s.wr_wf h _ _ _) _ _ _
  unfold State.delayTarget
  rw [kept, kept] <;> decide

theorem State.delayNow_stepDelay (h : s.regs.wf = true) (fits : s.nextDelay l < 262144) :
    (s.stepDelay l).delayNow l = s.nextDelay l := by
  have int := s.wr_wf h l LTX_DELAY_NOW_INT (s.nextDelay l / 64)
  have frac := State.wr_wf _ int l LTX_DELAY_NOW_FRAC (s.nextDelay l)
  simp only [State.stepDelay_eq, State.delayNow, State.wrB]
  rw [State.rd_wr_of_place_ne frac _ (by decide), State.rd_wr_of_place_ne frac _ (by decide),
    State.rd_wr_of_place_ne int _ (by decide), State.rd_wr _ h, State.rd_wr _ int]
  change s.nextDelay l / 64 % 4096 * 64 + s.nextDelay l % 64 = s.nextDelay l
  omega

theorem State.busy_stepDelay (h : s.regs.wf = true) :
    (s.stepDelay l).flag l LTX_DELAY_BUSY = (s.nextDelay l != s.delayTarget l) :=
  State.flag_wrB (State.wr_wf _ (s.wr_wf h _ _ _) _ _ _) (by decide) _

end

/-- Settles O37: a frame takes the delay to `State.nextDelay`, which fits its two fields. -/
theorem launchDelaySteps : Obligations.LaunchDelaySteps := by
  intro s l h target now
  rw [State.delayTarget_stepDelay h, State.delayNow_stepDelay h (State.nextDelay_lt target now), State.busy_stepDelay h,
    bne_iff_ne]
  exact ⟨rfl, State.nextDelay_of_jump, State.nextDelay_of_below, State.nextDelay_of_above, Iff.rfl⟩

section

variable {s t : State} {r : Req} {x : Session} {l : Die} {w : Word}

/-! ### The commands and timers of the transmitter (R116 to R118, R129, R133, R136, R138, R142) -/

theorem State.loadFir_of_inactive {bank : Nat} {c : List Int} (free : t.adaptBusy l = false)
    (inactive : t.rd l LTX_CTRL_FIR_ACTIVE ≠ bank) :
    t.loadFir l bank c = .ok ((t.setFirBank l bank c).keepTx l fun k => k.setFir bank c) :=
  (if_neg (Bool.eq_false_iff.mp free)).trans (if_neg inactive)

theorem applyTxBankLoad_of_inactive {bank : Nat} {c : List Int} {swap : Bool} (die : toDie? l.val = some l)
    (on : t.txOn [l] = true) (free : t.adaptBusy l = false) (inactive : t.rd l LTX_CTRL_FIR_ACTIVE ≠ bank) :
    applyTxBankLoad l.val bank c swap r x t =
      (Res.ok ((t.setFirBank l bank c).keepTx l fun k => k.setFir bank c)).andThen t fun u =>
        if swap then u.requestFirSwap l else .ok u := by
  simp only [applyTxBankLoad, die, on, State.loadFir_of_inactive free inactive, Bool.not_true, Bool.false_eq_true, if_false]

theorem applyTxPdLoad_of_inactive {bank : Nat} {c : List Int} {swap : Bool} (die : toDie? l.val = some l)
    (on : t.txOn [l] = true) (inactive : t.rd l LTX_CTRL_PD_ACTIVE ≠ bank) :
    applyTxPdLoad l.val bank c swap r x t =
      (Res.ok ((t.setPdTable l bank c).keepTx l fun k => k.setPd bank c)).andThen t fun u =>
        if swap then u.requestPdSwap l else .ok u := by
  simp only [applyTxPdLoad, die, on, inactive, Bool.not_true, Bool.false_eq_true, if_false]

theorem applyLineTxSet_of_on {lanes : BitVec 8} {force swing shape en : Option Nat} {delay : Option Word}
    (on : t.txOn (maskDies lanes) = true) :
    applyLineTxSet lanes force swing shape delay en r x t =
      .ok (t.each (maskDies lanes) fun u l =>
        let u := match force with
          | some v => u.setForce l v
          | none => u
        let u := (u.wrOpt l LTX_DAC_CTRL_SWING swing).wrOpt l LTX_DAC_CTRL_SHAPE shape
        let u := u.wrOpt l LTX_ADAPT_CTRL_EN en
        match delay with
        | some w => u.setDelay l w
        | none => u) :=
  if_neg (by simp [on])

theorem applyTxAdaptSet_of_on (die : toDie? l.val = some l) (on : t.txOn [l] = true) :
    applyTxAdaptSet l.val w r x t = .ok (t.setTxAdapt l w) := by
  simp only [applyTxAdaptSet, die, on, Bool.not_true, Bool.false_eq_true, if_false]

theorem applyTxMaskSet_of_on {lims : List Nat} {action : Nat} (die : toDie? l.val = some l) (on : t.txOn [l] = true) :
    applyTxMaskSet l.val lims action r x t = .ok ((t.each (List.range 8) fun u b =>
      u.wr l (LTX_MASK_LIM b) (lims.getD b 0)).wr l LTX_MASK_CTRL_ACTION action) := by
  simp only [applyTxMaskSet, die, on, Bool.not_true, Bool.false_eq_true, if_false]

theorem execAdaptHoldEnd_of_ended (populated : s.pop l = true) (ended : (s.tx l).holdLeft = 0) :
    execAdaptHoldEnd l s = .next (s.wr l LTX_ADAPT_STAT_HOLD 0) :=
  congrArg Host.Outcome.next (if_pos (by simp [populated, ended]))

theorem execNoFeedbackTimeout_of_due (populated : s.pop l = true) (due : 1024 ≤ (s.tx l).sinceFb) :
    execNoFeedbackTimeout l s = .next (s.wr l LTX_ADAPT_STAT_NO_FEEDBACK 1) :=
  congrArg Host.Outcome.next (if_pos (by simp [populated, due]))

end

/-- Settles O35: a request that runs is its body on the state it runs in, and a timer that is due has its effect. -/
theorem transmitterRuns : Obligations.TransmitterRuns := by
  refine ⟨?bankLoad, ?pdLoad, ?firSwap, ?pdSwap, ?delayWrite, ?lineTxSet, ?adaptSet, ?maskSet, ?holdEnd, ?noFeedback⟩
  case bankLoad =>
    intro s t r x l bank c swap runs die on free inactive
    exact ⟨_, rfl, congrArg Host.Outcome.next (runs.run_eq (applyTxBankLoad_of_inactive die on free inactive) _)⟩
  case pdLoad =>
    intro s t r x l bank c swap runs die on inactive
    exact ⟨_, rfl, congrArg Host.Outcome.next (runs.run_eq (applyTxPdLoad_of_inactive die on inactive) _)⟩
  case firSwap =>
    intro s t r x l runs on
    exact congrArg Host.Outcome.next (runs.run_eq (body := fun _ _ u => regGuard l 0x07 true u (u.requestFirSwap l))
      (regGuard_of_on on _) _)
  case pdSwap =>
    intro s t r x l runs on
    exact congrArg Host.Outcome.next (runs.run_eq (body := fun _ _ u => regGuard l 0x07 true u (u.requestPdSwap l))
      (regGuard_of_on on _) _)
  case delayWrite =>
    intro s t r x l w runs on
    exact congrArg Host.Outcome.next (runs.run_eq (body := fun _ _ u => regGuard l 0x07 true u (.ok (u.setDelay l w)))
      (regGuard_of_on on _) _)
  case lineTxSet =>
    intro s t r x lanes force swing shape delay en runs on
    exact congrArg Host.Outcome.next (runs.run_eq (applyLineTxSet_of_on on) _)
  case adaptSet =>
    intro s t r x l w runs die on
    exact congrArg Host.Outcome.next (runs.run_eq (applyTxAdaptSet_of_on die on) _)
  case maskSet =>
    intro s t r x l lims action runs die on
    exact congrArg Host.Outcome.next (runs.run_eq (applyTxMaskSet_of_on die on) _)
  case holdEnd => exact fun s l => execAdaptHoldEnd_of_ended
  case noFeedback => exact fun s l => execNoFeedbackTimeout_of_due

section

variable {s s0 t : State} {d l : Die}

/-! ### What leaves a lane's mask results (R131 to R133) -/

/-- The fields in which a measurement shows what it found. -/
def maskShows : List Fld := LTX_MASK_CTRL_VIOL_BANDS :: (List.range 8).map LTX_MASK_REL

/-- What a mask measurement of lane `l` left stands in a state as it does in an earlier one. -/
structure MaskKept (l : Die) (s0 s : State) : Prop where
  regs : s.regs.wf = true
  ctr : s.tel.ctr.wf = true
  shows : ∀ f ∈ LTX_STAT_MASK_VIOL :: maskShows, s.rd l f = s0.rd l f
  run : (s.tx l).violRun = (s0.tx l).violRun
  count : s.tel.ctr.get (ctrIndex l 38) = s0.tel.ctr.get (ctrIndex l 38)

namespace MaskKept

theorem refl (regs : s.regs.wf = true) (ctr : s.tel.ctr.wf = true) : MaskKept l s s :=
  ⟨regs, ctr, fun _ _ => rfl, rfl, rfl⟩

/-- What is no register, counter or die does not matter. -/
theorem congr (h : MaskKept l s0 s) (regs : t.regs = s.regs) (tel : t.tel = s.tel) (dies : t.dies = s.dies) :
    MaskKept l s0 t := by
  have rd (f : Fld) : t.rd l f = s.rd l f := by simp only [State.rd, regs]
  have tx : t.tx l = s.tx l := by simp only [State.tx, State.die, dies]
  exact ⟨regs ▸ h.regs, tel ▸ h.ctr, fun f mem => (rd f).trans (h.shows f mem), tx ▸ h.run, tel ▸ h.count⟩

theorem wr {g : Fld} {v : Nat} (h : MaskKept l s0 s)
    (differ : ∀ f ∈ LTX_STAT_MASK_VIOL :: maskShows, f.place ≠ g.place) : MaskKept l s0 (s.wr d g v) :=
  ⟨s.wr_wf h.regs _ _ _, h.ctr, fun f mem => (State.rd_wr_of_place_ne h.regs v (differ f mem)).trans (h.shows f mem),
    h.run, h.count⟩

theorem updDie {g : DieSt → DieSt} (h : MaskKept l s0 s) (run : ∀ x, (g x).tx.violRun = x.tx.violRun) :
    MaskKept l s0 (s.updDie d g) := by
  refine ⟨h.regs, h.ctr, h.shows, Eq.trans ?_ h.run, h.count⟩
  by_cases same : d = l
  · subst same
    rw [State.tx, State.die_updDie, run]
    rfl
  · rw [State.tx, State.die_updDie_ne _ _ same]
    rfl

theorem updTx {g : TxLane → TxLane} (h : MaskKept l s0 s) (run : ∀ x, (g x).violRun = x.violRun) :
    MaskKept l s0 (s.updTx d g) :=
  h.updDie fun x => run x.tx

theorem addCtr {k n : Nat} (h : MaskKept l s0 s) (other : ctrIndex l 38 ≠ k) : MaskKept l s0 (s.addCtr k n) :=
  ⟨h.regs, NMap.set_wf _ _ h.ctr, h.shows, h.run, (s.ctr_addCtr h.ctr _ _ _).trans ((if_neg other).trans h.count)⟩

/-- Counters from 1,536 on are the package's. -/
theorem addCtr_package {k n : Nat} (h : MaskKept l s0 s) (package : 1536 ≤ k) : MaskKept l s0 (s.addCtr k n) :=
  h.addCtr (by have := l.isLt; unfold ctrIndex; omega)

theorem cnt {i : Nat} (h : MaskKept l s0 s) (small : i < 192) (other : i ≠ 38) : MaskKept l s0 (s.cnt d i) := by
  unfold State.cnt State.cntN
  split
  · exact h.addCtr (by unfold ctrIndex; omega)
  · exact h

theorem emit {o : Output} (h : MaskKept l s0 s) : MaskKept l s0 (s.emit o) := h.congr rfl rfl rfl

/-! Packets that leave the part -/

theorem sendEth {p : MPort} {dst : BitVec 48} {vlan : Option (BitVec 16)} {b : Bytes} (h : MaskKept l s0 s) :
    MaskKept l s0 (s.sendEth p dst vlan b) := by
  unfold State.sendEth
  split
  · exact emit (congr (wr (h.cnt (by decide) (by decide)) (by decide)) rfl rfl rfl)
  · exact h

theorem inbPush {m : Bytes} (h : MaskKept l s0 s) : MaskKept l s0 (s.inbPush d m) := by
  unfold State.inbPush State.updInb
  exact h.updDie fun _ => rfl

theorem jeuriDropped (h : MaskKept l s0 s) : MaskKept l s0 (s.jeuriDropped d) := h.cnt (by decide) (by decide)

theorem sendLane {m : Bytes} (h : MaskKept l s0 s) : MaskKept l s0 (s.sendLane d m) := by
  unfold State.sendLane State.sendLink
  split
  · split
    · exact h.inbPush
    · exact h.jeuriDropped
  · split
    · exact h.inbPush
    · exact h.jeuriDropped

theorem sendVia {node hops : Nat} {hop : Hop} {vlan : Option (BitVec 16)} {b : Bytes} (h : MaskKept l s0 s) :
    MaskKept l s0 (s.sendVia node hop hops vlan b) := by
  unfold State.sendVia State.sendPort
  cases hop with
  | portA | portB => dsimp only; split <;> exact h.sendEth
  | link => exact h.sendLane
  | loc => exact h

theorem sendBy {m : Medium} {mac : BitVec 48} {vlan : Option (BitVec 16)} {b : Bytes} (h : MaskKept l s0 s) :
    MaskKept l s0 (s.sendBy m mac vlan b) := by
  cases m with
  | inband => exact h.sendLane
  | portA | portB => exact h.sendEth

theorem sendOwn {dest : BitVec 16} {m : Medium} {mac : BitVec 48} {vlan : Option (BitVec 16)} {b : Bytes}
    (h : MaskKept l s0 s) : MaskKept l s0 (s.sendOwn dest m mac vlan b) := by
  unfold State.sendOwn
  split
  · split
    · exact h.sendBy
    · exact h.sendVia
  · exact h.sendBy

/-! Events on their way to the subscribers -/

theorem takeNonce {ch : BitVec 8} (h : MaskKept l s0 s) : MaskKept l s0 (s.takeNonce ch).2 := by
  unfold State.takeNonce
  split
  · split
    · exact h.congr rfl rfl rfl
    · exact h
  · exact h

theorem sendEvent {x : Session} {seq : BitVec 16} {recs : List EvRec} {n : Nat} (h : MaskKept l s0 s) :
    MaskKept l s0 (s.sendEvent x seq recs n) :=
  sendOwn (emit h.takeNonce)

theorem updSub {ch : BitVec 8} {g : Subscriber → Subscriber} (h : MaskKept l s0 s) : MaskKept l s0 (s.updSub ch g) :=
  h.congr rfl rfl rfl

theorem sendEvents {u : Subscriber} {x : Session} (h : MaskKept l s0 s) : MaskKept l s0 (s.sendEvents u x) := by
  unfold State.sendEvents
  split
  · exact h
  · exact h.sendEvent.updSub

theorem flushSub {n : Nat} {ch : BitVec 8} (h : MaskKept l s0 s) : MaskKept l s0 (State.flushSub n s ch) := by
  induction n generalizing s with
  | zero => exact h
  | succ n ih =>
    unfold State.flushSub
    split
    · split
      · exact h
      · exact ih h.sendEvents
    · exact h

theorem flushAll (h : MaskKept l s0 s) : MaskKept l s0 s.flushAll :=
  State.each_keeps (Q := MaskKept l s0) (fun _ _ _ => flushSub) h

theorem offerTo {e : EvRec} {ch : BitVec 8} (h : MaskKept l s0 s) : MaskKept l s0 (s.offerTo e ch) := by
  unfold State.offerTo
  split
  · exact h
  · exact addCtr_package h.updSub (Nat.le_add_right _ _)

theorem deliver {e : EvRec} (h : MaskKept l s0 s) : MaskKept l s0 (s.deliver e) := by
  have toAll {u : State} (kept : MaskKept l s0 u) :
      MaskKept l s0 ((u.sl.subs.map fun x => x.channel).foldl (fun v ch => v.offerTo e ch) u).flushAll :=
    flushAll (State.each_keeps (Q := MaskKept l s0) (fun _ _ _ => offerTo) kept)
  unfold State.deliver
  split
  · have alarmed := wr (d := 1) (v := 0) (wr (d := 0) (g := MGMT_STAT_LPI_TX) (v := 0)
      (h.congr (t := { s with sl := { s.sl with alarms := s.sl.alarms ++ [(e.source, e.timeNs)] } }) rfl rfl rfl)
      (by decide)) (g := MGMT_STAT_LPI_TX) (by decide)
    dsimp only
    split
    · exact alarmed.congr rfl rfl rfl
    · exact toAll alarmed
  · dsimp only
    split
    · exact h
    · exact toAll h

theorem raise {i : Nat} {arg : Bytes} (h : MaskKept l s0 s) : MaskKept l s0 (s.raise d i arg) := by
  unfold State.raise State.raiseAt State.logEvent
  split
  · exact deliver (wr (updDie (addCtr_package h (by omega)) fun _ => rfl) (by decide))
  · exact h

/-! The actions of a violation -/

theorem revertFir (h : MaskKept l s0 s) : MaskKept l s0 (s.revertFir d) := by
  unfold State.revertFir
  split
  · exact cnt (wr (h.updTx fun _ => rfl) (by decide)) (by decide) (by decide)
  · exact h
  · exact h.updTx fun _ => rfl

theorem holdAdapt (h : MaskKept l s0 s) : MaskKept l s0 (s.holdAdapt d) := wr (h.updTx fun _ => rfl) (by decide)

theorem maskMute (h : MaskKept l s0 s) : MaskKept l s0 (s.maskMute d) := raise (h.updTx fun _ => rfl)

end MaskKept

end

section

variable {s t : State} {d l : Die} {bands : BitVec 8} {rel powers : List Nat}

/-! ### The results of a measurement (R132) -/

theorem getLsbD_foldl_mask (d : Die) (ds : List Die) (m : BitVec 8) :
    (ds.foldl (fun m d => m ||| (1#8 <<< d.val)) m).getLsbD d.val = (m.getLsbD d.val || decide (d ∈ ds)) := by
  have single : ∀ d e : Die, (1#8 <<< e.val).getLsbD d.val = decide (d = e) := by decide
  induction ds generalizing m with
  | nil => simp only [List.foldl_nil, List.not_mem_nil, decide_false, Bool.or_false]
  | cons e ds ih =>
    simp only [List.foldl_cons, ih, BitVec.getLsbD_or, single, Bool.or_assoc, List.mem_cons, Bool.decide_or]

theorem getLsbD_diesMask (d : Die) (ds : List Die) : (diesMask ds).getLsbD d.val = true ↔ d ∈ ds := by
  simp only [diesMask, getLsbD_foldl_mask, BitVec.getLsbD_zero, Bool.false_or, decide_eq_true_eq]

/-- A band is in violation when it has a limit and its result is below it. -/
theorem State.getLsbD_violBands (b : Die) : (s.violBands l rel).getLsbD b.val = true ↔
    s.rd l (LTX_MASK_LIM b.val) ≠ 0 ∧ rel.getD b.val 0 < s.rd l (LTX_MASK_LIM b.val) := by
  simp only [State.violBands, getLsbD_diesMask, List.mem_filter, mem_allDies, true_and, Bool.and_eq_true, bne_iff_ne,
    decide_eq_true_eq]

theorem State.violBands_eq_zero_iff : s.violBands l rel = 0#8 ↔
    ∀ b : Die, ¬(s.rd l (LTX_MASK_LIM b.val) ≠ 0 ∧ rel.getD b.val 0 < s.rd l (LTX_MASK_LIM b.val)) := by
  simp only [← State.getLsbD_violBands]
  constructor
  · intro none b
    simp [none]
  · intro clean
    refine BitVec.eq_of_getLsbD_eq fun i hi => ?_
    simpa using clean ⟨i, hi⟩

theorem relOf_lt (p t : Nat) : relOf p t < 256 :=
  Nat.lt_succ_of_le (List.countP_le_length.trans_eq List.length_range)

/-- Fresh values taken one after the other change the state by nothing but how many were taken. -/
theorem foldl_fresh (as : List Nat) (a : List Nat × State) (small : ∀ v ∈ a.1, v < 256) :
    ∃ r n, as.foldl (fun a _ => (a.1 ++ [a.2.fresh.1 % 256], a.2.fresh.2)) a = (r, { a.2 with free := n }) ∧
      ∀ v ∈ r, v < 256 := by
  induction as generalizing a with
  | nil => exact ⟨_, _, rfl, small⟩
  | cons x as ih =>
    obtain ⟨r, n, folded, fits⟩ := ih (a.1 ++ [a.2.fresh.1 % 256], a.2.fresh.2)
      (List.forall_mem_append.mpr ⟨small, List.forall_mem_singleton.mpr (Nat.mod_lt _ (by decide))⟩)
    exact ⟨r, n, folded, fits⟩

/-- The results fit their fields, and the state changes by nothing but the free values taken. -/
theorem State.maskRels_eq (s : State) (powers : List Nat) :
    ∃ rel n, s.maskRels powers = (rel, { s with free := n }) ∧ ∀ v ∈ rel, v < 256 := by
  unfold State.maskRels
  dsimp only
  split
  · exact foldl_fresh _ ([], s) nofun
  · refine ⟨_, s.free, rfl, ?_⟩
    simp only [List.forall_mem_map]
    exact fun _ _ => relOf_lt _ _

theorem State.maskRels_of_power {ps : List Nat} (eight : ps = (List.range 8).map fun b => powers.getD b 0)
    (power : ps.sum ≠ 0) : s.maskRels powers = (ps.map fun p => relOf p ps.sum, s) := by
  subst eight
  exact if_neg power

/-! ### The results shown -/

/-- A measurement shows each band's result and the bands in violation. -/
def State.showMask (s : State) (l : Die) (rel : List Nat) : State :=
  (s.each (List.range 8) fun s b => s.wr l (LTX_MASK_REL b) (rel.getD b 0)).wr l LTX_MASK_CTRL_VIOL_BANDS
    (s.violBands l rel).toNat

theorem execMaskMeasurement_of_early (early : (s.tx l).maskFrames < 64) : execMaskMeasurement l powers s = .next s :=
  if_pos (by simp [early])

/-- A measurement takes up the frames sent since the last, and free values where it has no other results. -/
def State.startMask (s : State) (l : Die) (n : Nat) : State :=
  { s.updTx l fun x => { x with maskFrames := 0 } with free := n }

theorem State.violRun_startMask (s : State) (l : Die) (n : Nat) : ((s.startMask l n).tx l).violRun = (s.tx l).violRun := by
  have same : (s.startMask l n).tx l = _ := s.tx_updTx l fun x => { x with maskFrames := 0 }
  rw [same]

theorem execMaskMeasurement_of_due (populated : s.pop l = true) (on : s.domainOn l .tx = true)
    (due : 64 ≤ (s.tx l).maskFrames)
    (measured : (s.updTx l fun x => { x with maskFrames := 0 }).maskRels powers = (rel, t)) :
    execMaskMeasurement l powers s = .next ((t.showMask l rel).maskFollow l (t.violBands l rel)) := by
  refine (if_neg (by simp [populated, on, due])).trans ?_
  rw [measured]
  rfl

/-- A state differs from an earlier one in fields of a list only. -/
structure State.OnlyWrites (fs : List Fld) (s t : State) : Prop where
  regs : t.regs.wf = true
  rest : t = { s with regs := t.regs }
  others : ∀ d, ∀ f : Fld, (∀ g ∈ fs, f.place ≠ g.place) → t.rd d f = s.rd d f

theorem State.OnlyWrites.refl (h : s.regs.wf = true) (fs : List Fld) : State.OnlyWrites fs s s := ⟨h, rfl, fun _ _ _ => rfl⟩

theorem State.OnlyWrites.wr {fs : List Fld} {g : Fld} {v : Nat} (h : State.OnlyWrites fs s t) (mem : g ∈ fs) :
    State.OnlyWrites fs s (t.wr d g v) :=
  ⟨t.wr_wf h.regs _ _ _, congrArg (fun u : State => { u with regs := (t.wr d g v).regs }) h.rest, fun e f differ =>
    (State.rd_wr_of_place_ne h.regs v (differ g mem)).trans (h.others e f differ)⟩

theorem State.OnlyWrites.tel {fs : List Fld} (h : State.OnlyWrites fs s t) : t.tel = s.tel := by
  rw [h.rest]

theorem State.OnlyWrites.ctr {fs : List Fld} (h : State.OnlyWrites fs s t) (wf : s.tel.ctr.wf = true) :
    t.tel.ctr.wf = true := by
  rw [h.tel]
  exact wf

theorem State.OnlyWrites.violRun {fs : List Fld} (h : State.OnlyWrites fs s t) : (t.tx d).violRun = (s.tx d).violRun := by
  rw [h.rest]
  rfl

theorem State.OnlyWrites.pop {fs : List Fld} (h : State.OnlyWrites fs s t) : t.pop d = s.pop d := by
  rw [h.rest]
  rfl

theorem State.each_rel_onlyWrites (h : s.regs.wf = true) : State.OnlyWrites maskShows s
    (s.each (List.range 8) fun s b => s.wr l (LTX_MASK_REL b) (rel.getD b 0)) :=
  State.each_keeps (Q := State.OnlyWrites maskShows s)
    (fun _ _ mem kept => kept.wr (List.mem_cons_of_mem _ (List.mem_map_of_mem mem))) (.refl h _)

theorem State.showMask_onlyWrites (h : s.regs.wf = true) : State.OnlyWrites maskShows s (s.showMask l rel) :=
  (State.each_rel_onlyWrites h).wr List.mem_cons_self

theorem maskRel_place_ne : ∀ a ∈ List.range 8, ∀ b ∈ List.range 8, b ≠ a →
    (LTX_MASK_REL b).place ≠ (LTX_MASK_REL a).place := by decide

theorem State.rd_showMask_rel (h : s.regs.wf = true) (fits : ∀ v ∈ rel, v < 256) {b : Nat} (hb : b < 8) :
    (s.showMask l rel).rd l (LTX_MASK_REL b) = rel.getD b 0 := by
  have mem : b ∈ List.range 8 := List.mem_range.mpr hb
  have apart : ∀ b ∈ List.range 8, (LTX_MASK_REL b).place ≠ LTX_MASK_CTRL_VIOL_BANDS.place := by decide
  have small : rel.getD b 0 % 2 ^ 8 = rel.getD b 0 := by
    refine Nat.mod_eq_of_lt ?_
    rw [List.getD_eq_getElem?_getD]
    rcases held : rel[b]? with _ | v
    · decide
    · exact fits v (List.mem_of_getElem? held)
  refine (State.rd_wr_of_place_ne (State.each_rel_onlyWrites h).regs _ (apart b mem)).trans ?_
  refine (State.each_sets (P := fun u => u.regs.wf = true)
    (Q := fun u => u.regs.wf = true ∧ u.rd l (LTX_MASK_REL b) = rel.getD b 0) mem ?keepsWf ?keepsShown ?shows h).2
  case keepsWf => exact fun u _ _ wf => u.wr_wf wf _ _ _
  case keepsShown =>
    rintro u a memA ⟨wf, shown⟩
    by_cases same : b = a
    · subst same
      exact ⟨u.wr_wf wf _ _ _, (u.rd_wr wf _ _ _).trans small⟩
    · exact ⟨u.wr_wf wf _ _ _, (State.rd_wr_of_place_ne wf _ (maskRel_place_ne a memA b mem same)).trans shown⟩
  case shows => exact fun u wf => ⟨u.wr_wf wf _ _ _, (u.rd_wr wf _ _ _).trans small⟩

theorem State.rd_showMask_bands (h : s.regs.wf = true) :
    (s.showMask l rel).rd l LTX_MASK_CTRL_VIOL_BANDS = (s.violBands l rel).toNat :=
  (State.rd_wr _ (State.each_rel_onlyWrites h).regs _ _ _).trans (Nat.mod_eq_of_lt (s.violBands l rel).isLt)

/-! ### What follows a measurement (R133) -/

theorem State.holdTx_leaves {on : Bool} {st : TxState} :
    (s.holdTx d on st).tel = s.tel ∧ (s.holdTx d on st).regs = s.regs := by
  unfold State.holdTx
  split <;> exact ⟨rfl, rfl⟩

/-- A clean measurement ends the run of violations. -/
theorem State.maskFollow_clean (s : State) (l : Die) : ((s.maskFollow l 0#8).tx l).violRun = 0 ∧
    (s.maskFollow l 0#8).tel = s.tel ∧ (s.maskFollow l 0#8).regs = s.regs := by
  have follows : s.maskFollow l 0#8 = _ := if_pos rfl
  rw [follows, State.tx_updTx]
  exact ⟨rfl, State.holdTx_leaves⟩

/-- The state with one more violation in a row. -/
def State.countViol (s : State) (l : Die) : State :=
  s.updTx l fun x => { x with violRun := (s.tx l).violRun + 1, cleanRun := 0 }

/-- The state with one more violation in a row, which starts an episode. -/
def State.startEpisode (s : State) (l : Die) : State :=
  ((s.countViol l).wr l LTX_STAT_MASK_VIOL 1).addCtr (ctrIndex l 38) 1

theorem State.maskFollow_viol (viol : bands ≠ 0#8) : s.maskFollow l bands =
    if (s.tx l).violRun + 1 = 2 then (s.countViol l).maskEpisode l bands
    else if (s.tx l).violRun + 1 = 4 && ((s.countViol l).tx l).maskReverted then (s.countViol l).maskMute l
    else s.countViol l :=
  if_neg viol

theorem State.countViol_kept (regs : s.regs.wf = true) (ctr : s.tel.ctr.wf = true) :
    MaskKept l (s.countViol l) (s.countViol l) := .refl regs ctr

theorem State.violRun_countViol : ((s.countViol l).tx l).violRun = (s.tx l).violRun + 1 := by
  simp only [State.countViol, State.tx_updTx]

/-- What an episode does leaves the results, the count of violations and counter 38 as its start has set them. -/
theorem State.maskEpisode_kept (populated : s.pop l = true) (regs : s.regs.wf = true) (ctr : s.tel.ctr.wf = true) :
    MaskKept l (s.startEpisode l) ((s.countViol l).maskEpisode l bands) := by
  have counted : ((s.countViol l).wr l LTX_STAT_MASK_VIOL 1).cnt l 38 = s.startEpisode l := if_pos populated
  have start : MaskKept l (s.startEpisode l) (s.startEpisode l) := .refl (State.wr_wf _ regs _ _ _) (NMap.set_wf _ _ ctr)
  unfold State.maskEpisode
  rw [counted]
  dsimp only
  split
  · exact MaskKept.updTx start.raise.revertFir.holdAdapt fun _ => rfl
  · exact start.raise.maskMute
  · exact start.raise

theorem State.maskFollow_kept_of_second (viol : bands ≠ 0#8) (second : (s.tx l).violRun = 1) (populated : s.pop l = true)
    (regs : s.regs.wf = true) (ctr : s.tel.ctr.wf = true) : MaskKept l (s.startEpisode l) (s.maskFollow l bands) := by
  rw [State.maskFollow_viol viol, second, if_pos rfl]
  exact State.maskEpisode_kept populated regs ctr

theorem State.maskFollow_kept_of_other (viol : bands ≠ 0#8) (other : (s.tx l).violRun ≠ 1) (regs : s.regs.wf = true)
    (ctr : s.tel.ctr.wf = true) : MaskKept l (s.countViol l) (s.maskFollow l bands) := by
  rw [State.maskFollow_viol viol, if_neg (by omega)]
  split
  · exact (State.countViol_kept regs ctr).maskMute
  · exact State.countViol_kept regs ctr

theorem State.maskFollow_of_first (viol : bands ≠ 0#8) (first : (s.tx l).violRun = 0) :
    s.maskFollow l bands = s.countViol l := by
  rw [State.maskFollow_viol viol, first]
  rfl

theorem maskShows_place_ne : ∀ f ∈ maskShows, f.place ≠ LTX_STAT_MASK_VIOL.place := by decide

theorem State.rd_startEpisode (regs : s.regs.wf = true) {f : Fld} (shows : f ∈ maskShows) :
    (s.startEpisode l).rd l f = s.rd l f :=
  State.rd_wr_of_place_ne regs 1 (maskShows_place_ne f shows)

/-- What a measurement leads to leaves its results. -/
theorem State.rd_maskFollow (populated : s.pop l = true) (regs : s.regs.wf = true) (ctr : s.tel.ctr.wf = true) {f : Fld}
    (shows : f ∈ maskShows) : (s.maskFollow l bands).rd l f = s.rd l f := by
  by_cases clean : bands = 0#8
  · obtain ⟨_, _, same⟩ := s.maskFollow_clean l
    rw [clean, State.rd, same]
    rfl
  · by_cases second : (s.tx l).violRun = 1
    · have kept := State.maskFollow_kept_of_second clean second populated regs ctr
      exact (kept.shows f (List.mem_cons_of_mem _ shows)).trans (State.rd_startEpisode regs shows)
    · exact (State.maskFollow_kept_of_other clean second regs ctr).shows f (List.mem_cons_of_mem _ shows)

theorem State.violRun_maskFollow (viol : bands ≠ 0#8) (populated : s.pop l = true) (regs : s.regs.wf = true)
    (ctr : s.tel.ctr.wf = true) : ((s.maskFollow l bands).tx l).violRun = (s.tx l).violRun + 1 := by
  by_cases second : (s.tx l).violRun = 1
  · exact (State.maskFollow_kept_of_second viol second populated regs ctr).run.trans State.violRun_countViol
  · exact (State.maskFollow_kept_of_other viol second regs ctr).run.trans State.violRun_countViol

/-- The second violation in a row starts an episode. -/
theorem State.maskFollow_second (viol : bands ≠ 0#8) (second : (s.tx l).violRun = 1) (populated : s.pop l = true)
    (regs : s.regs.wf = true) (ctr : s.tel.ctr.wf = true) : (s.maskFollow l bands).flag l LTX_STAT_MASK_VIOL = true ∧
      (s.maskFollow l bands).tel.ctr.get (ctrIndex l 38) = (s.tel.ctr.get (ctrIndex l 38) + 1) % 2 ^ 48 := by
  have kept := State.maskFollow_kept_of_second viol second populated regs ctr
  constructor
  · rw [State.flag, kept.shows _ List.mem_cons_self]
    exact bne_iff_ne.mpr ((State.rd_wr _ regs l LTX_STAT_MASK_VIOL 1).trans_ne one_ne_zero)
  · exact kept.count.trans ((State.ctr_addCtr _ ctr _ _ _).trans (if_pos rfl))

/-! ### A measurement as a whole -/

/-- The state that a measurement of a lane leaves when its results are `rel`. -/
def State.measured (s : State) (l : Die) (rel : List Nat) : State :=
  (s.showMask l rel).maskFollow l (s.violBands l rel)

section

variable (regs : s.regs.wf = true) (ctr : s.tel.ctr.wf = true) (populated : s.pop l = true)
include regs ctr populated

theorem State.rd_measured {f : Fld} (shows : f ∈ maskShows) :
    (s.measured l rel).rd l f = (s.showMask l rel).rd l f := by
  have shown := State.showMask_onlyWrites (l := l) (rel := rel) regs
  exact State.rd_maskFollow (shown.pop.trans populated) shown.regs (shown.ctr ctr) shows

theorem State.rd_measured_rel (fits : ∀ v ∈ rel, v < 256) {b : Nat} (hb : b < 8) :
    (s.measured l rel).rd l (LTX_MASK_REL b) = rel.getD b 0 :=
  (State.rd_measured regs ctr populated
    (List.mem_cons_of_mem _ (List.mem_map_of_mem (List.mem_range.mpr hb)))).trans (State.rd_showMask_rel regs fits hb)

theorem State.testBit_measured_bands (b : Die) :
    ((s.measured l rel).rd l LTX_MASK_CTRL_VIOL_BANDS).testBit b.val = true ↔
      s.rd l (LTX_MASK_LIM b.val) ≠ 0 ∧ rel.getD b.val 0 < s.rd l (LTX_MASK_LIM b.val) := by
  rw [State.rd_measured regs ctr populated List.mem_cons_self, State.rd_showMask_bands regs, BitVec.testBit_toNat]
  exact State.getLsbD_violBands b

omit ctr populated in
theorem State.measured_clean (clean : s.violBands l rel = 0#8) :
    ((s.measured l rel).tx l).violRun = 0 ∧ (s.measured l rel).tel = s.tel := by
  obtain ⟨ended, tel, _⟩ := (s.showMask l rel).maskFollow_clean l
  rw [State.measured, clean]
  exact ⟨ended, tel.trans (State.showMask_onlyWrites regs).tel⟩

theorem State.violRun_measured (viol : s.violBands l rel ≠ 0#8) :
    ((s.measured l rel).tx l).violRun = (s.tx l).violRun + 1 := by
  have shown := State.showMask_onlyWrites (l := l) (rel := rel) regs
  rw [State.measured, State.violRun_maskFollow viol (shown.pop.trans populated) shown.regs (shown.ctr ctr), shown.violRun]

theorem State.measured_second (viol : s.violBands l rel ≠ 0#8) (second : (s.tx l).violRun = 1) :
    (s.measured l rel).flag l LTX_STAT_MASK_VIOL = true ∧
      (s.measured l rel).tel.ctr.get (ctrIndex l 38) = (s.tel.ctr.get (ctrIndex l 38) + 1) % 2 ^ 48 := by
  have shown := State.showMask_onlyWrites (l := l) (rel := rel) regs
  rw [← shown.tel]
  exact State.maskFollow_second viol (shown.violRun.trans second) (shown.pop.trans populated) shown.regs (shown.ctr ctr)

omit ctr populated in
theorem State.measured_first (viol : s.violBands l rel ≠ 0#8) (first : (s.tx l).violRun = 0) :
    (s.measured l rel).flag l LTX_STAT_MASK_VIOL = s.flag l LTX_STAT_MASK_VIOL ∧ (s.measured l rel).tel = s.tel := by
  have shown := State.showMask_onlyWrites (l := l) (rel := rel) regs
  rw [State.measured, State.maskFollow_of_first viol (shown.violRun.trans first)]
  exact ⟨congrArg (· != 0) (shown.others l _ fun g mem => (maskShows_place_ne g mem).symm), shown.tel⟩

end

end

/-- Settles O38: the results are written to fields of different places, and what a violation leads to leaves them
(`MaskKept`). -/
theorem maskMeasured : Obligations.MaskMeasured := by
  refine ⟨?measured, fun s l powers early => execMaskMeasurement_of_early early⟩
  intro s l powers regs ctr populated on due
  obtain ⟨rel, n, taken, fits⟩ := (s.updTx l fun x => { x with maskFrames := 0 }).maskRels_eq powers
  have clean_iff : (s.startMask l n).violBands l rel = 0#8 ↔
      ∀ b : Die, ¬(s.rd l (LTX_MASK_LIM b.val) ≠ 0 ∧ rel.getD b.val 0 < s.rd l (LTX_MASK_LIM b.val)) :=
    State.violBands_eq_zero_iff
  have run := s.violRun_startMask l n
  refine ⟨(s.startMask l n).measured l rel, rel, execMaskMeasurement_of_due populated on due taken, ?powers, ?rels, ?bands,
    ?clean, ?violates⟩
  case powers =>
    intro ps eight power
    exact congrArg Prod.fst (taken.symm.trans (State.maskRels_of_power eight power))
  case rels => exact fun b => State.rd_measured_rel (s := s.startMask l n) regs ctr populated fits
  case bands => exact State.testBit_measured_bands (s := s.startMask l n) regs ctr populated
  case clean => exact fun clean => State.measured_clean (s := s.startMask l n) regs (clean_iff.mpr clean)
  case violates =>
    rintro ⟨b, below⟩
    have viol : (s.startMask l n).violBands l rel ≠ 0#8 := fun clean => clean_iff.mp clean b below
    refine ⟨?_, fun second => ?_, fun first => ?_⟩
    · rw [State.violRun_measured (s := s.startMask l n) regs ctr populated viol, run]
    · exact State.measured_second (s := s.startMask l n) regs ctr populated viol (run.trans second)
    · exact State.measured_first (s := s.startMask l n) regs viol (run.trans first)

end Sys2Proof.Machine

/-! The line receiver: its coefficient banks and fades, its acquisition, its path memory and its commands: the proofs of the
statements of spec/05_line_receive.md. -/

namespace Sys2Proof.Machine

section

variable {s t u : State} {l : Die} {b n : Nat}

/-! ### A request whose parts act together -/

theorem Res.andThen_ok_of_ok {k : State → Res} (ok : (k u).status = .ok) : (Res.ok u).andThen t k = k u :=
  (if_pos rfl).trans (if_pos ok)

/-- A part that is refused leaves nothing of the parts before it. -/
theorem Res.andThen_ok_of_refused {k : State → Res} (refused : (k u).status ≠ .ok) :
    (Res.ok u).andThen t k = { k u with state := t } :=
  (if_pos rfl).trans (if_neg refused)

/-! ### The fields of a fade (R195, R196) -/

/-- The fields in which a fade is asked for and shown. -/
def fadeFields : List Fld :=
  [LRX_FADE_CTRL_POLICY, LRX_FADE_CTRL_REQ_BANK, LRX_FADE_CTRL_LEN, LRX_FADE_STAT_QUEUED, LRX_FADE_STAT_Q_BANK,
    LRX_FADE_STAT_FADING, LRX_FADE_STAT_TGT]

/-- A coefficient stands in bits of its word in which no field of a fade stands. -/
theorem coef_place_ne {i : Nat} : ∀ g ∈ fadeFields, (LRX_CB_F b i).place ≠ g.place := by
  have bits : ∀ g ∈ fadeFields, g.place % 32 < 8 := by decide
  intro g mem same
  have low := bits g mem
  rw [← same] at low
  simp only [Fld.place, LRX_CB_F] at low
  omega

/-- A bank's main tap stands in a word in which no field of a fade stands. -/
theorem mainTap_place_ne : ∀ g ∈ fadeFields, (LRX_CB_M b).place ≠ g.place := by
  have words : ∀ g ∈ fadeFields, g.place / 32 % 32 < 8 := by decide
  intro g mem same
  have low := words g mem
  rw [← same] at low
  simp only [Fld.place, LRX_CB_M] at low
  omega

theorem State.setFade_onlyWrites {fade : Option (Nat × Nat)} (h : t.regs.wf = true) :
    State.OnlyWrites fadeFields t (t.setFade l fade) := by
  rcases fade with _ | ⟨len, policy⟩
  · exact .refl h _
  · have lenSet : State.OnlyWrites fadeFields t (if len = 0xFF then t else t.wr l LRX_FADE_CTRL_LEN len) := by
      split
      · exact .refl h _
      · exact (State.OnlyWrites.refl h _).wr (by decide)
    unfold State.setFade
    dsimp only
    split
    · exact lenSet
    · exact lenSet.wr (by decide)

/-- Showing a fade writes nothing but its fields. -/
theorem State.OnlyWrites.showFade (h : State.OnlyWrites fadeFields t u) : State.OnlyWrites fadeFields t (u.showFade l) := by
  unfold State.showFade State.wrB
  refine State.OnlyWrites.wr (State.OnlyWrites.wr ?_ (by decide)) (by decide)
  split
  · split <;> exact (h.wr (by decide)).wr (by decide)
  · exact (h.wr (by decide)).wr (by decide)

/-! ### What a change of those fields leaves -/

section

variable (h : State.OnlyWrites fadeFields t u)
include h

theorem State.OnlyWrites.dies : u.dies = t.dies := by rw [h.rest]

theorem State.OnlyWrites.rx : u.rx l = t.rx l := by
  rw [h.rest]
  rfl

theorem State.OnlyWrites.cb : u.cb l b = t.cb l b :=
  List.map_congr_left fun i _ => by simp only [State.rdInt, h.others l _ coef_place_ne]

theorem State.OnlyWrites.cbActive : u.cbActive l = t.cbActive l := h.others l _ (by decide)

theorem State.OnlyWrites.cbValid : u.cbValid l b = t.cbValid l b := by
  rw [State.cbValid, h.cb, h.others l _ mainTap_place_ne, ← State.cbValid]

theorem State.OnlyWrites.rxState : u.rxState l = t.rxState l := congrArg RxState.ofCode (h.others l _ (by decide))

end

/-! ### A swap request (R164) -/

theorem State.requestSwap_of_invalid (invalid : s.cbValid l b = false) : s.requestSwap l b n = .badParam n s :=
  if_pos (by simp [invalid])

theorem State.requestSwap_of_undelivering (valid : s.cbValid l b = true) (pilotEq : s.rxState l ≠ .pilotEq)
    (locked : s.rxState l ≠ .locked) : s.requestSwap l b n = .fail .busy s :=
  (if_neg (by simp [valid])).trans (if_pos (by simp [State.rxDelivers, pilotEq, locked]))

theorem State.requestSwap_of_active (valid : s.cbValid l b = true)
    (delivers : s.rxState l = .pilotEq ∨ s.rxState l = .locked) (active : b = s.cbActive l) (idle : (s.rx l).fade = none) :
    s.requestSwap l b n = .ok (s.showFade l) := by
  have delivering : s.rxDelivers l = true := by simpa only [State.rxDelivers, Bool.or_eq_true, beq_iff_eq] using delivers
  refine (if_neg (by simp [valid])).trans <| (if_neg (by simp [delivering])).trans ?_
  simp only [idle, if_pos active]

/-- What a request to swap to a bank answers: when it is refused, leaving the state, and when it changes nothing. -/
structure SwapAnswered (t : State) (l : Die) (b : Nat) (q : Res) : Prop where
  invalid : t.cbValid l b = false → q.status = .badParam ∧ q.state = t
  undelivering : t.cbValid l b = true → t.rxState l ≠ .pilotEq → t.rxState l ≠ .locked → q.status = .busy ∧ q.state = t
  active : t.cbValid l b = true → (t.rxState l = .pilotEq ∨ t.rxState l = .locked) → b = t.cbActive l →
    (t.rx l).fade = none →
    q.status = .ok ∧ q.state.dies = t.dies ∧ q.state.cbActive l = t.cbActive l ∧ ∀ c, q.state.cb l c = t.cb l c

/-- A swap request is judged alike before and after the fields of its fade are set. -/
theorem SwapAnswered.of_onlyWrites (h : State.OnlyWrites fadeFields t u) :
    SwapAnswered t l b ((Res.ok u).andThen t fun v => v.requestSwap l b n) := by
  constructor
  case invalid =>
    intro invalid
    have refused : u.requestSwap l b n = .badParam n u := State.requestSwap_of_invalid (h.cbValid.trans invalid)
    rw [Res.andThen_ok_of_refused (by rw [refused]; exact nofun), refused]
    exact ⟨rfl, rfl⟩
  case undelivering =>
    intro valid pilotEq locked
    rw [← h.rxState] at pilotEq locked
    have refused : u.requestSwap l b n = .fail .busy u :=
      State.requestSwap_of_undelivering (h.cbValid.trans valid) pilotEq locked
    rw [Res.andThen_ok_of_refused (by rw [refused]; exact nofun), refused]
    exact ⟨rfl, rfl⟩
  case active =>
    intro valid delivers active idle
    rw [← h.rxState] at delivers
    rw [← h.rx] at idle
    have done : u.requestSwap l b n = .ok (u.showFade l) :=
      State.requestSwap_of_active (h.cbValid.trans valid) delivers (active.trans h.cbActive.symm) idle
    have shown : State.OnlyWrites fadeFields t (u.showFade l) := h.showFade
    rw [Res.andThen_ok_of_ok (by rw [done]; rfl), done]
    exact ⟨rfl, shown.dies, shown.cbActive, fun _ => shown.cb⟩

theorem State.fadeAndSwap_answered {fade : Option (Nat × Nat)} (h : t.regs.wf = true) :
    SwapAnswered t l b (t.fadeAndSwap l fade b n) :=
  .of_onlyWrites (State.setFade_onlyWrites h)

/-- A write of FADE_CTRL with REQ asks for REQ_BANK. -/
theorem State.writeFadeCtrl_answered {w : Word} (h : t.regs.wf = true) (asks : w.getLsbD 7 = true) :
    SwapAnswered t l (w.toNat / 2 ^ 4 % 4) (t.writeFadeCtrl l w) := by
  have written := (((State.OnlyWrites.refl h fadeFields).wr (g := LRX_FADE_CTRL_POLICY) (d := l) (v := w.toNat / 2 ^ 6)
    (by decide)).wr (g := LRX_FADE_CTRL_REQ_BANK) (d := l) (v := w.toNat / 2 ^ 4) (by decide)).wr (g := LRX_FADE_CTRL_LEN)
      (d := l) (v := w.toNat) (by decide)
  have asked : t.writeFadeCtrl l w = _ := if_pos asks
  rw [asked]
  exact .of_onlyWrites written

theorem applyRxBankSwap_of_on {r : Req} {x : Session} {fade : Option (Nat × Nat)} (die : toDie? l.val = some l)
    (on : t.rxOn [l] = true) : applyRxBankSwap l.val b fade r x t = t.fadeAndSwap l fade b 1 := by
  simp only [applyRxBankSwap, die, on, Bool.not_true, Bool.false_eq_true, if_false]

end

/-- Settles O40: the fields that a request sets before it is judged are none of those that judge it
(`SwapAnswered.of_onlyWrites`). -/
theorem swapRequests : Obligations.SwapRequests := by
  refine ⟨fun lane bank fade => ⟨rfl, rfl⟩, ?command, ?write⟩
  case command =>
    intro s t r x l bank fade h runs die on
    have answered : SwapAnswered t l bank (t.fadeAndSwap l fade bank 1) := State.fadeAndSwap_answered h
    exact ⟨_, congrArg Host.Outcome.next (runs.run_eq (applyRxBankSwap_of_on die on) _), answered.invalid,
      answered.undelivering, answered.active⟩
  case write =>
    intro s t r x l w h runs on asks
    have answered : SwapAnswered t l _ (t.writeFadeCtrl l w) := State.writeFadeCtrl_answered h asks
    exact ⟨_, congrArg Host.Outcome.next (runs.run_eq (body := fun _ _ u => regGuard l 0x08 true u (u.writeFadeCtrl l w))
      (regGuard_of_on on _) _), answered.invalid, answered.undelivering, answered.active⟩

section

variable {s t : State} {r : Req} {x : Session} {l : Die} {bank : Nat} {fade : Option (Nat × Nat)}

/-! ### The commands of the receiver (R162, R164, R185, R197 to R199, R201, R236, R418) -/

theorem applyRxBankLoad_of_free {main : Nat} {c : List Int} {swap : Bool} (die : toDie? l.val = some l)
    (on : t.rxOn [l] = true) (free : t.cbBusy l bank = false) :
    applyRxBankLoad l.val bank main c swap fade r x t =
      if swap then (t.setCb l bank c main).fadeAndSwap l fade bank 1 else .ok ((t.setCb l bank c main).setFade l fade) := by
  simp only [applyRxBankLoad, die, on, free, Bool.not_true, Bool.false_eq_true, if_false]

/-- RX_ADAPT_SET judges its values by the enables that it sets. -/
theorem applyRxAdaptSet_of_on {adapt : Option Word} {en : Option Nat} {dfe : Option (Int × Int)} {nle : Option (List Int)}
    (die : toDie? l.val = some l) (on : t.rxOn [l] = true) :
    applyRxAdaptSet l.val adapt en dfe nle r x t =
      (let u := match en with
         | some v => t.setRxEnables l v
         | none => t
       if (dfe.isSome && u.flag l LRX_CTRL_DFE_AD) || (nle.isSome && u.flag l LRX_CTRL_NLE_AD) then .fail .busy t
       else
         let u := match adapt with
           | some w => u.setRxAdapt l w
           | none => u
         let u := match dfe with
           | some (d1, d2) => u.setDfe l d1 d2
           | none => u
         let u := match nle with
           | some q => u.setNle l q
           | none => u
         .ok (u.updRx l fun y => { y with dfeSet := dfe.getD y.dfeSet, nleSet := nle.getD y.nleSet })) := by
  simp only [applyRxAdaptSet, die, on, Bool.not_true, Bool.false_eq_true, if_false] <;> rfl

theorem applyRxPathSet_of_on {pin clear maxTries tryFrames : Nat} (die : toDie? l.val = some l) (on : t.rxOn [l] = true) :
    applyRxPathSet l.val pin clear maxTries tryFrames r x t = t.setPath l pin clear maxTries tryFrames 1 := by
  simp only [applyRxPathSet, die, on, Bool.not_true, Bool.false_eq_true, if_false]

theorem applyLineRxSet_of_on {lanes : BitVec 8} {a b c d e : Nat} (on : t.rxOn (maskDies lanes) = true) :
    applyLineRxSet lanes a b c d e r x t = .ok (t.each (maskDies lanes) fun u l =>
      ((((u.wrFF l LRX_FRONT_CAP_THR a).wrFF l LRX_FRONT_LOS_THR b).wrFF l LRX_TIMING_BW c).wrFF l LRX_CTRL_FAST_EN
        d).wrFF l LRX_CTRL_FB_SUGGEST e) :=
  if_neg (by simp [on])

theorem applyFrameLockSet_of_on {a b c d : Nat} (die : toDie? l.val = some l) (on : t.rxOn [l] = true) :
    applyFrameLockSet l.val a b c d r x t = .ok (t.setMarkCtrl l a b c d) := by
  simp only [applyFrameLockSet, die, on, Bool.not_true, Bool.false_eq_true, if_false]

theorem applyRxBankRead_of_retained {kind index : Nat} (die : toDie? l.val = some l) (retained : t.level l .rx ≠ .dead) :
    applyRxBankRead l.val kind index r x t =
      if kind = 0 then .okWith t (tlvBank (t.rd l (LRX_CB_M index)) (t.cb l index))
      else if kind = 1 then
        match (t.rx l).entries.get (Fin.ofNat 8 index) with
        | some v => .okWith t (tlvBank v.main v.coefs ++ tlvNleDfe v.d1 v.d2 v.nle)
        | none => .badParam 1 t
      else .okWith t (tlvNleDfe (t.rdInt l LRX_DFE_D1) (t.rdInt l LRX_DFE_D2)
        ((List.range 6).map fun i => t.rdInt l (LRX_NLE_Q i))) := by
  simp only [applyRxBankRead, die]
  exact if_neg retained

/-! ### Loss of signal and capture steps (R154 to R157, R174) -/

theorem execLosDeclare_of_lost {ps : List Nat} (populated : s.pop l = true) (on : s.domainOn l .rx = true)
    (runs : s.rxState l ≠ .down) (signal : s.flag l LRX_STAT_LOS = false) (eight : ps.length = 8)
    (low : ∀ p ∈ ps, 4 * s.rd l LRX_FRONT_LOS_THR < p) :
    execLosDeclare l ps s = .next (State.rxEnter (((((((s.wr l LRX_FRONT_POWER (min 255 (ps.getLastD 0))).wr l
      LRX_STAT_LOS 1).wr l LRX_STAT_LOS_SEEN 1).cnt l 48).capTrigger l 1).raiseLane l evRX_LOS).frameLockLost l) l
      .signalWait) :=
  if_neg (by simpa [populated, on, runs, signal, eight] using low)

theorem execLosClear_of_returned {ps : List Nat} (waits : s.rxIn l [.signalWait] = true) (los : s.flag l LRX_STAT_LOS = true)
    (long : ps.length = 64) (high : ∀ p ∈ ps, p + 8 ≤ 4 * s.rd l LRX_FRONT_LOS_THR) :
    execLosClear l ps s = .next (((s.wr l LRX_FRONT_POWER (min 255 (ps.getLastD 0))).wr l LRX_STAT_LOS 0).rxReacquire l) :=
  if_neg (by simpa [waits, los, long] using high)

theorem isCapture_of_step {thr : Nat} {before after : List Nat} (sixteen : before.length = 16) (two : after.length = 2)
    (rises : before.sum < 8 * after.sum) (far : before.sum ^ 10 * 10 ^ thr ≤ (8 * after.sum) ^ 10) :
    isCapture thr before after = true := by
  simp only [isCapture, sixteen, two, rises, far, beq_self_eq_true, decide_true, Bool.and_self]

/-- A step of the power restarts an acquisition under way and is noted in frame lock. -/
theorem execCaptureStep_of_step {before after : List Nat} {p : Nat} (populated : s.pop l = true)
    (on : s.domainOn l .rx = true) (step : isCapture (s.rd l LRX_FRONT_CAP_THR) before after = true) :
    ∃ u, u = (if s.rxState l = .down then s else s.wr l LRX_FRONT_POWER (min 255 p)) ∧
      execCaptureStep l before after p s = .next (match u.rxState l with
      | .gain | .freq | .blindEq | .marker =>
        (((u.wr l LRX_STAT_CAPTURE 1).cnt l 49).raiseLane l evRX_CAPTURE).rxEnter l .gain
      | .fastReacq => (((u.wr l LRX_STAT_CAPTURE 1).cnt l 49).raiseLane l evRX_CAPTURE).rxEnter l .fastReacq
      | .pilotEq | .locked => u.updRx l fun x => { x with capture := some 0 }
      | .down | .signalWait => u) := by
  refine ⟨_, rfl, (if_neg (by simp [populated, on, step])).trans ?_⟩
  dsimp only
  generalize (if s.rxState l = .down then s else s.wr l LRX_FRONT_POWER (min 255 p)) = u
  cases u.rxState l <;> rfl

theorem execCaptureStepForget_of_old {n : Nat} (populated : s.pop l = true) (noted : (s.rx l).capture = some n)
    (old : 32 ≤ n) : execCaptureStepForget l s = .next (s.updRx l fun x => { x with capture := none }) := by
  simp only [execCaptureStepForget, populated, noted, old, if_true]

/-! ### Acquisition (R159, R168, R173, R175) -/

theorem execGainSettled_of_gain {g : Nat} (gain : s.rxIn l [.gain] = true) :
    execGainSettled l g s = .next ((s.wr l LRX_FRONT_GAIN (min 120 g)).rxEnter l .freq) :=
  if_pos gain

theorem execFreqFound_of_near {f : Int} (freq : s.rxIn l [.freq] = true) (near : f.natAbs ≤ 300 * 64) :
    execFreqFound l f s = .next ((s.wrInt l LRX_TIMING_FREQ_OFS f).rxEnter l .blindEq) :=
  if_pos (by simp [freq, near])

theorem execBlindEqConverged_of_blindEq {cs : List Int} (blind : s.rxIn l [.blindEq] = true) :
    execBlindEqConverged l cs s = .next
      ((if s.flag l LRX_CTRL_FFE_AD then s.setCb l (s.cbActive l) cs (s.rd l (LRX_CB_M (s.cbActive l))) else s).rxEnter l
        .marker) :=
  if_pos blind

theorem execAcqTimeout_of_late {us : Nat} (populated : s.pop l = true) (on : s.domainOn l .rx = true)
    (limited : RxState.limitUs (s.rxState l) = some us) (late : (s.rx l).since + usU us ≤ s.time.now) :
    execAcqTimeout l s = .next (((((s.wr l LRX_STAT_ACQ_TIMEOUT 1).cnt l 50).raiseLane l evACQ_TIMEOUT).frameLockLost
      l).rxEnter l .gain) := by
  simp only [execAcqTimeout, populated, on, limited, State.past, late, Bool.and_self, decide_true, if_true]

/-! ### The search for the marker (R205 to R208) -/

/-- A marker at a position that no candidate stands at or is due at becomes a candidate. -/
theorem execMarkerCandidate_of_new {pos : Nat} {window pilots : BitVec 64} {j : Die} (searches : s.searching l = true)
    (coherent : s.standard = false) (found : candidateLane (s.rx l).tol window pilots = some j)
    (room : (candsAt (s.rx l).lockN pos (s.rx l).cands).length < 4)
    (apart : ∀ c ∈ candsAt (s.rx l).lockN pos (s.rx l).cands,
      c.pos ≠ pos ∧ c.pos + 1320960 ≠ pos ∧ c.matched < (s.rx l).lockN) :
    execMarkerCandidate l pos window pilots s = .next (s.updRx l fun x =>
      { x with cands := candsAt (s.rx l).lockN pos (s.rx l).cands ++ [⟨pos, j.val, 1⟩] }) := by
  refine (if_neg (by simp [searches, coherent])).trans ?_
  simp only [found]
  exact if_pos ⟨room, by simpa [and_assoc] using apart⟩

theorem execMarkerConfirmation_of_searching {pos : Nat} {window pilots : BitVec 64} (searches : s.searching l = true)
    (coherent : s.standard = false) :
    execMarkerConfirmation l pos window pilots s = .next (s.updRx l fun x => { x with
      cands := match candidateLane (s.rx l).tol window pilots with
        | some j => (candsAt (s.rx l).lockN pos (s.rx l).cands).map fun c =>
            if c.pos + 1320960 == pos && decide (c.matched < (s.rx l).lockN) then ⟨pos, j.val, c.matched + 1⟩ else c
        | none => (candsAt (s.rx l).lockN pos (s.rx l).cands).filter fun c =>
            !(c.pos + 1320960 == pos && decide (c.matched < (s.rx l).lockN)) }) := by
  refine (if_neg (by simp [searches, coherent])).trans ?_
  dsimp only
  cases candidateLane (s.rx l).tol window pilots <;> rfl

/-- A position is a candidate only with a marker within TOL. -/
theorem bitErrs_le_of_candidateLane {tol : Nat} {window pilots : BitVec 64} {j : Die}
    (found : candidateLane tol window pilots = some j) : bitErrs window LineFormat.marker ≤ tol := by
  by_contra far
  have dropped : candidateLane tol window pilots = none := if_neg far
  rw [dropped] at found
  exact nomatch found

theorem execFrameLock_of_standard {pos : Nat} (searches : s.searching l = true) (standard : s.standard = true) :
    execFrameLock l pos s = .next (s.declareLock l pos l.val) :=
  (if_neg (by simp [searches])).trans (if_pos standard)

theorem execFrameLock_of_matched {pos : Nat} {c : MarkCand} (searches : s.searching l = true) (coherent : s.standard = false)
    (first : (s.rx l).cands.find? (fun c => decide ((s.rx l).lockN ≤ c.matched)) = some c) (its : c.pos = pos) :
    execFrameLock l pos s = .next (s.declareLock l pos c.pilotLane) := by
  refine (if_neg (by simp [searches])).trans <| (if_neg (by simp [coherent])).trans ?_
  simp only [first]
  exact if_pos its

theorem execFastReacqTryEnd_of_ended {y : PathTry} (reacquires : s.rxIn l [.fastReacq] = true) (tries : (s.rx l).try_ = some y)
    (ended : y.cur = none ∨ y.since + (s.rd l LRX_PATH_CTRL_TRY_FRAMES + 1) * 8 * s.frameU ≤ s.time.now) :
    execFastReacqTryEnd l s = .next (if y.left.isEmpty then
      (((s.wr l LRX_STAT_FAST_FAIL 1).cnt l 52).raiseLane l evFAST_REACQ_FAIL).rxEnter l .gain else s.nextTry l y.left) := by
  have expired : (y.cur.isSome && !s.past y.since ((s.rd l LRX_PATH_CTRL_TRY_FRAMES + 1) * 8 * s.frameU)) = false := by
    rcases ended with none | late
    · simp [none]
    · simp [State.past, late]
  simp only [execFastReacqTryEnd, reacquires, tries, expired, Bool.false_eq_true, if_false,
    apply_ite (Host.Outcome.next (φ := Fault) (ρ := Refusal))]

/-! ### Fades (R165, R167) -/

theorem execFadeStart_of_accepted {f : Fade} (populated : s.pop l = true) (asked : (s.rx l).fade = some f)
    (fades : f.jump = false) (accepted : f.begun = false) :
    execFadeStart l s = .next ((s.beginFade l f).updRx l fun x =>
      { x with fade := some { f with begun := true, since := (s.beginFade l f).time.now } }) := by
  simp only [execFadeStart, populated, asked, fades, accepted, Bool.false_eq_true, if_false]
  rfl

theorem execFadeStart_of_jump {f : Fade} (populated : s.pop l = true) (asked : (s.rx l).fade = some f)
    (jumps : f.jump = true) :
    execFadeStart l s = .next (((((s.beginFade l f).wr l LRX_FADE_STAT_ACTIVE f.tgt).cnt l 56).updRx l fun x =>
      { x with fade := none, fineF := [] }).showFade l) := by
  simp only [execFadeStart, populated, asked, jumps, if_true]

theorem execFadeEnd_of_elapsed {f : Fade} (populated : s.pop l = true) (asked : (s.rx l).fade = some f)
    (begun : f.begun = true) (elapsed : f.since + s.symbolsU f.len ≤ s.time.now) :
    ∃ u, u = ((s.wr l LRX_FADE_STAT_ACTIVE f.tgt).cnt l 55).updRx l (fun x => { x with fade := none, queued := none, fineF := [] }) ∧
      execFadeEnd l s = .next (State.showFade (match (s.rx l).queued with
        | some b => if b = f.tgt then u else u.acceptFade l b
        | none => u) l) := by
  refine ⟨_, rfl, ?_⟩
  simp only [execFadeEnd, populated, asked, begun, State.past, elapsed, decide_true, Bool.and_self, if_true] <;> rfl

/-! ### The check of frame lock (R209 to R211, R337) -/

theorem execMarkerCheck_of_standard {window : BitVec 64} {near : List (Int × BitVec 64)} (populated : s.pop l = true)
    (on : s.domainOn l .rx = true) (locked : s.flocked l = true) (standard : s.standard = true) :
    execMarkerCheck l window near s = .next
      (if window = 0 then ((s.stdTags l).rxFrameCounts l).poolBoundary l else s.lockBroken l) :=
  (if_neg (by simp [populated, on, locked])).trans (if_pos standard)

/-- A check passes within TOL; else it slips to a marker nearby, or it is a miss, the last of which loses lock. -/
theorem execMarkerCheck_of_coherent {window : BitVec 64} {near : List (Int × BitVec 64)} {errs : Nat} {u v : State}
    (populated : s.pop l = true) (on : s.domainOn l .rx = true) (locked : s.flocked l = true) (coherent : s.standard = false)
    (counted : errs = bitErrs window LineFormat.marker) (moved : u = s.updRx l fun x => { x with pos := x.pos + 1320960 })
    (shown : v = u.wr l DEC_MARK_STAT_LAST_ERRS (min 64 errs)) :
    execMarkerCheck l window near s = .next
      (if errs ≤ u.rd l DEC_MARK_CTRL_TOL then ((v.wr l DEC_MARK_STAT_MISS_RUN 0).rxFrameCounts l).poolBoundary l
       else match slipTo (v.rd l DEC_MARK_CTRL_SLIP_WIN) (u.rd l DEC_MARK_CTRL_TOL)
           (near.map fun h => (h.1, bitErrs h.2 LineFormat.marker)) with
         | some off => (State.rxFrameCounts (State.updRx ((((v.wr l DEC_MARK_STAT_MISS_RUN 0).wr l DEC_MARK_STAT_SLIP 1).cnt
             l 66).raiseLane l evFRAME_SLIP) l fun x => { x with pos := ((x.pos : Int) + off).toNat }) l).poolBoundary l
         | none =>
           let w := (v.wr l DEC_MARK_STAT_MISS_RUN (v.rd l DEC_MARK_STAT_MISS_RUN + 1)).cnt l 65
           if w.rd l DEC_MARK_CTRL_LOSS_N ≤ v.rd l DEC_MARK_STAT_MISS_RUN + 1 then (w.poolBoundary l).lockBroken l
           else (w.rxFrameCounts l).poolBoundary l) := by
  refine (if_neg (by simp [populated, on, locked])).trans <| (if_neg (by simp [coherent])).trans ?_
  simp only [← counted, ← moved, ← shown, apply_ite (Host.Outcome.next (φ := Fault) (ρ := Refusal))]
  cases slipTo (v.rd l DEC_MARK_CTRL_SLIP_WIN) (u.rd l DEC_MARK_CTRL_TOL)
    (near.map fun h => (h.1, bitErrs h.2 LineFormat.marker)) with
  | some off => rfl
  | none => simp only [apply_ite (Host.Outcome.next (φ := Fault) (ρ := Refusal))]

/-! ### Path memory and suggestions (R178 to R180, R186) -/

/-- Path memory takes the present values into an entry, which becomes the one used last. -/
def State.snapshot (s : State) (l : Die) (e : Fin 8) : State :=
  s.updRx l fun x =>
    { x with entries := x.entries.set e.val (some (s.rxValues l)) e.isLt, order := e :: x.order.filter fun y => y != e }

theorem execPathMemoryRefresh_of_due {gain : Nat} {freq : Int} {u : State} (locked : s.rxIn l [.locked] = true)
    (due : 1024 ≤ (s.rx l).sinceRefresh)
    (adopted : u = (s.adopt l gain freq).updRx l fun x => { x with sinceRefresh := 0 }) :
    execPathMemoryRefresh l gain freq s = .next
      (if (u.rx l).needEntry then
        let w := u.updRx l fun x => { x with needEntry := false }
        match w.pickEntry l with
        | none => (w.cnt l 53).wr l LRX_PATH_STAT_CUR_VALID 0
        | some e => State.snapshot (((w.setBit l LRX_PATH_STAT_VALID e.val true).wr l LRX_PATH_STAT_CUR_VALID 1).wr l
            LRX_PATH_STAT_CURRENT e.val) l e
      else match u.flag l LRX_PATH_STAT_CUR_VALID, toDie? (u.rd l LRX_PATH_STAT_CURRENT) with
        | true, some e => u.snapshot l e
        | _, _ => u) := by
  refine (if_neg (by simp [locked, due])).trans ?_
  simp only [← adopted, apply_ite (Host.Outcome.next (φ := Fault) (ρ := Refusal))]
  congr 1
  · cases (u.updRx l fun x => { x with needEntry := false }).pickEntry l <;> rfl
  · cases u.flag l LRX_PATH_STAT_CUR_VALID <;> cases toDie? (u.rd l LRX_PATH_STAT_CURRENT) <;> rfl

theorem execFirSuggestion_of_due (locked : s.rxIn l [.locked] = true) (suggests : s.flag l LRX_CTRL_FB_SUGGEST = true)
    (coherent : s.standard = false) (long : 256 ≤ (s.rx l).lockedFrames) (due : 256 ≤ (s.rx l).sinceSuggest) :
    ∃ steps, steps = (List.range 10).map (fun k => suggestStep (s.cb l (s.cbActive l)) (s.rd l (LRX_CB_M (s.cbActive l))) k) ∧
      execFirSuggestion l s = .next (s.updRx l fun x => if steps.any (fun v => v != 0) then
        { x with sinceSuggest := 0, firSeq := (x.firSeq + 1) % 256, firStep := steps } else { x with sinceSuggest := 0 }) :=
  ⟨_, rfl, if_neg (by simp [locked, suggests, coherent, long, due])⟩

/-! ### The ADC's spare (R149 to R152) -/

/-- An entry set leaves the values at all other keys, whatever the order of the table. -/
theorem NMap.get_set_ne {m : NMap} {k j : Nat} (v : Nat) (other : j ≠ k) : (m.set k v).get j = m.get j := by
  have apart : ¬k = j := Ne.symm other
  induction m with
  | nil =>
    unfold NMap.set
    split <;> simp [NMap.get, apart]
  | cons entry m ih =>
    obtain ⟨a, w⟩ := entry
    unfold NMap.set
    split
    · simp only [NMap.get, ih]
    · split
      case isTrue same =>
        subst same
        split <;> simp [NMap.get, apart]
      · split <;> simp [NMap.get, apart]

@[simp] theorem State.rd_cnt {d e : Die} {i : Nat} {f : Fld} : (s.cnt d i).rd e f = s.rd e f := by
  unfold State.cnt State.cntN
  split <;> rfl

/-- A field of another place reads as before, in canonical form or not. -/
theorem State.rd_wr_of_other_place {d e : Die} {f g : Fld} {v : Nat} (differ : f.place ≠ g.place) :
    (s.wr d g v).rd e f = s.rd e f := by
  simp only [State.rd, State.wr, NMap.get_set_ne _ (Fld.key_ne_of_place_ne differ d e)]

/-- A slice is counted in the self-test block, not in the receiver. -/
theorem State.rd_countSlice_spare {ok : Bool} : (s.countSlice l ok).rd l LRX_ADC_SPARE = s.rd l LRX_ADC_SPARE := by
  unfold State.countSlice State.incSat
  split <;> rw [State.rd_wr_of_other_place (by decide), State.rd_cnt]

theorem execAdcSpareHandover_of_due {ok : Bool} (populated : s.pop l = true) (on : s.domainOn l .rx = true)
    (runs : s.rxState l ≠ .down) (rotates : s.flag l LRX_ADC_ROT_EN = true) (spare : s.flag l LRX_ADC_NO_SPARE = false)
    (due : (s.rx l).rotAt + 64 * 4 ^ s.rd l LRX_ADC_ROT_PERIOD * s.frameU ≤ s.time.now) :
    ∃ u, u = (let u := s.updRx l fun x => { x with rotAt := s.time.now }
              if (u.rx l).adcFails = 0 then u.countSlice l ok else u) ∧
      execAdcSpareHandover l ok s = .next
        (if ok then ((u.wr l LRX_ADC_SPARE (nextSub 0x7F (u.rd l LRX_ADC_SPARE))).cnt l 54).updRx l fun x =>
           { x with adcFails := 0 }
         else if 1 ≤ (u.rx l).adcFails then (u.retireSub l (u.rd l LRX_ADC_SPARE)).updRx l fun x => { x with adcFails := 0 }
         else u.updRx l fun x => { x with adcFails := x.adcFails + 1 }) := by
  have kept (u : State) : (if (u.rx l).adcFails = 0 then u.countSlice l ok else u).rd l LRX_ADC_SPARE =
      u.rd l LRX_ADC_SPARE := by
    split
    · exact State.rd_countSlice_spare
    · rfl
  refine ⟨_, rfl, (if_neg (by simp [State.past, State.rotPeriod, populated, on, runs, rotates, spare, due])).trans ?_⟩
  dsimp only
  rw [kept]
  cases ok
  · exact (apply_ite _ _ _ _).symm
  · rfl

theorem execAdcSubRetired_of_runs {i : Nat} (populated : s.pop l = true) (on : s.domainOn l .rx = true) (small : i < 65) :
    execAdcSubRetired l i s = .next (s.retireSub l i) :=
  congrArg Host.Outcome.next (if_pos (by simp [populated, on, small]))

end

/-- Settles O39: a request that runs is its body on the state it runs in, and an event whose condition holds has its
effect; counting a slice leaves the spare as it was (`State.rd_countSlice_spare`). -/
theorem receiverRuns : Obligations.ReceiverRuns := by
  refine ⟨?bankLoad, ?bankSwap, ?fadeWrite, ?adaptSet, ?pathSet, ?pathWrite, ?lineRxSet, ?frameLockSet, ?bankRead,
    ?statusGet, ?losDeclare, ?losClear, ?gain, ?freq, ?blindEq, ?capture, ?captureForget, ?timeout, ?candidate,
    ?confirmation, ?markerWithin, ?standardLock, ?frameLock, ?tryEnd, ?fadeStart, ?fadeJump, ?fadeEnd, ?standardCheck,
    ?markerCheck, ?refresh, ?suggestion, ?handover, ?retired⟩
  case bankLoad =>
    intro s t r x l bank main c swap fade runs die on free
    exact congrArg Host.Outcome.next (runs.run_eq (applyRxBankLoad_of_free die on free) _)
  case bankSwap =>
    intro s t r x l bank fade runs die on
    exact congrArg Host.Outcome.next (runs.run_eq (applyRxBankSwap_of_on die on) _)
  case fadeWrite =>
    intro s t r x l w runs on
    exact congrArg Host.Outcome.next (runs.run_eq (body := fun _ _ u => regGuard l 0x08 true u (u.writeFadeCtrl l w))
      (regGuard_of_on on _) _)
  case adaptSet =>
    intro s t r x l adapt en dfe nle runs die on
    exact congrArg Host.Outcome.next (runs.run_eq (applyRxAdaptSet_of_on die on) _)
  case pathSet =>
    intro s t r x l pin clear n f runs die on
    exact congrArg Host.Outcome.next (runs.run_eq (applyRxPathSet_of_on die on) _)
  case pathWrite =>
    intro s t r x l w runs on
    exact congrArg Host.Outcome.next (runs.run_eq (body := fun _ _ u => regGuard l 0x08 true u
      (u.setPath l (w.toNat / 2 ^ 24) (w.toNat / 2 ^ 16 % 256) (w.toNat / 16 % 16) (w.toNat % 4) 1)) (regGuard_of_on on _) _)
  case lineRxSet =>
    intro s t r x lanes a b c d e runs on
    exact congrArg Host.Outcome.next (runs.run_eq (applyLineRxSet_of_on on) _)
  case frameLockSet =>
    intro s t r x l a b c d runs die on
    exact congrArg Host.Outcome.next (runs.run_eq (applyFrameLockSet_of_on die on) _)
  case bankRead =>
    intro s t r x l kind index runs die retained
    exact congrArg Host.Outcome.next (runs.run_eq (applyRxBankRead_of_retained die retained) _)
  case statusGet => exact fun s t r x lanes runs => congrArg Host.Outcome.next (runs.run_eq rfl _)
  case losDeclare => exact fun s l ps => execLosDeclare_of_lost
  case losClear => exact fun s l ps => execLosClear_of_returned
  case gain => exact fun s l g => execGainSettled_of_gain
  case freq => exact fun s l f => execFreqFound_of_near
  case blindEq => exact fun s l cs => execBlindEqConverged_of_blindEq
  case capture =>
    exact fun s l before after p populated on sixteen two rises far =>
      execCaptureStep_of_step populated on (isCapture_of_step sixteen two rises far)
  case captureForget => exact fun s l n => execCaptureStepForget_of_old
  case timeout => exact fun s l us => execAcqTimeout_of_late
  case candidate => exact fun s l pos window pilots j => execMarkerCandidate_of_new
  case confirmation => exact fun s l pos window pilots => execMarkerConfirmation_of_searching
  case markerWithin => exact fun tol window pilots j => bitErrs_le_of_candidateLane
  case standardLock => exact fun s l pos => execFrameLock_of_standard
  case frameLock => exact fun s l pos c => execFrameLock_of_matched
  case tryEnd => exact fun s l y => execFastReacqTryEnd_of_ended
  case fadeStart => exact fun s l f => execFadeStart_of_accepted
  case fadeJump => exact fun s l f => execFadeStart_of_jump
  case fadeEnd => exact fun s l f => execFadeEnd_of_elapsed
  case standardCheck => exact fun s l window near => execMarkerCheck_of_standard
  case markerCheck => exact fun s l window near populated on locked coherent =>
      ⟨_, _, _, rfl, rfl, rfl, execMarkerCheck_of_coherent populated on locked coherent rfl rfl rfl⟩
  case refresh => exact fun s l gain freq locked due => ⟨_, rfl, execPathMemoryRefresh_of_due locked due rfl⟩
  case suggestion => exact fun s l => execFirSuggestion_of_due
  case handover => exact fun s l ok => execAdcSpareHandover_of_due
  case retired => exact fun s l i => execAdcSubRetired_of_runs

end Sys2Proof.Machine

/-! The decoder pool: what it delivers, its cap, and what a fence leaves: the proofs of the statements of
spec/06_frame_lock_and_decoding.md. -/

namespace Sys2Proof.Machine

section

variable {s s0 t : State} {d l : Die} {e k : Fin 8} {i n : Nat}

/-! ### What a change of a pool leaves -/

@[simp] theorem State.pool_updPool (s : State) (l : Die) (g : PoolSt → PoolSt) :
    (s.updPool l g).pool l = g (s.pool l) := by
  simp only [State.pool, State.updPool, State.die_updDie]

theorem State.engine_eq (s : State) (l : Die) (e : Fin 8) : s.engine l e = (s.pool l).engines.get e := rfl

@[simp] theorem State.engine_updEngine (s : State) (l : Die) (e : Fin 8) (g : Engine → Engine) :
    (s.updEngine l e g).engine l e = g (s.engine l e) := by
  simp only [State.engine_eq, State.updEngine, State.pool_updPool]
  exact Vector.getElem_set_self e.isLt

theorem State.engine_updEngine_ne (g : Engine → Engine) (other : k ≠ e) :
    (s.updEngine l k g).engine l e = s.engine l e := by
  simp only [State.engine_eq, State.updEngine, State.pool_updPool]
  exact Vector.getElem_set_ne k.isLt e.isLt (Fin.val_ne_of_ne other)

theorem State.mem_enginesOn : e ∈ s.enginesOn l ↔ s.engineOn l e = true := by
  simp only [State.enginesOn, List.mem_filter, mem_allDies e, true_and]

/-! ### Counters of a die -/

@[simp] theorem State.rd_cntN {f : Fld} : (s.cntN d i n).rd l f = s.rd l f := by
  unfold State.cntN
  split <;> rfl

@[simp] theorem State.pool_cntN : (s.cntN d i n).pool l = s.pool l := by
  unfold State.cntN
  split <;> rfl

@[simp] theorem State.regs_cntN : (s.cntN d i n).regs = s.regs := by
  unfold State.cntN
  split <;> rfl

@[simp] theorem State.part_cntN : (s.cntN d i n).part = s.part := by
  unfold State.cntN
  split <;> rfl

theorem State.ctr_cntN_wf (h : s.tel.ctr.wf = true) : (s.cntN d i n).tel.ctr.wf = true := by
  unfold State.cntN
  split
  · exact NMap.set_wf _ _ h
  · exact h

/-- A count leaves the die's other counters, and every counter of the other dies. -/
theorem State.ctr_cntN_ne {j : Nat} (small : i < 192) (place : j < 192) (other : j ≠ i) :
    (s.cntN d i n).tel.ctr.get (ctrIndex l j) = s.tel.ctr.get (ctrIndex l j) := by
  unfold State.cntN
  split
  · exact NMap.get_set_ne _ (by unfold ctrIndex; omega)
  · rfl

theorem State.ctr_cnt (h : s.tel.ctr.wf = true) (populated : s.pop d = true) :
    (s.cnt d i).tel.ctr.get (ctrIndex d i) = (s.tel.ctr.get (ctrIndex d i) + 1) % 2 ^ 48 := by
  unfold State.cnt State.cntN
  rw [if_pos populated, State.ctr_addCtr _ h, if_pos rfl]

/-! ### Delivery (R223) -/

theorem doneRun_le (done : BitVec 256) (n i : Nat) : doneRun done n i ≤ n := by
  induction n generalizing i with
  | zero => exact le_rfl
  | succ n ih =>
    unfold doneRun
    split
    · exact Nat.succ_le_succ (ih _)
    · exact Nat.zero_le _

theorem getLsbD_of_lt_doneRun {done : BitVec 256} {j : Nat} (h : j < doneRun done n i) : done.getLsbD (i + j) = true := by
  induction n generalizing i j with
  | zero => exact absurd h (Nat.not_lt_zero j)
  | succ n ih =>
    unfold doneRun at h
    split at h
    case isTrue finished =>
      cases j with
      | zero => exact finished
      | succ j => rw [← Nat.succ_add_eq_add_succ]; exact ih (Nat.lt_of_succ_lt_succ h)
    case isFalse => exact absurd h (Nat.not_lt_zero j)

/-- A run that ends early ends at an unfinished codeword. -/
theorem getLsbD_doneRun_of_lt {done : BitVec 256} (h : doneRun done n i < n) :
    done.getLsbD (i + doneRun done n i) = false := by
  induction n generalizing i with
  | zero => exact absurd h (Nat.not_lt_zero _)
  | succ n ih =>
    unfold doneRun at h ⊢
    split
    case isTrue finished =>
      rw [if_pos finished] at h
      have later := ih (Nat.lt_of_succ_lt_succ h)
      rwa [Nat.add_right_comm] at later
    case isFalse unfinished => exact Bool.eq_false_iff.mpr unfinished

theorem State.each_emit (s : State) (g : Nat → Output) (ks : List Nat) :
    (s.each ks fun s k => s.emit (g k)) = { s with out := s.out ++ ks.map g } := by
  induction ks generalizing s with
  | nil => simp [State.each]
  | cons k ks ih =>
    refine (ih (s.emit (g k))).trans ?_
    simp [State.emit]

theorem State.deliverFrame_of_held {f : RxFrame} (held : s.frame? l i = some f) :
    s.deliverFrame l i =
      (s.updFrame l i fun g => { g with delivered := g.delivered + doneRun f.done (256 - f.delivered) f.delivered }).each
        (List.range (doneRun f.done (256 - f.delivered) f.delivered)) fun s k =>
          s.emit (.codeword l (f.delivered + k) (!f.failed.getLsbD (f.delivered + k))) := by
  simp only [State.deliverFrame, held]

/-- A change of a frame that leaves its index is found under that index. -/
theorem State.frame?_updFrame {g : RxFrame → RxFrame} {f : RxFrame} (held : s.frame? l i = some f)
    (idx : ∀ x, (g x).idx = x.idx) : (s.updFrame l i g).frame? l i = some (g f) := by
  have kept : ((fun x : RxFrame => x.idx == i) ∘ fun x => if x.idx = i then g x else x) = fun x => x.idx == i := by
    funext x
    by_cases mine : x.idx = i <;> simp [mine, idx]
  have mine : f.idx = i := by simpa using List.find?_some held
  simp only [State.frame?, State.updFrame, State.pool_updPool, List.find?_map, kept]
  rw [State.frame?] at held
  rw [held, Option.map_some, if_pos mine]

theorem State.deliverReady_of_first {f : RxFrame} {fs : List RxFrame} {g : RxFrame} (first : (s.pool l).frames = f :: fs)
    (after : (s.deliverFrame l f.idx).frame? l f.idx = some g) (part : g.delivered < 256) :
    s.deliverReady l = s.deliverFrame l f.idx := by
  simp only [State.deliverReady, first, List.map_cons, State.deliverFrom, after, Option.map_some, Option.getD_some,
    if_pos part]

end

/-! ### What an event leaves -/

/-- The fields that an event on its way writes, and the counters of a die that it counts in. -/
def eventFields : List Fld := [MGMT_STAT_LPI_TX, EVT_STAT_LAST]
def eventCounts : List Nat := [145, 152]

/-- What raising an event leaves of a state: the other fields and counters, and every pool. -/
structure Reported (s t : State) : Prop where
  shows : ∀ d, ∀ f : Fld, (∀ g ∈ eventFields, f.place ≠ g.place) → t.rd d f = s.rd d f
  counts : ∀ d, ∀ i < 192, i ∉ eventCounts → t.tel.ctr.get (ctrIndex d i) = s.tel.ctr.get (ctrIndex d i)
  pools : ∀ d, t.pool d = s.pool d

namespace Reported

section

variable {s t u : State} {d : Die}

theorem refl (s : State) : Reported s s := ⟨fun _ _ _ => rfl, fun _ _ _ _ => rfl, fun _ => rfl⟩

/-- What is no register, counter or die does not matter. -/
theorem congr (h : Reported s t) (regs : u.regs = t.regs) (tel : u.tel = t.tel) (dies : u.dies = t.dies) : Reported s u :=
  ⟨fun d f other => (by simp only [State.rd, regs] : u.rd d f = t.rd d f).trans (h.shows d f other),
    fun d i small other => tel ▸ h.counts d i small other,
    fun d => (by simp only [State.pool, State.die, dies] : u.pool d = t.pool d).trans (h.pools d)⟩

theorem wr {g : Fld} {v : Nat} (h : Reported s t) (mem : g ∈ eventFields) : Reported s (t.wr d g v) :=
  ⟨fun e f other => (State.rd_wr_of_other_place (other g mem)).trans (h.shows e f other), h.counts, h.pools⟩

theorem updDie {g : DieSt → DieSt} (h : Reported s t) (pool : ∀ x, (g x).pool = x.pool) : Reported s (t.updDie d g) := by
  refine ⟨h.shows, h.counts, fun e => Eq.trans ?_ (h.pools e)⟩
  by_cases same : d = e
  · subst same
    rw [State.pool, State.die_updDie, pool, State.pool]
  · rw [State.pool, State.die_updDie_ne _ _ same, State.pool]

/-- Counters from 1,536 on are the package's. -/
theorem addCtr {k n : Nat} (h : Reported s t) (package : 1536 ≤ k) : Reported s (t.addCtr k n) :=
  ⟨h.shows, fun d i small other =>
    (NMap.get_set_ne _ (by have := d.isLt; unfold ctrIndex; omega)).trans (h.counts d i small other), h.pools⟩

theorem cnt {i : Nat} (h : Reported s t) (mem : i ∈ eventCounts) : Reported s (t.cnt d i) := by
  have small : ∀ i ∈ eventCounts, i < 192 := by decide
  exact ⟨fun e f other => State.rd_cntN.trans (h.shows e f other),
    fun e j place other =>
      (State.ctr_cntN_ne (small i mem) place (by rintro rfl; exact other mem)).trans (h.counts e j place other),
    fun e => State.pool_cntN.trans (h.pools e)⟩

theorem emit {o : Output} (h : Reported s t) : Reported s (t.emit o) := h.congr rfl rfl rfl

/-! Packets that leave the part -/

theorem sendEth {p : MPort} {dst : BitVec 48} {vlan : Option (BitVec 16)} {b : Bytes} (h : Reported s t) :
    Reported s (t.sendEth p dst vlan b) := by
  unfold State.sendEth
  split
  · exact emit (congr (wr (h.cnt (by decide)) (by decide)) rfl rfl rfl)
  · exact h

theorem inbPush {m : Bytes} (h : Reported s t) : Reported s (t.inbPush d m) :=
  updDie (g := fun x => { x with inband := { x.inband with txq := x.inband.txq ++ [m] } }) h fun _ => rfl

theorem jeuriDropped (h : Reported s t) : Reported s (t.jeuriDropped d) := h.cnt (by decide)

theorem sendLane {m : Bytes} (h : Reported s t) : Reported s (t.sendLane d m) := by
  unfold State.sendLane State.sendLink
  split
  · split
    · exact h.inbPush
    · exact h.jeuriDropped
  · split
    · exact h.inbPush
    · exact h.jeuriDropped

theorem sendVia {node hops : Nat} {hop : Hop} {vlan : Option (BitVec 16)} {b : Bytes} (h : Reported s t) :
    Reported s (t.sendVia node hop hops vlan b) := by
  unfold State.sendVia State.sendPort
  cases hop with
  | portA | portB => dsimp only; split <;> exact h.sendEth
  | link => exact h.sendLane
  | loc => exact h

theorem sendBy {m : Medium} {mac : BitVec 48} {vlan : Option (BitVec 16)} {b : Bytes} (h : Reported s t) :
    Reported s (t.sendBy m mac vlan b) := by
  cases m with
  | inband => exact h.sendLane
  | portA | portB => exact h.sendEth

theorem sendOwn {dest : BitVec 16} {m : Medium} {mac : BitVec 48} {vlan : Option (BitVec 16)} {b : Bytes}
    (h : Reported s t) : Reported s (t.sendOwn dest m mac vlan b) := by
  unfold State.sendOwn
  split
  · split
    · exact h.sendBy
    · exact h.sendVia
  · exact h.sendBy

/-! Records on their way to the subscribers -/

theorem takeNonce {ch : BitVec 8} (h : Reported s t) : Reported s (t.takeNonce ch).2 := by
  unfold State.takeNonce
  split
  · split
    · exact h.congr rfl rfl rfl
    · exact h
  · exact h

theorem sendEvents {x : Subscriber} {y : Session} (h : Reported s t) : Reported s (t.sendEvents x y) := by
  unfold State.sendEvents
  split
  · exact h
  · exact (sendOwn (emit h.takeNonce)).congr rfl rfl rfl

theorem flushSub {n : Nat} {ch : BitVec 8} (h : Reported s t) : Reported s (State.flushSub n t ch) := by
  induction n generalizing t with
  | zero => exact h
  | succ n ih =>
    unfold State.flushSub
    split
    · split
      · exact h
      · exact ih h.sendEvents
    · exact h

theorem offerTo {e : EvRec} {ch : BitVec 8} (h : Reported s t) : Reported s (t.offerTo e ch) := by
  unfold State.offerTo
  split
  · exact h
  · exact addCtr (h.congr rfl rfl rfl) (Nat.le_add_right _ _)

/-- Every subscriber is offered the record, then every queue is sent from. -/
theorem offerAll {e : EvRec} {chs : List (BitVec 8)} (h : Reported s t) :
    Reported s (chs.foldl (fun v ch => v.offerTo e ch) t).flushAll :=
  State.each_keeps (Q := Reported s) (fun _ _ _ => flushSub) (State.each_keeps (Q := Reported s) (fun _ _ _ => offerTo) h)

theorem deliver {e : EvRec} (h : Reported s t) : Reported s (t.deliver e) := by
  unfold State.deliver
  split
  · have alarmed := wr (d := 1) (v := 0) (wr (d := 0) (g := MGMT_STAT_LPI_TX) (v := 0)
      (h.congr (u := { t with sl := { t.sl with alarms := t.sl.alarms ++ [(e.source, e.timeNs)] } }) rfl rfl rfl)
      (by decide)) (g := MGMT_STAT_LPI_TX) (by decide)
    dsimp only
    split
    · exact alarmed.congr rfl rfl rfl
    · exact alarmed.offerAll
  · dsimp only
    split
    · exact h
    · exact h.offerAll

end

/-- Raising an event leaves everything but what the event itself shows and counts. -/
theorem raise (s : State) (d : Die) (i : Nat) (arg : Bytes) : Reported s (s.raise d i arg) := by
  unfold State.raise State.raiseAt State.logEvent
  split
  · exact deliver (wr (updDie (addCtr (refl s) (by omega)) fun _ => rfl) (by decide))
  · exact refl s

end Reported

section

variable {s s0 t : State} {l : Die} {e k : Fin 8} {c : FenceCause}

/-! ### CAP_EFF (R224) -/

theorem State.rd_applyCap (h : s.regs.wf = true) (small : s.rd l DEC_POOL_CTRL_CAP ≤ 16) :
    (s.applyCap l).rd l DEC_POOL_STAT_CAP_EFF = s.capDue l := by
  have fits : s.capDue l < 2 ^ DEC_POOL_STAT_CAP_EFF.width :=
    Nat.lt_of_le_of_lt ((min_le_left _ _).trans small) (by decide)
  have shown : (s.wr l DEC_POOL_STAT_CAP_EFF (s.capDue l)).rd l DEC_POOL_STAT_CAP_EFF = s.capDue l :=
    (s.rd_wr h l _ _).trans (Nat.mod_eq_of_lt fits)
  unfold State.applyCap State.raiseLane
  dsimp only
  split
  · rw [(Reported.raise _ _ _ _).shows l _ (by decide), State.rd_wr_of_other_place (by decide), shown]
  · exact shown

/-! ### MAN_FENCE bits that leave no engine in service (R233) -/

theorem State.manRefused_of_none_left {m : BitVec 8}
    (sets : ∃ e : Die, m.getLsbD e.val = true ∧ s.bit l DEC_POOL_CTRL_MAN_FENCE e.val = false)
    (all : ∀ e : Fin 8, s.engineOn l e = true → m.getLsbD e.val = true) : s.manRefused l m = true := by
  obtain ⟨e, asked, free⟩ := sets
  have new : (allDies.any fun e => m.getLsbD e.val && !s.bit l DEC_POOL_CTRL_MAN_FENCE e.val) = true :=
    List.any_eq_true.mpr ⟨e, mem_allDies e, by simp [asked, free]⟩
  have left : (allDies.any fun e => s.engineOn l e && !m.getLsbD e.val) = false :=
    List.any_eq_false.mpr fun k _ => by
      cases on : s.engineOn l k
      · simp
      · simp [all k on]
  simp only [State.manRefused, new, left, Bool.not_false, Bool.and_self]

theorem applyDecPoolSet_of_none_left {r : Req} {x : Session} {cap m : Nat} (die : toDie? l.val = some l)
    (on : s.rxOn [l] = true) (refused : s.manRefused l (BitVec.ofNat 8 m) = true) :
    applyDecPoolSet l.val cap m r x s = .badParam 1 s := by
  simp only [applyDecPoolSet, State.setPoolCtrl, die, on, refused, Bool.or_true, Bool.not_true, Bool.false_eq_true,
    if_false, if_true]

end

/-- A list read at any number modulo its length gives one of its elements. -/
theorem getD_mod_mem {es : List (Fin 8)} (some : es ≠ []) (v : Nat) : es.getD (v % es.length) 0 ∈ es := by
  have small : v % es.length < es.length := Nat.mod_lt _ (List.length_pos_iff.mpr some)
  rw [List.getD_eq_getElem _ _ small]
  exact List.getElem_mem small

/-! ### What the pool's work leaves of an engine out of service (R222, R223, R229) -/

/-- The fields in which a fence stands: the engines out of service, and what FENCE_INFO names. -/
def fenceShows : List Fld :=
  [DEC_POOL_STAT_FENCED, DEC_POOL_STAT_PERM, DEC_FENCE_INFO_LAST_ENG, DEC_FENCE_INFO_LAST_CAUSE]

/-- Whether an engine has no codeword and no result that waits. -/
def Engine.Empty (x : Engine) : Prop := x.job = none ∧ x.stalled = false

/-- Since a state in which engine `e` of lane `l` is out of service it has stayed so, without a codeword, and no engine has
been fenced or has come back. -/
structure HeldOut (l : Die) (e : Fin 8) (s0 s : State) : Prop where
  out : s0.engineOn l e = false
  shows : ∀ f ∈ fenceShows, s.rd l f = s0.rd l f
  count : s.tel.ctr.get (ctrIndex l 78) = s0.tel.ctr.get (ctrIndex l 78)
  empty : (s.engine l e).Empty

/-- What an engine held when it was taken out goes on: a finished result is delivered, the rest is decoded again. -/
def State.handOn (s : State) (l : Die) (x : Engine) : State :=
  let s := if x.stalled then
      match x.job with
      | some j => s.markDone l j
      | none => s
    else s.interrupted l x.job.toList
  s.interrupted l x.saved.toList

namespace HeldOut

section

variable {s s0 t : State} {l : Die} {e k : Fin 8} {j : CwJob}

theorem engineOn (h : HeldOut l e s0 s) (k : Fin 8) : s.engineOn l k = s0.engineOn l k := by
  simp only [State.engineOn, State.bit, h.shows DEC_POOL_STAT_FENCED (by decide), h.shows DEC_POOL_STAT_PERM (by decide)]

/-- An engine in service is another. -/
theorem ne_of_on (h : HeldOut l e s0 s) (on : k ∈ s.enginesOn l) : k ≠ e := by
  rintro rfl
  have off := (h.engineOn k).trans h.out
  exact absurd (State.mem_enginesOn.mp on) (Bool.eq_false_iff.mp off)

/-! Single changes -/

theorem congr (h : HeldOut l e s0 s) (regs : t.regs = s.regs) (tel : t.tel = s.tel) (engines : t.engine l e = s.engine l e) :
    HeldOut l e s0 t :=
  ⟨h.out, fun f mem => (by simp only [State.rd, regs] : t.rd l f = s.rd l f).trans (h.shows f mem), tel ▸ h.count,
    engines ▸ h.empty⟩

theorem reported (h : HeldOut l e s0 s) (sent : Reported s t) : HeldOut l e s0 t := by
  have apart : ∀ f ∈ fenceShows, ∀ g ∈ eventFields, f.place ≠ g.place := by decide
  refine ⟨h.out, fun f mem => (sent.shows l f (apart f mem)).trans (h.shows f mem),
    (sent.counts l 78 (by decide) (by decide)).trans h.count, ?_⟩
  rw [State.engine_eq, sent.pools]
  exact h.empty

theorem raiseLane {i : Nat} (h : HeldOut l e s0 s) : HeldOut l e s0 (s.raiseLane l i) := h.reported (.raise ..)

theorem wr {g : Fld} {v : Nat} (h : HeldOut l e s0 s) (differ : ∀ f ∈ fenceShows, f.place ≠ g.place) :
    HeldOut l e s0 (s.wr l g v) :=
  ⟨h.out, fun f mem => (State.rd_wr_of_other_place (differ f mem)).trans (h.shows f mem), h.count, h.empty⟩

theorem cntN {i n : Nat} (h : HeldOut l e s0 s) (small : i < 192) (other : 78 ≠ i) : HeldOut l e s0 (s.cntN l i n) :=
  ⟨h.out, fun f mem => State.rd_cntN.trans (h.shows f mem), (State.ctr_cntN_ne small (by decide) other).trans h.count, by
    rw [State.engine_eq, State.pool_cntN]; exact h.empty⟩

theorem updPool {g : PoolSt → PoolSt} (h : HeldOut l e s0 s) (engines : ∀ p, (g p).engines = p.engines) :
    HeldOut l e s0 (s.updPool l g) :=
  h.congr rfl rfl (by rw [State.engine_eq, State.pool_updPool, engines, State.engine_eq])

theorem updFrame {i : Nat} {g : RxFrame → RxFrame} (h : HeldOut l e s0 s) : HeldOut l e s0 (s.updFrame l i g) :=
  h.updPool fun _ => rfl

theorem updEngine {g : Engine → Engine} (h : HeldOut l e s0 s) (other : k ≠ e) : HeldOut l e s0 (s.updEngine l k g) :=
  h.congr rfl rfl (State.engine_updEngine_ne g other)

theorem charge {slot : Nat} (h : HeldOut l e s0 s) (other : k ≠ e) (small : slot < 192) (slots : 78 ≠ slot) :
    HeldOut l e s0 (s.charge l k slot) :=
  (h.cntN small slots).updEngine other

/-! Codewords that are done -/

theorem emit {o : Output} (h : HeldOut l e s0 s) : HeldOut l e s0 (s.emit o) := h.congr rfl rfl rfl

theorem deliverFrame {i : Nat} (h : HeldOut l e s0 s) : HeldOut l e s0 (s.deliverFrame l i) := by
  unfold State.deliverFrame
  split
  · exact h
  · exact State.each_keeps (Q := HeldOut l e s0) (fun _ _ _ => emit) h.updFrame

theorem deliverFrom {is : List Nat} (h : HeldOut l e s0 s) : HeldOut l e s0 (State.deliverFrom l is s) := by
  induction is generalizing s with
  | nil => exact h
  | cons i is ih =>
    unfold State.deliverFrom
    dsimp only
    split
    · exact h.deliverFrame
    · exact ih h.deliverFrame

theorem markDone (h : HeldOut l e s0 s) : HeldOut l e s0 (s.markDone l j) := h.updFrame.deliverFrom

theorem cntFrame {i c n : Nat} (h : HeldOut l e s0 s) (small : c < 192) (other : 78 ≠ c) :
    HeldOut l e s0 (s.cntFrame l i c n) := by
  unfold State.cntFrame
  split
  · exact h.cntN small other
  · split
    · exact h.updFrame
    · split
      · exact h
      · exact h.cntN small other

theorem remeasure {i : Nat} (h : HeldOut l e s0 s) : HeldOut l e s0 (s.remeasure l i) := by
  unfold State.remeasure
  split
  · exact h
  · exact h.updPool fun _ => rfl

theorem noteOutcome {good : Bool} {corrected : Nat} (h : HeldOut l e s0 s) :
    HeldOut l e s0 (s.noteOutcome l j good corrected) := by
  unfold State.noteOutcome
  dsimp only
  split
  · exact (h.updFrame.remeasure.cntFrame (by decide) (by decide)).cntFrame (by decide) (by decide)
  · exact h.updFrame.remeasure.cntFrame (by decide) (by decide)

/-- An engine whose result waits is not the one held out, which has none. -/
theorem unstall (h : HeldOut l e s0 s) : HeldOut l e s0 (s.unstall l) := by
  refine State.each_keeps (Q := HeldOut l e s0) (fun s k _ h => ?_) h
  dsimp only
  split
  case h_1 stalled _ =>
    split
    · have other : k ≠ e := by
        rintro rfl
        exact absurd stalled (Bool.eq_false_iff.mp h.empty.2)
      exact ((h.charge other (by decide) (by decide)).updEngine other).markDone
    · exact h
  case h_2 => exact h

theorem failCw (h : HeldOut l e s0 s) : HeldOut l e s0 (s.failCw l j) := h.noteOutcome.markDone.unstall

/-! Codewords given to engines -/

theorem startDecode (h : HeldOut l e s0 s) (other : k ≠ e) : HeldOut l e s0 (s.startDecode l k j) := h.updEngine other

theorem dispatch {n : Nat} (h : HeldOut l e s0 s) : HeldOut l e s0 (State.dispatch n s l) := by
  induction n generalizing s with
  | zero => exact h
  | succ n ih =>
    unfold State.dispatch
    split
    · exact h
    · split
      · exact ih (failCw (h.updPool fun _ => rfl))
      · split
        · exact h
        case h_2 k free =>
          have other : k ≠ e := h.ne_of_on (List.mem_of_find?_eq_some free)
          exact ih (updFrame (startDecode (charge (h.updPool fun _ => rfl) other (by decide) (by decide)) other))

theorem startRedo (h : HeldOut l e s0 s) : HeldOut l e s0 (s.startRedo l) := by
  unfold State.startRedo
  split
  · exact h
  · split
    · split
      · exact failCw (h.updPool fun _ => rfl)
      · exact h
    case h_2 j rest _ es free =>
      have other : _ ≠ e := h.ne_of_on (List.mem_of_mem_filter (getD_mod_mem free s.fresh.1))
      have waiting {p : List CwJob} : HeldOut l e s0 (s.fresh.2.updPool l fun x => { x with redo := p }) :=
        updPool (h.congr rfl rfl rfl) fun _ => rfl
      refine startDecode (updEngine ?_ other) other
      split
      · exact waiting
      · exact waiting.charge other (by decide) (by decide)

theorem runPool (h : HeldOut l e s0 s) : HeldOut l e s0 (s.runPool l) :=
  dispatch (State.each_keeps (Q := HeldOut l e s0) (f := fun s _ => s.startRedo l) (fun _ _ _ => startRedo) h)

/-! What follows a fence -/

theorem applyCap (h : HeldOut l e s0 s) : HeldOut l e s0 (s.applyCap l) := by
  unfold State.applyCap
  dsimp only
  split
  · exact ((h.wr (by decide)).wr (by decide)).raiseLane
  · exact h.wr (by decide)

theorem serviceChanged (h : HeldOut l e s0 s) : HeldOut l e s0 (s.serviceChanged l) := by
  have shown : HeldOut l e s0 (s.wr l DEC_POOL_STAT_IN_SERVICE (s.enginesOn l).length) := h.wr (by decide)
  have capped {u : State} (h : HeldOut l e s0 u) : HeldOut l e s0 (if u.flocked l then u else u.applyCap l) := by
    split
    · exact h
    · exact h.applyCap
  refine capped ?_
  split
  · exact shown.raiseLane
  · exact shown

theorem interrupted {js : List CwJob} (h : HeldOut l e s0 s) : HeldOut l e s0 (s.interrupted l js) := by
  refine State.each_keeps (Q := HeldOut l e s0) (fun s j _ h => ?_) h
  split
  · exact h.failCw
  · exact (h.cntFrame (by decide) (by decide)).updPool fun _ => rfl

theorem handOn {x : Engine} (h : HeldOut l e s0 s) : HeldOut l e s0 (s.handOn l x) := by
  refine interrupted ?_
  split
  · split
    · exact h.markDone
    · exact h
  · exact h.interrupted

end

end HeldOut

section

variable {s : State} {l : Die} {e k : Fin 8} {c : FenceCause}

/-! ### A fence (R228, R229) -/

/-- An engine's account and codewords are closed, its next slice falls due. -/
def State.emptyEngine (s : State) (l : Die) (e : Fin 8) : State :=
  let x := s.engine l e
  let s := (s.charge l e (if x.stalled then slotSTALLED else if x.job.isSome then slotWASTED else slotSTARVED)).cntN l
    slotWASTED x.savedCyc
  s.updEngine l e fun y =>
    { y with job := none, saved := none, savedCyc := 0, savedSpan := 0, stalled := false, slicing := false, clean := 0,
             failed := 0, returning := false, sliceDue := if s.flocked l then none else some s.time.now }

/-- An engine's FENCED bit is set and the fence counted. -/
def State.countFence (s : State) (l : Die) (e : Fin 8) : State :=
  ((s.setBit l DEC_POOL_STAT_FENCED e.val true).incSat l DEC_FENCE_INFO_FENCE_COUNT 1).cnt l 78

/-- What a fence shows and counts before its event is raised. -/
def State.showFence (s : State) (l : Die) (e : Fin 8) (c : FenceCause) : State :=
  ((s.countFence l e).wr l DEC_FENCE_INFO_LAST_ENG e.val).wr l DEC_FENCE_INFO_LAST_CAUSE c.code

theorem State.rd_emptyEngine {f : Fld} : (s.emptyEngine l e).rd l f = s.rd l f :=
  State.rd_cntN.trans State.rd_cntN

theorem State.regs_emptyEngine : (s.emptyEngine l e).regs = s.regs :=
  State.regs_cntN.trans State.regs_cntN

theorem State.regs_emptyEngine_wf (h : s.regs.wf = true) : (s.emptyEngine l e).regs.wf = true := by
  rwa [State.regs_emptyEngine]

theorem State.part_emptyEngine : (s.emptyEngine l e).part = s.part := State.part_cntN.trans State.part_cntN

theorem State.empty_emptyEngine : ((s.emptyEngine l e).engine l e).Empty := by
  unfold State.emptyEngine
  rw [State.engine_updEngine]
  exact ⟨rfl, rfl⟩

/-- The account of an engine is in other counters than the count of fences. -/
theorem State.ctr_emptyEngine (h : s.tel.ctr.wf = true) : (s.emptyEngine l e).tel.ctr.wf = true ∧
    (s.emptyEngine l e).tel.ctr.get (ctrIndex l 78) = s.tel.ctr.get (ctrIndex l 78) := by
  have slot (x : Engine) : (if x.stalled then slotSTALLED else if x.job.isSome then slotWASTED else slotSTARVED) < 192 ∧
      78 ≠ (if x.stalled then slotSTALLED else if x.job.isSome then slotWASTED else slotSTARVED) := by
    split
    · decide
    · split <;> decide
  obtain ⟨small, other⟩ := slot (s.engine l e)
  exact ⟨State.ctr_cntN_wf (State.ctr_cntN_wf h), (State.ctr_cntN_ne (by decide) (by decide) (by decide)).trans
    (State.ctr_cntN_ne small (by decide) other)⟩

theorem State.bit_setBit {f : Fld} {i j : Nat} (h : s.regs.wf = true) (inside : j < f.width) :
    (s.setBit l f i true).bit l f j = (s.bit l f j || decide (i = j)) := by
  simp only [State.bit, State.setBit, State.rd_wr _ h, if_true, Nat.testBit_mod_two_pow, Nat.testBit_or,
    Nat.testBit_two_pow, inside, decide_true, Bool.true_and]

/-- The engine joins those fenced, and no other. -/
theorem State.fenced_showFence (h : s.regs.wf = true) : (s.showFence l e c).bit l DEC_POOL_STAT_FENCED k.val =
    (s.bit l DEC_POOL_STAT_FENCED k.val || decide (e.val = k.val)) := by
  refine Eq.trans ?_ (State.bit_setBit h k.isLt)
  unfold State.bit State.showFence State.countFence State.incSat
  rw [State.rd_wr_of_other_place (by decide), State.rd_wr_of_other_place (by decide), State.rd_cnt,
    State.rd_wr_of_other_place (by decide)]

theorem State.pool_showFence : (s.showFence l e c).pool l = s.pool l :=
  State.pool_cntN (s := (s.setBit l DEC_POOL_STAT_FENCED e.val true).incSat l DEC_FENCE_INFO_FENCE_COUNT 1)

theorem State.rd_perm_showFence : (s.showFence l e c).rd l DEC_POOL_STAT_PERM = s.rd l DEC_POOL_STAT_PERM := by
  unfold State.showFence State.countFence State.incSat State.setBit
  rw [State.rd_wr_of_other_place (by decide), State.rd_wr_of_other_place (by decide), State.rd_cnt,
    State.rd_wr_of_other_place (by decide), State.rd_wr_of_other_place (by decide)]

theorem State.engineOn_showFence (h : s.regs.wf = true) :
    (s.showFence l e c).engineOn l k = (s.engineOn l k && decide (e.val ≠ k.val)) := by
  have perm : (s.showFence l e c).bit l DEC_POOL_STAT_PERM k.val = s.bit l DEC_POOL_STAT_PERM k.val :=
    congrArg (Nat.testBit · k.val) State.rd_perm_showFence
  simp only [State.engineOn, State.fenced_showFence h, perm, Bool.not_or, decide_not]
  ac_rfl

theorem State.regs_countFence_wf (h : s.regs.wf = true) : (s.countFence l e).regs.wf = true := by
  unfold State.countFence State.cnt
  rw [State.regs_cntN]
  exact State.wr_wf _ (s.wr_wf h _ _ _) _ _ _

theorem State.lastEng_showFence (h : s.regs.wf = true) : (s.showFence l e c).rd l DEC_FENCE_INFO_LAST_ENG = e.val := by
  unfold State.showFence
  rw [State.rd_wr_of_other_place (by decide), State.rd_wr _ (State.regs_countFence_wf h)]
  exact Nat.mod_eq_of_lt e.isLt

theorem State.lastCause_showFence (h : s.regs.wf = true) :
    (s.showFence l e c).rd l DEC_FENCE_INFO_LAST_CAUSE = FenceCause.code c := by
  unfold State.showFence
  rw [State.rd_wr _ (State.wr_wf _ (State.regs_countFence_wf h) _ _ _)]
  cases c <;> rfl

theorem State.count_showFence (h : s.tel.ctr.wf = true) (populated : s.pop l = true) :
    (s.showFence l e c).tel.ctr.get (ctrIndex l 78) = (s.tel.ctr.get (ctrIndex l 78) + 1) % 2 ^ 48 :=
  State.ctr_cnt (s := (s.setBit l DEC_POOL_STAT_FENCED e.val true).incSat l DEC_FENCE_INFO_FENCE_COUNT 1) h populated

theorem State.takeOut_of_on (on : s.engineOn l e = true) :
    s.takeOut l e c =
      let u := (s.emptyEngine l e).showFence l e c
      let n := (allDies.filter fun k => u.bit l DEC_POOL_STAT_FENCED k.val).length
      ((u.raise l evDEC_ENGINE_FENCED (evArg l.val n [BitVec.ofNat 8 e.val, BitVec.ofNat 8 c.code])).serviceChanged l).handOn
        l (s.engine l e) :=
  if_neg (by simp [on])

/-- Once an engine is emptied and its fence shown, the event, the other codewords and the pool's work leave it so. -/
theorem State.fence_heldOut (h : s.regs.wf = true) (on : s.engineOn l e = true) :
    HeldOut l e ((s.emptyEngine l e).showFence l e c) (s.fence l e c) := by
  have out : ((s.emptyEngine l e).showFence l e c).engineOn l e = false := by
    rw [State.engineOn_showFence (State.regs_emptyEngine_wf h)]
    simp
  have empty : (((s.emptyEngine l e).showFence l e c).engine l e).Empty := by
    rw [State.engine_eq, State.pool_showFence]
    exact State.empty_emptyEngine
  refine HeldOut.runPool (s := s.takeOut l e c) ?_
  rw [State.takeOut_of_on on]
  exact HeldOut.handOn (HeldOut.serviceChanged (HeldOut.reported ⟨out, fun _ _ => rfl, rfl, empty⟩ (.raise ..)))

end

/-- Settles O43: a run of finished codewords is delivered by its length (`doneRun`), and what a fence does after it has taken
the engine out leaves it out (`State.fence_heldOut`). -/
theorem decoderDelivers : Obligations.DecoderDelivers := by
  refine ⟨?delivers, fun s l f fs g => State.deliverReady_of_first, fun s l => State.rd_applyCap, ?refused, ?fenced⟩
  case delivers =>
    intro s l i f held part
    have short := doneRun_le f.done (256 - f.delivered) f.delivered
    refine ⟨doneRun f.done (256 - f.delivered) f.delivered, by omega, fun k => getLsbD_of_lt_doneRun, fun left =>
      getLsbD_doneRun_of_lt (by omega), ?_, ?_⟩ <;> rw [State.deliverFrame_of_held held, State.each_emit]
    · rfl
    · exact State.frame?_updFrame held fun _ => rfl
  case refused =>
    intro s t r x l cap m runs die on sets all
    exact congrArg Host.Outcome.next
      (runs.run_eq (applyDecPoolSet_of_none_left die on (State.manRefused_of_none_left sets all)) _)
  case fenced =>
    intro s l e c regs ctr populated on
    have held : HeldOut l e ((s.emptyEngine l e).showFence l e c) (s.fence l e c) := State.fence_heldOut regs on
    have regs' : (s.emptyEngine l e).regs.wf = true := State.regs_emptyEngine_wf regs
    have populated' : (s.emptyEngine l e).pop l = true := by rwa [State.pop, State.part_emptyEngine]
    obtain ⟨ctr', count⟩ := State.ctr_emptyEngine (l := l) (e := e) ctr
    refine ⟨(held.engineOn e).trans held.out, ?bit, ?eng, ?cause, held.empty.1, ?count, ?others⟩
    case bit =>
      have shown : ((s.emptyEngine l e).showFence l e c).bit l DEC_POOL_STAT_FENCED e.val = true := by
        rw [State.fenced_showFence regs']
        simp
      rwa [State.bit, held.shows DEC_POOL_STAT_FENCED (by decide)]
    case eng => rw [held.shows DEC_FENCE_INFO_LAST_ENG (by decide), State.lastEng_showFence regs']
    case cause => rw [held.shows DEC_FENCE_INFO_LAST_CAUSE (by decide), State.lastCause_showFence regs']
    case count =>
      exact held.count.trans ((State.count_showFence ctr' populated').trans
        (congrArg (fun v => (v + 1) % 2 ^ 48) count))
    case others =>
      intro k other
      have apart : e.val ≠ k.val := fun same => other (Fin.ext same.symm)
      have kept : (s.emptyEngine l e).engineOn l k = s.engineOn l k := by
        simp only [State.engineOn, State.bit, State.rd_emptyEngine]
      rw [held.engineOn, State.engineOn_showFence regs', kept, decide_eq_true apart, Bool.and_true]

end Sys2Proof.Machine

/-! The link cipher: its nonces, its keys, their agreement and its commands: the proofs of the statements of
spec/08_link_cipher.md. -/

namespace Sys2Proof.Machine

/-! ### What packets and events leave -/

/-- What sending packets and raising events leaves of a state: the agreements, the time and the phase. -/
structure Conveyed (s t : State) : Prop where
  kx : t.kx = s.kx
  time : t.time = s.time
  phase : t.phase = s.phase

namespace Conveyed

section

variable {s t u : State} {d : Die}

theorem refl (s : State) : Conveyed s s := ⟨rfl, rfl, rfl⟩

theorem trans (h : Conveyed s t) (k : Conveyed t u) : Conveyed s u :=
  ⟨k.kx.trans h.kx, k.time.trans h.time, k.phase.trans h.phase⟩

theorem congr (h : Conveyed s t) (kx : u.kx = t.kx) (time : u.time = t.time) (phase : u.phase = t.phase) : Conveyed s u :=
  h.trans ⟨kx, time, phase⟩

theorem wr {f : Fld} {v : Nat} (h : Conveyed s t) : Conveyed s (t.wr d f v) := h.congr rfl rfl rfl

theorem wrB {f : Fld} {b : Bool} (h : Conveyed s t) : Conveyed s (t.wrB d f b) := h.wr

theorem cnt {i : Nat} (h : Conveyed s t) : Conveyed s (t.cnt d i) := by
  unfold State.cnt State.cntN
  split
  · exact h.congr rfl rfl rfl
  · exact h

theorem emit {o : Output} (h : Conveyed s t) : Conveyed s (t.emit o) := h.congr rfl rfl rfl

/-! Packets that leave the part -/

theorem portSent {p : MPort} (h : Conveyed s t) : Conveyed s (t.portSent p) :=
  congr (t := (t.cnt (MPort.die p) 145).wr (MPort.die p) MGMT_STAT_LPI_TX 0) h.cnt.wr rfl rfl rfl

theorem sendEth {p : MPort} {dst : BitVec 48} {vlan : Option (BitVec 16)} {b : Bytes} (h : Conveyed s t) :
    Conveyed s (t.sendEth p dst vlan b) := by
  unfold State.sendEth
  split
  · exact h.portSent.emit
  · exact h

theorem inbPush {m : Bytes} (h : Conveyed s t) : Conveyed s (t.inbPush d m) := h.congr rfl rfl rfl

theorem sendLane {m : Bytes} (h : Conveyed s t) : Conveyed s (t.sendLane d m) := by
  unfold State.sendLane State.sendLink
  split
  · split
    · exact h.inbPush
    · exact h.cnt
  · split
    · exact h.inbPush
    · exact h.cnt

theorem sendVia {node hops : Nat} {hop : Hop} {vlan : Option (BitVec 16)} {b : Bytes} (h : Conveyed s t) :
    Conveyed s (t.sendVia node hop hops vlan b) := by
  unfold State.sendVia State.sendPort
  cases hop with
  | portA | portB => dsimp only; split <;> exact h.sendEth
  | link => exact h.sendLane
  | loc => exact h

theorem sendBy {m : Medium} {mac : BitVec 48} {vlan : Option (BitVec 16)} {b : Bytes} (h : Conveyed s t) :
    Conveyed s (t.sendBy m mac vlan b) := by
  cases m with
  | inband => exact h.sendLane
  | portA | portB => exact h.sendEth

theorem sendOwn {dest : BitVec 16} {m : Medium} {mac : BitVec 48} {vlan : Option (BitVec 16)} {b : Bytes}
    (h : Conveyed s t) : Conveyed s (t.sendOwn dest m mac vlan b) := by
  unfold State.sendOwn
  split
  · split
    · exact h.sendBy
    · exact h.sendVia
  · exact h.sendBy

/-! Records on their way to the subscribers -/

theorem takeNonce {ch : BitVec 8} (h : Conveyed s t) : Conveyed s (t.takeNonce ch).2 := by
  unfold State.takeNonce
  split
  · split
    · exact h.congr rfl rfl rfl
    · exact h
  · exact h

theorem sendEvents {x : Subscriber} {y : Session} (h : Conveyed s t) : Conveyed s (t.sendEvents x y) := by
  unfold State.sendEvents
  split
  · exact h
  · exact (sendOwn (emit h.takeNonce)).congr rfl rfl rfl

theorem flushSub {n : Nat} {ch : BitVec 8} (h : Conveyed s t) : Conveyed s (State.flushSub n t ch) := by
  induction n generalizing t with
  | zero => exact h
  | succ n ih =>
    unfold State.flushSub
    split
    · split
      · exact h
      · exact ih h.sendEvents
    · exact h

theorem flushAll (h : Conveyed s t) : Conveyed s t.flushAll :=
  State.each_keeps (Q := Conveyed s) (fun _ _ _ => flushSub) h

theorem offerTo {e : EvRec} {ch : BitVec 8} (h : Conveyed s t) : Conveyed s (t.offerTo e ch) := by
  unfold State.offerTo
  split
  · exact h
  · exact h.congr rfl rfl rfl

theorem deliver {e : EvRec} (h : Conveyed s t) : Conveyed s (t.deliver e) := by
  have offered {v : State} {chs : List (BitVec 8)} (h : Conveyed s v) :
      Conveyed s (chs.foldl (fun v ch => v.offerTo e ch) v).flushAll :=
    flushAll (State.each_keeps (Q := Conveyed s) (fun _ _ _ => offerTo) h)
  unfold State.deliver
  dsimp only
  split
  · split
    · exact h.congr rfl rfl rfl
    · exact offered (h.congr rfl rfl rfl)
  · split
    · exact h
    · exact offered h

theorem raisePkg {j : Nat} {arg : Bytes} (h : Conveyed s t) : Conveyed s (t.raisePkg j arg) := by
  unfold State.raisePkg State.logEvent
  split
  · exact deliver (h.congr rfl rfl rfl)
  · exact h

/-! Ends of sessions and claims -/

theorem rollback {x : Session} (h : Conveyed s t) : Conveyed s (t.rollback x) := by
  have audited {v : State} {k : Txn} {st : Nat} (h : Conveyed s v) : Conveyed s (v.auditStaged x k st) := by
    refine State.each_keeps (Q := Conveyed s) (fun v c _ h => ?_) h
    split
    · exact h.congr rfl rfl rfl
    · exact h
  unfold State.rollback
  split
  · exact h
  · exact (audited (h.congr (u := t.fresh.2) rfl rfl rfl)).congr rfl rfl rfl

theorem endSub {ch : BitVec 8} (h : Conveyed s t) : Conveyed s (t.endSub ch) := by
  unfold State.endSub
  split
  · exact h
  · dsimp only
    split
    · exact h.congr rfl rfl rfl
    · exact flushAll (h.congr rfl rfl rfl)

theorem endSession {ch : BitVec 8} (h : Conveyed s t) : Conveyed s (t.endSession ch) := by
  unfold State.endSession
  split
  · exact congr h.rollback.endSub rfl rfl rfl
  · exact congr h.endSub rfl rfl rfl

theorem expireClaims {x : Session} (h : Conveyed s t) : Conveyed s (t.expireClaims x) :=
  State.each_keeps (Q := Conveyed s) (fun v _ _ h => raisePkg (h.congr (u := v.cntPkg 1547) rfl rfl rfl))
    ((h.rollback (x := x)).congr rfl rfl rfl)

/-- Ending what is due ends sessions and claims only. -/
theorem expireDue (h : Conveyed s t) : Conveyed s t.expireDue := by
  refine State.each_keeps (Q := Conveyed s) (fun v x _ h => ?claims) (State.each_keeps (Q := Conveyed s)
    (fun v x _ h => ?sessions) h)
  case claims =>
    split
    · exact h.expireClaims
    · exact h
  case sessions =>
    split
    · exact h.endSession
    · exact h

end

end Conveyed

section

variable {s t : State} {l : Die} {a : Attempt} {c : KxRec} {r : KxReason}

/-! ### Nonces (R278) -/

/-- A byte string is the digits of its number in base 256, the last byte first. -/
theorem ofBe_eq_ofDigits (b : Bytes) : ofBe b = Nat.ofDigits 256 (b.reverse.map BitVec.toNat) := by
  simp only [ofBe, Nat.ofDigits_eq_foldr, List.foldr_map, List.foldr_reverse, Nat.cast_id]
  congr 1
  funext n x
  omega

theorem ofBe_inj {a b : Bytes} (long : a.length = b.length) (same : ofBe a = ofBe b) : a = b := by
  rw [ofBe_eq_ofDigits, ofBe_eq_ofDigits] at same
  have byte {b : Bytes} : ∀ n ∈ b.reverse.map BitVec.toNat, n < 256 := by
    intro n mem
    obtain ⟨x, -, rfl⟩ := List.mem_map.mp mem
    exact x.isLt
  have digits := Nat.ofDigits_inj_of_len_eq (by decide) (by simpa using long) byte byte same
  exact List.reverse_injective (List.map_injective_iff.mpr (fun _ _ => BitVec.eq_of_toNat_eq) digits)

theorem dirBit_of_lt {ni nr : Bytes} (below : ofBe ni < ofBe nr) : dirBit ni nr = 0 := if_pos below

theorem dirBit_of_gt {ni nr : Bytes} (above : ofBe nr < ofBe ni) : dirBit ni nr = 1 := if_neg (Nat.lt_asymm above)

/-- A nonce that is one's own is refused, whatever else the record holds. -/
theorem State.kxRefuse_ne_none {mode : KeyMode} {nonce : Bytes} (equal : c.nonce = nonce) :
    s.kxRefuse mode c nonce ≠ none := by
  rw [State.kxRefuse, if_pos equal]
  split
  · exact Option.some_ne_none _
  · split <;> exact Option.some_ne_none _

theorem State.kxRefuse_of_equal {mode : KeyMode} {nonce : Bytes} (right : c.mode = KeyMode.code mode)
    (credential : s.kxCredential mode = true) (equal : c.nonce = nonce) : s.kxRefuse mode c nonce = some .nonceEqual := by
  simp only [State.kxRefuse, right, credential, equal, ne_eq, not_true_eq_false, Bool.not_true, Bool.false_eq_true, if_false,
    if_true]

/-! ### Ends of attempts (R285, R286) -/

theorem State.showKeys_conveyed (s : State) : Conveyed s s.showKeys :=
  State.each_keeps (Q := Conveyed s) (fun _ _ _ h => h.wrB.wrB.wrB.wrB.wrB) (.refl s)

theorem State.kxFailed_conveyed (s : State) (initiator : Bool) (epoch : Nat) : Conveyed s (s.kxFailed initiator epoch r) := by
  unfold State.kxFailed
  cases initiator <;> exact Conveyed.raisePkg ((Conveyed.refl s).congr rfl rfl rfl)

/-- However the initiator's attempt ends, none runs afterwards. -/
theorem State.tx_kxEndTx (s : State) (r : KxReason) : (s.kxEndTx r).kx.tx = none := by
  unfold State.kxEndTx
  split
  case h_1 idle => exact idle
  case h_2 a _ =>
    dsimp only
    rw [(State.showKeys_conveyed _).kx, (State.kxFailed_conveyed _ _ _).kx]
    split <;> rfl

/-! ### Records that arrive (R281, R283) -/

theorem execKxResponse_of_attempt (arrives : s.kxArrives l = true) (headOk : KxRec.headOk c = true) (runs : s.kx.tx = some a)
    (session : a.session = c.session) (first : a.response = []) : execKxResponse l c s = .next (s.kxAnswer a c) := by
  simp [execKxResponse, arrives, headOk, runs, session, first]

theorem State.kxAnswer_of_refused (refused : s.kxRefuse a.mode c a.nonce = some r) :
    s.kxAnswer a c = (s.kxAbortSend a.mode a.session a.epoch r).kxEndTx r := by
  simp only [State.kxAnswer, refused]

end

/-- Settles O45: bytes are digits, so equal numbers are equal nonces (`ofBe_inj`), and a refused RESPONSE ends its attempt
(`State.tx_kxEndTx`). -/
theorem noncesDecide : Obligations.NoncesDecide := by
  refine ⟨?direction, ?refused, ?response⟩
  case direction =>
    exact fun ni nr hi hr => ⟨dirBit_of_lt, dirBit_of_gt, ofBe_inj (hi.trans hr.symm)⟩
  case refused =>
    exact fun s mode c nonce equal =>
      ⟨State.kxRefuse_ne_none equal, fun right credential => State.kxRefuse_of_equal right credential equal⟩
  case response =>
    intro s l c a arrives headOk runs session first right credential equal
    refine ⟨_, ?_, State.tx_kxEndTx _ _, rfl⟩
    refine (execKxResponse_of_attempt arrives headOk runs session first).trans (congrArg Host.Outcome.next ?_)
    exact State.kxAnswer_of_refused (State.kxRefuse_of_equal right credential equal)

section

variable {s t u : State} {d e l : Die} {k : TKey} {f g : Fld}

/-! ### Keys of a die (R294) -/

@[simp] theorem State.keys_updKeys (s : State) (d : Die) (g : KeySt → KeySt) : (s.updKeys d g).keys d = g (s.keys d) := by
  simp only [State.keys, State.updKeys, State.die_updDie]

theorem State.keys_updKeys_ne (g : KeySt → KeySt) (other : e ≠ d) : (s.updKeys e g).keys d = s.keys d := by
  simp only [State.keys, State.updKeys, State.die_updDie_ne _ _ other]

/-- A change of the keys of dies named once each changes those dies' keys once. -/
theorem State.keys_each_updKeys (g : KeySt → KeySt) {ds : List Die} (once : ds.Nodup) (mem : d ∈ ds) :
    (s.each ds fun s e => s.updKeys e g).keys d = g (s.keys d) := by
  have untouched {v : State} {ds : List Die} (apart : d ∉ ds) :
      (v.each ds fun s e => s.updKeys e g).keys d = v.keys d :=
    State.each_keeps (Q := fun u => u.keys d = v.keys d)
      (fun _ e mem kept => (State.keys_updKeys_ne g fun same : e = d => apart (same ▸ mem)).trans kept) rfl
  induction ds generalizing s with
  | nil => cases mem
  | cons e ds ih =>
    obtain ⟨apart, once⟩ := List.nodup_cons.mp once
    refine Eq.trans (b := ((s.updKeys e g).each ds fun s e => s.updKeys e g).keys d) rfl ?_
    rcases List.mem_cons.mp mem with rfl | later
    · rw [untouched apart, State.keys_updKeys]
    · rw [ih once later, State.keys_updKeys_ne g fun same : e = d => apart (same ▸ later)]

theorem State.keyDies_nodup (s : State) : s.keyDies.Nodup :=
  List.Nodup.filter _ (List.Nodup.filter _ (by decide : allDies.Nodup))

theorem State.keys_installRx (mem : d ∈ s.keyDies) : (s.installRx k).keys d =
    { s.keys d with rx := (k :: (s.keys d).rx.filter fun y => y.epoch != k.epoch).take 2 } :=
  State.keys_each_updKeys (fun x => { x with rx := (k :: x.rx.filter fun y => y.epoch != k.epoch).take 2 })
    s.keyDies_nodup mem

/-! ### Epochs (R290) -/

theorem epochAfter_of_lt {n : Nat} (below : n < 0xFFFF) : epochAfter n = n + 1 := if_neg below.ne

theorem epochAfter_pos (n : Nat) : epochAfter n ≠ 0 := by
  unfold epochAfter
  split <;> omega

theorem epochAfter_le {n : Nat} (small : n ≤ 0xFFFF) : epochAfter n ≤ 0xFFFF := by
  unfold epochAfter
  split <;> omega

theorem State.nextEpoch_of_keyless (keyless : (s.keys s.keyHome).txCur = none) : s.nextEpoch = 1 := by
  simp only [State.nextEpoch, keyless]

/-! ### Keys shown (R319, R320) -/

/-- The fields that show a lane's keys. -/
def keyShows : List Fld :=
  [CIPH_TX_STAT_NEXT_VALID, CIPH_TX_STAT_KEY_VALID, CIPH_TX_STAT_AGREEING, CIPH_RX_STAT_NEXT_VALID, CIPH_RX_STAT_KEY_VALID]

/-- What `State.showKeys` writes of one lane. -/
def State.showLaneKeys (s : State) (l : Die) : State :=
  let k := s.keys l
  let s := (s.wrB l CIPH_TX_STAT_NEXT_VALID k.txNext.isSome).wrB l CIPH_TX_STAT_KEY_VALID (s.keyUsable l)
  let s := s.wrB l CIPH_TX_STAT_AGREEING s.kx.tx.isSome
  (s.wrB l CIPH_RX_STAT_NEXT_VALID (2 ≤ k.rx.length)).wrB l CIPH_RX_STAT_KEY_VALID (!k.rx.isEmpty)

theorem State.showKeys_eq (s : State) : s.showKeys = s.each s.popDies State.showLaneKeys := rfl

theorem State.OnlyWrites.showLaneKeys (h : State.OnlyWrites keyShows s t) :
    State.OnlyWrites keyShows s (t.showLaneKeys l) := by
  have wrB {u : State} {g : Fld} {b : Bool} (h : State.OnlyWrites keyShows s u) (mem : g ∈ keyShows) :
      State.OnlyWrites keyShows s (u.wrB l g b) := h.wr mem
  exact wrB (wrB (wrB (wrB (wrB h (by decide)) (by decide)) (by decide)) (by decide)) (by decide)

theorem State.showKeys_onlyWrites (h : s.regs.wf = true) : State.OnlyWrites keyShows s s.showKeys :=
  s.showKeys_eq ▸ State.each_keeps (Q := State.OnlyWrites keyShows s) (fun _ _ _ => State.OnlyWrites.showLaneKeys) (.refl h _)

theorem State.OnlyWrites.keys {fs : List Fld} (h : State.OnlyWrites fs s t) : t.keys d = s.keys d := by
  rw [h.rest]
  rfl

theorem State.OnlyWrites.kx {fs : List Fld} (h : State.OnlyWrites fs s t) : t.kx = s.kx := by
  rw [h.rest]

/-- No die holds a key, and no attempt runs. -/
structure State.Keyless (s : State) : Prop where
  keys : ∀ d, s.keys d = ⟨none, none, []⟩
  idle : s.kx.tx = none

theorem State.OnlyWrites.keyless {fs : List Fld} (h : State.OnlyWrites fs s t) (keyless : s.Keyless) : t.Keyless :=
  ⟨fun d => h.keys.trans (keyless.keys d), h.kx ▸ keyless.idle⟩

theorem State.keyUsable_of_keyless (keyless : s.Keyless) : s.keyUsable l = false := by
  have none_used : s.laneKey l = none := by
    simp only [State.laneKey, keyless.keys, ite_self]
  simp only [State.keyUsable, none_used, Bool.and_false]

/-- Where there are no keys, the fields that show them are all cleared. -/
theorem State.showLaneKeys_of_keyless (keyless : s.Keyless) :
    s.showLaneKeys l = s.each keyShows fun s g => s.wrB l g false := by
  simp only [State.showLaneKeys, keyless.keys, State.keyUsable_of_keyless keyless, State.wrB_kx, keyless.idle]
  rfl

/-- Clearing a field of these leaves the others clear. -/
theorem State.flag_wrB_false (h : s.regs.wf = true) (mine : f ∈ keyShows) (its : g ∈ keyShows)
    (clear : s.flag l f = false) : (s.wrB d g false).flag l f = false := by
  have apart : ∀ f ∈ keyShows, ∀ g ∈ keyShows, f = g ∨ f.place ≠ g.place := by decide
  rcases apart f mine g its with rfl | differ
  · simp only [State.flag, State.rd, State.wrB, State.wr, NMap.get_set h] at clear ⊢
    split
    · simp
    · exact clear
  · simpa only [State.flag, State.wrB, State.rd_wr_of_other_place differ] using clear

theorem State.flag_showKeys_of_keyless (h : s.regs.wf = true) (keyless : s.Keyless) (populated : s.pop l = true)
    (mine : f ∈ keyShows) : s.showKeys.flag l f = false := by
  have positive : ∀ f ∈ keyShows, 0 < f.width := by decide
  have clears {u : State} (start : u.regs.wf = true) : (u.each keyShows fun u g => u.wrB l g false).flag l f = false :=
    (State.each_sets (P := fun u => u.regs.wf = true) (Q := fun u => u.regs.wf = true ∧ u.flag l f = false) mine
      (fun u _ _ wf => u.wr_wf wf _ _ _)
      (fun u _ its ⟨wf, clear⟩ => ⟨u.wr_wf wf _ _ _, State.flag_wrB_false wf mine its clear⟩)
      (fun u wf => ⟨u.wr_wf wf _ _ _, State.flag_wrB wf (positive f mine) false⟩) start).2
  have keeps {u : State} {d : Die} (wf : u.regs.wf = true) (clear : u.flag l f = false) :
      (u.each keyShows fun u g => u.wrB d g false).flag l f = false :=
    (State.each_keeps (Q := fun u => u.regs.wf = true ∧ u.flag l f = false)
      (fun u _ its ⟨wf, clear⟩ => ⟨u.wr_wf wf _ _ _, State.flag_wrB_false wf mine its clear⟩) ⟨wf, clear⟩).2
  rw [State.showKeys_eq]
  refine (State.each_sets (P := State.OnlyWrites keyShows s) (Q := fun u => State.OnlyWrites keyShows s u ∧ u.flag l f = false)
    (List.mem_filter.mpr ⟨mem_allDies l, populated⟩) (fun u d _ => State.OnlyWrites.showLaneKeys) ?keeps ?clears
    (.refl h _)).2
  case keeps =>
    rintro u d _ ⟨kept, clear⟩
    refine ⟨kept.showLaneKeys, ?_⟩
    rw [State.showLaneKeys_of_keyless (kept.keyless keyless)]
    exact keeps kept.regs clear
  case clears =>
    intro u kept
    refine ⟨kept.showLaneKeys, ?_⟩
    rw [State.showLaneKeys_of_keyless (kept.keyless keyless)]
    exact clears kept.regs

/-! ### Zeroisation (R309) -/

/-- Every die's session keys gone, and its lane begun anew; the attempts are those that ran. -/
def State.zeroiseDies (s : State) : State := s.each allDies fun s d => (s.zeroiseDie d).freshEpoch d false

theorem State.zeroiseAll_eq (s : State) : s.zeroiseAll = s.zeroiseDies.dropAttempts.showKeys := rfl

theorem State.keys_freshEpoch {next : Bool} : (s.freshEpoch e next).keys d = s.keys d := by
  simp only [State.keys, State.freshEpoch, State.updCiph, State.die_wr]
  by_cases same : e = d
  · rw [same, State.die_updDie]
  · rw [State.die_updDie_ne _ _ same]

theorem State.keys_zeroiseDies (s : State) (d : Die) : s.zeroiseDies.keys d = ⟨none, none, []⟩ := by
  refine State.each_sets (P := fun _ => True) (Q := fun u => u.keys d = ⟨none, none, []⟩) (mem_allDies d)
    (fun _ _ _ => id) ?keeps (fun u _ => State.keys_freshEpoch.trans (State.keys_updKeys ..)) trivial
  intro u e _ gone
  rw [State.keys_freshEpoch, State.zeroiseDie]
  by_cases same : e = d
  · subst same
    exact State.keys_updKeys ..
  · exact (State.keys_updKeys_ne _ same).trans gone

theorem State.regs_zeroiseDies_wf (h : s.regs.wf = true) : s.zeroiseDies.regs.wf = true :=
  State.each_keeps (Q := fun u => u.regs.wf = true)
    (fun u d _ wf => State.wr_wf ((u.zeroiseDie d).updCiph d _) wf _ _ _) h

theorem State.part_zeroiseDies (s : State) : s.zeroiseDies.part = s.part :=
  State.each_keeps (Q := fun u => u.part = s.part) (fun _ _ _ kept => kept) rfl

theorem State.regs_dropAttempts (s : State) : s.dropAttempts.regs = s.regs := rfl

theorem State.part_dropAttempts (s : State) : s.dropAttempts.part = s.part := rfl

theorem State.keys_dropAttempts (s : State) (d : Die) : s.dropAttempts.keys d = s.keys d := rfl

theorem State.kx_dropAttempts (s : State) : s.dropAttempts.kx.tx = none ∧ s.dropAttempts.kx.rx = none ∧
    s.dropAttempts.kx.outbox = [] :=
  ⟨rfl, rfl, rfl⟩

theorem State.keyless_zeroiseDies (s : State) : s.zeroiseDies.dropAttempts.Keyless where
  keys d := (State.keys_dropAttempts _ d).trans (s.keys_zeroiseDies d)
  idle := (State.kx_dropAttempts _).1

end

/-- Settles O46: a receive key is installed once on each die (`State.keys_installRx`), and where no die holds a key the
fields that show keys are cleared (`State.flag_showKeys_of_keyless`). -/
theorem keysHeld : Obligations.KeysHeld := by
  refine ⟨fun e small => ⟨epochAfter_pos e, epochAfter_le small, epochAfter_of_lt⟩, if_pos rfl,
    fun s => State.nextEpoch_of_keyless, ?installed, ?zeroised⟩
  case installed =>
    intro s k d mem
    rw [State.keys_installRx mem]
    refine ⟨rfl, List.length_take_le _ _, fun y later => ?_⟩
    have older : y ∈ (s.keys d).rx.filter fun y => y.epoch != k.epoch := List.mem_of_mem_take later
    obtain ⟨held, differs⟩ := List.mem_filter.mp older
    exact ⟨by simpa using differs, held⟩
  case zeroised =>
    intro s regs
    have wf : s.zeroiseDies.dropAttempts.regs.wf = true := by
      rw [State.regs_dropAttempts]
      exact State.regs_zeroiseDies_wf regs
    have shown : State.OnlyWrites keyShows s.zeroiseDies.dropAttempts s.zeroiseAll :=
      s.zeroiseAll_eq ▸ State.showKeys_onlyWrites wf
    have keyless : s.zeroiseAll.Keyless := shown.keyless s.keyless_zeroiseDies
    obtain ⟨-, rx, outbox⟩ := s.zeroiseDies.kx_dropAttempts
    rw [← shown.kx] at rx outbox
    refine ⟨keyless.keys, keyless.idle, rx, outbox, fun l populated => ?_⟩
    have populated' : s.zeroiseDies.dropAttempts.pop l = true := by
      rwa [State.pop, State.part_dropAttempts, State.part_zeroiseDies]
    have clear {f : Fld} (mine : f ∈ keyShows) : s.zeroiseAll.flag l f = false :=
      s.zeroiseAll_eq ▸ State.flag_showKeys_of_keyless wf s.keyless_zeroiseDies populated' mine
    exact ⟨clear (by decide), clear (by decide), clear (by decide), clear (by decide)⟩

section

variable {s t : State} {r : Req} {x : Session} {l d : Die} {c : KxRec} {a : Attempt} {k : TKey}

/-! ### Keys at their limits (R298, R310) -/

theorem applyCipherSfClear_of_on (die : toDie? l.val = some l) (on : t.domainOn l .dataPath = true) :
    applyCipherSfClear l.val r x t =
      if !t.flag l CIPH_FLAGS_SF_C then .ok t else if !t.sfSlicesPassed l then .fail .busy t
      else .ok (t.noteCauses.wr l CIPH_FLAGS_SF_C 0) := by
  simp only [applyCipherSfClear, die, on, Bool.not_true, Bool.false_eq_true, if_false]

theorem execKeyExpired_of_spent (current : (s.keys s.keyHome).txCur = some k) (on : s.cipherOn = true)
    (spent : s.keySpent k = true) (alone : (s.keys s.keyHome).txNext = none) (first : s.kx.expired = false) :
    execKeyExpired s = .next s.keyLimit.sleepLimit := by
  simp only [execKeyExpired, current, on, spent, alone, first, Option.isNone_none, Bool.not_false, Bool.and_self, if_true]

theorem execRetainedKeyExpiry_of_old (populated : s.pop d = true) (sleeps : s.power d = .dormant)
    (old : s.retainedOld d = true) : execRetainedKeyExpiry d s = .next ((s.zeroiseDie d).showKeys.powerEval 7) :=
  if_pos (by simp [populated, sleeps, old])

/-! ### Records that arrive (R280 to R288, R302) -/

theorem execKxHello_of_arrived (arrives : s.kxArrives l = true) :
    execKxHello l c s = .next (if KxRec.headOk c && s.cipherOn then (s.kxEndRx .superseded).kxRespond c
      else s.kxDropped l) := by
  simp only [execKxHello, arrives, Bool.not_true, Bool.false_eq_true, if_false]
  cases KxRec.headOk c <;> cases s.cipherOn <;> rfl

theorem execKxConfirm_of_attempt (arrives : s.kxArrives l = true) (headOk : KxRec.headOk c = true)
    (runs : s.kx.rx = some a) (session : a.session = c.session) : execKxConfirm l c s = .next (s.kxInstallRx a c) := by
  simp [execKxConfirm, arrives, headOk, runs, session]

theorem execKxAck_of_attempt (arrives : s.kxArrives l = true) (headOk : KxRec.headOk c = true) (runs : s.kx.tx = some a)
    (session : a.session = c.session) (confirmed : a.confirm ≠ []) : execKxAck l c s = .next (s.kxInstallTx a c) := by
  simp [execKxAck, arrives, headOk, runs, session, confirmed]

theorem execKxAbort_of_tx (arrives : s.kxArrives l = true) (headOk : KxRec.headOk c = true) (runs : s.kx.tx = some a)
    (session : a.session = c.session) : execKxAbort l c s = .next (s.kxEndTx .peerAbort) := by
  simp [execKxAbort, arrives, headOk, runs, session]

theorem execKxAbort_of_rx (arrives : s.kxArrives l = true) (headOk : KxRec.headOk c = true) (idle : s.kx.tx = none)
    (runs : s.kx.rx = some a) (session : a.session = c.session) :
    execKxAbort l c s = .next (s.kxEndRx .peerAbort) := by
  simp [execKxAbort, arrives, headOk, idle, runs, session]

/-- A record out of order, or that meets no attempt, is dropped whatever it is. -/
theorem execKx_of_unmet (arrives : s.kxArrives l = true)
    (unmet : KxRec.headOk c = false ∨ s.kx.tx = none ∧ s.kx.rx = none) :
    execKxResponse l c s = .next (s.kxDropped l) ∧ execKxConfirm l c s = .next (s.kxDropped l) ∧
      execKxAck l c s = .next (s.kxDropped l) ∧ execKxAbort l c s = .next (s.kxDropped l) := by
  rcases unmet with headBad | ⟨noTx, noRx⟩
  · simp [execKxResponse, execKxConfirm, execKxAck, execKxAbort, arrives, headBad]
  · simp [execKxResponse, execKxConfirm, execKxAck, execKxAbort, arrives, noTx, noRx]

theorem execKxResyncReq_of_arrived (arrives : s.kxArrives l = true) (headOk : KxRec.headOk c = true)
    (on : s.cipherOn = true) :
    execKxResyncReq l c s = .next (match s.kx.actedAt with
      | some t => if t + secU 10 ≤ s.time.now then s.kxResync else s
      | none => s.kxResync) := by
  simp only [execKxResyncReq, arrives, headOk, on, State.past, Bool.not_true, Bool.or_self, Bool.false_eq_true, if_false,
    decide_eq_true_eq]
  cases s.kx.actedAt <;> rfl

/-! ### Times of agreement (R286, R292, R294) -/

theorem execKeyAgreeTimeout_of_tx (runs : s.kx.tx = some a) (late : a.start + secU 2 ≤ s.time.now) :
    execKeyAgreeTimeout true s = .next (s.kxEndTx .timeout) := by
  simp [execKeyAgreeTimeout, State.past, runs, late]

theorem execKeyAgreeTimeout_of_rx (runs : s.kx.rx = some a) (late : a.start + secU 2 ≤ s.time.now) :
    execKeyAgreeTimeout false s = .next (s.kxEndRx .timeout) := by
  simp [execKeyAgreeTimeout, State.past, runs, late]

theorem execKeyAgreeBackoffEnd_of_due {n : Nat} (waits : s.kx.due = some n) (due : n ≤ s.time.now) :
    execKeyAgreeBackoffEnd s = .next ((s.updKx fun x => { x with due := none }).kxStart) := by
  simp only [execKeyAgreeBackoffEnd, waits, due, if_true]

theorem execRxOldKeyZeroise_of_due {n since : Nat} {m : BitVec 8} (newer : s.kx.newer = some (n, since, m))
    (due : since + 4096 * s.frameU ≤ s.time.now) :
    execRxOldKeyZeroise l s = .next ((s.each allDies fun s d => s.updKeys d fun x => { x with rx := x.rx.take 1 }).updKx
      fun x => { x with newer := none }).showKeys := by
  simp only [execRxOldKeyZeroise, newer, State.past, due, decide_true, if_true]

theorem execRackChangeover_of_counted (populated : s.pop l = true) (announced : (s.ciph l).announced = true)
    (counted : (s.ciph l).cd = 1) (before : (s.ciph l).onNext = false) (next : (s.keys l).txNext.isSome = true) :
    execRackChangeover l s = .next ((s.freshEpoch l true).promote).showKeys :=
  congrArg Host.Outcome.next (if_pos (by simp [populated, announced, counted, before, next]))

/-! ### Self-checks of the pipelines (R275, R308) -/

theorem execCipherPipeCheck_of_due {tb rb : BitVec 4} (runs : s.ciphRuns l = true) (coherent : s.standard = false)
    (due : periodDue (s.ciph l).checkAt s.frameU s.time.now = true) :
    execCipherPipeCheck l tb rb s = .next (State.checkPipes (State.checkPipes (s.updCiph l fun c =>
      { c with checkAt := some (nextDue c.checkAt s.frameU s.time.now) }) l false tb) l true rb) :=
  if_neg (by simp [runs, coherent, due])

theorem State.checkPipes_of_spare {rx : Bool} {bad : BitVec 4} {q : Fin 4} (spare : s.sparePipe l rx = some q) :
    s.checkPipes l rx bad =
      s.each [0, 1, 2, 3] fun s p => if bad.getLsbD p.val && p != q then s.fencePipe l rx p else s := by
  simp only [State.checkPipes, spare]

/-- A slice is counted in the self-test block, not in the cipher's. -/
theorem State.sfC_countSlice {pass : Bool} : (s.countSlice l pass).flag l CIPH_FLAGS_SF_C = s.flag l CIPH_FLAGS_SF_C := by
  unfold State.flag State.countSlice State.incSat
  split <;> rw [State.rd_wr_of_other_place (by decide), State.rd_cnt]

/-- The slice of a pipeline that is neither retired nor fenced, in a direction without an SF-C trip. -/
theorem execCipherSliceDone_of_unfenced {rx pass : Bool} {p : Fin 4} (runs : s.ciphRuns l = true)
    (due : s.pipeSliceDue l rx p = true)
    (held : (if rx then (s.die l).units.rxPipes else (s.die l).units.txPipes).getLsbD p.val = false)
    (untripped : rx = true ∨ s.flag l CIPH_FLAGS_SF_C = false)
    (unfenced : (if rx then (s.ciph l).rxFenced else (s.ciph l).txFenced).getLsbD p.val = false) :
    execCipherSliceDone l rx p pass s = .next
      (let u := (s.updCiph l fun c => if rx then { c with rxSliceAt := c.rxSliceAt.set p.val (some s.time.now) }
         else { c with txSliceAt := c.txSliceAt.set p.val (some s.time.now) }).countSlice l pass
       if pass then u else u.fencePipe l rx p) := by
  have kept : ∀ g, ((s.updCiph l g).countSlice l pass).flag l CIPH_FLAGS_SF_C = s.flag l CIPH_FLAGS_SF_C :=
    fun g => State.sfC_countSlice
  have noTrip : (!rx && s.flag l CIPH_FLAGS_SF_C) = false := by
    rcases untripped with rfl | clear
    · rfl
    · rw [clear, Bool.and_false]
  simp only [execCipherSliceDone, runs, due, held, kept, noTrip, unfenced, Bool.not_true, Bool.not_false, Bool.or_self,
    Bool.false_and, Bool.false_eq_true, if_false, if_true]

end

/-- Settles O44: a request that runs is its body on the state it runs in, and a record or an event whose condition holds has
its effect; counting a slice leaves the flag of an SF-C trip as it was (`State.sfC_countSlice`). -/
theorem keysRun : Obligations.KeysRun := by
  refine ⟨?policySet, ?modeSet, ?pskSet, ?lifeSet, ?retainSet, ?zeroise, ?agreeStart, ?rack, ?sfClear, ?statusGet,
    ?expired, ?retained, ?hello, ?response, ?confirm, ?ack, ?abortTx, ?abortRx, ?unmet, ?resync, ?threshold, ?timeoutTx,
    ?timeoutRx, ?backoff, ?oldKey, ?changeover, ?pipeCheck, ?checkPipes, ?slice⟩
  case policySet => exact fun s t r x p runs => congrArg Host.Outcome.next (runs.run_eq rfl _)
  case modeSet => exact fun s t r x m runs => congrArg Host.Outcome.next (runs.run_eq rfl _)
  case pskSet => exact fun s t r x psk runs => congrArg Host.Outcome.next (runs.run_eq rfl _)
  case lifeSet => exact fun s t r x fl tl runs => congrArg Host.Outcome.next (runs.run_eq rfl _)
  case retainSet => exact fun s t r x en runs => congrArg Host.Outcome.next (runs.run_eq rfl _)
  case zeroise => exact fun s t r x psk runs => congrArg Host.Outcome.next (runs.run_eq rfl _)
  case agreeStart => exact fun s t r x runs => congrArg Host.Outcome.next (runs.run_eq rfl _)
  case rack => exact fun s t r x runs => congrArg Host.Outcome.next (runs.run_eq rfl _)
  case sfClear =>
    exact fun s t r x l runs die on => congrArg Host.Outcome.next (runs.run_eq (applyCipherSfClear_of_on die on) _)
  case statusGet => exact fun s t r x lanes runs => congrArg Host.Outcome.next (runs.run_eq rfl _)
  case expired => exact fun s k => execKeyExpired_of_spent
  case retained => exact fun s d => execRetainedKeyExpiry_of_old
  case hello => exact fun s l c => execKxHello_of_arrived
  case response => exact fun s l c a => execKxResponse_of_attempt
  case confirm => exact fun s l c a => execKxConfirm_of_attempt
  case ack => exact fun s l c a => execKxAck_of_attempt
  case abortTx => exact fun s l c a => execKxAbort_of_tx
  case abortRx => exact fun s l c a => execKxAbort_of_rx
  case unmet => exact fun s l c => execKx_of_unmet
  case resync => exact fun s l c => execKxResyncReq_of_arrived
  case threshold => exact fun s => rfl
  case timeoutTx => exact fun s a => execKeyAgreeTimeout_of_tx
  case timeoutRx => exact fun s a => execKeyAgreeTimeout_of_rx
  case backoff => exact fun s n => execKeyAgreeBackoffEnd_of_due
  case oldKey => exact fun s l n since m => execRxOldKeyZeroise_of_due (l := l)
  case changeover => exact fun s l => execRackChangeover_of_counted
  case pipeCheck => exact fun s l tb rb => execCipherPipeCheck_of_due
  case checkPipes => exact fun s l rx bad q => State.checkPipes_of_spare
  case slice => exact fun s l rx p pass => execCipherSliceDone_of_unfenced

end Sys2Proof.Machine

/-! The limited changes, the audit ring's reads and the firmware: the proof of the statement on them, whose commands are those
of spec/11_command_reference.md and whose rules those of spec/18_settings_lifecycle_and_startup.md. -/

namespace Sys2Proof.Machine

section

variable {s t : State} {r : Req} {x : Session} {d e : Die}

/-! ### Limited changes (R413, R611 to R613) -/

theorem applyLaserCeilingSet_of_left {cs : List (Nat × Nat)} (left : ∀ c ∈ cs, ∀ d ∈ oneDie c.1, t.ceilingLeft d ≠ 0) :
    applyLaserCeilingSet cs r x t = .ok (t.updFuses fun f => { f with
      ceilings := (cs.flatMap fun c => (oneDie c.1).map fun d => (d, c.2)).foldl (fun v c =>
        v.set c.1.val (v.get c.1 ++ [c.2]) c.1.isLt) f.ceilings }) := by
  refine if_neg fun spent => ?_
  obtain ⟨⟨d, v⟩, named, none_left⟩ := List.any_eq_true.mp spent
  obtain ⟨c, mem, of_c⟩ := List.mem_flatMap.mp named
  obtain ⟨d', lane, same⟩ := List.mem_map.mp of_c
  obtain ⟨rfl, -⟩ := Prod.mk.inj same
  exact left c mem d' lane (eq_of_beq none_left)

theorem applyNodeIdentitySet_of_unset (unset : t.nv.fuses.identity = none) (left : t.spent .identity = false) :
    applyNodeIdentitySet r x t = .okWith
      (t.updFuses fun f => { f with identity := some (Config.sha384 t.nv.identityPub) }) [⟨0x01C2, t.nv.identityPub⟩] :=
  if_neg (by simp [unset, left])

theorem applyOwnerKeySet_of_empty {key : Bytes} (empty : t.nv.fuses.ownerKey = none) (left : t.spent .ownerKey = false) :
    applyOwnerKeySet key r x t = .okWith (t.updFuses fun f => { f with ownerKey := some key })
      [tlvSlot t.nv.fuses.ownerSlot] :=
  if_neg (by simp [empty, left])

theorem applyOwnerKeyRevoke_of_left (left : t.slotsUsed < 3) :
    applyOwnerKeyRevoke r x t = .okWith (t.updFuses fun f => { f with
      ownerSlot := t.nv.fuses.ownerSlot + 1
      ownerKey := none
      spent := f.spent.filter fun c => c != .ownerKey }) [tlvSlot (t.nv.fuses.ownerSlot + 1)] :=
  if_neg (Nat.not_le.mpr left)

theorem applyLifecycleAdvance_of_next {target : Lifecycle} (advancing : t.nv.fuses.lifecycle ≠ 3)
    (next : Lifecycle.code target = t.nv.fuses.lifecycle + 1) (met : t.mayAdvance (Lifecycle.code target) = true)
    (left : t.spent .lifecycle = false) (idle : Lifecycle.code target = 3 → t.storeBusy = false) :
    applyLifecycleAdvance target r x t =
      .ok (let u := t.updFuses fun f => { f with lifecycle := Lifecycle.code target }
           match Lifecycle.code target with
           | 2 => u.enterDeployed
           | 3 => u.enterRetired
           | _ => u) := by
  have free : ¬(decide (Lifecycle.code target = 3) && t.storeBusy) = true := by simpa using idle
  refine (if_neg advancing).trans <| (if_neg (not_not.mpr next)).trans <| (if_neg (by simp [left])).trans <|
    (if_neg (by simp [met])).trans <| (if_neg free).trans ?_
  rfl

theorem applyCleartextWithdraw_of_permitted (permitted : t.nv.fuses.permit = true) (left : t.spent .permit = false) :
    applyCleartextWithdraw r x t = .ok ((t.updFuses fun f => { f with permit := false }).setPolicyCode .gcmRequired) :=
  if_neg (by simp [permitted, left])

/-! ### Firmware (R619, R620) -/

theorem applyFwLoad_of_idle {image : Bytes} (idle : t.nv.loading = none) (noTrial : t.nv.trial = none) :
    applyFwLoad image r x t = match fwCheck t image with
      | some st => .fail st t
      | none => .pending .fwLoad { t with nv := { t.nv with loading := some (fwBankOf image) } } := by
  refine (if_neg (by simp [idle, noTrial])).trans ?_
  cases fwCheck t image <;> rfl

theorem execFwLoadDone_of_loading {b : FwBank} (loading : s.nv.loading = some b) :
    execFwLoadDone s = .next
      ((State.syncFw { s with nv := { s.nv with standby := b, loading := none } }).finishPend .fwLoad .ok []) := by
  simp only [execFwLoadDone, loading]

theorem applyFwActivate_of_valid {l : List Die} (idle : t.nv.loading = none) (noTrial : t.nv.trial = none)
    (valid : t.nv.standby.valid = true) (left : t.nv.standby.secver - t.nv.fuses.secver ≤ t.secverLeft)
    (first : t.trialLeft ⟨[], t.leader, t.time.now, none⟩ = d :: l) :
    applyFwActivate r x t = .pending .fwActivate (t.trialRestart ⟨[], t.leader, t.time.now, none⟩ d).syncFw := by
  refine (if_neg (by simp [idle, noTrial])).trans <| (if_neg (by simp [valid])).trans <|
    (if_neg (Nat.not_lt.mpr left)).trans ?_
  simp only [first]

/-! The trial (R620) -/

theorem execFwDieRejoin_of_noTrial {ok : Bool} (noTrial : s.nv.trial = none) : execFwDieRejoin d ok s = .next s := by
  simp only [execFwDieRejoin, noTrial]

theorem execFwRejoinTimeout_of_noTrial (noTrial : s.nv.trial = none) : execFwRejoinTimeout d s = .next s := by
  simp only [execFwRejoinTimeout, noTrial]

section

variable {k : FwTrial} (trial : s.nv.trial = some k) (restarts : k.restarting = d) (waits : d ∉ k.moved)

include trial restarts waits

theorem execFwDieRejoin_of_wrong : execFwDieRejoin d false s = .next (s.trialRevert k) := by
  simp [execFwDieRejoin, trial, restarts, waits]

/-- A die that rejoins in time with its digest right is moved. -/
theorem execFwDieRejoin_of_right (inTime : s.past k.since (secU 1) = false) :
    execFwDieRejoin d true s =
      (let k := { k with moved := k.moved ++ [d] }
       let u : State := { s with nv := { s.nv with trial := some k } }
       match s.trialLeft k with
       | e :: _ => .next (u.trialRestart k e)
       | [] => .next (if s.leader ∈ k.moved ∨ k.oldLeader.isSome then u.trialDone
           else u.sbPush u.leader 1 2 (.elect true (u.fwValid u.leader)))) := by
  have moves : ¬(k.restarting ≠ d ∨ k.moved.contains d) := by simp [restarts, waits]
  simp only [execFwDieRejoin, trial, if_neg moves, inTime, Bool.not_true, Bool.or_self, Bool.false_eq_true, if_false]
  have kept : State.trialLeft { s with nv := { s.nv with trial := some { k with moved := k.moved ++ [d] } } }
      { k with moved := k.moved ++ [d] } = s.trialLeft { k with moved := k.moved ++ [d] } := rfl
  rw [kept]
  cases s.trialLeft { k with moved := k.moved ++ [d] } with
  | cons e l => rfl
  | nil =>
    simp only [Bool.or_eq_true, List.contains_iff_mem, apply_ite (Host.Outcome.next (φ := Fault) (ρ := Refusal))]
    rfl

theorem execFwRejoinTimeout_of_late (late : k.since + secU 1 ≤ s.time.now) :
    execFwRejoinTimeout d s = .next (s.trialRevert k) := by
  simp [execFwRejoinTimeout, State.past, trial, restarts, waits, late]

end

/-! ### Chunks of an image (R365, R366) -/

/-- A request that is the queue's first and passes checks 1 and 2 goes on to its own. -/
theorem Slostan.receive_of_fresh {code : Nat} {k : Session → State → State} (turn : s.turn r = true) (opened : s.open? = true)
    (session : ((s.dequeue r).expireDue).session? r.channel = some x)
    (fits : ((s.dequeue r).expireDue).fits x r.src r.medium = true) (good : r.form = .good)
    (fresh : seqVerdict x r.seq = .fresh) :
    Slostan.receive r code k s = k x (((s.dequeue r).expireDue).updSession r.channel fun y => { y with
      seqLast := some r.seq, lastAt := ((s.dequeue r).expireDue).time.now, medium := r.medium, mac := r.mac,
      vlan := r.vlan }) := by
  have opened' : (s.dequeue r).open? = true := opened
  simp only [Slostan.receive, State.atHead, turn, if_true, Slostan.take, opened', session, fits, good, fresh, Bool.not_true,
    Bool.false_eq_true, if_false]

/-- A chunk that goes on where the transfer stands, in time, and is not the last is stored (R365). -/
theorem chunkStep_of_inOrder {total offset now : Nat} {data : Bytes} {crc : Option (BitVec 32)}
    (running : t.phase ≠ .shuttingDown) (clock : t.time.now = now) (good : r.form = .good)
    (outside : x.txn = none) (untested : t.testBusy infoFwLoad = false) (small : total ≤ 4194304)
    (same : ∀ c, x.chunk = some c → c.opcode = 0x0A08 ∧ c.total = total ∧ now < c.lastAt + secU 5)
    (next : offset = ((x.chunk.map ChunkXfer.data).getD []).length) (more : offset + data.length < total) :
    chunkStep r 0x0A08 offset total data crc x t =
      (t.setChunk r.channel (some ⟨0x0A08, total, (x.chunk.map ChunkXfer.data).getD [] ++ data, now⟩)).replyCached r
        0x0A08 [tlvStatus .ok] := by
  have defined : 0x0A08 ∈ definedOps := by decide
  have recovers : 0x0A08 ∈ recoveryOps := by decide
  have ready : (decide (t.phase = .shuttingDown) || t.testBusy infoFwLoad) = false := by simp [running, untested]
  have fits : ¬4 * 1024 * 1024 < total := Nat.not_lt.mpr small
  have within : ¬total < offset + data.length := Nat.not_lt.mpr more.le
  subst next clock
  cases transfer : x.chunk with
  | none =>
    simp only [transfer, Option.map_none, Option.getD_none, List.length_nil, Nat.zero_add] at within more
    simp [chunkStep, defined, recovers, good, outside, ready, fits, within, more, transfer]
  | some c =>
    obtain ⟨opcode, size, inTime⟩ := same c transfer
    simp only [transfer, Option.map_some, Option.getD_some] at within more
    simp [chunkStep, State.past, defined, recovers, good, outside, ready, fits, within, more, transfer, opcode, size, inTime]

end

/-- Settles O23: a request that runs is its body on the state it runs in, and an event whose condition holds has its effect;
what ends before a chunk is taken leaves the time and the phase (`Conveyed.expireDue`). -/
theorem lifecycleAndFirmwareRun : Obligations.LifecycleAndFirmwareRun := by
  refine ⟨?ceiling, ?identity, ?ownerKey, ?revoke, ?advance, ?withdraw, ?ownerCert, ?auditRead, ?limits, ?load, ?loadDone,
    ?chunk, ?activate, ?wrong, ?next, ?late, ?last, ?noTrial⟩
  case ceiling =>
    exact fun s t r x cs runs left => congrArg Host.Outcome.next (runs.run_eq (applyLaserCeilingSet_of_left left) _)
  case identity =>
    exact fun s t r x runs unset left =>
      congrArg Host.Outcome.next (runs.run_eq (applyNodeIdentitySet_of_unset unset left) _)
  case ownerKey =>
    exact fun s t r x key runs empty left =>
      congrArg Host.Outcome.next (runs.run_eq (applyOwnerKeySet_of_empty empty left) _)
  case revoke =>
    exact fun s t r x runs left => congrArg Host.Outcome.next (runs.run_eq (applyOwnerKeyRevoke_of_left left) _)
  case advance =>
    exact fun s t r x target runs advancing next met left idle =>
      congrArg (fun u : State => Host.Outcome.next u.doRestarts)
        (runs.run_eq (applyLifecycleAdvance_of_next advancing next met left idle) _)
  case withdraw =>
    exact fun s t r x runs permitted left =>
      congrArg Host.Outcome.next (runs.run_eq (applyCleartextWithdraw_of_permitted permitted left) _)
  case ownerCert => exact fun s t r x cert runs => congrArg Host.Outcome.next (runs.run_eq rfl _)
  case auditRead => exact fun s t r x first count runs => congrArg Host.Outcome.next (runs.run_eq rfl _)
  case limits => exact fun s t r x runs => congrArg Host.Outcome.next (runs.run_eq rfl _)
  case load =>
    exact fun s t r x image runs idle noTrial =>
      congrArg Host.Outcome.next (runs.run_eq (applyFwLoad_of_idle idle noTrial) _)
  case loadDone => exact fun s b => execFwLoadDone_of_loading
  case chunk =>
    intro s r x offset total data crc turn opened running session fits good fresh outside untested small inOrder more
    have conveyed : Conveyed (s.dequeue r) (s.dequeue r).expireDue := (Conveyed.refl _).expireDue
    refine congrArg Host.Outcome.next ((Slostan.receive_of_fresh turn opened session fits good fresh).trans
      (chunkStep_of_inOrder ?running ?clock good outside ?untested small ?same ?place more))
    case running => exact fun ends => running (conveyed.phase.symm.trans ends)
    case clock => exact congrArg TimeState.now conveyed.time
    case untested => exact untested
    case same =>
      intro c transfer
      rw [transfer] at inOrder
      obtain ⟨opcode, size, -, inTime⟩ := inOrder
      exact ⟨opcode, size, inTime⟩
    case place =>
      cases transfer : x.chunk with
      | none =>
        rw [transfer] at inOrder
        exact inOrder
      | some c =>
        rw [transfer] at inOrder
        obtain ⟨-, -, next, -⟩ := inOrder
        exact next
  case activate =>
    exact fun s t r x d l runs idle noTrial valid left first =>
      congrArg Host.Outcome.next (runs.run_eq (applyFwActivate_of_valid idle noTrial valid left first) _)
  case wrong => exact fun s d k => execFwDieRejoin_of_wrong
  case next =>
    intro s d e k l trial restarts waits inTime first
    refine (execFwDieRejoin_of_right trial restarts waits inTime).trans ?_
    simp only [first]
  case late => exact fun s d k => execFwRejoinTimeout_of_late
  case last =>
    intro s d k trial restarts waits inTime none_left
    refine (execFwDieRejoin_of_right trial restarts waits inTime).trans ?_
    simp only [none_left]
  case noTrial =>
    exact fun s d b noTrial => ⟨execFwDieRejoin_of_noTrial noTrial, execFwRejoinTimeout_of_noTrial noTrial⟩

end Sys2Proof.Machine

/-! Steps and sessions: what a step runs and that it completes, and what the requests of a session and its end do when their
conditions hold: the proofs of the statements of spec/10_slostan_protocol.md on them. -/

namespace Sys2Proof.Machine

/-- Settles O1: the front of the queue decides which branch of `step` is taken. -/
theorem stepRunsTheFront : Obligations.StepRunsTheFront := by
  intro s c rest waits
  simp only [step, waits]

/-- Settles O7: every arm keeps `Good`, which carries the queue along. -/
theorem execLeavesTheQueue : Obligations.ExecLeavesTheQueue :=
  fun c _ t sound ran => (exec_good (Good.refl sound) c t ran).flat.pending

/-! ### Every command completes (R362) -/

/-- A command or step answers a next state. -/
def Completes (o : Host.Outcome State Fault Refusal) : Prop := ∃ t, o = .next t

theorem Completes.next {t : State} : Completes (.next t) := ⟨t, rfl⟩

theorem Completes.ite {c : Prop} [Decidable c] {a b : Host.Outcome State Fault Refusal} (ha : Completes a)
    (hb : Completes b) : Completes (if c then a else b) := by
  split <;> assumption

/-- Each arm of the dispatch ends in a next state on every branch of its conditions. -/
theorem exec_completes (c : Instr) (s : State) : Completes (exec c s) := by
  cases c with
  | jeuriHello | helloInterval | triggerHoldoffEnd | routesRefresh | retainedKeyExpiry | txHoldEnd | maskMeasurement
  | firSuggestion | losDeclare | losClear | gainSettled | freqFound | blindEqConverged | interleaverGroupQueue
  | treeChange | cipherPipeCheck | hostPairOffset | mbMutualFull | heartbeat | heartbeatTimeout | elect | d2dLinkDown
  | d2dRetrain | d2dLinkUp | telemetryBoundary | slowClockCalibrated | crystalFail | refclkLost | refclkReturn
  | pllLock | dieStateEntryDone | wakeDone | wakeCmpTrip | comparatorTest | safeMonFault | lockstepMismatch
  | supplyFault | memScrub | selftestOverdue | dacUpdate | madcTimer | mgmtTrainFail | mgmtLinkDown
  | powerOnResetRelease | pllLockLost | wakeCmpRearm | patternCheckerSync =>
    exact .ite .next .next
  | jeuriData | kxHello | frameTransmit | madcTriggerDelayEnd =>
    exact .ite .next (.ite .next .next)
  | slostanRequestArrival | kxAbort | adcSpareHandover | mailboxPost | dacShort | startUp =>
    exact .ite .next (.ite .next (.ite .next .next))
  | ldisStuck =>
    exact .ite .next (.ite (.ite .next .next) .next)
  | engineSliceDone =>
    exact .ite .next (.ite (.ite .next .next) (.ite .next .next))
  | mgmtFrameReceive =>
    exact .ite .next (.ite .next (.ite .next (.ite .next (.ite .next (.ite .next .next)))))
  | cipherSliceDone =>
    exact .ite .next (.ite .next (.ite (.ite .next .next) (.ite .next (.ite .next (.ite .next .next)))))
  | secureFinish =>
    dsimp only [exec, execSecureFinish]
    refine .ite (.ite .next (.ite .next ?_)) .next
    split <;> exact .next
  | stagedCommand | dacRangeSwitch | dacParkEnd | captureDone | safetyEventResend | jeuriRoutes | neighbourDead
  | keyAgreeTimeout | keyAgreeBackoffEnd | rxOldKeyZeroise | captureStepForget | acqTimeout | fadeEnd
  | refclkHoldoverEnd =>
    dsimp only [exec, execStagedCommand, execDacRangeSwitch, execDacParkEnd, execCaptureDone, execSafetyEventResend,
      execJeuriRoutes, execNeighbourDead, execKeyAgreeTimeout, execKeyAgreeBackoffEnd, execRxOldKeyZeroise,
      execCaptureStepForget, execAcqTimeout, execFadeEnd, execRefclkHoldoverEnd]
    split
    exacts [.ite .next .next, .next]
  | fwLoadDone | fwRejoinTimeout | sessionIdleTimeout | leaseExpiry | mbAck | heartbeatReceive | sbDeadlineMissed
  | sbStarvation | madcCalibrationDone =>
    dsimp only [exec, execFwLoadDone, execFwRejoinTimeout, execSessionIdleTimeout, execLeaseExpiry, execMbAck,
      execHeartbeatReceive, execSbDeadlineMissed, execSbStarvation, execMadcCalibrationDone]
    split <;> exact .next
  | fwDieRejoin =>
    dsimp only [exec, execFwDieRejoin]
    split
    · exact .next
    · refine .ite .next (.ite .next ?_)
      split
      exacts [.next, .ite .next .next]
  | chunkTransferTimeout | portDownClaimRelease =>
    dsimp only [exec, execChunkTransferTimeout, execPortDownClaimRelease]
    split
    · split <;> exact .next
    · exact .next
  | secureHelloTimeout | deskewSlewStep | erasureNotice | hostCodewordReceive | hostLaneLoss | hostLaneRecover | sbRsp
  | sbReqResend | latch | snapshotComplete | vintageRestoreDone =>
    dsimp only [exec, execSecureHelloTimeout, execDeskewSlewStep, execErasureNotice, execHostCodewordReceive,
      execHostLaneLoss, execHostLaneRecover, execSbRsp, execSbReqResend, execLatch, execSnapshotComplete,
      execVintageRestoreDone]
    split
    exacts [.next, .ite .next .next]
  | kxResponse | kxConfirm | kxAck | markerCandidate | selftestDone =>
    dsimp only [exec, execKxResponse, execKxConfirm, execKxAck, execMarkerCandidate, execSelftestDone]
    refine .ite .next ?_
    split
    exacts [.ite .next .next, .next]
  | kxResyncReq | toppingWindowEnd | d2dTransferReceive =>
    dsimp only [exec, execKxResyncReq, execToppingWindowEnd, execD2dTransferReceive]
    refine .ite .next (.ite .next ?_)
    split <;> exact .next
  | captureStep | thermalConversion | safetyConversion | markerConfirmation =>
    dsimp only [exec, execCaptureStep, execThermalConversion, execSafetyConversion, execMarkerConfirmation]
    refine .ite .next ?_
    split <;> exact .next
  | frameLock =>
    dsimp only [exec, execFrameLock]
    refine .ite .next (.ite .next ?_)
    split
    exacts [.ite .next .next, .next]
  | markerCheck =>
    dsimp only [exec, execMarkerCheck]
    refine .ite .next (.ite .next (.ite .next ?_))
    split
    exacts [.next, .ite .next .next]
  | fastReacqTryEnd | fadeStart =>
    dsimp only [exec, execFastReacqTryEnd, execFadeStart]
    split
    exacts [.ite .next (.ite .next .next), .next]
  | pathMemoryRefresh =>
    dsimp only [exec, execPathMemoryRefresh]
    refine .ite .next (.ite ?_ ?_)
    · split <;> exact .next
    · split <;> exact .next
  | frameReceiveOverhead =>
    dsimp only [exec, execFrameReceiveOverhead]
    refine .ite .next ?_
    split
    exacts [.next, .ite .next .next]
  | decodeDone =>
    dsimp only [exec, execDecodeDone]
    refine .ite .next ?_
    split
    exacts [.ite .next (.ite .next (.ite .next .next)), .next]
  | frameRelease | electionWindowClose =>
    dsimp only [exec, execFrameRelease, execElectionWindowClose]
    split
    exacts [.next, .ite .next (.ite .next .next)]
  | deskewAlignRetry =>
    dsimp only [exec, execDeskewAlignRetry]
    split
    · exact .next
    · split
      exacts [.ite .next .next, .next]
  | sbReq =>
    dsimp only [exec, execSbReq]
    split
    · exact .next
    · split <;> exact .next
  | madcConversionDone =>
    dsimp only [exec, execMadcConversionDone]
    refine .ite ?_ .next
    split <;> exact .next
  | hostTxBlockDue =>
    dsimp only [exec, execHostTxBlockDue]
    split
    exacts [.next, .ite .next (.ite .next (.ite .next (.ite .next (.ite .next .next))))]
  | _ => exact .next

/-- Settles O3: a tick is a next state, and a command completes (`exec_completes`). -/
theorem everyStepCompletes : Obligations.EveryStepCompletes := by
  intro s
  unfold step
  split
  · exact Completes.next
  · exact exec_completes _ _

section

variable {s t : State} {r : Req} {x : Session} {cs : List ClaimId} {lease : Option Nat}

/-! ### Session requests (R355, R373, R376, R395, R399) -/

theorem applySlostanCfgSet_of_allowed {e : Option (BitVec 16)} {idle : Option Nat} {pm : Option Privilege}
    (allowed : ¬(t.nv.fuses.lifecycle = 2 ∧ pm = some .expert)) :
    applySlostanCfgSet e idle pm r x t = .ok { t with sl := { t.sl with
      etherNext := if e.isSome then e else t.sl.etherNext, idle := idle.getD t.sl.idle,
      plainMax := pm.getD t.sl.plainMax } } :=
  if_neg (by simpa using allowed)

theorem applyBegin_of_claims {m : TxnMode} (claims : x.claims ≠ []) (noTxn : x.txn = none) :
    applyBegin m r x t = .ok (t.updSession r.channel fun y => { y with txn := some ⟨m, [], none⟩, txnLost := false }) :=
  if_neg (by simp [claims, noTxn])

theorem applyAbort_of_open {k : Txn} (txn : x.txn = some k) : applyAbort r x t = .ok (t.rollback x) :=
  if_pos (by simp [txn])

/-! ### Claims (R371) -/

/-- Whether claims keep to R371's order after those that a session holds. -/
def ClaimsInOrder (x : Session) (cs : List ClaimId) : Prop :=
  claimsRise cs = true ∧ ∀ c ∈ cs, ∀ h ∈ x.claims, claimLt h c = true

theorem not_claimsInOrder_iff :
    ¬ClaimsInOrder x cs ↔ claimsRise cs = false ∨ ∃ c ∈ cs, ∃ h ∈ x.claims, claimLt h c = false := by
  simp only [ClaimsInOrder, not_and_or, Bool.not_eq_true, not_forall, exists_prop]

/-- The first test of CLAIM is whether the claims break that order. -/
theorem claimBreach_iff :
    (!claimsRise cs || cs.any fun c => x.claims.any fun h => !claimLt h c) = true ↔ ¬ClaimsInOrder x cs := by
  simp only [not_claimsInOrder_iff, Bool.or_eq_true, Bool.not_eq_true', List.any_eq_true]

theorem State.heldByOther_iff {ch : BitVec 8} {c : ClaimId} :
    t.heldByOther ch c = true ↔ ∃ y ∈ t.sl.sessions, y.channel ≠ ch ∧ c ∈ y.claims := by
  simp [State.heldByOther]

theorem applyClaim_of_breach (breach : ¬ClaimsInOrder x cs) : applyClaim cs lease r x t = .fail .orderViolation t :=
  if_pos (claimBreach_iff.mpr breach)

theorem applyClaim_of_held (inOrder : ClaimsInOrder x cs) (held : ∃ c ∈ cs, t.heldByOther r.channel c = true) :
    applyClaim cs lease r x t = .fail .ownedByOther t :=
  (if_neg fun breach => claimBreach_iff.mp breach inOrder).trans (if_pos (List.any_eq_true.mpr held))

theorem applyClaim_of_unheld (inOrder : ClaimsInOrder x cs) (unheld : ∀ c ∈ cs, t.heldByOther r.channel c = false) :
    applyClaim cs lease r x t = .ok (t.updSession r.channel fun y => { y with
      claims := y.claims ++ cs, leaseMs := lease.getD x.leaseMs
      leaseUntil := t.time.now + msU (lease.getD x.leaseMs) }) :=
  (if_neg fun breach => claimBreach_iff.mp breach inOrder).trans (if_neg (by simpa using unheld))

/-- A RELEASE that names claims gives up those it names. -/
theorem applyRelease_of_named (named : cs ≠ []) : applyRelease cs r x t =
    .ok (t.updSession r.channel fun y => { y with claims := y.claims.filter fun c => !cs.contains c }) := by
  simp only [applyRelease, List.isEmpty_eq_false_iff.mpr named, Bool.false_eq_true, if_false]

end

/-- Settles O9: a request that runs is its body on the state it runs in. -/
theorem sessionRequestsRun : Obligations.SessionRequestsRun := by
  refine ⟨?ping, ?close, ?cfgSet, ?claim, ?release, ?renew, ?begin, ?abort⟩
  case ping =>
    exact fun s t r x echo channel runs => congrArg Host.Outcome.next ((if_neg channel).trans (runs.run_eq rfl _))
  case close =>
    exact fun s t r x runs => congrArg (fun u : State => (.next ((u.sl.sessions.filter Session.closing).foldl
      (fun (u : State) (y : Session) => u.endSession y.channel) u) : Host.Outcome State Fault Refusal))
      (runs.run_eq rfl _)
  case cfgSet =>
    exact fun s t r x e idle pm runs allowed =>
      congrArg Host.Outcome.next (runs.run_eq (applySlostanCfgSet_of_allowed allowed) _)
  case claim =>
    exact fun s t r x cs lease runs rise above unheld =>
      congrArg Host.Outcome.next (runs.run_eq (applyClaim_of_unheld ⟨rise, above⟩ unheld) _)
  case release => exact fun s t r x cs runs => congrArg Host.Outcome.next (runs.run_eq rfl _)
  case renew => exact fun s t r x runs => congrArg Host.Outcome.next (runs.run_eq rfl _)
  case begin =>
    exact fun s t r x m runs claims noTxn =>
      congrArg Host.Outcome.next (runs.run_eq (applyBegin_of_claims claims noTxn) _)
  case abort =>
    exact fun s t r x k runs txn => congrArg Host.Outcome.next (runs.run_eq (applyAbort_of_open txn) _)

/-- Settles O55: the tests of CLAIM in their order, order before ownership, leave one outcome each; each names the session's
change or none. -/
theorem claimOrder : Obligations.ClaimOrder := by
  refine ⟨?claim, ?release⟩
  case claim =>
    intro s t r x cs lease runs
    refine ⟨_, congrArg Host.Outcome.next (runs.run_eq rfl _), ?taken, ?breach, ?held⟩
    case taken =>
      rintro ⟨rise, above, unheld⟩
      rw [applyClaim_of_unheld ⟨rise, above⟩ unheld]
      exact ⟨rfl, rfl⟩
    case breach =>
      intro breach
      rw [applyClaim_of_breach (not_claimsInOrder_iff.mpr breach)]
      exact ⟨rfl, rfl⟩
    case held =>
      rintro ⟨rise, above, c, named, held⟩
      rw [applyClaim_of_held ⟨rise, above⟩ ⟨c, named, State.heldByOther_iff.mpr held⟩]
      exact ⟨rfl, rfl⟩
  case release =>
    exact fun s t r x cs runs named =>
      ⟨_, congrArg Host.Outcome.next (runs.run_eq (applyRelease_of_named named) _), rfl, rfl⟩

end Sys2Proof.Machine

/-! The interpreter's own state: what packets, events and audit records leave of it, and what the end of a session takes: the
proof of the statement of spec/10_slostan_protocol.md on it. -/

namespace Sys2Proof.Machine

/-! ### What a packet leaves -/

/-- What sending a packet leaves of a state: the interpreter's own state, and what is kept without power. -/
structure Carried (s t : State) : Prop where
  sl : t.sl = s.sl
  nv : t.nv = s.nv

namespace Carried

section

variable {s t u : State} {d : Die}

theorem refl (s : State) : Carried s s := ⟨rfl, rfl⟩

theorem congr (h : Carried s t) (sl : u.sl = t.sl) (nv : u.nv = t.nv) : Carried s u := ⟨sl.trans h.sl, nv.trans h.nv⟩

theorem cnt {i : Nat} (h : Carried s t) : Carried s (t.cnt d i) := by
  unfold State.cnt State.cntN
  split
  · exact h.congr rfl rfl
  · exact h

theorem sendEth {p : MPort} {dst : BitVec 48} {vlan : Option (BitVec 16)} {b : Bytes} (h : Carried s t) :
    Carried s (t.sendEth p dst vlan b) := by
  unfold State.sendEth
  split
  · exact (h.cnt (d := MPort.die p) (i := 145)).congr rfl rfl
  · exact h

theorem inbPush {m : Bytes} (h : Carried s t) : Carried s (t.inbPush d m) := h.congr rfl rfl

theorem sendLane {m : Bytes} (h : Carried s t) : Carried s (t.sendLane d m) := by
  unfold State.sendLane State.sendLink
  split
  · split
    · exact h.inbPush
    · exact h.cnt
  · split
    · exact h.inbPush
    · exact h.cnt

theorem sendVia {node hops : Nat} {hop : Hop} {vlan : Option (BitVec 16)} {b : Bytes} (h : Carried s t) :
    Carried s (t.sendVia node hop hops vlan b) := by
  unfold State.sendVia State.sendPort
  cases hop with
  | portA | portB => dsimp only; split <;> exact h.sendEth
  | link => exact h.sendLane
  | loc => exact h

theorem sendBy {m : Medium} {mac : BitVec 48} {vlan : Option (BitVec 16)} {b : Bytes} (h : Carried s t) :
    Carried s (t.sendBy m mac vlan b) := by
  cases m with
  | inband => exact h.sendLane
  | portA | portB => exact h.sendEth

end

end Carried

theorem State.sendOwn_carried (s : State) (dest : BitVec 16) (m : Medium) (mac : BitVec 48) (vlan : Option (BitVec 16))
    (b : Bytes) : Carried s (s.sendOwn dest m mac vlan b) := by
  unfold State.sendOwn
  split
  · split
    · exact (Carried.refl s).sendBy
    · exact (Carried.refl s).sendVia
  · exact (Carried.refl s).sendBy

/-! ### Channels with a session -/

/-- The channels that sessions hold, in the order of their sessions. -/
def State.channels (s : State) : List (BitVec 8) := s.sl.sessions.map Session.channel

section

variable {s t u : State} {ch c : BitVec 8} {x : Session}

theorem State.isSome_session?_iff : (s.session? ch).isSome = true ↔ ch ∈ s.channels := by
  simp [State.session?, State.channels]

@[simp] theorem State.channels_updSession {g : Session → Session} (kept : ∀ y, (g y).channel = y.channel) :
    (s.updSession ch g).channels = s.channels := by
  simp only [State.channels, State.updSession, List.map_map]
  refine List.map_congr_left fun y _ => ?_
  simp only [Function.comp_apply]
  split
  · exact kept y
  · rfl

@[simp] theorem State.channels_takeNonce : (s.takeNonce ch).2.channels = s.channels := by
  unfold State.takeNonce
  split
  · split
    · exact State.channels_updSession fun _ => rfl
    · rfl
  · rfl

theorem State.channels_congr (same : t.sl.sessions = s.sl.sessions) : t.channels = s.channels :=
  congrArg (List.map Session.channel) same

@[simp] theorem State.channels_sendEvent {seq : BitVec 16} {recs : List EvRec} {n : Nat} :
    (s.sendEvent x seq recs n).channels = s.channels := by
  unfold State.sendEvent
  refine (State.channels_congr (congrArg SlState.sessions (State.sendOwn_carried _ _ _ _ _ _).sl)).trans ?_
  exact State.channels_takeNonce

@[simp] theorem State.channels_sendEvents {v : Subscriber} : (s.sendEvents v x).channels = s.channels := by
  unfold State.sendEvents
  split
  · rfl
  · exact State.channels_sendEvent

@[simp] theorem State.channels_flushSub {n : Nat} : (State.flushSub n s ch).channels = s.channels := by
  induction n generalizing s with
  | zero => rfl
  | succ n ih =>
    unfold State.flushSub
    split
    · split
      · rfl
      · exact ih.trans State.channels_sendEvents
    · rfl

@[simp] theorem State.channels_flushAll : s.flushAll.channels = s.channels :=
  State.each_keeps (Q := fun u => u.channels = s.channels) (fun _ _ _ same => State.channels_flushSub.trans same) rfl

/-! ### Audit records (R376, R616) -/

/-- Audit records leave the interpreter's own state. -/
theorem State.auditStaged_sl (s : State) (x : Session) (k : Txn) (st : Nat) : (s.auditStaged x k st).sl = s.sl := by
  refine State.each_keeps (Q := fun u => u.sl = s.sl) (fun v c _ same => ?_) rfl
  split
  · exact same
  · exact same

@[simp] theorem State.channels_rollback : (s.rollback x).channels = s.channels := by
  unfold State.rollback
  split
  · rfl
  · dsimp only
    refine (State.channels_updSession ?kept).trans ?audited
    case kept => exact fun _ => rfl
    case audited => exact State.channels_congr (congrArg SlState.sessions (State.auditStaged_sl _ _ _ _))

@[simp] theorem State.channels_endSub : (s.endSub ch).channels = s.channels := by
  unfold State.endSub
  split
  · rfl
  · dsimp only
    split
    · rfl
    · exact State.channels_flushAll

/-- The end of a session takes its channel, and no other, from those that have one (R355). -/
theorem State.channels_endSession : (s.endSession ch).channels = s.channels.filter fun c => c != ch := by
  have left : ∀ t : State, t.channels = s.channels →
      ({ t with sl := { t.sl with sessions := t.sl.sessions.filter fun x => x.channel != ch } } : State).channels =
        s.channels.filter fun c => c != ch := by
    intro t same
    rw [← same]
    exact (List.filter_map (f := Session.channel) (p := fun c => c != ch) (l := t.sl.sessions)).symm
  unfold State.endSession
  dsimp only
  refine left _ (State.channels_endSub.trans ?_)
  split
  · exact State.channels_rollback
  · rfl

end

/-- Settles O11: the channels that keep a session are those other than the one that ends (`State.channels_endSession`). -/
theorem endOfSession : Obligations.EndOfSession := by
  intro s ch
  have ended : ch ∉ (s.endSession ch).channels := by simp [State.channels_endSession]
  refine ⟨?gone, ?others, ?left⟩
  case gone =>
    exact Option.not_isSome_iff_eq_none.mp fun held => ended (State.isSome_session?_iff.mp held)
  case others =>
    intro c other
    rw [Bool.eq_iff_iff, State.isSome_session?_iff, State.isSome_session?_iff, State.channels_endSession]
    simp [other]
  case left =>
    exact fun x mem same => ended (List.mem_map.mpr ⟨x, mem, same⟩)

end Sys2Proof.Machine

/-! Sessions on channel 0x00, their timers, and subscriptions: the proofs of the statements of spec/10_slostan_protocol.md on
them. -/

namespace Sys2Proof.Machine

section

variable {s t : State} {r : Req} {x : Session} {ch c : BitVec 8} {h : Handshake}

/-! ### Requests on channel 0x00 (R354, R367) -/

theorem Runs0.channel (runs : Runs0 s r t) : r.channel = 0 := by
  obtain ⟨executes, -⟩ := runs
  simp only [Executes0, Bool.and_eq_true, beq_iff_eq] at executes
  obtain ⟨⟨⟨-, channel⟩, -⟩, -⟩ := executes
  exact channel

/-- A request of channel 0x00 that runs is answered with what its body gives in the state it runs in. -/
theorem Runs0.run0_eq {body : Req → State → Res} {q : Res} {code : Nat} (runs : Runs0 s r t) (hq : body r t = q) :
    Slostan.run0 r code body s = State.replied0 r code q := by
  obtain ⟨executes, rfl⟩ := runs
  subst hq
  simp only [Executes0, Bool.and_eq_true, beq_iff_eq, bne_iff_ne] at executes
  obtain ⟨⟨⟨⟨turn, opened⟩, -⟩, good⟩, running⟩ := executes
  have opened' : (s.dequeue r).open? = true := opened
  have running' : (s.dequeue r).phase ≠ .shuttingDown := running
  simp [Slostan.run0, State.atHead, turn, opened', good, running', State.replied0, State.runAt0]

/-- A request of channel 0x00 runs in a state that differs in the execution queue, not in the rest of the interpreter. -/
theorem Runs0.leaves (runs : Runs0 s r t) : t.sl = { s.sl with execQ := s.sl.execQ.drop 1 } ∧ t.nv = s.nv ∧
    t.time = s.time := by
  obtain ⟨-, rfl⟩ := runs
  exact ⟨rfl, rfl, rfl⟩

/-! ### Free channels (R354) -/

/-- The channels between two numbers that no session and no attempt holds. -/
def State.freeChannels (s : State) (lo hi : Nat) : List (BitVec 8) :=
  ((List.range (hi + 1 - lo)).map fun i => BitVec.ofNat 8 (lo + i)).filter fun c =>
    !(s.sl.sessions.map Session.channel ++ s.sl.handshakes.map Handshake.channel).contains c

theorem State.pickChannel_eq (s : State) (lo hi : Nat) : s.pickChannel lo hi =
    ((s.freeChannels lo hi)[s.fresh.1 % (s.freeChannels lo hi).length]?, s.fresh.2) := rfl

theorem State.mem_freeChannels {lo hi : Nat} (byte : hi < 256) :
    c ∈ s.freeChannels lo hi ↔ (lo ≤ c.toNat ∧ c.toNat ≤ hi) ∧ s.channelFree c = true := by
  have named : (∃ i, i < hi + 1 - lo ∧ BitVec.ofNat 8 (lo + i) = c) ↔ lo ≤ c.toNat ∧ c.toNat ≤ hi := by
    constructor
    · rintro ⟨i, below, rfl⟩
      rw [BitVec.toNat_ofNat, Nat.mod_eq_of_lt (by omega)]
      omega
    · rintro ⟨low, high⟩
      exact ⟨c.toNat - lo, by omega, by rw [Nat.add_sub_cancel' low, BitVec.ofNat_toNat, BitVec.setWidth_eq]⟩
  have unheld : (!(s.sl.sessions.map Session.channel ++ s.sl.handshakes.map Handshake.channel).contains c) = true ↔
      s.channelFree c = true := by
    simp [State.channelFree]
  rw [State.freeChannels, List.mem_filter, unheld, List.mem_map]
  simp only [List.mem_range, named]

/-- A free channel is found when there is one; which, the free value says. -/
theorem State.pickChannel_of_free {lo hi : Nat} (byte : hi < 256) (range : lo ≤ c.toNat ∧ c.toNat ≤ hi)
    (free : s.channelFree c = true) :
    ∃ ch, s.pickChannel lo hi = (some ch, { s with free := s.free + 1 }) ∧ (lo ≤ ch.toNat ∧ ch.toNat ≤ hi) ∧
      s.channelFree ch = true := by
  have some_free : 0 < (s.freeChannels lo hi).length :=
    List.length_pos_of_mem ((State.mem_freeChannels byte).mpr ⟨range, free⟩)
  have place := Nat.mod_lt s.fresh.1 some_free
  refine ⟨(s.freeChannels lo hi)[s.fresh.1 % (s.freeChannels lo hi).length], ?_,
    (State.mem_freeChannels byte).mp (List.getElem_mem place)⟩
  rw [State.pickChannel_eq, List.getElem?_eq_getElem place]
  rfl

/-! ### What a reply leaves -/

/-- What a reply leaves of a state: the attempts, and what is kept without power. -/
structure Answered (s t : State) : Prop where
  handshakes : t.sl.handshakes = s.sl.handshakes
  nv : t.nv = s.nv

theorem Answered.refl (s : State) : Answered s s := ⟨rfl, rfl⟩

theorem Answered.takeNonce (a : Answered s t) : Answered s (t.takeNonce ch).2 := by
  unfold State.takeNonce
  split
  · split
    · exact ⟨a.handshakes, a.nv⟩
    · exact a
  · exact a

theorem Answered.sendReplyPacket {opcode flags : Nat} {out : Option Nat → Output} {b : Bytes} (a : Answered s t) :
    Answered s (t.sendReplyPacket r opcode flags out b) := by
  obtain ⟨handshakes, nv⟩ := a.takeNonce (ch := r.channel)
  unfold State.sendReplyPacket State.takeEther
  exact ⟨(congrArg SlState.handshakes (State.sendOwn_carried _ _ _ _ _ _).sl).trans handshakes,
    (State.sendOwn_carried _ _ _ _ _ _).nv.trans nv⟩

theorem Answered.sendChunks {opcode n place fuel : Nat} {all : Bytes} (a : Answered s t) :
    Answered s (State.sendChunks r opcode n all fuel place t) := by
  induction fuel generalizing t place with
  | zero => exact a
  | succ fuel ih =>
    unfold State.sendChunks
    dsimp only
    split
    · exact a.sendReplyPacket
    · exact ih a.sendReplyPacket

theorem State.sendReply_answered (s : State) (r : Req) (opcode : Nat) (l : List Tlv) :
    Answered s (s.sendReply r opcode l) := by
  unfold State.sendReply
  dsimp only
  split
  · exact (Answered.refl s).sendReplyPacket
  · exact Answered.sendChunks ⟨rfl, rfl⟩

/-! ### SESSION_OPEN (R355, R356) -/

theorem applySessionOpen_of_free {p : Privilege} (places : t.full = false) (range : 0x01 ≤ c.toNat ∧ c.toNat ≤ 0x7F)
    (free : t.channelFree c = true) :
    ∃ ch, 0x01 ≤ ch.toNat ∧ ch.toNat ≤ 0x7F ∧ t.channelFree ch = true ∧
      applySessionOpen p r t = .okWith { t with free := t.free + 1, sl := { t.sl with sessions := t.sl.sessions ++
          [newSession t ch false r (Privilege.lower p t.sl.plainMax) false none] } }
        [tlvChannel ch, tlvPrivilege (Privilege.lower p t.sl.plainMax)] := by
  obtain ⟨ch, picked, ⟨low, high⟩, free'⟩ := t.pickChannel_of_free (by decide) range free
  refine ⟨ch, low, high, free', ?_⟩
  simp only [applySessionOpen, places, picked, Bool.false_eq_true, if_false]
  rfl

/-! ### Secure sessions (R357, R358, R613) -/

theorem applySecureHello_of_uncertified {nonce point cert : Bytes} {p : Privilege} (certified : t.certGrant cert = none)
    (inService : t.nv.fuses.lifecycle ≠ 3) (places : t.full = false) (few : t.sl.handshakes.length < 4) :
    applySecureHello nonce point cert p r t = .fail .notAuthenticated t := by
  refine (if_neg inService).trans <| (if_neg (by simp [places, few])).trans ?_
  simp only [certified]

/-- A hello with an accepted certificate starts an attempt on a free secure channel. -/
theorem applySecureHello_of_certified {nonce point cert : Bytes} {p most : Privilege}
    (certified : t.certGrant cert = some most) (inService : t.nv.fuses.lifecycle ≠ 3) (places : t.full = false)
    (few : t.sl.handshakes.length < 4)
    (range : 0x80 ≤ c.toNat ∧ c.toNat ≤ 0xFE) (free : t.channelFree c = true) :
    ∃ h, (applySecureHello nonce point cert p r t).state.sl.handshakes = t.sl.handshakes ++ [h] ∧
      (applySecureHello nonce point cert p r t).state.nv = t.nv ∧ 0x80 ≤ h.channel.toNat ∧ h.channel.toNat ≤ 0xFE ∧
      t.channelFree h.channel = true ∧ h.src = r.src ∧ h.medium = r.medium ∧ h.start = t.time.now ∧
      h.priv = Privilege.lower p most ∧
      h.ctrlKey = Config.certKey cert ∧ h.restricted = t.nv.fuses.ownerKey.isNone := by
  obtain ⟨ch, picked, ⟨low, high⟩, free'⟩ := t.pickChannel_of_free (by decide) range free
  rw [applySecureHello, if_neg inService, if_neg (by simp [places, few])]
  simp only [certified, picked]
  exact ⟨_, rfl, rfl, low, high, free', rfl, rfl, rfl, rfl, rfl, rfl⟩

theorem execSecureFinish_of_runs {sig mac : Bytes} (runs : Runs0 s r t) :
    execSecureFinish r ch sig mac s = .next (t.finishSecure r ch sig mac) := by
  have channel := runs.channel
  obtain ⟨executes, rfl⟩ := runs
  simp only [Executes0, Bool.and_eq_true, beq_iff_eq, bne_iff_ne] at executes
  obtain ⟨⟨⟨⟨turn, opened⟩, -⟩, good⟩, running⟩ := executes
  have opened' : (s.dequeue r).open? = true := opened
  have running' : (s.dequeue r).phase ≠ .shuttingDown := running
  simp [execSecureFinish, channel, State.atHead, turn, opened', good, running', State.runAt0]

/-- The end of an attempt that is found: in time and with its checks right, its session opens (R358). -/
theorem State.finishSecure_of_attempt {sig mac : Bytes}
    (found : (t.sl.handshakes.find? fun h => h.channel == ch && h.medium == r.medium && h.src == r.src) = some h) :
    t.finishSecure r ch sig mac =
      let u := t.dropHandshake ch
      if t.past h.start (secU 2) = false ∧ Config.ecdsaVerify h.ctrlKey h.transcript sig = true ∧
          mac = Config.hmac384 h.finish (h.transcript ++ sig) then
        (State.mirrorNow { u with sl := { u.sl with
          sessions := u.sl.sessions ++ [newSession u ch true r h.priv h.restricted (some h.keys)] } }).sendReply
          { r with channel := ch } 0x0004 [tlvStatus .ok, tlvPrivilege h.priv]
      else u.sendReply r 0x0004 [tlvStatus .notAuthenticated] := by
  have clock : (t.dropHandshake ch).past h.start (secU 2) = t.past h.start (secU 2) := rfl
  simp only [State.finishSecure, found, clock, Bool.and_eq_true, Bool.not_eq_true', beq_iff_eq, and_assoc]

/-! ### Timers (R355, R358, R366, R372) -/

theorem execSecureHelloTimeout_of_attempt (found : (s.sl.handshakes.find? fun h => h.channel == ch) = some h) :
    execSecureHelloTimeout ch s = .next (if h.start + secU 2 ≤ s.time.now then
      (s.dropHandshake ch).sendReply ⟨h.medium, 0, h.seq, h.src, .good, [], h.mac, h.vlan⟩ 0x0003
        [tlvStatus .notAuthenticated] else s) := by
  simp only [execSecureHelloTimeout, found, State.past, decide_eq_true_eq]
  split <;> rfl

theorem execSessionIdleTimeout_of_session (held : s.session? ch = some x) :
    execSessionIdleTimeout ch s = .next (if x.lastAt + secU s.sl.idle ≤ s.time.now then s.endSession ch else s) := by
  simp only [execSessionIdleTimeout, held, State.idleDue, State.past, decide_eq_true_eq]

theorem execLeaseExpiry_of_claims (held : s.session? ch = some x) (claims : x.claims ≠ []) :
    execLeaseExpiry ch s = .next (if x.leaseUntil ≤ s.time.now then s.expireClaims x else s) := by
  simp only [execLeaseExpiry, held, List.isEmpty_eq_false_iff.mpr claims, Bool.not_false, Bool.true_and,
    decide_eq_true_eq]

theorem execPortDownClaimRelease_of_down {since : Nat} (held : s.session? ch = some x) (claims : x.claims ≠ [])
    (down : s.sessionDown x = some since) :
    execPortDownClaimRelease ch s = .next (if since + msU 200 ≤ s.time.now then s.expireClaims x else s) := by
  simp only [execPortDownClaimRelease, held, down, State.past, List.isEmpty_eq_false_iff.mpr claims, Bool.not_false,
    Bool.true_and, decide_eq_true_eq]

theorem execChunkTransferTimeout_of_transfer {k : ChunkXfer} (held : s.session? ch = some x) (transfer : x.chunk = some k) :
    execChunkTransferTimeout ch s = .next
      (if k.lastAt + secU 5 ≤ s.time.now then s.updSession ch fun y => { y with chunk := none } else s) := by
  simp only [execChunkTransferTimeout, held, transfer, State.past, decide_eq_true_eq]
  rfl

end

/-- Settles O10: a request of channel 0x00 that runs is its body on the state it runs in (`Runs0.run0_eq`), a free channel is
found (`State.pickChannel_of_free`), a reply leaves the attempts (`State.sendReply_answered`), and a timer whose record is there
acts from its time on. -/
theorem sessionsOpenAndTime : Obligations.SessionsOpenAndTime := by
  refine ⟨?ping, ?sessionOpen, ?hello, ?finish, ?attempt, ?idle, ?lease, ?portDown, ?transfer⟩
  case ping =>
    exact fun s t r echo runs => congrArg Host.Outcome.next ((if_pos runs.channel).trans (runs.run0_eq rfl))
  case sessionOpen =>
    intro s t r p c runs places range free
    obtain ⟨sl, -, -⟩ := runs.leaves
    have free_eq : ∀ c, t.channelFree c = s.channelFree c := fun c => by simp only [State.channelFree, sl]
    obtain ⟨ch, low, high, free', opened⟩ := applySessionOpen_of_free (r := r) (p := p)
      (by simpa only [State.full, sl] using places) range ((free_eq c).trans free)
    exact ⟨ch, low, high, (free_eq ch).symm.trans free',
      congrArg Host.Outcome.next ((if_pos runs.channel).trans (runs.run0_eq opened))⟩
  case hello =>
    intro s t r nonce point cert p c runs inService places few range free
    obtain ⟨sl, nv, time⟩ := runs.leaves
    have free_eq : ∀ c, t.channelFree c = s.channelFree c := fun c => by simp only [State.channelFree, sl]
    have grant_eq : t.certGrant cert = s.certGrant cert := by simp only [State.certGrant, nv]
    have inService' : t.nv.fuses.lifecycle ≠ 3 := by rwa [nv]
    have places' : t.full = false := by simpa only [State.full, sl] using places
    have few' : t.sl.handshakes.length < 4 := by rwa [sl]
    refine ⟨_, congrArg Host.Outcome.next ((if_pos runs.channel).trans (runs.run0_eq rfl)), ?_⟩
    split
    case h_1 refused =>
      rw [applySecureHello_of_uncertified (grant_eq.trans refused) inService' places' few']
    case h_2 most accepted =>
      obtain ⟨h, handshakes, kept, low, high, free', src, medium, start, priv, key, restricted⟩ :=
        applySecureHello_of_certified (r := r) (nonce := nonce) (point := point) (p := p) (grant_eq.trans accepted)
          inService' places' few' range ((free_eq c).trans free)
      have answered := (applySecureHello nonce point cert p r t).state.sendReply_answered r 0x0003
        (applySecureHello nonce point cert p r t).replyTlvs
      refine ⟨h, ?_, low, high, (free_eq _).symm.trans free', src, medium, start.trans (by rw [time]), priv, key,
        restricted.trans (by rw [nv]), answered.nv.trans (kept.trans nv)⟩
      exact answered.handshakes.trans (handshakes.trans (by rw [sl]))
  case finish =>
    intro s t r ch sig mac h runs found
    obtain ⟨-, -, time⟩ := runs.leaves
    have clock : t.past h.start (secU 2) = s.past h.start (secU 2) := by simp only [State.past, time]
    refine (execSecureFinish_of_runs runs).trans (congrArg Host.Outcome.next ?_)
    rw [State.finishSecure_of_attempt found, clock]
  case attempt => exact fun s ch h => execSecureHelloTimeout_of_attempt
  case idle => exact fun s ch x => execSessionIdleTimeout_of_session
  case lease => exact fun s ch x => execLeaseExpiry_of_claims
  case portDown => exact fun s ch x since => execPortDownClaimRelease_of_down
  case transfer => exact fun s ch x k => execChunkTransferTimeout_of_transfer

section

variable {s t : State} {r : Req} {x : Session} {u : Subscriber} {ch : BitVec 8} {rate : Nat} {sev : Option Nat}
  {mask : Option (BitVec 544)} {seq : BitVec 16}

/-! ### Subscriptions (R381, R382, R408, R664) -/

theorem applyEventSubscribe_of_new (new : t.sub? r.channel = none) (few : t.sl.subs.length < 4) :
    applyEventSubscribe rate sev mask r x t = .ok { t with sl := { t.sl with
      subs := t.sl.subs ++ [{
        num := t.freeSubNum, channel := r.channel, rate := rate, sevMin := sev.getD 0,
        mask := mask.getD (BitVec.allOnes 544), queue := (if t.sl.subs.isEmpty then t.sl.held else []), nextSeq := 1,
        unacked := [], dropped := 0, credit := 64 * creditUnit, creditAt := t.time.now }],
      held := if t.sl.subs.isEmpty then [] else t.sl.held } } := by
  simp only [applyEventSubscribe, new]
  exact if_neg (Nat.not_le.mpr few)

theorem applyEventSubscribe_of_sub (held : t.sub? r.channel = some u) :
    applyEventSubscribe rate sev mask r x t = .ok (t.updSub r.channel fun v => { v.refill t.time.now with
      rate := rate, sevMin := sev.getD 0, mask := mask.getD (BitVec.allOnes 544) }) := by
  simp only [applyEventSubscribe, held]
  rfl

/-- EVENT_ACK takes the acknowledged events from the subscriber, and the alarms that they were. -/
theorem applyEventAck_of_sub (held : t.sub? r.channel = some u) :
    ∃ alarms, applyEventAck seq r x t =
      .ok (({ t with sl := { t.sl with alarms := alarms } } : State).updSub r.channel fun v =>
        { v with unacked := v.unacked.filter fun a => !seqUpTo a.seq seq }) := by
  simp only [applyEventAck, held]
  exact ⟨_, rfl⟩

theorem applyEventFilterSet_of_sub {newSev newRate : Option Nat} (held : t.sub? r.channel = some u) :
    applyEventFilterSet mask newSev newRate r x t = .ok (t.updSub r.channel fun v => { v.refill t.time.now with
      mask := mask.getD v.mask, sevMin := newSev.getD v.sevMin, rate := newRate.getD v.rate }) := by
  simp only [applyEventFilterSet, held]

theorem applyEventUnsubscribe_of_sub (held : t.sub? r.channel = some u) :
    applyEventUnsubscribe r x t = .ok (t.endSub r.channel) := by
  simp only [applyEventUnsubscribe, held]

/-- Sending an event packet takes no time. -/
theorem State.sendEvent_time (s : State) (x : Session) (seq : BitVec 16) (recs : List EvRec) (n : Nat) :
    (s.sendEvent x seq recs n).time = s.time :=
  (Conveyed.sendOwn (Conveyed.emit (Conveyed.takeNonce (Conveyed.refl s)))).time

/-- A SAFETY event that has waited 10 ms goes again while the session's medium is up (R382). -/
theorem execSafetyEventResend_of_due (subscribed : s.sub? ch = some u) (held : s.session? ch = some x)
    (up : s.mediumUp (s.pathTo x.src x.medium) = true)
    (due : (u.unacked.any fun a => a.seq == seq && decide (a.sentAt + msU 10 ≤ s.time.now)) = true) :
    execSafetyEventResend ch seq s = .next
      ((s.sendEvent x seq ((u.unacked.filter fun a => a.seq == seq && decide (a.sentAt + msU 10 ≤ s.time.now)).map
          fun a => { a.ev with resent := true }) 0).updSub ch fun v => { v with unacked := v.unacked.map fun a =>
        if a.seq = seq then { a with sentAt := s.time.now } else a }) := by
  have some_due : (u.unacked.filter fun a => a.seq == seq && decide (a.sentAt + msU 10 ≤ s.time.now)).isEmpty = false := by
    obtain ⟨a, mem, dueNow⟩ := List.any_eq_true.mp due
    exact List.isEmpty_eq_false_iff.mpr (List.ne_nil_of_mem (List.mem_filter.mpr ⟨mem, dueNow⟩))
  simp only [execSafetyEventResend, subscribed, held, State.past, some_due, up, State.sendEvent_time, Bool.not_true,
    Bool.or_self, Bool.false_eq_true, if_false]

end

/-- Settles O12: a request that runs is its body on the state it runs in; a request whose opcode is the part's own goes as far as
check 3 (`Slostan.receive_of_fresh`); a resend takes no time (`State.sendEvent_time`). -/
theorem subscriptionsRun : Obligations.SubscriptionsRun := by
  refine ⟨?new, ?again, ?ack, ?filterSet, ?unsubscribe, ?notify, ?resend⟩
  case new =>
    exact fun s t r x rate sev mask runs new few =>
      congrArg (fun u : State => Host.Outcome.next u.flushAll) (runs.run_eq (applyEventSubscribe_of_new new few) _)
  case again =>
    exact fun s t r x rate sev mask u runs held =>
      congrArg (fun u : State => Host.Outcome.next u.flushAll) (runs.run_eq (applyEventSubscribe_of_sub held) _)
  case ack =>
    intro s t r x seq u runs held
    obtain ⟨alarms, acked⟩ := applyEventAck_of_sub (x := x) (seq := seq) held
    exact ⟨_, congrArg Host.Outcome.next (runs.run_eq acked _), rfl, rfl, rfl, rfl, rfl, rfl⟩
  case filterSet =>
    exact fun s t r x mask sev rate u runs held =>
      congrArg Host.Outcome.next (runs.run_eq (applyEventFilterSet_of_sub held) _)
  case unsubscribe =>
    exact fun s t r x u runs held => congrArg Host.Outcome.next (runs.run_eq (applyEventUnsubscribe_of_sub held) _)
  case notify =>
    exact fun s r x turn opened session fits good fresh =>
      congrArg Host.Outcome.next (Slostan.receive_of_fresh turn opened session fits good fresh)
  case resend => exact fun s ch seq u x => execSafetyEventResend_of_due

end Sys2Proof.Machine

/-! An ATOMIC transaction that fails, the sideband's events, and who leads: the proofs of the statements of
spec/10_slostan_protocol.md on them, whose rules on the sideband and the leader are those of spec/13_package_interior.md. -/

namespace Sys2Proof.Machine

section

variable {s t u : State} {r : Req} {x : Session}

/-! ### Audit records of staged commands (R376, R616) -/

/-- A state that differs from another in audit records alone: the ring, its next number, and the field that shows it. -/
def AuditedFrom (s t : State) : Prop :=
  ∃ ring next regs, t = { s with regs := regs, nv := { s.nv with audit := ring, auditNext := next } } ∧
    ∀ (d : Die) (f : Fld), f.key d ≠ NVM_AUDIT_NEXT_SEQ.key 0 → t.rd d f = s.rd d f

theorem AuditedFrom.refl (s : State) : AuditedFrom s s := ⟨_, _, _, rfl, fun _ _ _ => rfl⟩

theorem AuditedFrom.addAudit {g : Nat → AuditRec} (h : AuditedFrom s t) : AuditedFrom s (t.addAudit g) := by
  obtain ⟨ring, next, regs, rfl, shows⟩ := h
  refine ⟨_, _, _, rfl, fun d f other => ?_⟩
  refine Eq.trans ?_ (shows d f other)
  simp only [State.addAudit, State.rd, State.wr, NMap.get_set_ne _ other]

theorem State.auditStaged_audited (s : State) (x : Session) (k : Txn) (st : Nat) : AuditedFrom s (s.auditStaged x k st) := by
  refine State.each_keeps (Q := AuditedFrom s) (fun v c _ h => ?_) (AuditedFrom.refl s)
  split
  · exact h.addAudit
  · exact h

/-! ### COMMIT of an ATOMIC transaction (R375, R376) -/

/-- The first command of an ATOMIC transaction that fails: one that doomed it, or the first that would be refused now. -/
def FirstFailure (x : Session) (k : Txn) (t : State) (st : Status) (seq : BitVec 16) : Prop :=
  k.doomed = some (st, seq) ∨ (k.doomed = none ∧ ∃ c, c.seq = seq ∧
    (State.runAll x true k.staged (t.updSession x.channel fun y => { y with txn := none })).2.find?
      (fun p => !Status.good p.2) = some (c, st))

theorem applyCommit_of_failure {k : Txn} {st : Status} {seq : BitVec 16} (txn : x.txn = some k) (atomic : k.mode = .atomic)
    (fails : FirstFailure x k t st seq) :
    applyCommit r x t = (t.updSession x.channel fun y => { y with txn := none }).notApplied x k st seq := by
  rcases fails with doomed | ⟨undoomed, c, rfl, refused⟩
  · simp only [applyCommit, txn, doomed]
  · simp only [applyCommit, txn, undoomed, atomic, beq_self_eq_true, refused]

end

/-- Settles O58: what an ATOMIC transaction leaves when it fails is its session's record and its audit records
(`State.auditStaged_audited`). -/
theorem atomicAppliesNothing : Obligations.AtomicAppliesNothing := by
  intro s t r x k st seq _ runs txn atomic fails
  refine ⟨_, congrArg (fun u : State => Host.Outcome.next u.fireCommand.doRestarts)
    (runs.run_eq (applyCommit_of_failure txn atomic fails) _), rfl, rfl, ?_⟩
  obtain ⟨ring, next, regs, left, shows⟩ :=
    (t.updSession x.channel fun y => { y with txn := none }).auditStaged_audited x k (Status.code st)
  simp only [State.notApplied]
  refine ⟨?_, ?_, ?_, ?_, ?_, ?_, ?_, ?_, ?_, ?_, ?_, ?_, ?_, ?_, ?_, ?_, shows⟩ <;> rw [left] <;> rfl

section

variable {s u : State} {a b d : Die} {tag : Nat} {m : SlotMsg}

/-! ### Responses and resends (R462, R583) -/

theorem execSbRsp_of_last (taken : s.takeSlot b a (SlotMsg.answers tag) = some (m, u))
    (waits : ((u.die b).sb.outs.any fun o => o.dst == a && o.tag == tag) = true) (last : SlotMsg.last? m = some true) :
    execSbRsp a b tag s = .next
      (let v := u.updDie b fun x => { x with sb := { x.sb with
         outs := x.sb.outs.filter fun o => !(o.dst == a && o.tag == tag) } }
       let v := match m with
         | .ctr _ _ num index .. => v.gotPart a num (index % 192 / 32)
         | _ => v
       v.creditBack b a) := by
  have ends : (!((u.die b).sb.outs.any fun o => o.dst == a && o.tag == tag) || SlotMsg.last? m == some false) = false := by
    rw [waits, last]
    rfl
  simp only [execSbRsp, taken, ends, Bool.false_eq_true, if_false] <;> rfl

theorem execSbRsp_of_earlier (taken : s.takeSlot b a (SlotMsg.answers tag) = some (m, u))
    (earlier : SlotMsg.last? m = some false) : execSbRsp a b tag s = .next u := by
  simp only [execSbRsp, taken, earlier, beq_self_eq_true, Bool.or_true, if_true]

theorem execSbReqResend_of_late {o : SbOut}
    (late : ((s.die a).sb.outs.find? fun o => o.tag == tag && decide (o.slot + 64 ≤ s.sb.slot)) = some o) :
    execSbReqResend a tag s = .next (if o.resends < 2 then
      (State.cnt (s.updDie a fun x => { x with sb := { x.sb with
        outs := x.sb.outs.map fun p => if p = o then { p with resends := p.resends + 1, slot := s.sb.slot } else p,
        credits := x.sb.credits.set o.dst.val (min 2 (x.sb.credits.getD o.dst.val 0 + 1)) } }) a 164).sbPush a 7 1
        (.req o.dst tag o.write o.addr o.value)
    else ((s.updDie a fun x => { x with sb := { x.sb with outs := x.sb.outs.filter fun p => p != o } }).creditBack a
      o.dst).updDie o.dst fun x => { x with sb := { x.sb with hbMissed := x.sb.hbMissed + 1 } }) := by
  simp only [execSbReqResend, late]
  split <;> rfl

/-! ### Deadlines, starvation and heartbeats (R468, R471, R472) -/

theorem execSbDeadlineMissed_of_marked {c : Fin 8}
    (marked : (s.markReq d fun e => e.cls == c.val && e.count == 0 && !e.missed) = some u) :
    execSbDeadlineMissed d c s = .next ((((u.updDie d fun x => { x with sb := { x.sb with
      misses := x.sb.misses + 1 } }).cnt d 161).wr d SB_STAT_MISSED 1).raise d evSB_DEADLINE_MISSED
      (evArg d.val 0xFF [])) := by
  simp only [execSbDeadlineMissed, marked]

theorem execSbStarvation_of_marked {c : Fin 8}
    (marked : (s.markReq d fun e => e.cls == c.val && e.count == 255 && !e.missed
      && decide (2 ^ (8 + s.rd d SB_CTRL_STARVE_THR) ≤ e.waited)) = some u) :
    execSbStarvation d c s = .next ((((u.updDie d fun x => { x with sb := { x.sb with
      starves := x.sb.starves + 1 } }).cnt d 162).wr d SB_STAT_STARVED 1).raise d evSB_STARVATION
      (evArg d.val 0xFF [])) := by
  simp only [execSbStarvation, marked]

theorem execHeartbeat_of_due (populated : s.pop d = true) (powered : s.power d ≠ .off) (runs : s.sbRuns = true)
    (due : periodDue (s.die d).sb.hbSent (usU 100) s.time.now = true) :
    execHeartbeat d s = .next
      (let u := s.updDie d fun x => { x with sb := { x.sb with
         hbSent := some (nextDue (s.die d).sb.hbSent (usU 100) s.time.now) } }
       u.sbPush d 1 2 (.heartbeat (u.hbReport d) (if u.leader = d then some u.healthMask else none))) :=
  if_pos (by simp [populated, powered, runs, due])

end

/-- Settles O19: an event whose condition holds has its effect. -/
theorem sidebandEvents : Obligations.SidebandEvents := by
  refine ⟨?last, ?earlier, ?resend, ?missed, ?starved, ?heartbeat, ?mirror, ?safety⟩
  case last => exact fun s u a b tag m => execSbRsp_of_last
  case earlier => exact fun s u a b tag m => execSbRsp_of_earlier
  case resend => exact fun s a tag o => execSbReqResend_of_late
  case missed => exact fun s u d c => execSbDeadlineMissed_of_marked
  case starved => exact fun s u d c => execSbStarvation_of_marked
  case heartbeat => exact fun s d => execHeartbeat_of_due
  case mirror => exact fun s => rfl
  case safety => exact fun s d trip => rfl

section

variable {s t u : State} {a c d : Die} {e : Election} {resigned : Option Die}

/-! ### Heartbeats received and missed (R472) -/

theorem execHeartbeatReceive_of_taken {rep : HbReport} {m : SlotMsg}
    (taken : s.takeSlot d a (SlotMsg.reports rep) = some (m, u)) :
    execHeartbeatReceive d a rep s = .next
      (let t := u.updDie a fun x => { x with sb := { x.sb with
         lastHb := u.time.now, hbMissed := 0, lockstep := rep.lockstep } }
       let t := t.wrB a DIE_STAT_FW_VALID rep.fwValid
       if rep.supplyFault || rep.clockFault then t.dieFails a 1 else if rep.lockstep then t.dieFails a 2 else t) := by
  simp only [execHeartbeatReceive, taken]

theorem execHeartbeatTimeout_of_silent (populated : s.pop d = true) (runs : s.sbRuns = true) (healthy : s.healthy d = true)
    (silent : s.hbSilent d = true) : execHeartbeatTimeout d s = .next ((s.dieFails d 0).portFails d) :=
  if_pos (by simp [populated, runs, healthy, silent])

/-! ### Elections (R474, R475) -/

theorem execElect_of_populated {resign fw : Bool} (populated : s.pop d = true) :
    execElect d resign fw s = .next
      (let u := (s.wrB d DIE_STAT_FW_VALID fw).electIn d resign
       if resign && d == u.leader then u.callElection else u) :=
  if_neg (by simp [populated])

theorem State.electIn_joins (s : State) (d : Die) (resign : Bool) :
    ∃ e, (s.electIn d resign).sb.election = some e ∧ (d, resign) ∈ e.entrants ∧
      e.openSlot = (match s.sb.election with
        | some o => o.openSlot
        | none => s.sb.slot) ∧ (resign = true → d = s.leader → e.resigned = some d) := by
  refine ⟨_, rfl, List.mem_append_right _ (List.mem_singleton_self _), ?opened, ?resigns⟩
  case opened => cases s.sb.election <;> rfl
  case resigns =>
    rintro rfl rfl
    exact if_pos (by simp)

theorem execElectionWindowClose_of_early (window : s.sb.election = some e) (early : s.sb.slot < e.openSlot + 64) :
    execElectionWindowClose s = .next s := by
  simp only [execElectionWindowClose, window, early, if_true]

theorem execElectionWindowClose_of_first (window : s.sb.election = some e) (closes : e.openSlot + 64 ≤ s.sb.slot)
    (first : s.sb.elected = false) :
    execElectionWindowClose s = .next
      (((({ s with sb := { s.sb with election := none } } : State).joinHealthy e.entrants).firstLeader).chooseSuccessor) := by
  simp only [execElectionWindowClose, window, Nat.not_lt.mpr closes, first, Bool.not_false, if_false, if_true]

theorem execElectionWindowClose_of_later (window : s.sb.election = some e) (closes : e.openSlot + 64 ≤ s.sb.slot)
    (later : s.sb.elected = true) :
    ∃ v, v = ((({ s with sb := { s.sb with election := none } } : State).changeLeader e.resigned).joinHealthy
        e.entrants).chooseSuccessor ∧
      execElectionWindowClose s = .next { v with sb := { v.sb with pendRoutes := true } } := by
  refine ⟨_, rfl, ?_⟩
  simp only [execElectionWindowClose, window, Nat.not_lt.mpr closes, later, Bool.not_true, Bool.false_eq_true, if_false]

theorem State.firstLeader_of_candidate {l : List Die} (lowest : s.candidates = d :: l) :
    s.firstLeader =
      (let u := s.wr 0 SB_STAT_LEADER d.val
       { u with sb := { u.sb with elected := true } }) := by
  simp only [State.firstLeader, lowest]

/-! ### A leader that stays (R476) -/

/-- What the end of a window leaves when the leader stays: who leads, the sideband and the sessions. -/
structure Led (s t : State) : Prop where
  sb : t.sb = s.sb
  leader : t.leader = s.leader
  sessions : t.sl.sessions = s.sl.sessions

theorem Led.refl (s : State) : Led s s := ⟨rfl, rfl, rfl⟩

theorem Led.wr {f : Fld} {v : Nat} (h : Led s t) (other : SB_STAT_LEADER.place ≠ f.place) : Led s (t.wr d f v) :=
  ⟨h.sb, (congrArg (Fin.ofNat 8) (State.rd_wr_of_other_place other)).trans h.leader, h.sessions⟩

theorem Led.congr (h : Led s t) (sb : u.sb = t.sb) (regs : u.regs = t.regs) (sessions : u.sl.sessions = t.sl.sessions) :
    Led s u :=
  ⟨sb.trans h.sb, (by simp only [State.leader, State.rd, regs] : u.leader = t.leader).trans h.leader,
    sessions.trans h.sessions⟩

theorem Led.joinHealthy {l : List (Die × Bool)} (h : Led s t) : Led s (t.joinHealthy l) := by
  refine State.each_keeps (Q := Led s) (fun v x _ h => ?_) h
  dsimp only
  split
  · exact h
  · exact h.wr (by decide)

theorem Led.mirrorNow (h : Led s t) : Led s t.mirrorNow := by
  unfold State.mirrorNow
  split
  · exact h.congr rfl rfl rfl
  · exact h

theorem Led.chooseSuccessor (h : Led s t) : Led s t.chooseSuccessor := by
  unfold State.chooseSuccessor
  dsimp only
  split
  · exact ((h.wr (by decide)).wr (by decide)).congr rfl rfl rfl
  · have named {v : Nat} : Led s ((t.wr 0 SB_STAT_SUCC_VALID 1).wr 0 SB_STAT_SUCCESSOR v) :=
      (h.wr (by decide)).wr (by decide)
    split
    · exact named
    · exact named.mirrorNow

theorem State.changeLeader_of_staying (works : s.leaderFailed = false) (stays : resigned ≠ some s.leader) :
    s.changeLeader resigned = s :=
  if_pos (by simp [works, stays])

/-! ### A leader that goes (R475, R476) -/

/-- The dies that could lead in a leader's place. -/
def State.rivals (s : State) : List Die := s.candidates.filter fun d => d != s.leader

theorem State.mem_rivals : d ∈ s.rivals ↔ d ∈ s.candidates ∧ d ≠ s.leader := by
  simp [State.rivals]

/-- Candidates stand in the order of their numbers, so the first rival is the lowest. -/
theorem State.rivals_head_le {l : List Die} (first : s.rivals = d :: l) (mem : c ∈ s.rivals) : d.val ≤ c.val := by
  have sorted : s.rivals.Pairwise (· ≤ ·) :=
    List.Pairwise.filter _ (List.Pairwise.filter _ (List.Pairwise.filter _ (by decide : allDies.Pairwise (· ≤ ·))))
  rw [first] at sorted mem
  rcases List.mem_cons.mp mem with rfl | later
  · exact le_rfl
  · exact (List.pairwise_cons.mp sorted).1 c later

section

variable (goes : s.leaderFailed = true ∨ resigned = some s.leader)

include goes

theorem State.changeLeader_of_successor (succ : s.successor? = some c) (able : c ∈ s.rivals) :
    s.changeLeader resigned = s.takeOver c true := by
  refine (if_neg (by simpa [Decidable.or_iff_not_imp_left] using goes)).trans ?_
  simp only [succ]
  exact if_pos (List.contains_iff_mem.mpr able)

theorem State.changeLeader_of_unable {l : List Die} (unable : ∀ c, s.successor? = some c → c ∉ s.rivals)
    (first : s.rivals = d :: l) : s.changeLeader resigned = s.takeOver d false := by
  have first' : (s.candidates.filter fun d => d != s.leader) = d :: l := first
  refine (if_neg (by simpa [Decidable.or_iff_not_imp_left] using goes)).trans ?_
  cases succ : s.successor? with
  | none => simp only [first']
  | some c =>
    have absent : ¬(d :: l).contains c = true := fun held => unable c succ (first ▸ List.contains_iff_mem.mp held)
    simp only [first', if_neg absent]

end

/-- Who takes over: the successor with what was mirrored to it, if it could lead, and else the lowest rival. -/
theorem State.changeLeader_takes (goes : s.leaderFailed = true ∨ resigned = some s.leader)
    (rival : ∃ d, d ∈ s.candidates ∧ d ≠ s.leader) :
    ∃ d, d ∈ s.candidates ∧ d ≠ s.leader ∧ s.changeLeader resigned = s.takeOver d (s.successor? == some d) ∧
      (∀ c, s.successor? = some c → c ∈ s.candidates → c ≠ s.leader → d = c) ∧
      ((∀ c, s.successor? = some c → c ∉ s.candidates) → ∀ c ∈ s.candidates, c ≠ s.leader → d.val ≤ c.val) := by
  obtain ⟨d, mem⟩ := rival
  obtain ⟨e, l, first⟩ := List.exists_cons_of_ne_nil (List.ne_nil_of_mem (State.mem_rivals.mpr mem))
  have lowest : ∀ c ∈ s.candidates, c ≠ s.leader → e.val ≤ c.val := fun c able other =>
    State.rivals_head_le first (State.mem_rivals.mpr ⟨able, other⟩)
  by_cases succeeds : ∃ c, s.successor? = some c ∧ c ∈ s.rivals
  · obtain ⟨c, succ, leads⟩ := succeeds
    obtain ⟨able, other⟩ := State.mem_rivals.mp leads
    refine ⟨c, able, other, ?_, fun _ same _ _ => Option.some.inj (succ.symm.trans same),
      fun unable => absurd able (unable c succ)⟩
    rw [State.changeLeader_of_successor goes succ leads, succ, beq_self_eq_true]
  · have unable : ∀ c, s.successor? = some c → c ∉ s.rivals := fun c succ leads => succeeds ⟨c, succ, leads⟩
    have leads : e ∈ s.rivals := first ▸ List.mem_cons_self
    obtain ⟨able, other⟩ := State.mem_rivals.mp leads
    refine ⟨e, able, other, ?_, fun c succ able other => absurd (State.mem_rivals.mpr ⟨able, other⟩) (unable c succ),
      fun _ => lowest⟩
    rw [State.changeLeader_of_unable goes unable first, beq_eq_false_iff_ne.mpr fun succ => unable e succ leads]

/-! ### What a successor loads (R379, R380) -/

theorem State.loadMirror_of_mirrored {l : List Session} {n : List Subscriber} (mirrored : s.sl.mirrored = some (l, n)) :
    s.loadMirror.sl.sessions = l.map (loadSession s.sl.sessions) ∧ s.loadMirror.sl.execQ = [] ∧
      s.loadMirror.sl.handshakes = [] := by
  unfold State.loadMirror
  rw [mirrored]
  dsimp only
  refine ⟨congrArg (fun v : SlState => l.map (loadSession v.sessions))
    (State.each_keeps (Q := fun v => v.sl = s.sl) (fun v x _ same => ?_) rfl), rfl, rfl⟩
  split
  · exact (State.auditStaged_sl _ _ _ _).trans same
  · exact same

end

/-- Settles O22: an event whose condition holds has its effect; a leader that stays keeps its sessions through what the window's end
writes (`Led`); one that goes gives way to the successor or the lowest rival (`State.changeLeader_takes`). -/
theorem leadership : Obligations.Leadership := by
  refine ⟨?receive, ?silent, ?elect, ?joins, ?early, ?first, ?lowest, ?stays, ?goes, ?load, ?ended⟩
  case receive => exact fun s u d a rep m => execHeartbeatReceive_of_taken
  case silent => exact fun s d => execHeartbeatTimeout_of_silent
  case elect => exact fun s d resign fw => execElect_of_populated
  case joins => exact State.electIn_joins
  case early => exact fun s e => execElectionWindowClose_of_early
  case first => exact fun s e => execElectionWindowClose_of_first
  case lowest => exact fun s d l => State.firstLeader_of_candidate
  case stays =>
    intro s e _ window closes later works stays
    obtain ⟨v, closed, ran⟩ := execElectionWindowClose_of_later window closes later
    rw [State.changeLeader_of_staying (by exact works) (by exact stays)] at closed
    obtain ⟨sb, leader, sessions⟩ := closed ▸ (Led.refl _).joinHealthy.chooseSuccessor
    exact ⟨_, ran, congrArg SbState.election sb, leader, sessions⟩
  case goes =>
    intro s e window closes later goes rival
    obtain ⟨v, rfl, ran⟩ := execElectionWindowClose_of_later window closes later
    obtain ⟨d, able, other, takes, successor, lowest⟩ :=
      State.changeLeader_takes (s := { s with sb := { s.sb with election := none } }) goes rival
    rw [takes] at ran
    exact ⟨d, _, able, other, ran, rfl, successor, lowest⟩
  case load => exact fun s l n => State.loadMirror_of_mirrored
  case ended => exact fun s => rfl

end Sys2Proof.Machine

/-! Requests of counters, tags, package time and intervals, subscriptions, sideband deadlines and wake comparators: the proofs of the
statements of spec/11_command_reference.md on them. -/

namespace Sys2Proof.Machine

section

variable {s t u : State} {r : Req} {i : CmdInfo} {x : Session}

/-! ### What check 9 has found of a request that runs -/

/-- No operand of a request that runs is out of range. -/
theorem Runs.operands_good (runs : Runs s r i x t) : i.bad = none := by
  obtain ⟨executes, -⟩ := runs
  simp only [Executes, Bool.and_eq_true, beq_iff_eq] at executes
  obtain ⟨⟨⟨⟨⟨⟨⟨⟨⟨-, good⟩, -⟩, -⟩, -⟩, nine⟩, -⟩, -⟩, -⟩, -⟩ := executes
  simpa only [check9, good] using nine

theorem firstBad_eq_none {l : List (Option Nat)} : firstBad l = none ↔ ∀ b ∈ l, b = none := by
  simp [firstBad]

theorem firstNot_eq_none {α : Type} {p : α → Bool} {n : Nat} {l : List α} :
    firstNot p n l = none ↔ ∀ a ∈ l, p a = true := by
  induction l generalizing n with
  | nil => simp [firstNot]
  | cons a l ih => by_cases good : p a = true <;> simp [firstNot, good, ih]

/-- A list without a repeat names each key once, and none that was seen before. -/
theorem firstRepeat_eq_none {α : Type} {key : α → Nat} {n : Nat} {seen : List Nat} {l : List α}
    (none : firstRepeat key n seen l = none) : (l.map key).Nodup ∧ ∀ a ∈ l, key a ∉ seen := by
  induction l generalizing n seen with
  | nil => simp
  | cons a l ih =>
    rw [firstRepeat] at none
    split at none
    · cases none
    · rename_i new
      obtain ⟨nodup, unseen⟩ := ih none
      simp only [List.mem_cons, not_or] at unseen
      refine ⟨List.nodup_cons.mpr ⟨fun mem => ?_, nodup⟩, List.forall_mem_cons.mpr ⟨by simpa using new, fun b mem =>
        (unseen b mem).2⟩⟩
      obtain ⟨b, mem, same⟩ := List.mem_map.mp mem
      exact (unseen b mem).1 same

/-! ### TAG_READ (R590) -/

/-- TAG_READ that runs names one die. -/
theorem maskDies_of_tagRead {dies : BitVec 8} {count : Option Nat} (runs : Runs s r (infoTagRead dies count) x t) :
    ∃ d, maskDies dies = [d] := by
  have one := firstBad_eq_none.mp runs.operands_good _ List.mem_cons_self
  exact List.length_eq_one_iff.mp (by simpa using one)

end

/-- Settles O13: a request that runs is its body on the state it runs in, and the mask of a TAG_READ that runs names one die. -/
theorem countersAndTimeRun : Obligations.CountersAndTimeRun := by
  refine ⟨?counterRead, ?topdown, ?clearAll, ?commit, ?latched, ?timeLo, ?tagSet, ?tagRead, ?timeGet, ?timebase, ?interval⟩
  case counterRead => exact fun s t r x first count runs => congrArg Host.Outcome.next (runs.run_eq rfl _)
  case topdown => exact fun s t r x lane runs => congrArg Host.Outcome.next (runs.run_eq rfl _)
  case clearAll =>
    exact fun s t r x d runs on => congrArg Host.Outcome.next (runs.run_eq
      (body := fun _ _ u => regGuard d 0x14 true u (.ok (u.clearCounters d))) (regGuard_of_on on _) _)
  case commit =>
    exact fun s t r x d hi runs on => congrArg Host.Outcome.next (runs.run_eq
      (body := fun _ _ u => regGuard d 0x14 true u (.ok (u.commitCounter d hi))) (regGuard_of_on on _) _)
  case latched =>
    exact fun s t r x d runs on => congrArg Host.Outcome.next (runs.run_eq (body := fun _ _ u =>
      regGuard d 0x14 false u (.okWith (u.readLatLo d).2 [tlvData [(u.readLatLo d).1]])) (regGuard_of_on on _) _)
  case timeLo =>
    exact fun s t r x d runs on => congrArg Host.Outcome.next (runs.run_eq (body := fun _ _ u =>
      regGuard d 0x02 false u (.okWith (u.readTimeLo d).2 [tlvData [(u.readTimeLo d).1]])) (regGuard_of_on on _) _)
  case tagSet => exact fun s t r x k seed runs => congrArg Host.Outcome.next (runs.run_eq rfl _)
  case tagRead =>
    intro s t r x dies count runs
    obtain ⟨d, one⟩ := maskDies_of_tagRead runs
    exact ⟨d, one, congrArg Host.Outcome.next (runs.run_eq (by simp only [one]) _)⟩
  case timeGet => exact fun s t r x runs => congrArg Host.Outcome.next (runs.run_eq rfl _)
  case timebase => exact fun s t r x ns frac runs => congrArg Host.Outcome.next (runs.run_eq rfl _)
  case interval => exact fun s t r x us sync runs => congrArg Host.Outcome.next (runs.run_eq rfl _)

section

variable {s t u : State} {r : Req} {x : Session} {ch : BitVec 8} {v : Subscriber}

/-! ### Subscriptions (R381, R664) -/

theorem applyEventAck_of_stranger {seq : BitVec 16} (stranger : t.sub? r.channel = none) :
    applyEventAck seq r x t = .fail .notPermitted t := by
  simp only [applyEventAck, stranger]

theorem applyEventFilterSet_of_stranger {mask : Option (BitVec 544)} {sev rate : Option Nat}
    (stranger : t.sub? r.channel = none) : applyEventFilterSet mask sev rate r x t = .fail .notPermitted t := by
  simp only [applyEventFilterSet, stranger]

theorem applyEventUnsubscribe_of_stranger (stranger : t.sub? r.channel = none) :
    applyEventUnsubscribe r x t = .fail .notPermitted t := by
  simp only [applyEventUnsubscribe, stranger]

/-- A subscriber of the channel after a change of its subscribers is one of them changed. -/
theorem State.mem_updSub {g : Subscriber → Subscriber} (mem : v ∈ (s.updSub ch g).sl.subs) (channel : v.channel = ch) :
    ∃ w ∈ s.sl.subs, v = g w := by
  obtain ⟨w, held, rfl⟩ := List.mem_map.mp mem
  refine ⟨w, held, ?_⟩
  by_cases same : w.channel = ch
  · rw [if_pos same]
  · rw [if_neg same] at channel
    exact absurd channel same

end

/-- Settles O15: who is no subscriber is refused; a subscriber's own record takes the new rate and filters
(`applyEventSubscribe_of_sub`). -/
theorem nonSubscribers : Obligations.NonSubscribers := by
  refine ⟨?ack, ?filterSet, ?unsubscribe, ?subscribe⟩
  case ack =>
    exact fun s t r x seq runs stranger =>
      congrArg Host.Outcome.next (runs.run_eq (applyEventAck_of_stranger stranger) _)
  case filterSet =>
    exact fun s t r x mask sev rate runs stranger =>
      congrArg Host.Outcome.next (runs.run_eq (applyEventFilterSet_of_stranger stranger) _)
  case unsubscribe =>
    exact fun s t r x runs stranger =>
      congrArg Host.Outcome.next (runs.run_eq (applyEventUnsubscribe_of_stranger stranger) _)
  case subscribe =>
    intro s t r x rate sev mask u runs held
    refine ⟨_, congrArg (fun u : State => Host.Outcome.next u.flushAll)
      (runs.run_eq (applyEventSubscribe_of_sub held) _), rfl, List.length_map _, ?_⟩
    intro v mem channel
    obtain ⟨w, -, rfl⟩ := State.mem_updSub mem channel
    exact ⟨rfl, rfl, rfl⟩

section

variable {s : State} {d e : Die} {f g : Fld} {v : Nat} {ds : List Die} {ps qs : List (Fld × Nat)}

/-! ### Settings written one after the other, on each of several dies -/

/-- A field of another key reads as before, in canonical form or not. -/
theorem State.rd_wr_of_other_key (other : g.key e ≠ f.key d) : (s.wr d f v).rd e g = s.rd e g := by
  simp only [State.rd, State.wr, NMap.get_set_ne _ other]

/-- Where a field is held die by die, the keys of two dies differ. -/
theorem Fld.key_ne_of_die_ne (unshared : f.shared = false) (other : d ≠ e) : f.key d ≠ f.key e := by
  have apart : d.val ≠ e.val := Fin.val_ne_of_ne other
  simp only [Fld.key, unshared, Bool.false_eq_true, if_false]
  omega

/-- Writes fields of a die, first to last. -/
def State.setFields (s : State) (ps : List (Fld × Nat)) (d : Die) : State := s.each ps fun s p => s.wr d p.1 p.2

/-- Writes the same fields of each of several dies. -/
def State.setOn (s : State) (ds : List Die) (ps : List (Fld × Nat)) : State := s.each ds fun s d => s.setFields ps d

theorem State.setFields_append : s.setFields (ps ++ qs) d = (s.setFields ps d).setFields qs d := List.foldl_append

theorem State.setFields_wf (wf : s.regs.wf = true) : (s.setFields ps d).regs.wf = true :=
  State.each_keeps (Q := fun s => s.regs.wf = true) (fun s p _ wf => s.wr_wf wf d p.1 p.2) wf

theorem State.rd_setFields_of_others (others : ∀ p ∈ ps, f.key e ≠ p.1.key d) : (s.setFields ps d).rd e f = s.rd e f :=
  State.each_keeps (Q := fun t => t.rd e f = s.rd e f)
    (fun _ p mem kept => (State.rd_wr_of_other_key (others p mem)).trans kept) rfl

/-- Of several settings of a field the last stands. -/
theorem State.rd_setFields (wf : s.regs.wf = true) (fits : v < 2 ^ f.width) (last : ∀ q ∈ qs, f.place ≠ q.1.place) :
    (s.setFields (ps ++ (f, v) :: qs) d).rd d f = v := by
  rw [State.setFields_append]
  refine (State.rd_setFields_of_others fun q mem => Fld.key_ne_of_place_ne (last q mem) d d).trans ?_
  rw [State.rd_wr _ (State.setFields_wf wf), Nat.mod_eq_of_lt fits]

/-- A state that differs from another in its registers alone. -/
def State.SameButRegs (s t : State) : Prop := t = { s with regs := t.regs }

theorem State.SameButRegs.wr {t : State} (h : s.SameButRegs t) : s.SameButRegs (t.wr d f v) :=
  (congrArg (fun u : State => { u with regs := (t.wr d f v).regs }) h : t.wr d f v = { s with regs := (t.wr d f v).regs })

theorem State.setOn_rest (s : State) (ds : List Die) (ps : List (Fld × Nat)) : s.SameButRegs (s.setOn ds ps) :=
  State.each_keeps (Q := s.SameButRegs) (fun _ _ _ kept => State.each_keeps (Q := s.SameButRegs)
    (fun _ _ _ kept => kept.wr) kept) rfl

theorem State.rd_setOn_of_others (others : ∀ e ∈ ds, ∀ p ∈ ps, f.key d ≠ p.1.key e) :
    (s.setOn ds ps).rd d f = s.rd d f :=
  State.each_keeps (Q := fun t => t.rd d f = s.rd d f)
    (fun _ e mem kept => (State.rd_setFields_of_others (others e mem)).trans kept) rfl

/-- On each die named, of several settings of a field the last stands. -/
theorem State.rd_setOn (wf : s.regs.wf = true) (named : d ∈ ds) (unshared : f.shared = false) (fits : v < 2 ^ f.width)
    (same : ∀ p ∈ ps, p.1.place = f.place → p.1 = f) (last : ∀ q ∈ qs, f.place ≠ q.1.place) :
    (s.setOn ds (ps ++ (f, v) :: qs)).rd d f = v := by
  have sets (t : State) (wf : t.regs.wf = true) : (t.setFields (ps ++ (f, v) :: qs) d).regs.wf = true ∧
      (t.setFields (ps ++ (f, v) :: qs) d).rd d f = v :=
    ⟨State.setFields_wf wf, State.rd_setFields wf fits last⟩
  suffices set : (s.setOn ds (ps ++ (f, v) :: qs)).regs.wf = true ∧ (s.setOn ds (ps ++ (f, v) :: qs)).rd d f = v from set.2
  refine State.each_sets (P := fun t => t.regs.wf = true) (Q := fun t => t.regs.wf = true ∧ t.rd d f = v) named
    (fun t e _ wf => State.setFields_wf wf) (fun t e _ ⟨wf, set⟩ => ?_) sets wf
  by_cases other : d = e
  · subst other
    exact sets t wf
  · refine ⟨State.setFields_wf wf, (State.rd_setFields_of_others fun p mem => ?_).trans set⟩
    rcases List.mem_append.mp mem with early | late
    · by_cases place : p.1.place = f.place
      · rw [same p early place]
        exact Fld.key_ne_of_die_ne unshared other
      · exact Fld.key_ne_of_place_ne (Ne.symm place) e d
    · rcases List.mem_cons.mp late with rfl | late
      · exact Fld.key_ne_of_die_ne unshared other
      · exact Fld.key_ne_of_place_ne (last p late) e d

end

section

variable {s t : State} {d e : Die} {r : Req} {x : Session} {dies : BitVec 8} {arbs : List (Nat × Nat)}

/-! ### Sideband deadlines (R417, R470) -/

theorem sbDeadline_unshared : ∀ a < 8, (sbDeadline a).shared = false := by decide

theorem sbDeadline_width : ∀ a < 8, (sbDeadline a).width = 8 := by decide

theorem sbDeadline_inj : ∀ a < 8, ∀ b < 8, (sbDeadline a).place = (sbDeadline b).place → a = b := by decide

theorem sbDeadline_key_inj {a b : Nat} (ha : a < 8) (hb : b < 8) (same : (sbDeadline a).key d = (sbDeadline b).key e) :
    d = e ∧ a = b := by
  obtain rfl : a = b := sbDeadline_inj _ ha _ hb (by rw [Fld.place_eq_key_mod _ d, Fld.place_eq_key_mod _ e, same])
  exact ⟨Decidable.not_not.mp fun other => Fld.key_ne_of_die_ne (sbDeadline_unshared a ha) other same, rfl⟩

/-- The settings that ARB_SET makes on a die. -/
def deadlineSettings (arbs : List (Nat × Nat)) : List (Fld × Nat) := arbs.map fun a => (sbDeadline a.1, a.2)

theorem applyArbSet_eq (r : Req) (x : Session) (t : State) (dies : BitVec 8) (arbs : List (Nat × Nat)) :
    applyArbSet dies arbs r x t = .ok (t.setOn (maskDies dies) (deadlineSettings arbs)) := by
  simp only [applyArbSet, State.setOn, State.setFields, State.each, deadlineSettings, List.foldl_map]

/-- ARB_SET that runs names each of its classes once, with a deadline of 8 bits. -/
theorem classes_of_arbSet (runs : Runs s r (infoArbSet dies arbs) x t) :
    (∀ a ∈ arbs, a.1 < 8 ∧ a.2 < 256) ∧ (arbs.map Prod.fst).Nodup := by
  have good := firstBad_eq_none.mp runs.operands_good
  refine ⟨fun a mem => ?_, (firstRepeat_eq_none (good (firstRepeat Prod.fst 1 [] arbs) (by simp))).1⟩
  have range := firstNot_eq_none.mp (good (firstNot arbOk 1 arbs) (by simp)) a mem
  simp only [arbOk, decide_eq_true_eq] at range
  omega

theorem State.rd_setOn_deadline {c v : Nat} (range : ∀ a ∈ arbs, a.1 < 8 ∧ a.2 < 256) (once : (arbs.map Prod.fst).Nodup)
    (wf : s.regs.wf = true) (named : d ∈ maskDies dies) (mem : (c, v) ∈ arbs) :
    (s.setOn (maskDies dies) (deadlineSettings arbs)).rd d (sbDeadline c) = v := by
  obtain ⟨before, after, rfl⟩ := List.append_of_mem mem
  obtain ⟨small, fits⟩ := range _ mem
  have inj {a : Nat × Nat} (mem : a ∈ before ++ (c, v) :: after) (same : (sbDeadline a.1).place = (sbDeadline c).place) :
      a.1 = c := sbDeadline_inj _ (range a mem).1 _ small same
  simp only [deadlineSettings, List.map_append, List.map_cons]
  refine State.rd_setOn wf named (sbDeadline_unshared c small) (by rwa [sbDeadline_width c small]) ?same ?last
  case same =>
    rintro _ early place
    obtain ⟨a, mem, rfl⟩ := List.mem_map.mp early
    exact congrArg sbDeadline (inj (List.mem_append_left _ mem) place)
  case last =>
    rintro _ late place
    obtain ⟨a, mem, rfl⟩ := List.mem_map.mp late
    have same : a.1 = c := inj (List.mem_append_right _ (List.mem_cons_of_mem _ mem)) place.symm
    simp only [List.map_append, List.map_cons, List.nodup_append, List.nodup_cons] at once
    exact once.2.1.1 (List.mem_map.mpr ⟨a, mem, same⟩)

end

/-- Settles O17: ARB_SET names each class once (`classes_of_arbSet`), so each deadline it writes stands
(`State.rd_setOn_deadline`), and it writes no other field (`State.rd_setOn_of_others`). -/
theorem deadlinesSet : Obligations.DeadlinesSet := by
  refine ⟨?arbSet, fun s t r x runs => congrArg Host.Outcome.next (runs.run_eq rfl _)⟩
  intro s t r x dies arbs wf runs
  obtain ⟨range, once⟩ := classes_of_arbSet runs
  refine ⟨_, congrArg Host.Outcome.next (runs.run_eq (applyArbSet_eq r x t dies arbs) _), ?set, ?unnamed, ?others, ?_⟩
  case set => exact fun d c v named mem => State.rd_setOn_deadline range once wf named mem
  case unnamed =>
    refine fun d c small out => State.rd_setOn_of_others fun e named p set => ?_
    obtain ⟨a, mem, rfl⟩ := List.mem_map.mp set
    intro same
    obtain ⟨rfl, rfl⟩ := sbDeadline_key_inj small (range a mem).1 same
    exact out.elim (fun out => out named) fun out => out a mem rfl
  case others =>
    refine fun d f other => State.rd_setOn_of_others fun e _ p set => ?_
    obtain ⟨a, mem, rfl⟩ := List.mem_map.mp set
    exact other e a.1 (range a mem).1
  rw [t.setOn_rest]
  exact ⟨rfl, rfl, rfl, rfl⟩

section

variable {s t : State} {d : Die} {r : Req} {x : Session} {dies : BitVec 8} {c : WakeCmp} {cs : List WakeCmp}
  {en : Option Bool} {b n : Bool} {f : Fld} {p : Fld × Nat}

/-! ### Wake comparators (R504, R663) -/

/-- The fields of a comparator: of CMP1, which has an input, and of CMP0. -/
def cmpFields : Bool → List Fld
  | true => [PWR_WAKE_CMP_THR 1, PWR_WAKE_CMP_HYST 1, PWR_WAKE_CMP_AIN_SEL 1]
  | false => [PWR_WAKE_CMP_THR 0, PWR_WAKE_CMP_HYST 0]

/-- The field that enables a comparator. -/
def enableFld : Bool → Fld
  | true => PWR_WAKE_EN_CMP1
  | false => PWR_WAKE_EN_CMP0

/-- Whether ENABLE goes to a comparator: a TLV names it, or none is there. -/
def enableAsked (cs : List WakeCmp) (n : Bool) : Bool := cs.isEmpty || cs.any fun c => c.ain == n

/-- The settings of a comparator. -/
def WakeCmp.settings (c : WakeCmp) : List (Fld × Nat) := (cmpFields c.ain).zip [c.thr, c.hyst, c.ainSel]

/-- The settings of ENABLE. -/
def enableSettings (cs : List WakeCmp) (en : Option Bool) : List (Fld × Nat) :=
  en.toList.flatMap fun b => ([false, true].filter (enableAsked cs)).map fun n => (enableFld n, b.toNat)

/-- The settings that WAKE_CMP_SET makes on a die. -/
def wakeSettings (cs : List WakeCmp) (en : Option Bool) : List (Fld × Nat) :=
  cs.flatMap WakeCmp.settings ++ enableSettings cs en

/-! What these settings are to the model -/

theorem State.setCmp_eq (s : State) (d : Die) (c : WakeCmp) : s.setCmp d c = s.setFields (WakeCmp.settings c) d := by
  unfold State.setCmp WakeCmp.settings
  cases c.ain <;> rfl

theorem State.each_setCmp (s : State) (cs : List WakeCmp) (d : Die) :
    (s.each cs fun s c => s.setCmp d c) = s.setFields (cs.flatMap WakeCmp.settings) d := by
  simp only [State.setCmp_eq, State.setFields, State.each, List.foldl_flatMap]

theorem State.wrB_eq (s : State) (d : Die) (f : Fld) (b : Bool) : s.wrB d f b = s.wr d f b.toNat := by
  cases b <;> rfl

theorem State.setFields_enable (s : State) (cs : List WakeCmp) (en : Option Bool) (d : Die) :
    s.setFields (enableSettings cs en) d = match en with
      | none => s
      | some b =>
        let s := if cs.isEmpty || cs.any fun c => !c.ain then s.wrB d PWR_WAKE_EN_CMP0 b else s
        if cs.isEmpty || cs.any fun c => c.ain then s.wrB d PWR_WAKE_EN_CMP1 b else s := by
  cases en with
  | none => rfl
  | some b =>
    have cmp0 : enableAsked cs false = (cs.isEmpty || cs.any fun c => !c.ain) := by simp [enableAsked]
    have cmp1 : enableAsked cs true = (cs.isEmpty || cs.any fun c => c.ain) := by simp [enableAsked]
    rw [← cmp0, ← cmp1]
    simp only [State.wrB_eq]
    cases on0 : enableAsked cs false <;> cases on1 : enableAsked cs true <;>
      simp [enableSettings, enableFld, State.setFields, State.each, on0, on1]

theorem applyWakeCmpSet_eq (r : Req) (x : Session) (t : State) (dies : BitVec 8) (cs : List WakeCmp) (en : Option Bool) :
    applyWakeCmpSet dies cs en r x t = .ok (t.setOn (maskDies dies) (wakeSettings cs en)) := by
  simp only [State.setOn, wakeSettings, State.setFields_append, ← State.each_setCmp, State.setFields_enable]
  rfl

/-! Their fields -/

theorem cmpFields_unshared : ∀ n, ∀ f ∈ cmpFields n, f.shared = false := by decide

theorem enableFld_unshared : ∀ n, (enableFld n).shared = false := by decide

theorem cmpFields_inj : ∀ m n, ∀ f ∈ cmpFields m, ∀ g ∈ cmpFields n, f.place = g.place → f = g ∧ m = n := by decide

theorem cmpFields_pairwise : ∀ n, (cmpFields n).Pairwise fun f g => f.place ≠ g.place := by decide

theorem enableFld_inj : ∀ m n, (enableFld m).place = (enableFld n).place → m = n := by decide

theorem cmpFields_ne_enableFld : ∀ m n, ∀ f ∈ cmpFields m, f.place ≠ (enableFld n).place := by decide

theorem fst_mem_cmpFields (mem : p ∈ WakeCmp.settings c) : p.1 ∈ cmpFields c.ain := (List.of_mem_zip mem).1

theorem settings_pairwise (c : WakeCmp) : (WakeCmp.settings c).Pairwise fun p q => p.1.place ≠ q.1.place := by
  have fields : (WakeCmp.settings c).map Prod.fst = cmpFields c.ain := by
    unfold WakeCmp.settings
    cases c.ain <;> rfl
  have pairwise := cmpFields_pairwise c.ain
  rwa [← fields, List.pairwise_map] at pairwise

theorem mem_enableSettings :
    p ∈ enableSettings cs en ↔ ∃ b n, en = some b ∧ enableAsked cs n = true ∧ p = (enableFld n, b.toNat) := by
  cases en with
  | none => simp [enableSettings]
  | some b => simp [enableSettings, eq_comm (a := p)]

theorem mem_wakeSettings : p ∈ wakeSettings cs en ↔ (∃ c ∈ cs, p ∈ WakeCmp.settings c) ∨ p ∈ enableSettings cs en := by
  simp [wakeSettings]

/-! What they leave to be read -/

/-- The fields that WAKE_CMP_SET may write. -/
def wakeFields : List Fld :=
  [PWR_WAKE_EN_CMP0, PWR_WAKE_EN_CMP1, PWR_WAKE_CMP_THR 0, PWR_WAKE_CMP_THR 1, PWR_WAKE_CMP_HYST 0, PWR_WAKE_CMP_HYST 1,
    PWR_WAKE_CMP_AIN_SEL 1]

theorem fst_mem_wakeFields (mem : p ∈ wakeSettings cs en) : p.1 ∈ wakeFields := by
  have cmp : ∀ n, ∀ f ∈ cmpFields n, f ∈ wakeFields := by decide
  have enable : ∀ n, enableFld n ∈ wakeFields := by decide
  rcases mem_wakeSettings.mp mem with ⟨c, -, set⟩ | set
  · exact cmp _ _ (fst_mem_cmpFields set)
  · obtain ⟨b, n, -, -, rfl⟩ := mem_enableSettings.mp set
    exact enable n

/-- Of the TLVs that name a comparator the last stands. -/
theorem State.rd_setOn_cmp {before after : List WakeCmp} (wf : t.regs.wf = true) (named : d ∈ maskDies dies)
    (fits : p.2 < 2 ^ p.1.width) (set : p ∈ WakeCmp.settings c) (last : ∀ e ∈ after, e.ain ≠ c.ain) :
    (t.setOn (maskDies dies) (wakeSettings (before ++ c :: after) en)).rd d p.1 = p.2 := by
  have field := fst_mem_cmpFields set
  have pairwise := settings_pairwise c
  obtain ⟨l, l', eq⟩ := List.append_of_mem set
  have settings : wakeSettings (before ++ c :: after) en = (before.flatMap WakeCmp.settings ++ l) ++ (p.1, p.2) ::
      (l' ++ (after.flatMap WakeCmp.settings ++ enableSettings (before ++ c :: after) en)) := by
    simp [wakeSettings, eq]
  have early : ∀ q ∈ before.flatMap WakeCmp.settings ++ l, ∃ n, q.1 ∈ cmpFields n := by
    intro q mem
    rcases List.mem_append.mp mem with mem | mem
    · obtain ⟨e, -, mem⟩ := List.mem_flatMap.mp mem
      exact ⟨_, fst_mem_cmpFields mem⟩
    · exact ⟨_, fst_mem_cmpFields (c := c) (by simp [eq, mem])⟩
  rw [settings]
  refine State.rd_setOn wf named (cmpFields_unshared _ _ field) fits (fun q mem place => ?_) (fun q mem => ?_)
  · obtain ⟨n, other⟩ := early q mem
    exact (cmpFields_inj _ _ _ other _ field place).1
  · rcases List.mem_append.mp mem with mem | mem
    · rw [eq] at pairwise
      exact (List.pairwise_cons.mp (List.pairwise_append.mp pairwise).2.1).1 q mem
    · rcases List.mem_append.mp mem with mem | mem
      · obtain ⟨e, later, mem⟩ := List.mem_flatMap.mp mem
        exact fun place => last e later (cmpFields_inj _ _ _ field _ (fst_mem_cmpFields mem) place).2.symm
      · obtain ⟨b, n, -, -, rfl⟩ := mem_enableSettings.mp mem
        exact cmpFields_ne_enableFld _ n _ field

theorem State.flag_setOn_enable (wf : t.regs.wf = true) (named : d ∈ maskDies dies) (asked : enableAsked cs n = true) :
    (t.setOn (maskDies dies) (wakeSettings cs (some b))).flag d (enableFld n) = b := by
  have width : 2 ^ (enableFld n).width = 2 := by cases n <;> rfl
  have nodup : ([false, true].filter (enableAsked cs)).Nodup := List.Nodup.filter _ (by decide)
  obtain ⟨l, l', eq⟩ := List.append_of_mem (List.mem_filter.mpr ⟨by cases n <;> simp, asked⟩ :
    n ∈ [false, true].filter (enableAsked cs))
  have settings : wakeSettings cs (some b) =
      (cs.flatMap WakeCmp.settings ++ l.map fun n => (enableFld n, b.toNat)) ++ (enableFld n, b.toNat) ::
        l'.map fun n => (enableFld n, b.toNat) := by
    simp [wakeSettings, enableSettings, eq]
  have shown : (t.setOn (maskDies dies) (wakeSettings cs (some b))).rd d (enableFld n) = b.toNat := by
    rw [settings]
    refine State.rd_setOn wf named (enableFld_unshared n) ((Bool.toNat_lt b).trans_eq width.symm) (fun q mem place => ?_) (fun q mem => ?_)
    · rcases List.mem_append.mp mem with mem | mem
      · obtain ⟨c, -, mem⟩ := List.mem_flatMap.mp mem
        exact absurd place (cmpFields_ne_enableFld _ _ _ (fst_mem_cmpFields mem))
      · obtain ⟨m, -, rfl⟩ := List.mem_map.mp mem
        exact congrArg enableFld (enableFld_inj m n place)
    · obtain ⟨m, late, rfl⟩ := List.mem_map.mp mem
      intro place
      obtain rfl := enableFld_inj n m place
      rw [eq] at nodup
      exact (List.nodup_cons.mp (List.nodup_append.mp nodup).2.1).1 late
  rw [State.flag, shown]
  cases b <;> rfl

/-- An enable that the packet does not concern keeps its value. -/
theorem State.rd_setOn_enable_of_unasked (out : d ∉ maskDies dies ∨ en = none ∨ enableAsked cs n = false) :
    (t.setOn (maskDies dies) (wakeSettings cs en)).rd d (enableFld n) = t.rd d (enableFld n) := by
  refine State.rd_setOn_of_others fun e named p mem => ?_
  rcases mem_wakeSettings.mp mem with ⟨c, -, set⟩ | set
  · exact Fld.key_ne_of_place_ne (Ne.symm (cmpFields_ne_enableFld _ n _ (fst_mem_cmpFields set))) e d
  · obtain ⟨b, m, rfl, asked, rfl⟩ := mem_enableSettings.mp set
    by_cases same : n = m
    · subst same
      refine Fld.key_ne_of_die_ne (enableFld_unshared n) ?_
      rintro rfl
      rcases out with out | out | out
      · exact out named
      · cases out
      · exact absurd asked (Bool.eq_false_iff.mp out)
    · exact Fld.key_ne_of_place_ne (fun place => same (enableFld_inj n m place)) e d

end

/-- Settles O48: WAKE_CMP_SET makes one list of settings on each die of its mask (`applyWakeCmpSet_eq`), of which the last of each
field stands (`State.rd_setOn_cmp`, `State.flag_setOn_enable`), and writes no other field (`State.rd_setOn_of_others`). -/
theorem wakeComparators : Obligations.WakeComparators := by
  refine ⟨fun dies cs => rfl, fun s t r x dies cs en runs => congrArg Host.Outcome.next (runs.run_eq rfl _), ?written⟩
  intro s t r x dies cs en wf runs
  have good : ∀ c ∈ cs, WakeCmp.ok c = true :=
    firstNot_eq_none.mp (firstBad_eq_none.mp runs.operands_good (firstNot WakeCmp.ok 1 cs) (by simp))
  refine ⟨_, congrArg Host.Outcome.next (runs.run_eq (applyWakeCmpSet_eq r x t dies cs en) _), ?cmp, ?enabled, ?kept0, ?kept1,
    ?others, ?_⟩
  case cmp =>
    intro d named before c after eq last
    have ok := good c (by simp [eq])
    simp only [WakeCmp.ok, decide_eq_true_eq] at ok
    obtain ⟨ain, thr, hyst, -⟩ := ok
    subst eq
    have shown (f : Fld) (v : Nat) (fits : v < 2 ^ f.width) (set : (f, v) ∈ WakeCmp.settings c) :=
      State.rd_setOn_cmp (before := before) (en := en) wf named fits set last
    cases which : c.ain with
    | true =>
      have sets : WakeCmp.settings c = [(PWR_WAKE_CMP_THR 1, c.thr), (PWR_WAKE_CMP_HYST 1, c.hyst),
          (PWR_WAKE_CMP_AIN_SEL 1, c.ainSel)] := by rw [WakeCmp.settings, which]; rfl
      exact ⟨shown (PWR_WAKE_CMP_THR 1) _ thr (by simp [sets]), shown (PWR_WAKE_CMP_HYST 1) _ hyst (by simp [sets]),
        fun _ => shown (PWR_WAKE_CMP_AIN_SEL 1) _ (ain.trans (by decide)) (by simp [sets])⟩
    | false =>
      have sets : WakeCmp.settings c = [(PWR_WAKE_CMP_THR 0, c.thr), (PWR_WAKE_CMP_HYST 0, c.hyst)] := by
        rw [WakeCmp.settings, which]; rfl
      exact ⟨shown (PWR_WAKE_CMP_THR 0) _ thr (by simp [sets]), shown (PWR_WAKE_CMP_HYST 0) _ hyst (by simp [sets]), nofun⟩
  case enabled =>
    rintro d named b rfl
    have asked {n : Bool} (names : cs = [] ∨ ∃ c ∈ cs, c.ain = n) : enableAsked cs n = true := by
      simpa [enableAsked] using names
    exact ⟨fun names => State.flag_setOn_enable (n := false) wf named (asked names),
      fun names => State.flag_setOn_enable (n := true) wf named (asked names)⟩
  case kept0 =>
    refine fun d out => State.rd_setOn_enable_of_unasked (n := false) (out.imp_right (Or.imp_right fun names => ?_))
    simpa [enableAsked] using names
  case kept1 =>
    refine fun d out => State.rd_setOn_enable_of_unasked (n := true) (out.imp_right (Or.imp_right fun names => ?_))
    simpa [enableAsked] using names
  case others =>
    refine fun d f other => State.rd_setOn_of_others fun e _ p mem => ?_
    have apart : ∀ g ∈ wakeFields, f.key d ≠ g.key e := by
      simpa only [wakeFields, List.forall_mem_cons, List.not_mem_nil, false_imp_iff, implies_true, and_true] using other e
    exact apart _ (fst_mem_wakeFields mem)
  rw [t.setOn_rest]
  exact ⟨rfl, rfl⟩

end Sys2Proof.Machine

/-! Interval boundaries, the latch of a die and complete snapshots: the proof of the statement of spec/11_command_reference.md on
them. -/

namespace Sys2Proof.Machine

/-! ### What packets and events keep -/

/-- A property that each single thing keeps that a packet or an event does to a state: counts, register fields, a message for a lane,
a record of the log, and what concerns outputs, the interpreter and the fabric. -/
structure EventKept (Q : State → Prop) : Prop where
  addCtr : ∀ s k n, Q s → Q (s.addCtr k n)
  wr : ∀ s d f v, Q s → Q (s.wr d f v)
  inbPush : ∀ s d m, Q s → Q (s.inbPush d m)
  logEvent : ∀ s d e, Q s → Q (s.logEvent d e)
  rest : ∀ s out sl fab, Q s → Q { s with out := out, sl := sl, fab := fab }

namespace EventKept

section

variable {Q : State → Prop} (kept : EventKept Q) {s : State}
include kept

theorem cntN (d : Die) (i n : Nat) (h : Q s) : Q (s.cntN d i n) := by
  unfold State.cntN
  split
  · exact kept.addCtr _ _ _ h
  · exact h

theorem sendEth (p : MPort) (dst : BitVec 48) (vlan : Option (BitVec 16)) (b : Bytes) (h : Q s) : Q (s.sendEth p dst vlan b) := by
  unfold State.sendEth
  split
  · have sent : Q (s.portSent p) := kept.rest ((s.cntN (MPort.die p) 145 1).wr (MPort.die p) MGMT_STAT_LPI_TX 0) _ _ _
      (kept.wr _ _ _ _ (kept.cntN _ _ _ h))
    exact kept.rest _ _ _ _ sent
  · exact h

theorem sendLane (l : Die) (m : Bytes) (h : Q s) : Q (s.sendLane l m) := by
  unfold State.sendLane State.sendLink
  split <;> split
  · exact kept.inbPush _ _ _ h
  · exact kept.cntN _ _ _ h
  · exact kept.inbPush _ _ _ h
  · exact kept.cntN _ _ _ h

theorem sendVia (node hops : Nat) (hop : Hop) (vlan : Option (BitVec 16)) (b : Bytes) (h : Q s) :
    Q (s.sendVia node hop hops vlan b) := by
  unfold State.sendVia State.sendPort
  cases hop with
  | portA | portB => dsimp only; split <;> exact kept.sendEth _ _ _ _ h
  | link => exact kept.sendLane _ _ h
  | loc => exact h

theorem sendBy (m : Medium) (mac : BitVec 48) (vlan : Option (BitVec 16)) (b : Bytes) (h : Q s) : Q (s.sendBy m mac vlan b) := by
  cases m with
  | inband => exact kept.sendLane _ _ h
  | portA | portB => exact kept.sendEth _ _ _ _ h

theorem sendOwn (dest : BitVec 16) (m : Medium) (mac : BitVec 48) (vlan : Option (BitVec 16)) (b : Bytes) (h : Q s) :
    Q (s.sendOwn dest m mac vlan b) := by
  unfold State.sendOwn
  split
  · split
    · exact kept.sendBy _ _ _ _ h
    · exact kept.sendVia _ _ _ _ _ h
  · exact kept.sendBy _ _ _ _ h

theorem sendEvents (u : Subscriber) (x : Session) (h : Q s) : Q (s.sendEvents u x) := by
  have nonce : Q (s.takeNonce x.channel).2 := by
    unfold State.takeNonce
    split
    · split
      · exact kept.rest _ _ _ _ h
      · exact h
    · exact h
  unfold State.sendEvents
  split
  · exact h
  · exact kept.rest _ _ _ _ (kept.sendOwn _ _ _ _ _ (kept.rest _ _ _ _ nonce))

theorem flushSub (n : Nat) (ch : BitVec 8) (h : Q s) : Q (State.flushSub n s ch) := by
  induction n generalizing s with
  | zero => exact h
  | succ n ih =>
    unfold State.flushSub
    split
    · split
      · exact h
      · exact ih (kept.sendEvents _ _ h)
    · exact h

theorem offerTo (e : EvRec) (ch : BitVec 8) (h : Q s) : Q (s.offerTo e ch) := by
  unfold State.offerTo
  split
  · exact h
  · exact kept.addCtr _ _ _ (kept.rest _ _ _ _ h)

theorem deliver (e : EvRec) (h : Q s) : Q (s.deliver e) := by
  have offered {v : State} {chs : List (BitVec 8)} (h : Q v) : Q (chs.foldl (fun v ch => v.offerTo e ch) v).flushAll :=
    State.each_keeps (fun _ _ _ h => kept.flushSub _ _ h) (State.each_keeps (Q := Q) (fun _ _ _ h => kept.offerTo _ _ h) h)
  unfold State.deliver
  dsimp only
  split
  · have alarmed := kept.wr _ 1 MGMT_STAT_LPI_TX 0 (kept.wr _ 0 MGMT_STAT_LPI_TX 0
      (kept.rest _ s.out { s.sl with alarms := s.sl.alarms ++ [(e.source, e.timeNs)] } s.fab h))
    split
    · exact kept.rest _ _ _ _ alarmed
    · exact offered alarmed
  · split
    · exact h
    · exact offered h

theorem raisePkg (j : Nat) (arg : Bytes) (h : Q s) : Q (s.raisePkg j arg) := by
  unfold State.raisePkg
  split
  · exact kept.deliver _ (kept.logEvent _ _ _ (kept.addCtr _ _ _ h))
  · exact h

end

end EventKept

section

variable {s t u : State} {d : Die} {n : Nat}

/-! ### A telemetry boundary (R420, R464, R515) -/

/-- The load of the sideband is shown, and reported where it is high; that takes no time. -/
theorem State.closeSbLoad_time (s : State) : s.closeSbLoad.time = s.time := by
  have shown {step : State → Die → State} (keeps : ∀ u d, Conveyed s u → Conveyed s (step u d)) :
      Conveyed s (s.each s.popDies step) := State.each_keeps (fun u d _ => keeps u d) (Conveyed.refl s)
  unfold State.closeSbLoad
  dsimp only
  split
  · refine (Conveyed.raisePkg (shown ?_)).time
    exact fun u d h => h.congr rfl rfl rfl
  · refine (shown ?_).time
    exact fun u d h => h.congr rfl rfl rfl

/-- The offset of package time from a boundary at `t` on: what a waiting TIMEBASE_SET names, or as before. -/
def State.boundaryOffset (s : State) (t : Nat) : Int :=
  match (s.time.setPending.map fun p => p.1 * nsU + p.2 * 2 ^ 24 : Option Nat) with
  | some v => (v : Int) - t
  | none => s.time.offset

theorem State.add_boundaryOffset {t : Nat} {p : Nat × Nat} (pending : s.time.setPending = some p) :
    (t : Int) + s.boundaryOffset t = (p.1 * nsU + p.2 * 2 ^ 24 : Nat) := by
  simp only [State.boundaryOffset, pending, Option.map_some]
  omega

theorem State.boundaryOffset_of_none {t : Nat} (none : s.time.setPending = none) : s.boundaryOffset t = s.time.offset := by
  simp only [State.boundaryOffset, none, Option.map_none]

/-- What a boundary makes of package time, and the LATCH that waits at the leader. -/
structure BoundaryTaken (s : State) (t : Nat) (u : State) : Prop where
  ivNum : u.time.ivNum = s.time.ivNum + 1
  last : u.time.lastBoundary = t
  pending : u.time.setPending = none
  next : u.time.nextBoundary = t + (slewed s.interval s.time.slew).1
  offset : u.time.offset = s.boundaryOffset t
  latch : ∃ l e ns, (u.die u.leader).sb.reqs = l ++ [e] ∧ e.cls = 3 ∧ e.copies = 2 ∧ e.msg = .latch (s.time.ivNum + 1) ns

theorem State.sbPush_reqs (s : State) (cls copies : Nat) (msg : SlotMsg) :
    ∃ l e, ((s.sbPush s.leader cls copies msg).die (s.sbPush s.leader cls copies msg).leader).sb.reqs = l ++ [e] ∧
      e.cls = cls ∧ e.copies = copies ∧ e.msg = msg := by
  have pushed : (s.sbPush s.leader cls copies msg).leader = s.leader := rfl
  rw [pushed, State.sbPush, State.sbQueue, State.die_updDie]
  exact ⟨_, _, rfl, rfl, rfl, rfl⟩

theorem State.takeBoundary_taken (s : State) (t : Nat) : BoundaryTaken s t (s.takeBoundary t) where
  ivNum := rfl
  last := rfl
  pending := rfl
  next := rfl
  offset := rfl
  latch := by
    obtain ⟨l, e, queued, cls, copies, msg⟩ := State.sbPush_reqs _ 3 2 _
    exact ⟨l, e, _, queued, cls, copies, msg⟩

theorem execTelemetryBoundary_of_due (started : s.started = true) (runs : s.sbRuns = true)
    (due : s.time.nextBoundary ≤ s.time.now) :
    execTelemetryBoundary s = .next (s.takeBoundary s.time.nextBoundary) :=
  if_pos (by simp [started, runs, due])

/-! ### LATCH (R580, R581, R585) -/

/-- Whether a counter of package index `k` is the die's. -/
def ctrOf (d : Die) (k : Nat) : Bool := k / 192 == d.val && decide (k < 1536)

/-- A state that has lost no wrap flag of another, and no mark of a restart. -/
structure Unlatched (s t : State) : Prop where
  wraps : ∀ k ∈ s.tel.wraps, k ∈ t.tel.wraps
  pwr : ∀ d, (t.die d).pwr = (s.die d).pwr

namespace Unlatched

theorem refl (s : State) : Unlatched s s := ⟨fun _ mem => mem, fun _ => rfl⟩

theorem congr (h : Unlatched s t) (wraps : u.tel.wraps = t.tel.wraps) (dies : u.dies = t.dies) : Unlatched s u :=
  ⟨fun k mem => wraps ▸ h.wraps k mem, fun d => (by simp only [State.die, dies] : (u.die d).pwr = (t.die d).pwr).trans (h.pwr d)⟩

theorem addCtr {k i : Nat} (h : Unlatched s t) : Unlatched s (t.addCtr k i) := by
  refine ⟨fun j mem => ?_, h.pwr⟩
  have held := h.wraps j mem
  simp only [State.addCtr]
  split
  · exact held
  · exact List.mem_cons_of_mem _ held

theorem updDie {g : DieSt → DieSt} (h : Unlatched s t) (pwr : ∀ x, (g x).pwr = x.pwr) : Unlatched s (t.updDie d g) := by
  refine ⟨h.wraps, fun e => Eq.trans ?_ (h.pwr e)⟩
  by_cases same : d = e
  · subst same
    rw [State.die_updDie, pwr]
  · rw [State.die_updDie_ne _ _ same]

theorem eventKept (s : State) : EventKept (Unlatched s) where
  addCtr _ _ _ h := h.addCtr
  wr _ _ _ _ h := h.congr rfl rfl
  inbPush _ _ m h := updDie (g := fun x => { x with inband := { x.inband with txq := x.inband.txq ++ [m] } }) h fun _ => rfl
  logEvent _ _ _ h := h.updDie fun _ => rfl
  rest _ _ _ _ h := h.congr rfl rfl

theorem cntN {i m : Nat} (h : Unlatched s t) : Unlatched s (t.cntN d i m) := (eventKept s).cntN d i m h

theorem updEngine {e : Fin 8} {g : Engine → Engine} (h : Unlatched s t) : Unlatched s (t.updEngine d e g) := by
  unfold State.updEngine State.updPool
  refine updDie h ?_
  exact fun _ => rfl

theorem chargeAll (h : Unlatched s t) : Unlatched s (t.chargeAll d) :=
  State.each_keeps (Q := Unlatched s) (fun _ _ _ h => h.cntN.updEngine.cntN.updEngine) h

theorem chargeCipher (h : Unlatched s t) : Unlatched s (t.chargeCipher d) := by
  unfold State.chargeCipher
  refine updDie h.cntN.cntN ?_
  exact fun _ => rfl

theorem abandon (h : Unlatched s t) : Unlatched s (t.abandon n) := by
  unfold State.abandon
  split
  · refine (eventKept s).raisePkg _ _ (congr (addCtr (h.congr (u := { t with tel := { t.tel with bounds := _, carry := _ } })
      rfl rfl)) rfl rfl)
  · exact h

end Unlatched

/-- A state that holds the set which a die latched of boundary `n`, as the state `s` had its counters and wrap flags. -/
structure Latched (s : State) (d : Die) (n : Nat) (t : State) : Prop where
  set : ∃ x ∈ t.tel.sets, x.die = d.val ∧ x.num = n ∧ x.collected = false ∧
    x.vals = t.tel.ctr.filter (fun kv => ctrOf d kv.1) ∧ (∀ k ∈ s.tel.wraps, ctrOf d k = true → k ∈ x.wraps) ∧
    ((s.die d).pwr.restarted = true → x.wraps = (List.range 192).map (ctrIndex d))
  clear : ∀ k ∈ t.tel.wraps, ctrOf d k = false

/-- A counter of a die is one of its 192. -/
theorem mem_ctrIndex_of_ctrOf {k : Nat} (mine : ctrOf d k = true) : k ∈ (List.range 192).map (ctrIndex d) := by
  simp only [ctrOf, Bool.and_eq_true, beq_iff_eq, decide_eq_true_eq] at mine
  refine List.mem_map.mpr ⟨k % 192, List.mem_range.mpr (Nat.mod_lt _ (by decide)), ?_⟩
  unfold ctrIndex
  omega

/-- A set that is still uncollected two boundaries later is abandoned first (R584). -/
def State.beforeLatch (s : State) (d : Die) (n : Nat) : State :=
  if s.tel.sets.any fun x => x.die == d.val && x.num + 2 == n && !x.collected then s.abandon (n - 2) else s

/-- The set that a die latches. -/
def State.latchSet (s : State) (d : Die) (n : Nat) : LatchSet :=
  ⟨d.val, n, s.tel.ctr.filter fun kv => ctrOf d kv.1,
    if (s.die d).pwr.restarted then (List.range 192).map (ctrIndex d) else s.tel.wraps.filter (ctrOf d), false, 0⟩

theorem State.latchDie_tel (s : State) (d : Die) (n : Nat) : (s.latchDie d n).tel =
    { ((s.beforeLatch d n).addSet ((s.beforeLatch d n).latchSet d n)).tel with
      wraps := (s.beforeLatch d n).tel.wraps.filter fun k => !ctrOf d k } := rfl

theorem Unlatched.beforeLatch (h : Unlatched s t) : Unlatched s (t.beforeLatch d n) := by
  unfold State.beforeLatch
  split
  · exact h.abandon
  · exact h

theorem Unlatched.latchDie (h : Unlatched s t) : Latched s d n (t.latchDie d n) := by
  obtain ⟨kept, pwr⟩ : Unlatched s (t.beforeLatch d n) := h.beforeLatch
  constructor <;> rw [State.latchDie_tel]
  case set =>
    refine ⟨(t.beforeLatch d n).latchSet d n, List.mem_append_right _ (List.mem_singleton_self _), rfl, rfl, rfl, rfl, ?_, ?_⟩
    · intro k mem mine
      simp only [State.latchSet]
      split
      · exact mem_ctrIndex_of_ctrOf mine
      · exact List.mem_filter.mpr ⟨kept k mem, mine⟩
    · intro restarted
      rw [← pwr d] at restarted
      exact if_pos restarted
  case clear => simp

namespace Latched

theorem congr (h : Latched s d n t) (tel : u.tel = t.tel) : Latched s d n u := ⟨tel ▸ h.set, tel ▸ h.clear⟩

/-- The package's set is none of a die's, and its latch clears no flag of a die. -/
theorem latchPkg (h : Latched s d n t) : Latched s d n (t.latchPkg n) := by
  obtain ⟨⟨x, mem, die, rest⟩, clear⟩ := h
  have other : (x.die == 8) = false := by
    have := d.isLt
    simp only [beq_eq_false_iff_ne]
    omega
  refine ⟨⟨x, List.mem_append_left _ (List.mem_filter.mpr ⟨mem, by simp [other]⟩), die, rest⟩, fun k mem => ?_⟩
  exact clear k (List.mem_filter.mp mem).1

theorem closeHfec (h : Latched s d n t) : Latched s d n (t.closeHfec d) := by
  refine State.each_keeps (Q := Latched s d n) (fun v i _ h => ?_) h
  dsimp only
  split
  · exact h.congr rfl
  · exact h.congr rfl

theorem pushCollection (h : Latched s d n t) : Latched s d n (t.pushCollection d n) := by
  unfold State.pushCollection
  split
  · exact h
  · exact State.each_keeps (Q := Latched s d n) (fun v i _ h => h.congr rfl) h

end Latched

/-- A LATCH that came leaves the inbox, and the die charges what runs before it latches. -/
def State.chargeLatch (s : State) (d : Die) (e : SlotIn) : State :=
  let w := { s with sb := { s.sb with inbox := s.sb.inbox.erase e } }
  if w.domainOn d .dataPath then (w.chargeAll d).chargeCipher d else w

theorem State.chargeLatch_unlatched (s : State) (d : Die) (e : SlotIn) : Unlatched s (s.chargeLatch d e) := by
  have left : Unlatched s { s with sb := { s.sb with inbox := s.sb.inbox.erase e } } := (Unlatched.refl s).congr rfl rfl
  unfold State.chargeLatch
  dsimp only
  split
  · exact left.chargeAll.chargeCipher
  · exact left

theorem execLatch_latched {e : SlotIn} {ns : Nat} (populated : s.pop d = true) (healthy : s.healthy d = true)
    (awake : s.power d ≠ .dormant) (supplied : s.power d ≠ .off)
    (came : s.sb.inbox.find? (fun e => e.dst == d && SlotMsg.latchNum? e.msg != none) = some e) (msg : e.msg = .latch n ns)
    (new : s.tel.sets.any (fun x => x.die == d.val && x.num == n) = false) :
    ∃ t, execLatch d s = .next t ∧ Latched s d n t := by
  have num : (SlotMsg.latchNum? e.msg).getD 0 = n := by rw [msg]; rfl
  have acts : (s.pop d && s.healthy d && s.power d != .dormant && s.power d != .off
      && !s.tel.sets.any (fun x => x.die == d.val && x.num == n)) = true := by
    simp [populated, healthy, awake, supplied, new]
  have latched : Latched s d n (((s.chargeLatch d e).latchDie d n).closeHfec d) :=
    (s.chargeLatch_unlatched d e).latchDie.closeHfec
  have ran : execLatch d s = .next
      (let u := ((s.chargeLatch d e).latchDie d n).closeHfec d
       (if d = u.leader then u.latchPkg n else u).pushCollection d n) := by
    unfold execLatch
    simp only [came, num]
    exact if_pos acts
  refine ⟨_, ran, Latched.pushCollection ?_⟩
  split
  · exact latched.latchPkg
  · exact latched

/-! ### Snapshots (R583) -/

theorem execSnapshotComplete_of_collectable {b : Boundary} (leads : s.leads = true) (oldest : s.collecting = some b)
    (complete : s.collectable b.num = true) :
    execSnapshotComplete s = .next { s with tel := { s.tel with
      snap := some
        (let sets := (8 :: s.popDies.map Fin.val).filterMap fun d => s.setFor d b.num
         ⟨b, mergeTables (sets.map LatchSet.vals), sets.flatMap LatchSet.wraps ++ s.tel.carry⟩)
      carry := []
      sets := s.tel.sets.map fun x => if x.num ≤ b.num then { x with collected := true, wraps := [] } else x } } := by
  simp only [execSnapshotComplete, oldest]
  exact if_pos (by simp [leads, complete])

end

/-- Settles O14: what a boundary makes of package time (`State.takeBoundary_taken`); what comes before a die's latch loses no wrap
flag (`Unlatched`) and what comes after leaves its set (`Latched`); a complete collection is the snapshot. -/
theorem telemetryRuns : Obligations.TelemetryRuns := by
  refine ⟨?boundary, ?latch, fun s b => execSnapshotComplete_of_collectable⟩
  case boundary =>
    intro s started runs due
    obtain ⟨ivNum, last, pending, next, offset, latch⟩ := s.takeBoundary_taken s.time.nextBoundary
    refine ⟨_, execTelemetryBoundary_of_due started runs due, ivNum, last, pending, fun steady => ?_, fun p set => ?_,
      fun none => ?_, latch⟩
    · rw [next, slewed, steady, if_pos rfl]
      rfl
    · rw [offset, State.add_boundaryOffset set]
    · rw [offset, State.boundaryOffset_of_none none]
  case latch =>
    intro s d e n ns populated healthy awake supplied came msg new
    obtain ⟨t, ran, ⟨x, mem, die, num, collected, vals, wraps, restarted⟩, clear⟩ :=
      execLatch_latched populated healthy awake supplied came msg new
    refine ⟨t, ran, ⟨x, mem, die, num, collected, vals, fun k held mine small => wraps k held ?_, restarted⟩,
      fun k held mine => ?_⟩
    · simp [ctrOf, mine, small]
    · simpa [ctrOf, mine] using clear k held

end Sys2Proof.Machine

/-! The DAC bank and the monitor converters: the proof of the statement of spec/11_command_reference.md on them, whose rules are
those of spec/15_housekeeping_analogue.md. -/

namespace Sys2Proof.Machine

section

variable {s t : State} {d : Die} {dies : BitVec 8} {r : Req} {x : Session} {c : Fin 6} {ch code : Nat} {codes : List Nat}

/-! ### Commands of the DAC bank (R406, R522 to R525, R527) -/

theorem applyDacChSet_of_on {cfg : DacCfg} (on : t.anaOn (maskDies dies) = true) :
    applyDacChSet dies ch cfg r x t =
      match (maskDies dies).findSome? (t.dacCfgRefused (chOf ch) cfg) with
      | some st => .refuse st 2 t
      | none =>
        let u := t.each (maskDies dies) fun u d => u.dacSetCfg d (chOf ch) cfg
        if (maskDies dies).any fun d => t.rd d (DACB_CFG_RANGE (chOf ch).val) != cfg.range then
          .pending (.dacCh (maskDies dies) ch) u else .ok u :=
  if_neg (by simp [on])

theorem applyDacWrite_of_on (on : t.anaOn (maskDies dies) = true) :
    applyDacWrite dies ch codes r x t =
      match (maskDies dies).findSome? (t.dacCodesRefused (chOf ch) codes) with
      | some st => .refuse st 2 t
      | none => .ok (t.each (maskDies dies) fun u d => u.dacPut d (chOf ch) codes) :=
  if_neg (by simp [on])

theorem regDacCode_of_on (on : t.blockOff d 0x10 true = false) :
    regDacCode d c code t =
      match t.dacCodesRefused c [code % 4096] d with
      | some st => .refuse st 1 t
      | none => .ok (t.dacPut d c [code % 4096]) :=
  if_neg (Bool.eq_false_iff.mp on)

theorem regDacPush_of_on (on : t.blockOff d 0x10 true = false) (below : t.aboveCeiling d c (code % 4096) = false)
    (free : t.dacBusy d c = false) :
    regDacPush d c code t =
      if 32 ≤ (t.dac d c).queue.length then .ok t
      else .ok ((t.dacAccepted d c).updDac d c fun y => { y with queue := y.queue ++ [code % 4096] }) :=
  (if_neg (Bool.eq_false_iff.mp on)).trans <| (if_neg (Bool.eq_false_iff.mp below)).trans (if_neg (Bool.eq_false_iff.mp free))

theorem applyDacWaveSet_of_on {w : Wave} (on : t.anaOn (maskDies dies) = true) :
    applyDacWaveSet dies ch w r x t =
      match (maskDies dies).findSome? (t.waveRefused (chOf ch) w) with
      | some st => .refuse st 2 t
      | none => .ok (t.each (maskDies dies) fun u d => u.dacWave d (chOf ch) w) :=
  if_neg (by simp [on])

theorem regSwClr_of_on {on : Bool} (clocked : t.blockOff d 0x10 true = false) :
    regSwClr d on t = .ok (if on && !t.flag d DACB_CTRL_SW_CLR then (t.wrB d DACB_CTRL_SW_CLR on).dacClearDie d
      else t.wrB d DACB_CTRL_SW_CLR on) :=
  if_neg (Bool.eq_false_iff.mp clocked)

/-- A guard that no die of a mask is without supply passes. -/
theorem ite_dead_of_retained {α : Type} {m : Domain} {ds : List Die} (retained : ∀ d ∈ ds, t.level d m ≠ .dead) (a b : α) :
    (if (ds.any fun d => t.level d m == .dead) = true then a else b) = b :=
  if_neg (by simpa using retained)

/-! ### Range changes, clears and short circuits (R523 to R526) -/

theorem execDacRangeSwitch_of_due {p : DacPark} (parked : (s.dac d c).park = some p) (first : p.switched = false)
    (due : p.since + usU 10 ≤ s.time.now) :
    execDacRangeSwitch d c s = .next ((s.updDac d c fun x =>
      { x with park := some { p with switched := true, since := s.time.now } }).setRange d c p.newRange) := by
  simp only [execDacRangeSwitch, parked]
  exact if_pos (by simp [State.past, first, due])

theorem State.setRange_regs (s : State) (d : Die) (c : Fin 6) (v : Nat) :
    (s.setRange d c v).regs = (s.wr d (DACB_CFG_RANGE c.val) v).regs := by
  unfold State.setRange State.outFollow
  split <;> rfl

theorem execDacParkEnd_of_due {p : DacPark} (parked : (s.dac d c).park = some p) (switched : p.switched = true)
    (due : p.since + usU 10 ≤ s.time.now) :
    execDacParkEnd d c s = .next (((s.updDac d c fun x => { x with park := none }).wr d
      (DACB_STAT_PARKING c.val) 0).endDacPend d c .ok) := by
  simp only [execDacParkEnd, parked]
  exact if_pos (by simp [State.past, switched, due])

theorem execDacShort_of_end (populated : s.pop d = true) (retained : s.level d .ana ≠ .dead) :
    execDacShort d c false s = .next (s.wr d (DACB_STAT_SC_NOW c.val) 0) :=
  if_neg (by simp [populated, retained])

theorem execDacShort_of_start (populated : s.pop d = true) (retained : s.level d .ana ≠ .dead) :
    execDacShort d c true s = .next (if s.flag d (DACB_STAT_SC_NOW c.val) then s
      else (((s.wr d (DACB_STAT_SC_NOW c.val) 1).wr d (DACB_STAT_SC c.val) 1).cnt d 176).raiseLane d evDAC_SHORT) := by
  refine (if_neg (by simp [populated, retained])).trans ?_
  exact (apply_ite Host.Outcome.next _ _ _).symm

end

section

variable {s t : State} {d : Die} {dies : BitVec 8} {r : Req} {x : Session} {n : Fin 2} {conv : Nat} {preset : Option Nat}

/-! ### Commands of the converters (R407, R538, R539, R541, R546) -/

theorem maskDies_shift (d : Die) : maskDies (1#8 <<< d.val) = [d] := by
  revert d
  decide

theorem applyMadcConvert_of_idle {input : Nat} (on : t.anaOn [d] = true)
    (free : t.sl.pend.any (fun p => p.kind == .convert d (convOf conv).val) = false) :
    applyMadcConvert (1#8 <<< d.val) conv input preset r x t =
      (let n := convOf conv
       let y := t.conv d n
       let u := t.wr d (MADC_NATIVE_INPUT n.val) input
       let u := u.updConv d n fun y => { y with preset := preset.getD (u.rd d (MADC_CTRL_PRESET n.val)) }
       if y.busy || y.act.isCal then
         { status := .deferred, delayUs := some (u.convWait d n), pend := some (.convert d n.val),
           state := u.updConv d n fun y => { y with natWait := true } }
       else if y.act = .idle then .pending (.convert d n.val) (u.startRegular d n .native)
       else .pending (.convert d n.val) (u.updConv d n fun y => { y with back := .native })) := by
  simp only [applyMadcConvert, maskDies_shift]
  exact (if_neg (by simp [on])).trans (if_neg (by simp [free]))

theorem applyMadcSeqSet_of_on {es : List SeqEntry} (on : t.anaOn (maskDies dies) = true) :
    applyMadcSeqSet dies conv es preset r x t =
      .ok (t.each (maskDies dies) fun u d =>
        let u := (u.writeSeq d (convOf conv) 0 es).wr d (MADC_CTRL_SEQ_LEN (convOf conv).val) (es.length - 1)
        match preset with
        | some p => u.wr d (MADC_CTRL_PRESET (convOf conv).val) p
        | none => u) :=
  if_neg (by simp [on])

theorem applyMadcTriggerSet_of_on {source delay : Nat} {period : Option Nat} (on : t.anaOn (maskDies dies) = true) :
    applyMadcTriggerSet dies conv source delay period r x t =
      .ok (let u := t.each (maskDies dies) fun u d =>
             let u := (u.wr d (MADC_CTRL_TRIG_SRC (convOf conv).val) source).wr d (MADC_CTRL_DELAY (convOf conv).val)
               delay
             match period with
             | some p => (u.wr d (MADC_TIMER_PERIOD (convOf conv).val) p).updConv d (convOf conv) fun y =>
                 { y with timerAt := u.time.now }
             | none => u
           { u with cmdTrigger := u.cmdTrigger || source == 3 }) :=
  if_neg (by simp [on])

theorem applyMadcCalibrate_of_free {k : CalKind} (on : t.anaOn (maskDies dies) = true)
    (free : ∀ d ∈ maskDies dies, t.convPending d (convOf conv) = false ∧ t.calMustWait d (convOf conv) = false) :
    applyMadcCalibrate dies conv k r x t = .pending (.calibrate (maskDies dies) (convOf conv).val)
      (t.each (maskDies dies) fun u d => u.calRequest d (convOf conv) k) := by
  have none_pends : ((maskDies dies).any fun d => t.convPending d (convOf conv)) = false := by
    simpa using fun d mem => (free d mem).1
  have none_waits : ((maskDies dies).any fun d => t.calMustWait d (convOf conv)) = false := by
    simpa using fun d mem => (free d mem).2
  simp only [applyMadcCalibrate, on, none_pends, none_waits, Bool.not_true, Bool.false_eq_true, if_false]

theorem applyMadcTestdacSet_of_on {code : Nat} (on : t.anaOn (maskDies dies) = true) :
    applyMadcTestdacSet dies conv code r x t =
      .ok (t.each (maskDies dies) fun u d =>
        if code = 0xFFFF then u.wr d (MADC_TESTDAC_CONNECT (convOf conv).val) 0
        else (u.wr d (MADC_TESTDAC_CODE (convOf conv).val) code).wr d (MADC_TESTDAC_CONNECT (convOf conv).val) 1) :=
  if_neg (by simp [on])

/-! ### Triggers and conversions (R541, R543) -/

theorem execMadcInjectedTrigger_of_populated {safety : Bool} (populated : s.pop d = true) :
    execMadcInjectedTrigger d n safety s = .next (if safety then s.safetyTrigger d n else s.ownTrigger d n) :=
  congrArg Host.Outcome.next (if_neg (by simp [populated]))

theorem execMadcTimer_of_due (populated : s.pop d = true) (on : s.domainOn d .ana = true)
    (due : (s.conv d n).timerAt + modU (s.rd d (MADC_TIMER_PERIOD n.val)) ≤ s.time.now) :
    execMadcTimer d n s = .next ((s.updConv d n fun x => { x with
      timerAt := nextDue (some (s.conv d n).timerAt) (modU (s.rd d (MADC_TIMER_PERIOD n.val))) s.time.now }).sourceTrigger
        0 d n) :=
  if_pos (by simp [State.past, populated, on, due])

theorem execMadcTriggerDelayEnd_of_scan {e : Nat} (populated : s.pop d = true) (on : s.domainOn d .ana = true)
    (noOwn : (s.conv d n).ownDelayEnd = none) (waits : (s.conv d n).delayEnd = some e) (due : e ≤ s.time.now) :
    execMadcTriggerDelayEnd d n s = .next (if (s.conv d n).act = .idle then
      (s.updConv d n fun x => { x with delayEnd := none }).startRegular d n (.entry 0) else s) := by
  simp only [execMadcTriggerDelayEnd, populated, on, noOwn, waits, State.delayOver, due, decide_true, Bool.true_and,
    Bool.and_self, Bool.not_true, Bool.false_eq_true, if_false, beq_iff_eq]
  exact (apply_ite Host.Outcome.next _ _ _).symm

theorem execSyncInEdge_of_running (started : s.started = true) (runs : s.sbRuns = true) :
    execSyncInEdge s = .next s.syncBoundary.syncTrigger :=
  congrArg Host.Outcome.next (if_pos (by simp [started, runs]))

/-- The bits of 11 samples give the sample of R535 to R537. -/
theorem State.sampleOf_of_whole {pre gain : Nat} {o : Bool} {bits : List Bool} (whole : bits.length = 11 * presetD pre) :
    s.sampleOf d n pre gain o bits =
      some (Cic.run (presetD pre) 11 bits .zero, convSample o (s.calibrated d n gain
        (Config.compensation pre (Cic.run (presetD pre) 11 bits .zero).taps))) :=
  if_pos whole

theorem execMadcConversionDone_of_due {o : Bool} {bits : List Bool} (populated : s.pop d = true)
    (on : s.domainOn d .ana = true) (due : (s.conv d n).endsAt ≤ s.time.now)
    (whole : bits.length = 11 * presetD (s.conv d n).preNow) :
    execMadcConversionDone d n o bits s = .next
      (let x := Cic.run (presetD (s.conv d n).preNow) 11 bits .zero
       (s.updConv d n fun y => { y with cic := x }).convDone d n (convSample o
         (s.calibrated d n (s.conv d n).gainNow (Config.compensation (s.conv d n).preNow x.taps)))) := by
  simp only [execMadcConversionDone, populated, on, due, decide_true, Bool.and_self, if_true, State.sampleOf_of_whole whole]

theorem execMadcCalibrationDone_of_running {k : CalKind} {sums : List (Int × Int)} (populated : s.pop d = true)
    (on : s.domainOn d .ana = true) (runs : (s.conv d n).act = .cal k) :
    execMadcCalibrationDone d n sums s = .next
      (let u : State := match s.calResult d n k sums with
         | some l => (s.each l fun s e =>
             (s.wrInt d (MADC_CAL_OFS n.val e.1) e.2.1).wrInt d (MADC_CAL_GAIN n.val e.1) e.2.2).saveCal d n
         | none => ((s.wr d (MADC_STAT_CAL_FAIL n.val) 1).updConv d n fun x => { x with calFailed := true }).raiseLane d
             evMADC_CAL_FAIL
       let u := (u.updConv d n fun x => { x with act := .idle }).convFree d n
       let u := if (u.conv d (otherConv n)).calWait.isSome && (u.conv d (otherConv n)).act = .idle
         then u.convFree d (otherConv n) else u
       u.endCal d n) := by
  simp only [execMadcCalibrationDone, populated, on, runs, Bool.and_self] <;> rfl

end

/-- Settles O26: a request that runs is its body on the state it runs in, and an event whose condition holds has its effect. -/
theorem analogueRuns : Obligations.AnalogueRuns := by
  refine ⟨?chSet, ?write, ?codeWrite, ?push, ?wave, ?swClr, ?status, ?rangeSwitch, State.setRange_regs, ?parkEnd, ?clrAssert,
    ?clrRelease, ?shortEnd, ?shortStart, ?convert, ?seqSet, ?triggerSet, ?calibrate, ?read, ?testdac, ?injStart, ?fifoRead,
    ?injRes, ?injected, ?timer, ?delayEnd, ?sync, ?done, ?calibrated, ?calDone⟩
  case chSet =>
    exact fun s t r x dies ch cfg runs on => congrArg Host.Outcome.next (runs.run_eq (applyDacChSet_of_on on) _)
  case write =>
    exact fun s t r x dies ch codes runs on => congrArg Host.Outcome.next (runs.run_eq (applyDacWrite_of_on on) _)
  case codeWrite =>
    exact fun s t r x d c code runs on => congrArg Host.Outcome.next
      (runs.run_eq (body := fun _ _ u => regDacCode d c code u) (regDacCode_of_on on) _)
  case push =>
    exact fun s t r x d c code runs on below free => congrArg Host.Outcome.next
      (runs.run_eq (body := fun _ _ u => regDacPush d c code u) (regDacPush_of_on on below free) _)
  case wave =>
    exact fun s t r x dies ch w runs on => congrArg Host.Outcome.next (runs.run_eq (applyDacWaveSet_of_on on) _)
  case swClr =>
    exact fun s t r x d on runs clocked => congrArg Host.Outcome.next
      (runs.run_eq (body := fun _ _ u => regSwClr d on u) (regSwClr_of_on clocked) _)
  case status =>
    exact fun s t r x dies runs retained => congrArg Host.Outcome.next
      (runs.run_eq (body := fun _ _ u => if (maskDies dies).any fun d => u.level d .ana == .dead then .fail .domainOff u
        else .okWith u ((maskDies dies).flatMap fun d => allChs.map (tlvDacStatus u d))) (ite_dead_of_retained retained _ _) _)
  case rangeSwitch => exact fun s d c p => execDacRangeSwitch_of_due
  case parkEnd => exact fun s d c p => execDacParkEnd_of_due
  case clrAssert => exact fun s => rfl
  case clrRelease => exact fun s => rfl
  case shortEnd => exact fun s d c => execDacShort_of_end
  case shortStart => exact fun s d c => execDacShort_of_start
  case convert =>
    exact fun s t r x d conv input preset runs on free =>
      congrArg Host.Outcome.next (runs.run_eq (applyMadcConvert_of_idle on free) _)
  case seqSet =>
    exact fun s t r x dies conv es preset runs on => congrArg Host.Outcome.next (runs.run_eq (applyMadcSeqSet_of_on on) _)
  case triggerSet =>
    exact fun s t r x dies conv source delay period runs on =>
      congrArg (fun u : State => Host.Outcome.next u.fireCommand) (runs.run_eq (applyMadcTriggerSet_of_on on) _)
  case calibrate =>
    exact fun s t r x dies conv k runs on free =>
      congrArg Host.Outcome.next (runs.run_eq (applyMadcCalibrate_of_free on free) _)
  case read =>
    intro s t r x d conv count runs retained
    exact congrArg Host.Outcome.next (runs.run_eq (by simp only [maskDies_shift, retained, if_false]) _)
  case testdac =>
    exact fun s t r x dies conv code runs on => congrArg Host.Outcome.next (runs.run_eq (applyMadcTestdacSet_of_on on) _)
  case injStart =>
    exact fun s t r x d n runs on => congrArg Host.Outcome.next (runs.run_eq (body := fun _ _ u => regGuard d 0x11 true u
      (.ok (if u.rd d (MADC_INJ_SRC n.val) = 3 then u.ownTrigger d n else u))) (regGuard_of_on on _) _)
  case fifoRead =>
    exact fun s t r x d n runs on => congrArg Host.Outcome.next (runs.run_eq (body := fun _ _ u => regGuard d 0x11 false u
      (.okWith (u.readFifo d n).2 [tlvData [(u.readFifo d n).1]])) (regGuard_of_on on _) _)
  case injRes =>
    exact fun s t r x d n runs on => congrArg Host.Outcome.next (runs.run_eq (body := fun _ _ u => regGuard d 0x11 false u
      (.okWith (u.readInjRes d n).2 [tlvData [(u.readInjRes d n).1]])) (regGuard_of_on on _) _)
  case injected =>
    exact fun s d n populated =>
      ⟨execMadcInjectedTrigger_of_populated populated, execMadcInjectedTrigger_of_populated populated⟩
  case timer => exact fun s d n => execMadcTimer_of_due
  case delayEnd => exact fun s d n e => execMadcTriggerDelayEnd_of_scan
  case sync => exact fun s => execSyncInEdge_of_running
  case done => exact fun s d n o bits => execMadcConversionDone_of_due
  case calibrated => exact fun s d n gain raw => rfl
  case calDone => exact fun s d n k sums populated on runs => ⟨_, execMadcCalibrationDone_of_running populated on runs, rfl⟩

end Sys2Proof.Machine

/-! The safety functions: the proof of the statement of spec/11_command_reference.md on them, whose rules are those of
spec/16_safety_and_self_test.md. -/

namespace Sys2Proof.Machine

section

variable {s t : State} {d : Die} {r : Req} {x : Session}

/-! ### Commands of the safety functions (R410, R551, R557) -/

theorem applySafetyLimitSet_of_retained {ls : List EmissionLimit}
    (retained : ∀ e ∈ ls, ∀ d ∈ oneDie e.lane, t.level d .ctrl ≠ .dead) :
    applySafetyLimitSet ls r x t = .ok (t.each ls fun u e => u.each (oneDie e.lane) fun u d =>
      u.setLimit d (emissionInput e.input) e.code.toNat) :=
  if_neg (by simpa using retained)

/-- A tripped lane is released whose last conversion is not above its limit and whose test, where its cause calls for one, passes. -/
theorem applySafetyReset_of_released {pass : Bool} (die : toDie? d.val = some d) (retained : t.level d .ctrl ≠ .dead)
    (tripped : t.flag d SAFE_STAT_TRIPPED = true)
    (below : ¬(t.flag d SAFE_LIMIT_VALID = true ∧ t.flag d SAFE_LAST_VALID = true ∧
      (t.rd d SAFE_LIMIT : Int) < t.rdInt d SAFE_LAST_VALUE))
    (passes : (t.retest d pass).rd d SAFE_STAT_TRIP_CAUSE = 4 ∨ (t.retest d pass).rd d SAFE_STAT_TRIP_CAUSE = 5 →
      pass = true) :
    applySafetyReset d.val pass r x t = .ok
      (let u := ((t.retest d pass).wr d SAFE_STAT_TRIPPED 0).wr d SAFE_STAT_TRIP_CAUSE 0
       let u := u.updSafe d fun y => { y with disagree := 0, m0 := none, lastConvAt := u.time.now }
       ((u.safetyClrFollow d).armFollow d).sbPush d 0 2 (.safety false)) := by
  simp only [applySafetyReset, die]
  exact (if_neg retained).trans <| (if_neg (by simp [tripped])).trans <| (if_neg (by simpa [and_assoc] using below)).trans
    (if_neg (by simpa using passes))

/-! ### Arming and trips (R552, R553, R556, R559) -/

theorem execSfLArmed_of_met (populated : s.pop d = true) (met : s.armCond d = true) :
    execSfLArmed d s = .next (s.armFollow d) :=
  congrArg Host.Outcome.next (if_pos (by simp [populated, met]))

theorem execEmissionTrip_of_above {b : Bool} {level : Int} (runs : s.monitorRuns d = true)
    (valid : s.flag d SAFE_LIMIT_VALID = true) (above : tripThreshold (s.rd d SAFE_LIMIT) d b < level) :
    execEmissionTrip d b level s = .next (s.trip d 1) :=
  congrArg Host.Outcome.next (if_pos (by simp [runs, valid, above]))

theorem tripThreshold_within (limit : Nat) (d : Die) (b : Bool) :
    tripThreshold limit d b ≤ limit + (limit / 100 + 13981 : Nat) ∧
      (limit : Int) - (limit / 100 + 13981 : Nat) ≤ tripThreshold limit d b := by
  dsimp only [tripThreshold]
  omega

theorem execSafetyConversionMissing_of_late (runs : s.monitorRuns d = true)
    (late : (s.safe d).lastConvAt + msU 5 ≤ s.time.now) : execSafetyConversionMissing d s = .next (s.trip d 6) :=
  congrArg Host.Outcome.next (if_pos (by simp [State.past, runs, late]))

theorem execSafeMonFault_of_supplied (populated : s.pop d = true) (supplied : s.power d ≠ .off) :
    execSafeMonFault d s = .next (((s.wr d SAFE_STAT_MON_FAULT 1).trip d 5).raiseLane d evSAFE_MON_FAULT) :=
  if_pos (by simp [populated, supplied])

/-! ### Safety conversions and comparator tests (R554, R555) -/

theorem execSafetyConversion_of_due {bits : List Bool} (runs : s.monitorRuns d = true)
    (due : periodDue (s.safe d).convAt (msU 1) s.time.now = true) (whole : bits.length = 11 * presetD 0) :
    execSafetyConversion d bits s = .next
      (let turn := (s.safe d).nextConv
       let n := if (s.conv d turn).act.isCal then otherConv turn else turn
       s.safetyResult d turn n (convSample false (s.calibrated d n 0
         (Config.compensation 0 (Cic.run (presetD 0) 11 bits .zero).taps))).value) := by
  simp only [execSafetyConversion, runs, due, Bool.and_self, Bool.not_true, Bool.false_eq_true, if_false,
    State.sampleOf_of_whole whole]

theorem execComparatorTest_of_due {hi lo : Bool} (runs : s.monitorRuns d = true) (due : s.cmpDue d = true) :
    execComparatorTest d hi lo s = .next
      (let u := (s.cmpResult d (s.safe d).nextCmpB (hi && !lo)).updSafe d fun x =>
         { x with nextCmpB := !(s.safe d).nextCmpB, cmpAt := some (nextDue x.cmpAt (msU 64) s.time.now) }
       if hi = true ∧ lo = false then u else u.trip d 4) := by
  simp only [execComparatorTest, runs, due, Bool.and_self, Bool.not_true, Bool.false_eq_true, if_false]
  cases hi <;> cases lo <;> rfl

/-! ### The ball of LDIS_N (R558) -/

theorem execLdisStuck_of_high (populated : s.pop d = true) (supplied : s.power d ≠ .off)
    (low : (s.safe d).ldisHigh = false) (new : (s.safe d).stuck = false) :
    execLdisStuck d true s = .next (State.raiseLane (((((s.updSafe d fun x => { x with stuck := true }).wr d
      SAFE_STAT_LDIS_STUCK 1).wr d SAFE_STAT_LDIS_PIN 1)).safetyClrFollow d) d evLDIS_STUCK) :=
  (if_neg (by simp [populated, supplied])).trans <| (if_pos rfl).trans (if_neg (by simp [low, new]))

theorem execLdisStuck_of_low (populated : s.pop d = true) (supplied : s.power d ≠ .off) :
    ∃ u, u = s.updSafe d (fun x => { x with stuck := false }) ∧
      execLdisStuck d false s = .next ((u.wrB d SAFE_STAT_LDIS_PIN (u.safe d).ldisHigh).safetyClrFollow d) :=
  ⟨_, rfl, if_neg (by simp [populated, supplied])⟩

end

/-- Settles O30: a request that runs is its body on the state it runs in, an event whose condition holds has its effect, and the
threshold's offset is held within its tolerance (`tripThreshold_within`). -/
theorem safetyRuns : Obligations.SafetyRuns := by
  refine ⟨?limitSet, ?statusGet, ?reset, ?armed, ?emission, tripThreshold_within, ?conversion, ?missing, ?comparator, ?fault,
    ?stuck, ?freed⟩
  case limitSet =>
    exact fun s t r x ls runs retained =>
      congrArg Host.Outcome.next (runs.run_eq (applySafetyLimitSet_of_retained retained) _)
  case statusGet => exact fun s t r x runs => congrArg Host.Outcome.next (runs.run_eq rfl _)
  case reset =>
    exact fun s t r x d pass runs die retained tripped below passes => ⟨_, congrArg Host.Outcome.next
      (runs.run_eq (applySafetyReset_of_released die retained tripped below passes) _), rfl⟩
  case armed => exact fun s d => execSfLArmed_of_met
  case emission => exact fun s d b level => execEmissionTrip_of_above
  case conversion => exact fun s d bits runs due whole => ⟨_, execSafetyConversion_of_due runs due whole, rfl⟩
  case missing => exact fun s d => execSafetyConversionMissing_of_late
  case comparator => exact fun s d hi lo => execComparatorTest_of_due
  case fault => exact fun s d => execSafeMonFault_of_supplied
  case stuck => exact fun s d => execLdisStuck_of_high
  case freed => exact fun s d => execLdisStuck_of_low

end Sys2Proof.Machine

/-! The Jeuri fabric: the proof of the statement of spec/11_command_reference.md on it, whose rules are those of
spec/12_management_ports_and_fabric.md. -/

namespace Sys2Proof.Machine

section

variable {s : State} {m : JMedium}

/-! ### Neighbours and HELLO (R433, R434, R437) -/

theorem execJeuriHello_of_other (mac : BitVec 48) (hops : Nat) (src : BitVec 16) {h : Hello} (arrives : s.arrives m = true)
    (other : h.packageId ≠ s.nv.fuses.packageId) :
    execJeuriHello m mac hops src h s = .next (s.enterNbr m mac h).treeRecompute :=
  if_neg (by simp [arrives, other])

theorem execNeighbourDead_of_silent {pkg : BitVec 64} {n : Nbr}
    (entered : s.fab.nbrs.find? (fun n => n.medium == JMedium.index m && n.hello.packageId == pkg) = some n)
    (silent : n.lastAt + msU (s.rd 0 FAB_CFG_DEAD_MULT * s.rd 0 FAB_CFG_HELLO_INT * 100) ≤ s.time.now) :
    execNeighbourDead m pkg s = .next (s.dropNbr n).treeRecompute := by
  simp only [execNeighbourDead, entered]
  exact if_pos (by simp [State.past, silent])

theorem execHelloInterval_of_due (due : s.fab.lastHello + msU (s.rd 0 FAB_CFG_HELLO_INT * 100) ≤ s.time.now) :
    ∃ u, u = s.each allMedia (fun s m => s.sendHello m) ∧
      execHelloInterval s = .next (u.updFab fun f => { f with lastHello := s.time.now }).treeRecompute :=
  ⟨_, rfl, if_neg (by simp [State.past, due])⟩

theorem execTriggerHoldoffEnd_of_routes (due : (s.fab.media.get (JMedium.fin m)).routesDue = true)
    (ends : s.holdoffOver (s.fab.media.get (JMedium.fin m)).routesAt = true) :
    execTriggerHoldoffEnd m true s = .next
      ((s.updMedium (JMedium.fin m) fun y => { y with routesDue := false }).triggerRoutes (JMedium.fin m)) :=
  congrArg Host.Outcome.next (if_pos (by simp [due, ends]))

theorem execTriggerHoldoffEnd_of_hello (due : (s.fab.media.get (JMedium.fin m)).helloDue = true)
    (ends : s.holdoffOver (s.fab.media.get (JMedium.fin m)).helloAt = true) :
    execTriggerHoldoffEnd m false s = .next
      ((s.updMedium (JMedium.fin m) fun y => { y with helloDue := false }).triggerHello (JMedium.fin m)) :=
  congrArg Host.Outcome.next (if_pos (by simp [due, ends]))

/-! ### Routes and DATA (R438 to R440) -/

theorem execJeuriRoutes_of_active {src : BitVec 16} {ads : List RouteAd} {n : Nbr} (arrives : s.arrives m = true)
    (sender : s.nbrFrom m src = some n) (active : s.linkActive n = true) :
    execJeuriRoutes m src ads s = .next (s.each ads fun s a => s.learn n a).treeRecompute := by
  simp only [execJeuriRoutes, arrives, sender, active, if_true]

theorem execRoutesRefresh_of_due (due : s.fab.lastRoutes + secU 5 ≤ s.time.now) :
    ∃ u, u = s.each s.activeNbrs (fun s n => s.sendRoutes n) ∧
      execRoutesRefresh s = .next (u.updFab fun f => { f with lastRoutes := s.time.now }) :=
  ⟨_, rfl, if_neg (by simp [State.past, due])⟩

theorem execJeuriData_of_arrived {hops : Nat} {p : Bytes} (arrives : s.arrives m = true) :
    execJeuriData m hops p s =
      .next (if p.length < 12 then s.jeuriDropped (JMedium.die m) else s.forward m hops 1 p) :=
  (if_neg (by simp [arrives])).trans (apply_ite Host.Outcome.next _ _ _).symm

end

/-- Settles O32: a request that runs is its body on the state it runs in, and an event whose condition holds has its effect. -/
theorem fabricRuns : Obligations.FabricRuns := by
  refine ⟨?nodeSet, ?routeGet, ?neighbourGet, ?routeSet, ?hello, ?dead, ?interval, ?routesHeld, ?helloHeld, ?routes, ?refresh,
    ?ageOut, ?data⟩
  case nodeSet => exact fun s t r x node runs => congrArg Host.Outcome.next (runs.run_eq rfl _)
  case routeGet => exact fun s t r x runs => congrArg Host.Outcome.next (runs.run_eq rfl _)
  case neighbourGet => exact fun s t r x runs => congrArg Host.Outcome.next (runs.run_eq rfl _)
  case routeSet => exact fun s t r x rs runs => congrArg Host.Outcome.next (runs.run_eq rfl _)
  case hello => exact fun s m mac hops src h => execJeuriHello_of_other mac hops src
  case dead => exact fun s m pkg n => execNeighbourDead_of_silent
  case interval => exact fun s => execHelloInterval_of_due
  case routesHeld => exact fun s m => execTriggerHoldoffEnd_of_routes
  case helloHeld => exact fun s m => execTriggerHoldoffEnd_of_hello
  case routes => exact fun s m src ads n => execJeuriRoutes_of_active
  case refresh => exact fun s => execRoutesRefresh_of_due
  case ageOut => exact fun s node => rfl
  case data => exact fun s m hops p => execJeuriData_of_arrived

end Sys2Proof.Machine

/-! The power manager: the proof of the statement of spec/11_command_reference.md on it, whose rules are those of
spec/14_power_and_thermal.md. -/

namespace Sys2Proof.Machine

section

variable {s : State} {d : Die}

/-! ### Entry, wake and comparators (R493, R503, R504) -/

theorem execDieStateEntryDone_of_mute (populated : s.pop d = true) (moves : s.flag d PWR_STATE_TRANS = true)
    (deeper : (s.pwr d).waking = false) (mute : (s.tx d).running = false ∨ s.rd d LTX_STAT_TX_STATE = 0) :
    execDieStateEntryDone d s = .next (s.entryDone d (PowerState.ofCode (s.rd d PWR_STATE_TARGET))) :=
  if_pos (by simpa [populated, moves, deeper, or_iff_not_imp_left] using mute)

theorem execWakeDone_of_locked (populated : s.pop d = true) (moves : s.flag d PWR_STATE_TRANS = true)
    (waking : (s.pwr d).waking = true) (locked : s.pllsReady d (PowerState.ofCode (s.rd d PWR_STATE_TARGET)) = true) :
    ∃ u, u = (s.wakeEnds d (PowerState.ofCode (s.rd d PWR_STATE_TARGET))).updPwr d (fun x => { x with evalPending := false }) ∧
      execWakeDone d s = .next (if (s.pwr d).evalPending then u.powerEval 1 else u) :=
  ⟨_, rfl, if_pos (by simp [populated, moves, waking, locked])⟩

theorem execWakeSource_of_fires {src : WakeSrc} (populated : s.pop d = true) (fires : s.srcFires d src = true) :
    execWakeSource d src s = .next (s.wakeBy d src) :=
  congrArg Host.Outcome.next (if_pos (by simp [populated, fires]))

theorem execWakeCmpTrip_of_above {n : Fin 2} {level : Nat} (populated : s.pop d = true) (supplied : s.power d ≠ .off)
    (armed : s.cmpArmed d n = true) (above : s.rd d (PWR_WAKE_CMP_THR n.val) * 16 < level) :
    ∃ u, u = ((s.wr d (PWR_WAKE_CMP_TRIPPED n.val) 1).wr d (PWR_WAKE_CMP_ABOVE n.val) 1).setArmed d n false ∧
      execWakeCmpTrip d n level s = .next
        (if (if n = 0 then u.flag d PWR_WAKE_EN_CMP0 else u.flag d PWR_WAKE_EN_CMP1) then
          u.wakeBy d (if n = 0 then .cmp0 else .cmp1) else u) :=
  ⟨_, rfl, if_pos (by simp [populated, supplied, armed, above])⟩

theorem execWakeCmpRearm_of_below {n : Fin 2} {level : Nat} (populated : s.pop d = true) (supplied : s.power d ≠ .off)
    (below : level < (s.rd d (PWR_WAKE_CMP_THR n.val) - s.rd d (PWR_WAKE_CMP_HYST n.val)) * 16) :
    execWakeCmpRearm d n level s = .next ((s.wr d (PWR_WAKE_CMP_ABOVE n.val) 0).setArmed d n true) :=
  if_pos (by simp [populated, supplied, below])

/-! ### The junction temperature (R498) -/

theorem execThermalConversion_of_due {bits : List Bool} (runs : s.thermalRuns d = true)
    (due : periodDue (s.pwr d).tjAt (msU 8) s.time.now = true) (whole : bits.length = 11 * presetD 0) :
    ∃ n v, n = (if (s.conv d 0).act.isCal then (1 : Fin 2) else 0) ∧
      v = (convSample false (s.calibrated d n 0 (Config.compensation 0 (Cic.run (presetD 0) 11 bits .zero).taps))).value ∧
      execThermalConversion d bits s = .next (s.thermalResult d v) := by
  refine ⟨_, _, rfl, rfl, ?_⟩
  simp only [execThermalConversion, runs, due, Bool.and_self, Bool.not_true, Bool.false_eq_true, if_false,
    State.sampleOf_of_whole whole]

/-- The part with a conversion's temperature in DIE.TEMP.TJ, before the hold is judged. -/
def State.temperatureShown (s : State) (d : Die) (v : Int) : State :=
  (s.updPwr d fun x => { x with tjAt := some (Machine.nextDue x.tjAt (msU 8) s.time.now) }).wrInt d DIE_TEMP_TJ
    (max (-32768) (min 32767 (roundDiv (junction v) 8388608)))

@[simp] theorem State.pwr_updPwr (g : PwrDie → PwrDie) : (s.updPwr d g).pwr d = g (s.pwr d) := by
  simp [State.pwr, State.updPwr]

@[simp] theorem State.pwr_wrInt (e : Die) (f : Fld) (v : Int) : (s.wrInt e f v).pwr d = s.pwr d := rfl

theorem State.thermalResult_of_hot {v : Int} (hot : 155 * 16 * 8388608 < junction v) (free : (s.pwr d).thermalHold = false) :
    s.thermalResult d v = State.powerEval (State.raise ((((s.temperatureShown d v).updPwr d fun x =>
      { x with coolSince := none }).updPwr d fun x => { x with thermalHold := true }).wr d PWR_STATE_CAUSE 2) d
        evTHERMAL_LIMIT (evArg d.val 0xFF [])) 1 :=
  (if_pos hot).trans (if_neg (by simp [free]))

theorem State.thermalResult_of_hot_held {v : Int} (hot : 155 * 16 * 8388608 < junction v)
    (held : (s.pwr d).thermalHold = true) :
    s.thermalResult d v = (s.temperatureShown d v).updPwr d fun x => { x with coolSince := none } :=
  (if_pos hot).trans (if_pos (by simp [held]))

theorem State.thermalResult_of_free {v : Int} (cooler : junction v ≤ 155 * 16 * 8388608)
    (free : (s.pwr d).thermalHold = false) : s.thermalResult d v = s.temperatureShown d v :=
  (if_neg (not_lt.mpr cooler)).trans (if_pos (by simp [free]))

theorem State.thermalResult_of_cooled {v : Int} {t : Nat} (cool : junction v < 140 * 16 * 8388608)
    (held : (s.pwr d).thermalHold = true) (since : (s.pwr d).coolSince = some t) (second : t + secU 1 ≤ s.time.now) :
    s.thermalResult d v = (((s.temperatureShown d v).updPwr d fun x =>
      { x with thermalHold := false, coolSince := none }).wr d PWR_STATE_CAUSE 0).powerEval 1 := by
  refine (if_neg (by omega)).trans <| (if_neg (by simp [held])).trans <| (if_neg (by omega)).trans ?_
  simp only [State.pwr_wrInt, State.pwr_updPwr, since]
  exact if_pos (decide_eq_true second)

end

/-- Settles O47: a request that runs is its body on the state it runs in, an event whose condition holds has its effect, and a
conversion's result is judged by the hold that the die had before it (`State.pwr_updPwr`). -/
theorem powerRuns : Obligations.PowerRuns := by
  refine ⟨?policySet, ?stateGet, ?entered, ?woken, ?source, ?trip, ?rearm, ?conversion, ?result⟩
  case policySet => exact fun s t r x gs runs => congrArg Host.Outcome.next (runs.run_eq rfl _)
  case stateGet => exact fun s t r x runs => congrArg Host.Outcome.next (runs.run_eq rfl _)
  case entered => exact fun s d => execDieStateEntryDone_of_mute
  case woken => exact fun s d => execWakeDone_of_locked
  case source => exact fun s d src => execWakeSource_of_fires
  case trip => exact fun s d n level => execWakeCmpTrip_of_above
  case rearm => exact fun s d n level => execWakeCmpRearm_of_below
  case conversion => exact fun s d bits => execThermalConversion_of_due
  case result =>
    exact fun s d v => ⟨s.temperatureShown d v, rfl, State.thermalResult_of_hot, State.thermalResult_of_hot_held,
      State.thermalResult_of_free, fun t => State.thermalResult_of_cooled⟩

end Sys2Proof.Machine

/-! Clocks, faults, the full self-test and diagnostics: the proof of the statement of spec/11_command_reference.md on them,
whose rules are those of spec/15_clocks_reset_and_telemetry.md and spec/16_safety_and_self_test.md. -/

namespace Sys2Proof.Machine

section

variable {s t : State} {d l : Die} {r : Req} {x : Session}

/-! ### Clocks (R508, R510, R511, R514, R658) -/

theorem execSlowClockCalibrated_of_past {n : Nat} (refclk : s.time.refclk = true)
    (locked : (s.popDies.any fun d => s.flag d CLK_PLL_STAT_SYS_LOCK) = true)
    (past : s.time.slowCalAt + 16 * n * (64 * nsU / 10) ≤ s.time.now) :
    ∃ u : State, u = { s with time := { s.time with slowCalAt := s.time.now } } ∧
      execSlowClockCalibrated n s = .next ((u.wr 0 CLK_SLOW_RATIO n).wr 0 CLK_SLOW_CAL_VALID 1) :=
  ⟨_, rfl, if_pos (by simp only [refclk, locked, State.past, decide_eq_true past, Bool.and_self])⟩

theorem execCrystalFail_of_crystal (crystal : s.flag 0 CLK_SLOW_SRC = true) :
    ∃ u, u = (s.wr 0 CLK_SLOW_SRC 0).wr 0 CLK_SLOW_XTAL_FAIL 1 ∧
      execCrystalFail s = .next ({ u with time := { u.time with periodRc := true } }.raisePkg evSLOW_CLK_FAIL noArg) :=
  ⟨_, rfl, if_pos crystal⟩

theorem execRefclkLost_of_present (present : s.time.refclk = true) :
    ∃ u, u = (({ s with time := { s.time with refclk := false, refLostAt := some s.time.now } } : State).each s.popDies
        fun s d => s.wr d CLK_PLL_STAT_REF_OK 0).updExtrap ∧
      execRefclkLost s = .next (if u.refNeeded then
        (u.each u.popDies fun s d => s.wr d CLK_PLL_STAT_REF_LOST 1).raisePkg evREFCLK_LOST noArg else u) :=
  ⟨_, rfl, if_neg (by simp [present])⟩

theorem execRefclkHoldoverEnd_of_past {t : Nat} (lost : s.time.refclk = false) (lostAt : s.time.refLostAt = some t)
    (past : t + msU 10 ≤ s.time.now) (needed : s.refNeeded = true) :
    ∃ u, u = s.each s.popDies (fun s d => s.each allPlls fun s p => s.pllUnlock d p) ∧
      execRefclkHoldoverEnd s = .next ((u.each u.popDies State.refUnhealthy).chooseSuccessor) := by
  refine ⟨_, rfl, ?_⟩
  simp only [execRefclkHoldoverEnd, lostAt]
  exact if_pos (by simp [lost, State.past, past, needed])

theorem execRefclkReturn_of_lost (lost : s.time.refclk = false) :
    execRefclkReturn s = .next ((({ s with time := { s.time with refclk := true, refLostAt := none } } : State).each
      s.popDies fun s d => s.wr d CLK_PLL_STAT_REF_OK 1).updExtrap) :=
  if_neg (by simp [lost])

theorem execPllLock_of_runs {p : Pll} (populated : s.pop d = true) (unlocked : s.flag d (pllFld p) = false)
    (runs : pllRuns d p (s.power d) = true ∨ pllRuns d p (s.heading d) = true) (hasRef : s.pllHasRef d p = true) :
    ∃ u, u = s.noteCauses.wr d (pllFld p) 1 ∧ execPllLock d p s = .next (if p = .sys then u.sysRelocked d else u) :=
  ⟨_, rfl, if_pos (by simp [populated, unlocked, runs, hasRef])⟩

theorem execPllLockLost_of_locked {p : Pll} (populated : s.pop d = true) (locked : s.flag d (pllFld p) = true) :
    execPllLockLost d p s = .next (if p = .sys then
      ((s.pllUnlock d p).updDie d fun x => { x with sb := { x.sb with clockFault := true } }).dieFails d 1
    else s.pllUnlock d p) :=
  if_pos (by simp [populated, locked])

/-! ### Faults (R564) -/

theorem execSupplyFault_of_supplied {cut : Option LimitCut} (populated : s.pop d = true) (on : s.phase ≠ .powerOff)
    (supplied : s.power d ≠ .off) :
    ∃ t u v w, t = ((s.incomplete d).raiseAt s.leader d evSUPPLY_FAULT (evArg d.val 0xFF [])).cutCommit.cutLimit cut ∧
      u = ((if d == s.leader then t.electIn d true else t).fabricOff d).portFails d ∧
      v = (((((u.dieReset d).updDie d fun x => { x with sb := { x.sb with supplyFault := true } }).wr d PWR_STATE_CUR 5).wr d
        PWR_STATE_TARGET 5).wr d PWR_STATE_CAUSE 1).ldisFollow d ∧
      w = ([Endpoint.core, .key, .safe, .pwr].foldl (fun s e => s.mbReset d e) (v.endPendOn d).showKeys).dieFails d 1 ∧
      execSupplyFault d cut s = .next (if w.popDies.all fun e => (w.die e).sb.supplyFault then
        { w.endAllSessions with phase := .powerOff } else w) :=
  ⟨_, _, _, _, rfl, rfl, rfl, rfl, if_neg (by simp [populated, on, supplied])⟩

theorem execLockstepMismatch_of_supplied (populated : s.pop d = true) (supplied : s.level d .ctrl ≠ .dead)
    (on : s.phase ≠ .powerOff) :
    ∃ u, u = ((s.wr d SAFE_STAT_LOCKSTEP_SEEN 1).raise d evLOCKSTEP_MISMATCH (evArg d.val 0xFF [])).mbReset d .core ∧
      execLockstepMismatch d s = .next (if d = u.leader then u.sbPush d 1 2 (.elect true (u.fwValid d)) else u) :=
  ⟨_, rfl, if_neg (by simp [populated, supplied, on])⟩

theorem execMemScrub_of_due {n : Nat} {us : List EccUnit} (runs : s.memRuns d = true)
    (due : periodDue (s.die d).safe.scrubAt (secU 1) s.time.now = true) :
    ∃ v, v = s.updSafe d (fun x => { x with scrubAt := some (nextDue x.scrubAt (secU 1) s.time.now) }) ∧
      execMemScrub d n us s = .next ((v.each us fun s u => s.eccUncorrectable d u).eccCorrected d n) :=
  ⟨_, rfl, if_pos (by simp [runs, due])⟩

theorem execEccErrorAtAccess_of_runs {u : EccUnit} {b : Bool} (runs : s.memRuns d = true) :
    execEccErrorAtAccess d u b s = .next (if b then s.eccUncorrectable d u else s.eccCorrected d 1) :=
  congrArg Host.Outcome.next (if_pos runs)

/-! ### The full self-test (R410, R566, R569) -/

theorem applySelftestRun_of_down {dies : BitVec 8} (supplied : ((maskDies dies).any fun d => t.level d .ctrl == .dead) = false)
    (down : ((maskDies dies).all fun d => (t.testLanes d).all t.laneIsDown) = true) :
    applySelftestRun dies r x t = .pending (.selftest (maskDies dies)) (t.each (maskDies dies) State.beginTest) :=
  (if_neg (Bool.eq_false_iff.mp supplied)).trans (if_neg (by simp only [down, Bool.not_true, Bool.false_eq_true, not_false_iff]))

theorem State.shutFollow_of_not_stopping (runs : s.phase ≠ .stopping) : s.shutFollow = s := if_neg fun ends => runs ends.1

/-- A self-test that is not that of a shut-down ends for the dies under test once their outcomes are in. -/
theorem execSelftestDone_of_covered {os : List TestOutcome} {ds : List Die} (notDown : s.phase ≠ .shuttingDown)
    (notStopping : s.phase ≠ .stopping) (testing : s.testing = some ds) (covered : coverDies os ds = true) :
    ∃ u, u = s.finishTest 2 os ds ∧
      execSelftestDone os s = .next (u.finishPend (.selftest ds) .ok
        (ds.filterMap fun d => (u.nv.safety.tests.get d).map (tlvTest d))) := by
  refine ⟨_, rfl, ?_⟩
  simp only [execSelftestDone, State.shutFollow_of_not_stopping notStopping, if_neg notDown, testing, if_pos covered]

theorem execSelftestOverdue_of_due (started : s.started = true) (late : s.popDies.any s.overdue = true)
    (due : ∀ t, s.nv.safety.overdueAt = some t → t + dayU ≤ s.nv.safety.service) :
    execSelftestOverdue s = .next
      (({ s with nv := { s.nv with safety := { s.nv.safety with overdueAt := some s.nv.safety.service } } } : State).raisePkg
        evSELFTEST_OVERDUE noArg) := by
  refine if_pos ?_
  simp only [started, late, Bool.true_and, Bool.and_true]
  split
  case h_1 t last => exact decide_eq_true (due t last)
  case h_2 => rfl

/-! ### Patterns (R414 to R416) -/

theorem applyPatternSet_of_free {p : Point} {pattern lane : Nat}
    (on : ((Point.die p lane).toList.all fun d => t.domainOn d .dataPath) = true)
    (free : pattern = 0 ∨ t.pointFree p lane = true) :
    applyPatternSet p pattern lane r x t = .ok (t.setPattern p lane pattern) :=
  (if_neg (by simp only [on, Bool.not_true, Bool.false_eq_true, not_false_iff])).trans
    (if_neg (by simpa [or_iff_not_imp_left] using free))

theorem execPatternCheckerSync_of_runs {c : Fin 3} {lock : Bool} {bits errs : Nat} (populated : s.pop l = true)
    (on : s.domainOn l .dataPath = true) (pattern : s.rd l (checkerFld c) ≠ 0) :
    ∃ v, v = (((s.checkCounts l c.val).1 + bits) % 2 ^ 64, ((s.checkCounts l c.val).2 + errs) % 2 ^ 64) ∧
      execPatternCheckerSync l c lock bits errs s = .next
        ((s.updDiag l fun x => { x with checks := x.checks.set c.val v }).wrB l (checkerLock c) lock) :=
  ⟨_, rfl, if_pos (by simp [populated, on, pattern])⟩

/-! ### Error injection, loopbacks and captures (R414 to R416) -/

theorem applyErrorInject_of_idle {kind lane count : Nat} (die : injectDie kind lane = some d)
    (on : t.domainOn d .dataPath = true) (idle : t.flag d PATG_STAT_INJ_BUSY = false) :
    applyErrorInject kind lane count r x t =
      .ok (if count = 0 then t else t.setInject d (some (kind, if kind = 3 then lane % 2 else 0, count))) := by
  simp only [applyErrorInject, die, on, idle, Bool.not_true, Bool.false_eq_true, if_false]

theorem applyLoopbackSet_of_free {mode : Nat} (die : toDie? l.val = some l) (on : t.domainOn l .dataPath = true)
    (free : t.loopFree l mode = true) : applyLoopbackSet l.val mode r x t = .ok (t.wr l PATG_CFG_LOOPBACK mode) := by
  simp only [applyLoopbackSet, die, on, free, Bool.not_true, Bool.false_eq_true, if_false]

theorem applyCaptureSet_of_idle {c : CaptureCfg} (die : toDie? l.val = some l) (on : t.domainOn l .dataPath = true)
    (idle : (t.diag l).capture = none) :
    applyCaptureSet l.val c r x t = .pending (.capture l) (((t.updDiag l fun x => { x with capture := some c }).wrB l
      PATG_STAT_CAP_ARMED (c.trigger != 0)).wr l PATG_STAT_CAP_DONE 0) := by
  simp only [applyCaptureSet, die, on, idle, Option.isSome_none, Bool.not_true, Bool.false_eq_true, if_false]

theorem execCaptureDone_of_full {c : CaptureCfg} {samples : List (BitVec 8)} (capture : (s.diag l).capture = some c)
    (triggered : s.flag l PATG_STAT_CAP_ARMED = false) (full : samples.length = c.len * 1024)
    (on : s.domainOn l .dataPath = true) :
    execCaptureDone l samples s = .next (((s.updDiag l fun x => { x with capture := none, samples := samples }).wr l
      PATG_STAT_CAP_DONE 1).finishPend (.capture l) .ok []) := by
  simp only [execCaptureDone, capture]
  exact if_pos (by simp [triggered, full, on])

end

/-- Settles O52: a request that runs is its body on the state it runs in, an event whose condition holds has its effect, and a
self-test outside a shut-down finds nothing to follow there (`State.shutFollow_of_not_stopping`). -/
theorem clocksFaultsTestsRun : Obligations.ClocksFaultsTestsRun := by
  refine ⟨?calibrated, fun s => rfl, ?crystalFail, ?lost, ?holdover, ?returned, ?lock, ?lockLost, ?supply, ?lockstep, ?scrub, ?ecc,
    ?testRun, ?testDone, ?testResult, ?overdue, ?patternSet, ?patternStatus, ?checker, ?countLo, ?inject, ?loopback, ?captureSet,
    ?captureDone, ?captureRead⟩
  case calibrated => exact fun s n => execSlowClockCalibrated_of_past
  case crystalFail => exact fun s => execCrystalFail_of_crystal
  case lost => exact fun s => execRefclkLost_of_present
  case holdover => exact fun s t => execRefclkHoldoverEnd_of_past
  case returned => exact fun s => execRefclkReturn_of_lost
  case lock => exact fun s d p => execPllLock_of_runs
  case lockLost => exact fun s d p => execPllLockLost_of_locked
  case supply => exact fun s d cut => execSupplyFault_of_supplied
  case lockstep => exact fun s d => execLockstepMismatch_of_supplied
  case scrub => exact fun s d n us => execMemScrub_of_due
  case ecc => exact fun s d u b => execEccErrorAtAccess_of_runs
  case testRun =>
    exact fun s t r x dies runs supplied down =>
      congrArg Host.Outcome.next (runs.run_eq (applySelftestRun_of_down supplied down) _)
  case testDone => exact fun s os ds => execSelftestDone_of_covered
  case testResult => exact fun s t r x dies runs => congrArg Host.Outcome.next (runs.run_eq rfl _)
  case overdue => exact fun s => execSelftestOverdue_of_due
  case patternSet =>
    exact fun s t r x p pattern lane runs on free =>
      congrArg Host.Outcome.next (runs.run_eq (applyPatternSet_of_free on free) _)
  case patternStatus =>
    exact fun s t r x p lane d runs die on => congrArg Host.Outcome.next
      (runs.run_eq (by simp only [die, on, Bool.not_true, Bool.false_eq_true, if_false] <;> rfl) _)
  case checker => exact fun s l c lock bits errs => execPatternCheckerSync_of_runs
  case countLo =>
    exact fun s t r x d err runs on => congrArg Host.Outcome.next (runs.run_eq
      (body := fun _ _ u => regGuard d 0x19 false u (.okWith (u.readPatgLo d err).2 [tlvData [(u.readPatgLo d err).1]]))
      (regGuard_of_on on _) _)
  case inject =>
    exact fun s t r x kind lane count d runs die on idle =>
      congrArg Host.Outcome.next (runs.run_eq (applyErrorInject_of_idle die on idle) _)
  case loopback =>
    exact fun s t r x l mode runs die on free =>
      congrArg Host.Outcome.next (runs.run_eq (applyLoopbackSet_of_free die on free) _)
  case captureSet =>
    exact fun s t r x l c runs die on idle =>
      congrArg Host.Outcome.next (runs.run_eq (applyCaptureSet_of_idle die on idle) _)
  case captureDone => exact fun s l c samples => execCaptureDone_of_full
  case captureRead =>
    exact fun s t r x l runs die on => congrArg Host.Outcome.next
      (runs.run_eq (by simp only [die, on, if_true]) _)

end Sys2Proof.Machine

/-! Learned routes, and the segments of the in-band channel: the proofs of the statements of
spec/12_management_ports_and_fabric.md on them. -/

namespace Sys2Proof.Machine

section

variable {s : State} {d : Die} {n : Nbr} {a : RouteAd} {e : Learned}

/-! ### What packets and events leave of the learned routes -/

@[simp] theorem State.learned_cntN {i k : Nat} : (s.cntN d i k).fab.learned = s.fab.learned := by
  unfold State.cntN
  split <;> rfl

theorem State.learned_sendEth (s : State) (p : MPort) (dst : BitVec 48) (vlan : Option (BitVec 16)) (b : Bytes) :
    (s.sendEth p dst vlan b).fab.learned = s.fab.learned := by
  unfold State.sendEth
  split
  · exact State.learned_cntN (d := MPort.die p) (i := 145) (k := 1)
  · rfl

theorem State.learned_sendLane (s : State) (l : Die) (m : Bytes) : (s.sendLane l m).fab.learned = s.fab.learned := by
  unfold State.sendLane State.sendLink
  split <;> split
  · rfl
  · exact State.learned_cntN
  · rfl
  · exact State.learned_cntN

theorem State.learned_sendVia (s : State) (node hops : Nat) (hop : Hop) (vlan : Option (BitVec 16)) (b : Bytes) :
    (s.sendVia node hop hops vlan b).fab.learned = s.fab.learned := by
  unfold State.sendVia State.sendPort
  cases hop with
  | portA | portB => dsimp only; split <;> exact State.learned_sendEth ..
  | link => exact State.learned_sendLane ..
  | loc => rfl

theorem State.learned_sendBy (s : State) (m : Medium) (mac : BitVec 48) (vlan : Option (BitVec 16)) (b : Bytes) :
    (s.sendBy m mac vlan b).fab.learned = s.fab.learned := by
  cases m with
  | inband => exact State.learned_sendLane ..
  | portA | portB => exact State.learned_sendEth ..

theorem State.learned_sendOwn (s : State) (dest : BitVec 16) (m : Medium) (mac : BitVec 48) (vlan : Option (BitVec 16))
    (b : Bytes) : (s.sendOwn dest m mac vlan b).fab.learned = s.fab.learned := by
  unfold State.sendOwn
  split
  · split
    · exact State.learned_sendBy ..
    · exact State.learned_sendVia ..
  · exact State.learned_sendBy ..

theorem State.learned_takeNonce (s : State) (ch : BitVec 8) : (s.takeNonce ch).2.fab.learned = s.fab.learned := by
  unfold State.takeNonce
  split
  · split <;> rfl
  · rfl

theorem State.learned_sendEvents (s : State) (u : Subscriber) (x : Session) :
    (s.sendEvents u x).fab.learned = s.fab.learned := by
  unfold State.sendEvents
  split
  · rfl
  · exact (State.learned_sendOwn ..).trans (State.learned_takeNonce ..)

theorem State.learned_flushSub (k : Nat) (s : State) (ch : BitVec 8) :
    (State.flushSub k s ch).fab.learned = s.fab.learned := by
  induction k generalizing s with
  | zero => rfl
  | succ k ih =>
    unfold State.flushSub
    split
    · split
      · rfl
      · exact (ih _).trans (State.learned_sendEvents ..)
    · rfl

theorem State.learned_offerTo (s : State) (e : EvRec) (ch : BitVec 8) :
    (s.offerTo e ch).fab.learned = s.fab.learned := by
  unfold State.offerTo
  split <;> rfl

theorem State.learned_deliver (s : State) (e : EvRec) : (s.deliver e).fab.learned = s.fab.learned := by
  have offered {v : State} {chs : List (BitVec 8)} (h : v.fab.learned = s.fab.learned) :
      (chs.foldl (fun v ch => v.offerTo e ch) v).flushAll.fab.learned = s.fab.learned :=
    State.each_keeps (Q := fun v => v.fab.learned = s.fab.learned) (fun _ _ _ h => (State.learned_flushSub ..).trans h)
      (State.each_keeps (Q := fun v => v.fab.learned = s.fab.learned) (fun v ch _ h => (v.learned_offerTo e ch).trans h) h)
  unfold State.deliver
  dsimp only
  split <;> split
  · rfl
  · exact offered rfl
  · rfl
  · exact offered rfl

/-- A route that finds the table full shows it and raises its event; what was learned stands. -/
theorem State.learned_tableFull (s : State) : s.tableFull.fab.learned = s.fab.learned := by
  unfold State.tableFull State.raisePkg
  split
  · rfl
  · split
    · exact State.learned_deliver ..
    · rfl

/-! ### One advertised route (R438, R439) -/

/-- Whether a learned route leads to the advertised node and came from the neighbour that advertises it. -/
def Learned.isOf (e : Learned) (n : Nbr) (a : RouteAd) : Bool :=
  e.node == a.node && e.medium == n.medium && e.packageId == n.hello.packageId

/-- The learned route that a neighbour's advertisement makes now. -/
def State.routeOf (s : State) (n : Nbr) (a : RouteAd) : Learned :=
  ⟨a.node, a.hops, n.medium, n.hello.packageId, s.time.now⟩

/-- The advertisement takes a route away: 16 hops or more, or none. -/
def Withdraws (a : RouteAd) : Prop := 16 ≤ a.hops ∨ a.hops = 0

theorem Learned.isOf_iff :
    e.isOf n a = true ↔ e.node = a.node ∧ e.medium = n.medium ∧ e.packageId = n.hello.packageId := by
  simp only [Learned.isOf, Bool.and_eq_true, beq_iff_eq, and_assoc]

theorem not_withdraws (low : 1 ≤ a.hops) (high : a.hops < 16) : ¬ Withdraws a := by
  unfold Withdraws
  omega

theorem State.learned_learn_of_withdraws (withdraws : Withdraws a) :
    (s.learn n a).fab.learned = s.fab.learned.filter fun e => !e.isOf n a :=
  congrArg (fun t : State => t.fab.learned) (if_pos withdraws)

theorem State.learned_learn_of_known (offers : ¬ Withdraws a)
    (known : s.fab.learned.find? (fun e => e.node == a.node) = some e) :
    (s.learn n a).fab.learned = if e.isOf n a = true ∨ a.hops < e.hops
      then s.fab.learned.map fun x => if x.node = a.node then s.routeOf n a else x else s.fab.learned := by
  have shape : s.learn n a = if e.isOf n a || decide (a.hops < e.hops) then s.updFab fun f =>
      { f with learned := f.learned.map fun x => if x.node = a.node then s.routeOf n a else x } else s := by
    refine (if_neg offers).trans ?_
    rw [known]
    rfl
  simp only [shape, Bool.or_eq_true, decide_eq_true_eq]
  exact apply_ite (fun t : State => t.fab.learned) _ _ _

theorem State.learned_learn_of_unknown (offers : ¬ Withdraws a)
    (unknown : s.fab.learned.find? (fun e => e.node == a.node) = none) :
    (s.learn n a).fab.learned = if (s.route? a.node).isNone = true ∧ 1024 ≤ s.routeEntries.length
      then s.fab.learned else s.fab.learned ++ [s.routeOf n a] := by
  have shape : s.learn n a = if (s.route? a.node).isNone && decide (1024 ≤ s.routeEntries.length) then s.tableFull
      else s.updFab fun f => { f with learned := f.learned ++ [s.routeOf n a] } := by
    refine (if_neg offers).trans ?_
    rw [unknown]
    rfl
  simp only [shape, Bool.and_eq_true, decide_eq_true_eq]
  rw [apply_ite (fun t : State => t.fab.learned), State.learned_tableFull]
  rfl

/-- The new route of a node is no route of another. -/
theorem State.ne_routeOf (other : e.node ≠ a.node) : e ≠ s.routeOf n a :=
  fun same => other (congrArg Learned.node same)

theorem mem_replaced_of_other {es : List Learned} (other : e.node ≠ a.node) :
    (e ∈ es.map fun x => if x.node = a.node then s.routeOf n a else x) ↔ e ∈ es := by
  simp only [List.mem_map]
  constructor
  · rintro ⟨x, mem, rfl⟩
    split at other
    · exact absurd rfl other
    · rwa [if_neg ‹_›]
  · exact fun mem => ⟨e, mem, if_neg other⟩

theorem eq_routeOf_of_mem_replaced {es : List Learned} (node : e.node = a.node)
    (mem : e ∈ es.map fun x => if x.node = a.node then s.routeOf n a else x) : e = s.routeOf n a := by
  obtain ⟨x, -, rfl⟩ := List.mem_map.mp mem
  split at node
  · exact if_pos ‹_›
  · exact absurd node ‹_›

/-- An advertisement changes no route of another node. -/
theorem State.mem_learned_learn_of_other (other : e.node ≠ a.node) :
    e ∈ (s.learn n a).fab.learned ↔ e ∈ s.fab.learned := by
  by_cases withdraws : Withdraws a
  · simp [State.learned_learn_of_withdraws withdraws, Learned.isOf, other]
  · cases found : s.fab.learned.find? (fun e => e.node == a.node) with
    | some _ =>
      rw [State.learned_learn_of_known withdraws found]
      split
      · exact mem_replaced_of_other other
      · exact Iff.rfl
    | none =>
      rw [State.learned_learn_of_unknown withdraws found]
      split
      · exact Iff.rfl
      · simp [State.ne_routeOf other]

end

/-- Settles O33: the advertisement withdraws, or offers a route of a known or of an unknown node; in each case the table that
`State.learn` leaves is written out, and a route of another node is in it exactly when it was there before. -/
theorem routesLearned : Obligations.RoutesLearned := by
  refine fun s n a => ⟨fun e => State.mem_learned_learn_of_other, ?withdrawn, ?added, ?replaced⟩
  case withdrawn =>
    intro high e
    rw [State.learned_learn_of_withdraws (.inl high), List.mem_filter, ← Learned.isOf_iff, Bool.not_eq_true,
      Bool.not_eq_true']
  case added =>
    intro low high unknown room
    have absent : s.fab.learned.find? (fun e => e.node == a.node) = none := by simpa using unknown
    rw [State.learned_learn_of_unknown (not_withdraws low high) absent, if_neg (by omega)]
    exact List.mem_append_right _ (List.mem_singleton_self _)
  case replaced =>
    intro e low high known better x mem node
    have taken : e.isOf n a = true ∨ a.hops < e.hops := by
      have same : e.node = a.node := by simpa using List.find?_some known
      exact better.imp_left fun from_ => Learned.isOf_iff.mpr ⟨same, from_⟩
    rw [State.learned_learn_of_known (not_withdraws low high) known, if_pos taken] at mem
    exact eq_routeOf_of_mem_replaced node mem

section

variable {s : State} {d l : Die} {g : Segment} {m : Bytes} {rest : List Bytes} {i k n : Nat}

/-! ### A lane's in-band channel -/

@[simp] theorem State.inb_updInb (s : State) (l : Die) (f : Inband → Inband) :
    (s.updInb l f).inb l = f (s.inb l) := by
  simp only [State.inb, State.updInb, State.die_updDie]

@[simp] theorem State.inb_cntN : (s.cntN d i k).inb l = s.inb l := by
  unfold State.cntN
  split <;> rfl

@[simp] theorem State.out_cntN : (s.cntN d i k).out = s.out := by
  unfold State.cntN
  split <;> rfl

/-! ### Segments sent (R443) -/

theorem State.takeSegment_of_waiting (waiting : (s.inb l).txq = m :: rest) :
    s.takeSegment l =
      (⟨true, (s.inb l).txPos == 0, m.length ≤ (s.inb l).txPos + 124, BitVec.ofNat 16 (s.inb l).txSeq,
        sub m (s.inb l).txPos 124⟩,
        (s.cnt l 154).updInb l fun y =>
          { y with
            txSeq := (y.txSeq + 1) % 65536
            txq := if m.length ≤ (s.inb l).txPos + 124 then rest else y.txq
            txPos := if m.length ≤ (s.inb l).txPos + 124 then 0 else y.txPos + 124 }) := by
  simp only [State.takeSegment, waiting]

theorem State.takeSegment_of_idle (idle : (s.inb l).txq = []) : s.takeSegment l = (emptySegment, s) := by
  simp only [State.takeSegment, idle]

/-! ### Segments received (R444) -/

theorem State.inb_segLost (s : State) (l : Die) : (s.segLost l).inb l = { s.inb l with rxPart := none } :=
  (State.inb_updInb _ _ _).trans (congrArg (fun x : Inband => { x with rxPart := none }) State.inb_cntN)

theorem State.segLost_marks (h : s.regs.wf = true) : (s.segLost l).bit 0 FAB_INBAND_SEG_LOST l.val = true := by
  have counted : (s.cnt l 153).regs.wf = true := (congrArg NMap.wf State.regs_cntN).trans h
  exact (State.bit_setBit counted l.isLt).trans (by simp)

theorem State.out_segLost (s : State) (l : Die) : (s.segLost l).out = s.out := State.out_cntN

/-- A segment that is not the next in number and starts no message is lost, and only its number is taken up. -/
theorem State.takeRxSegment_of_gap (valid : g.valid = true) (goesOn : g.start = false) (last : (s.inb l).rxSeq = some n)
    (gap : g.seq.toNat ≠ (n + 1) % 65536) :
    s.takeRxSegment l g = (s.segLost l).updInb l fun y => { y with rxSeq := some g.seq.toNat } := by
  simp [State.takeRxSegment, valid, goesOn, last, gap, State.inb_segLost]

end

/-- Settles O34: what a lane takes of a waiting message is `State.takeSegment_of_waiting`; a segment out of sequence is lost
(`State.takeRxSegment_of_gap`), and a loss marks the lane and drops the part-built message. -/
theorem segmentsRebuild : Obligations.SegmentsRebuild := by
  refine ⟨?sent, fun s l => State.takeSegment_of_idle, ?lost⟩
  case sent =>
    intro s l m rest waiting _
    rw [State.takeSegment_of_waiting waiting]
    refine ⟨rfl, rfl, beq_iff_eq, decide_eq_true_iff, rfl, ?number, ?last, ?further⟩
    case number => simp [State.cnt]
    case last => intro last; simp [last]
    case further => intro further; simp [Nat.not_le.mpr further, State.cnt, waiting]
  case lost =>
    intro s l g n h valid goesOn last gap
    rw [State.takeRxSegment_of_gap valid goesOn last gap]
    exact ⟨by simp [State.inb_segLost], State.segLost_marks h, State.out_segLost s l⟩

end Sys2Proof.Machine

/-! Soundness: the state after reset is sound, and every step keeps a sound state sound: the proofs of the statements of
spec/17_telemetry.md and spec/18_settings_lifecycle_and_startup.md on it, with those on counters and on the firmware trial. -/

namespace Sys2Proof.Machine

section

variable {s0 s t : State} {k n v j : Nat} {f : FwTrial}

/-! ### Sound states (R577, R611, R613, R615, R618) -/

/-- What `Good` says of a state contains that the state is sound. -/
theorem Good.toSound (h : Good s0 s) : s.Sound :=
  ⟨h.regs, h.ctr, h.ctr48, h.cal, h.ring, h.run, h.lifecycle, h.ownerSlot, h.secver, h.active, h.standby, h.loading⟩

/-! ### Counters (R577, R581, R582) -/

theorem State.mem_wraps_addCtr_of_wrap (wraps : 2 ^ 48 ≤ s.tel.ctr.get k + n) : k ∈ (s.addCtr k n).tel.wraps := by
  have large : decide (s.tel.ctr.get k + n < 2 ^ 48) = false := decide_eq_false (Nat.not_lt.mpr wraps)
  simp only [State.addCtr, large, Bool.false_or]
  split
  case isTrue noted => exact List.contains_iff_mem.mp noted
  case isFalse => exact List.mem_cons_self

theorem State.wraps_addCtr_of_fits (fits : s.tel.ctr.get k + n < 2 ^ 48) : (s.addCtr k n).tel.wraps = s.tel.wraps :=
  if_pos (Bool.or_eq_true_iff.mpr (Or.inl (decide_eq_true fits)))

theorem State.mem_wraps_addCtr_of_ne (other : j ≠ k) : j ∈ (s.addCtr k n).tel.wraps ↔ j ∈ s.tel.wraps := by
  simp only [State.addCtr]
  split
  · exact Iff.rfl
  · exact List.mem_cons.trans (or_iff_right other)

/-! ### The firmware trial (R619, R620) -/

theorem State.nv_cntN (s : State) (d : Die) (i n : Nat) : (s.cntN d i n).nv = s.nv := by
  unfold State.cntN
  split <;> rfl

/-- The registers that show the permanent record are all that follows a change of it. -/
theorem State.syncFuse_rest (s : State) : s.SameButRegs s.syncFuse := by
  have first : s.SameButRegs (((s.wr 0 FUSE_STAT_LIFECYCLE s.nv.fuses.lifecycle).wr 0 FUSE_STAT_SECVER
      s.nv.fuses.secver).wrB 0 FUSE_STAT_PERMIT (s.nv.fuses.permit && Part.cipher s.part)) :=
    State.SameButRegs.wr (State.SameButRegs.wr (State.SameButRegs.wr (rfl : s.SameButRegs s)))
  have permits {ds : List Die} := State.each_keeps (Q := s.SameButRegs) (as := ds)
    (f := fun t d => t.wrB d CIPH_CFG_PERMIT s.nv.fuses.permit) (fun _ _ _ h => h.wr) first
  unfold State.syncFuse
  refine State.SameButRegs.wr (State.SameButRegs.wr (State.SameButRegs.wr (State.SameButRegs.wr ?_)))
  refine State.each_keeps (Q := s.SameButRegs) (fun _ _ _ h => h.wr.wr) ?_
  exact permits.wr.wr.wr.wr.wr.wr.wr

theorem State.nv_updFuses (s : State) (g : Fuses → Fuses) :
    (s.updFuses g).nv = { s.nv with fuses := g s.nv.fuses } := congrArg State.nv (State.syncFuse_rest _)

theorem State.nv_syncFw (s : State) : s.syncFw.nv = s.nv := rfl

theorem State.nv_settleOwed (s : State) : s.settleOwed.nv = s.nv := by
  unfold State.settleOwed
  exact State.each_keeps (Q := fun t => t.nv = s.nv) (fun _ _ _ same => same) rfl

theorem State.nv_mbReset (s : State) (d : Die) (ep : Endpoint) : (s.mbReset d ep).nv = s.nv := by
  unfold State.mbReset
  refine (State.nv_settleOwed _).trans ?_
  refine State.each_keeps (Q := fun t => t.nv = s.nv) (fun _ _ _ same => same) ?_
  exact State.nv_cntN _ _ _ _

/-- What a final reply leaves of what is kept without power: the images, the trial and the permanent record. -/
structure FirmwareKept (a b : NvState) : Prop where
  active : b.active = a.active
  standby : b.standby = a.standby
  trial : b.trial = a.trial
  fuses : b.fuses = a.fuses

namespace FirmwareKept

theorem of_eq {a b : NvState} (same : b = a) : FirmwareKept a b := by
  subst same
  exact ⟨rfl, rfl, rfl, rfl⟩

theorem trans {a b c : NvState} (h : FirmwareKept a b) (k : FirmwareKept b c) : FirmwareKept a c :=
  ⟨k.active.trans h.active, k.standby.trans h.standby, k.trial.trans h.trial, k.fuses.trans h.fuses⟩

/-- An audit record changes the ring alone. -/
theorem addAudit (s : State) (g : Nat → AuditRec) : FirmwareKept s.nv (s.addAudit g).nv := by
  obtain ⟨ring, next, regs, left, -⟩ := (AuditedFrom.refl s).addAudit (g := g)
  rw [left]
  exact ⟨rfl, rfl, rfl, rfl⟩

theorem replyCached (s : State) (r : Req) (opcode : Nat) (l : List Tlv) :
    FirmwareKept s.nv (s.replyCached r opcode l).nv := by
  refine of_eq ((State.sendReply_answered _ r opcode l).nv.trans ?_)
  unfold State.mirrorNow
  split <;> rfl

theorem finishPend (s : State) (kind : PendKind) (st : Status) (l : List Tlv) :
    FirmwareKept s.nv (s.finishPend kind st l).nv := by
  unfold State.finishPend State.finalReply State.auditReq State.auditCode
  split
  · dsimp only
    split
    · refine trans ?_ (replyCached _ _ _ _)
      split
      · refine trans ?_ (addAudit _ _)
        exact of_eq rfl
      · exact of_eq rfl
    · exact of_eq rfl
  · exact of_eq rfl

end FirmwareKept

/-- What a completed trial writes (R620). -/
theorem State.trialDone_kept (s : State) :
    FirmwareKept
      { s.nv with
        active := s.nv.standby
        standby := { s.nv.active with
          valid := s.nv.active.valid && decide (max s.nv.fuses.secver s.nv.standby.secver ≤ s.nv.active.secver) }
        trial := none
        fuses := { s.nv.fuses with secver := max s.nv.fuses.secver s.nv.standby.secver } }
      s.trialDone.nv := by
  unfold State.trialDone
  refine FirmwareKept.trans ?_ (FirmwareKept.finishPend _ _ _ _)
  exact FirmwareKept.of_eq ((State.nv_syncFw _).trans (State.nv_updFuses _ _))

/-- What a reverted trial writes (R620). -/
theorem State.trialRevert_kept (s : State) (f : FwTrial) :
    FirmwareKept { s.nv with standby := { s.nv.standby with valid := false }, trial := none } (s.trialRevert f).nv := by
  have moved : (s.each f.moved fun s d => s.mbReset d .core).nv = s.nv :=
    State.each_keeps (Q := fun t => t.nv = s.nv) (fun _ _ _ same => (State.nv_mbReset _ _ _).trans same) rfl
  unfold State.trialRevert
  refine FirmwareKept.trans ?_ (FirmwareKept.finishPend _ _ _ _)
  refine FirmwareKept.trans ?_ (FirmwareKept.addAudit _ _)
  rw [← moved]
  exact FirmwareKept.of_eq rfl

end

/-- Settles O4: every table is empty and every limit of the permanent record is at its lowest. -/
theorem resetIsSound : Obligations.ResetIsSound :=
  ⟨rfl, rfl, rfl, rfl, rfl, rfl, Nat.zero_le _, Nat.zero_le _, Nat.zero_le _, rfl, rfl, rfl⟩

/-- Settles O5: every operation keeps `Good` (`step_good`), which carries soundness along with permanence. -/
theorem stepKeepsSound : Obligations.StepKeepsSound := fun _ _ sound next => (step_good sound next).toSound

/-- Settles O16: a count and a write are single entries of the table of counters, and a flag is noted only at a wrap. -/
theorem countersWrap : Obligations.CountersWrap := by
  refine ⟨fun s k n wf => ⟨?sum, ?others, ?wraps, ?fits, ?flags⟩, fun s k v wf small => ⟨?set, ?unset, rfl⟩⟩
  case sum => rw [State.ctr_addCtr _ wf, if_pos rfl]
  case others => exact fun j other => by rw [State.ctr_addCtr _ wf, if_neg other]
  case wraps => exact State.mem_wraps_addCtr_of_wrap
  case fits => exact State.wraps_addCtr_of_fits
  case flags => exact fun j => State.mem_wraps_addCtr_of_ne
  case set => rw [State.ctr_setCtr _ wf, if_pos rfl, Nat.mod_eq_of_lt small]
  case unset => exact fun j other => by rw [State.ctr_setCtr _ wf, if_neg other]

/-- Settles O25: what each end of a trial writes (`State.trialDone_kept`, `State.trialRevert_kept`) stands after the final
reply. -/
theorem trialEnds : Obligations.TrialEnds := by
  refine ⟨fun s => ?completed, fun s f => ?reverted⟩
  case completed =>
    obtain ⟨active, standby, trial, fuses⟩ := s.trialDone_kept
    refine ⟨active, trial, fuses, ?_⟩
    rw [standby, Bool.and_eq_true, decide_eq_true_eq]
    exact ⟨rfl, rfl, Iff.rfl⟩
  case reverted =>
    obtain ⟨active, standby, trial, fuses⟩ := s.trialRevert_kept f
    refine ⟨active, trial, fuses, ?_⟩
    rw [standby]

end Sys2Proof.Machine

/-! The sideband: requests to a domain that is off, and the data fabric's links: the proofs of the statements of
spec/13_package_interior.md on them. -/

namespace Sys2Proof.Machine

section

variable {s t : State} {src dst d : Die} {tag : Nat} {write : Bool} {a v : Word} {k : Fin 3}

/-! ### Requests to a domain that is off (R463) -/

/-- Counters are collected by reads of the CNT block. -/
theorem counters_of_collectAsked {g : Nat × Nat} (asked : collectAsked write a = some g) :
    write = false ∧ addrBlk a = 0x14 := by
  unfold collectAsked at asked
  dsimp only at asked
  split at asked
  case isTrue => cases asked
  case isFalse counters =>
    simp only [Bool.or_eq_true, not_or, Bool.not_eq_true, bne_eq_false_iff_eq] at counters
    obtain ⟨⟨⟨⟨read, block⟩, -⟩, -⟩, -⟩ := counters
    exact ⟨read, block⟩

theorem State.sbAccess_of_off (good : addrBad a = false)
    (keyed : Part.cipher t.part = true ∨ addrBlk a ≠ 0x0C ∧ addrBlk a ≠ 0x0D)
    (off : t.blockOff dst (addrBlk a) write = true) : t.sbAccess dst write a v = (0, true, t) :=
  (if_neg (by simpa [good, Decidable.or_iff_not_imp_left] using keyed)).trans (if_pos off)

theorem execSbReq_of_off {m : SlotMsg} (taken : s.takeSlot dst src (fun m => m == .req dst tag write a v) = some (m, t))
    (good : addrBad a = false) (keyed : Part.cipher t.part = true ∨ addrBlk a ≠ 0x0C ∧ addrBlk a ≠ 0x0D)
    (off : t.blockOff dst (addrBlk a) write = true) :
    execSbReq src dst tag write a v s = .next (t.sbPush dst 2 1 (.rsp src tag true 0#32)) := by
  have access := State.sbAccess_of_off (v := v) good keyed off
  cases asked : collectAsked write a with
  | none => rw [execSbReq_of_access taken asked, access]
  | some g =>
    obtain ⟨read, block⟩ := counters_of_collectAsked asked
    rw [read, block] at off
    simp only [execSbReq, taken, asked, off, access, if_true]

/-! ### The data fabric's links (R453, R454, R458, R459) -/

theorem execD2dTransferReceive_of_good {e : Die} (populated : s.pop d = true) (up : s.linkUp d k.val = true)
    (joined : s.peer d k.val = some e) :
    execD2dTransferReceive d k true s = .next
      ((s.updDie d fun x => { x with sb := { x.sb with d2dFails := x.sb.d2dFails.set k.val 0 } }).updDie e fun x =>
        { x with sb := { x.sb with d2dWait := x.sb.d2dWait.set k.val (d2dNext (x.sb.d2dWait.getD k.val (0, 0))) } }) := by
  simp only [execD2dTransferReceive, populated, up, joined, Bool.and_self, Bool.not_true, Bool.false_eq_true, if_false,
    if_true]

theorem execD2dTransferReceive_of_failed (populated : s.pop d = true) (up : s.linkUp d k.val = true) :
    execD2dTransferReceive d k false s = .next
      (let n := (s.die d).sb.d2dFails.getD k.val 0
       let t : State := s.updDie d fun x => { x with sb := { x.sb with d2dFails := x.sb.d2dFails.set k.val (n + 1) } }
       if n < 3 then t.cnt d 168 else t) := by
  simp only [execD2dTransferReceive, populated, up, Bool.and_self, Bool.not_true, Bool.not_false, Bool.false_eq_true, if_false,
    if_true]

end

/-- Settles O54: a domain that is off gives no counters and no access, so the RSP is all that the REQ leaves. -/
theorem domainOff : Obligations.DomainOff := fun _ _ _ _ _ _ _ _ _ => execSbReq_of_off

/-- Settles O21: an event whose condition holds has its effect. -/
theorem fabricLinks : Obligations.FabricLinks := by
  refine ⟨?good, ?next, ?failed, ?down, ?retrain, ?up⟩
  case good => exact fun s d e k => execD2dTransferReceive_of_good
  case next => exact fun w => rfl
  case failed => exact fun s d k => execD2dTransferReceive_of_failed
  case down =>
    intro s d k lost populated up dead
    exact if_pos (by simpa [populated, up] using dead)
  case retrain =>
    intro s d k populated wired down due
    exact if_pos (by simpa [populated, wired, down] using due)
  case up =>
    intro s d k populated wired down
    exact if_pos (by simp [populated, wired, down])

end Sys2Proof.Machine

/-! The monitor converters' FIFO and the updates of the DAC bank: the proofs of the statements of
spec/15_housekeeping_analogue.md on them. -/

namespace Sys2Proof.Machine

section

variable {s t : State} {d e : Die} {n : Fin 2}

/-! ### What an event leaves of a die's analogue part -/

/-- A property that each single thing keeps that an event does to a state is kept by raising one. -/
theorem EventKept.raise {Q : State → Prop} (kept : EventKept Q) (d : Die) (i : Nat) (arg : Bytes) (h : Q s) :
    Q (s.raise d i arg) := by
  unfold State.raise State.raiseAt
  split
  · exact kept.deliver _ (kept.wr _ _ _ _ (kept.logEvent _ _ _ (kept.addCtr _ _ _ h)))
  · exact h

/-- What a change of one die leaves of it stands in every die. -/
theorem State.die_updDie_keeps {α : Type} (p : DieSt → α) {g : DieSt → DieSt} (kept : ∀ x, p (g x) = p x) :
    p ((s.updDie d g).die e) = p (s.die e) := by
  by_cases same : d = e
  · subst same
    rw [State.die_updDie, kept]
  · rw [State.die_updDie_ne _ _ same]

/-- A state with the analogue parts of another. -/
def State.AnaKept (s t : State) : Prop := ∀ e, (t.die e).ana = (s.die e).ana

theorem State.AnaKept.updDie {g : DieSt → DieSt} (h : s.AnaKept t) (ana : ∀ x, (g x).ana = x.ana) :
    s.AnaKept (t.updDie d g) := fun e => (State.die_updDie_keeps DieSt.ana ana).trans (h e)

theorem State.anaKept_eventKept (s : State) : EventKept s.AnaKept where
  addCtr _ _ _ h := h
  wr _ _ _ _ h := h
  inbPush _ _ m h := h.updDie (g := fun x => { x with inband := { x.inband with txq := x.inband.txq ++ [m] } }) fun _ => rfl
  logEvent _ _ _ h := h.updDie fun _ => rfl
  rest _ _ _ _ h := h

theorem State.ana_raise (s : State) (d : Die) (i : Nat) (arg : Bytes) : s.AnaKept (s.raise d i arg) :=
  s.anaKept_eventKept.raise d i arg fun _ => rfl

/-! ### The FIFO (R540, R549) -/

@[simp] theorem State.conv_updConv (s : State) (d : Die) (n : Fin 2) (g : Conv → Conv) :
    (s.updConv d n g).conv d n = g (s.conv d n) := by
  simp only [State.conv, State.updConv, State.die_updDie]
  exact Vector.getElem_set_self n.isLt

theorem State.die_cntN {i k : Nat} : (s.cntN d i k).die e = s.die e := by
  unfold State.cntN
  split <;> rfl

theorem State.conv_raise (s : State) (d : Die) (i : Nat) (arg : Bytes) : (s.raise d i arg).conv e n = s.conv e n :=
  congrArg (fun a : AnaDie => a.convs.get n) (s.ana_raise d i arg e)

theorem State.conv_cnt {i : Nat} : (s.cnt d i).conv e n = s.conv e n :=
  congrArg (fun x : DieSt => x.ana.convs.get n) State.die_cntN

/-- A sample takes the place of the oldest. -/
def State.fifoTaken (s : State) (d : Die) (n : Fin 2) (v : Sample) : State :=
  s.updConv d n fun x => { x with fifo := x.fifo.drop 1 ++ [v], lostIv := some s.time.ivNum }

/-- A sample takes the place of the oldest, whose loss is shown and counted before the event is raised. -/
def State.fifoLost (s : State) (d : Die) (n : Fin 2) (v : Sample) : State :=
  ((s.fifoTaken d n v).wr d (MADC_STAT_FIFO_LOST n.val) 1).cnt d 179

theorem State.fifoPush_of_room {v : Sample} (room : (s.conv d n).fifo.length < 256) :
    s.fifoPush d n v = s.updConv d n fun x => { x with fifo := x.fifo ++ [v] } := if_pos room

theorem State.fifoPush_of_full {v : Sample} (full : (s.conv d n).fifo.length = 256) :
    s.fifoPush d n v = if s.oncePerInterval (s.conv d n).lostIv then (s.fifoLost d n v).raiseLane d evMADC_FIFO_LOST
      else s.fifoLost d n v := if_neg (by simp [full])

theorem State.fifo_fifoLost {v : Sample} : ((s.fifoLost d n v).conv d n).fifo = (s.conv d n).fifo.drop 1 ++ [v] := by
  have taken : ((s.fifoTaken d n v).conv d n).fifo = (s.conv d n).fifo.drop 1 ++ [v] :=
    congrArg Conv.fifo (State.conv_updConv s d n _)
  rw [State.fifoLost, State.conv_cnt]
  exact taken

theorem State.flag_fifoLost {v : Sample} (wf : s.regs.wf = true) :
    (s.fifoLost d n v).flag d (MADC_STAT_FIFO_LOST n.val) = true := by
  have regs : (s.fifoTaken d n v).regs.wf = true := wf
  rw [State.fifoLost, State.flag, State.rd_cnt, State.rd_wr _ regs]
  rfl

theorem State.ctr_fifoLost {v : Sample} (wf : s.tel.ctr.wf = true) (populated : s.pop d = true) :
    (s.fifoLost d n v).tel.ctr.get (ctrIndex d 179) = (s.tel.ctr.get (ctrIndex d 179) + 1) % 2 ^ 48 :=
  State.ctr_cnt (s := (s.fifoTaken d n v).wr d (MADC_STAT_FIFO_LOST n.val) 1) wf populated

/-- What a sample leaves that finds the FIFO full. -/
theorem State.fifoPush_full {v : Sample} (regs : s.regs.wf = true) (ctr : s.tel.ctr.wf = true) (populated : s.pop d = true)
    (full : (s.conv d n).fifo.length = 256) :
    ((s.fifoPush d n v).conv d n).fifo = (s.conv d n).fifo.drop 1 ++ [v] ∧
      (s.fifoPush d n v).flag d (MADC_STAT_FIFO_LOST n.val) = true ∧
      (s.fifoPush d n v).tel.ctr.get (ctrIndex d 179) = (s.tel.ctr.get (ctrIndex d 179) + 1) % 2 ^ 48 := by
  have lost := State.fifo_fifoLost (s := s) (d := d) (n := n) (v := v)
  have flag := State.flag_fifoLost (d := d) (n := n) (v := v) regs
  have count := State.ctr_fifoLost (n := n) (v := v) ctr populated
  rw [State.fifoPush_of_full full]
  split
  · have other : ∀ n : Fin 2, ∀ g ∈ eventFields, (MADC_STAT_FIFO_LOST n.val).place ≠ g.place := by decide
    have reported := Reported.raise (s.fifoLost d n v) d evMADC_FIFO_LOST (evArg d.val 0xFF [])
    refine ⟨(congrArg Conv.fifo (State.conv_raise _ _ _ _)).trans lost, ?_,
      (reported.counts d 179 (by decide) (by decide)).trans count⟩
    rw [State.flag, State.raiseLane, reported.shows d _ (other n)]
    exact flag
  · exact ⟨lost, flag, count⟩

theorem State.fifo_fifoPush {v : Sample} (regs : s.regs.wf = true) (ctr : s.tel.ctr.wf = true) (populated : s.pop d = true)
    (bounded : (s.conv d n).fifo.length ≤ 256) :
    ((s.fifoPush d n v).conv d n).fifo = ((s.conv d n).fifo ++ [v]).drop ((s.conv d n).fifo.length - 255) := by
  rcases Nat.lt_or_eq_of_le bounded with room | full
  · rw [State.fifoPush_of_room room, State.conv_updConv, Nat.sub_eq_zero_of_le (Nat.le_of_lt_succ room), List.drop_zero]
  · rw [(State.fifoPush_full regs ctr populated full).1, full, List.drop_append_of_le_length (by omega)]

theorem State.readFifo_of_empty (empty : (s.conv d n).fifo = []) : s.readFifo d n = (0, s) := by
  simp only [State.readFifo, empty]

theorem State.readFifo_of_sample {v : Sample} {q : List Sample} (held : (s.conv d n).fifo = v :: q) :
    s.readFifo d n =
      (2 ^ 26 + (if v.settling then 2 ^ 25 else 0) + (if v.overrange then 2 ^ 24 else 0) + (v.value % 2 ^ 24).toNat,
        s.updConv d n fun x => { x with fifo := q }) := by
  simp only [State.readFifo, held]

/-- The parts of the word that a read of the FIFO gives for a sample. -/
theorem fifoWord_parts (settling overrange : Bool) {value : Nat} (small : value < 2 ^ 24) :
    let w := 2 ^ 26 + (if settling then 2 ^ 25 else 0) + (if overrange then 2 ^ 24 else 0) + value
    w / 2 ^ 26 = 1 ∧ (w / 2 ^ 25 % 2 = 1 ↔ settling = true) ∧ (w / 2 ^ 24 % 2 = 1 ↔ overrange = true) ∧
      w % 2 ^ 24 = value := by
  cases settling <;> cases overrange <;> simp <;> omega

/-! ### Conversions (R537) -/

theorem overrange_convSample (o : Bool) (v : Int) :
    (convSample o v).overrange = true ↔ o = true ∨ v < -8388607 ∨ 8388607 < v := by
  have limited : v ≠ max (-8388607) (min 8388607 v) ↔ v < -8388607 ∨ 8388607 < v := by omega
  simp only [convSample, Bool.or_eq_true, bne_iff_ne, limited]

end

/-- Settles O29: a push is told apart by whether the FIFO has room, a read by whether it holds a sample. -/
theorem converterFifo : Obligations.ConverterFifo := by
  refine ⟨?push, ?empty, ?read, fun o v => ⟨rfl, rfl, overrange_convSample o v⟩⟩
  case push =>
    exact fun s d n v regs ctr populated bounded =>
      ⟨State.fifo_fifoPush regs ctr populated bounded, fun full => (State.fifoPush_full regs ctr populated full).2⟩
  case empty => exact fun s d n => State.readFifo_of_empty
  case read =>
    intro s d n v q held
    have positive : (0 : Int) < 2 ^ 24 := by decide
    have low := Int.emod_nonneg v.value positive.ne'
    have high := Int.emod_lt_of_pos v.value positive
    obtain ⟨valid, settling, overrange, value⟩ :=
      fifoWord_parts v.settling v.overrange (value := (v.value % 2 ^ 24).toNat) (by omega)
    rw [State.readFifo_of_sample held]
    refine ⟨congrArg Conv.fifo (State.conv_updConv s d n _), valid, settling, overrange, ?_⟩
    rw [value, Int.toNat_of_nonneg low]

end Sys2Proof.Machine

/-! The updates of the DAC bank: the proof of the statement of spec/15_housekeeping_analogue.md on them. -/

namespace Sys2Proof.Machine

section

variable {s t u : State} {d e e' : Die} {c c' : Fin 6} {n : Fin 2} {v : Nat}

/-- What the step of one element sets, where the steps of the others keep what it needs and what it sets, holds at the end. -/
theorem State.each_once {α : Type} {P Q : State → Prop} {f : State → α → State} {as : List α} {a : α} (once : as.Nodup)
    (mem : a ∈ as) (before : ∀ s, ∀ b ≠ a, P s → P (f s b)) (sets : ∀ s, P s → Q (f s a))
    (after : ∀ s, ∀ b ≠ a, Q s → Q (f s b)) (start : P s) : Q (s.each as f) := by
  obtain ⟨early, late, rfl⟩ := List.append_of_mem mem
  obtain ⟨notEarly, notLate⟩ : a ∉ early ∧ a ∉ late := by
    have apart := List.nodup_middle.mp once
    simpa using (List.nodup_cons.mp apart).1
  rw [State.each, List.foldl_append, List.foldl_cons]
  refine State.each_keeps (fun s b held => after s b fun same => notLate (same ▸ held)) (sets _ ?_)
  exact State.each_keeps (fun s b held => before s b fun same => notEarly (same ▸ held)) start

/-! ### Channels -/

@[simp] theorem State.dac_updDac (s : State) (d : Die) (c : Fin 6) (g : DacCh → DacCh) :
    (s.updDac d c g).dac d c = g (s.dac d c) := by
  simp only [State.dac, State.updDac, State.die_updDie]
  exact Vector.getElem_set_self c.isLt

theorem State.dac_updDac_ne (g : DacCh → DacCh) (other : (e, c') ≠ (d, c)) : (s.updDac e c' g).dac d c = s.dac d c := by
  by_cases same : e = d
  · subst same
    have apart : ¬ c'.val = c.val := fun eq => other (by rw [Fin.ext eq])
    simp only [State.dac, State.updDac, State.die_updDie]
    exact Vector.getElem_set_ne c'.isLt c.isLt apart
  · simp only [State.dac, State.updDac, State.die_updDie_ne _ _ same]

theorem State.dac_raise (s : State) (d : Die) (i : Nat) (arg : Bytes) : (s.raise d i arg).dac e c = s.dac e c :=
  congrArg (fun a : AnaDie => a.chs.get c) (s.ana_raise d i arg e)

theorem mem_allChs (c : Fin 6) : c ∈ allChs := by
  revert c
  decide

theorem outNow_unshared : ∀ c : Fin 6, (DACB_OUT_NOW c.val).shared = false := by decide

theorem outNow_place_inj : ∀ c c' : Fin 6, (DACB_OUT_NOW c.val).place = (DACB_OUT_NOW c'.val).place → c = c' := by decide

theorem outNow_key_ne (other : (e, c') ≠ (d, c)) : (DACB_OUT_NOW c.val).key d ≠ (DACB_OUT_NOW c'.val).key e := by
  intro same
  obtain rfl : c = c' :=
    outNow_place_inj c c' (by rw [Fld.place_eq_key_mod _ d, Fld.place_eq_key_mod _ e, same])
  by_cases die : d = e
  · exact other (by rw [die])
  · exact Fld.key_ne_of_die_ne (outNow_unshared c) die same

/-- Fields of the bank that no output stands in. -/
theorem dacFields_place_ne : ∀ c c' : Fin 6, ∀ f ∈ [DACB_CTRL_CLR_N_LOW, DACB_CTRL_SW_CLR, DACB_WAVE_SHAPE c.val,
    DACB_WAVE_SPAN c.val, DACB_WAVE_OFFSET c.val], f.place ≠ (DACB_OUT_NOW c'.val).place := by decide

theorem State.outFollow_eq (s old : State) (d : Die) (c : Fin 6) :
    s.outFollow old d c = s ∨ ∃ o, s.outFollow old d c = s.emit o := by
  unfold State.outFollow
  split
  · exact Or.inl rfl
  · exact Or.inr ⟨_, rfl⟩

theorem State.setOut_regs (s : State) (d : Die) (c : Fin 6) (v : Nat) :
    (s.setOut d c v).regs = (s.wr d (DACB_OUT_NOW c.val) v).regs := by
  rcases State.outFollow_eq (s.wr d (DACB_OUT_NOW c.val) v) s d c with same | ⟨o, sent⟩
  · rw [State.setOut, same]
  · rw [State.setOut, sent, State.emit_regs]

theorem State.setOut_dies (s : State) (d : Die) (c : Fin 6) (v : Nat) : (s.setOut d c v).dies = s.dies := by
  rcases State.outFollow_eq (s.wr d (DACB_OUT_NOW c.val) v) s d c with same | ⟨o, sent⟩
  · rw [State.setOut, same, State.wr_dies]
  · rw [State.setOut, sent, State.emit_dies, State.wr_dies]

theorem State.dac_setOut (s : State) (d : Die) (c : Fin 6) (v : Nat) : (s.setOut d c v).dac e c' = s.dac e c' := by
  simp only [State.dac, State.die, State.setOut_dies]

/-- A channel that puts out a code shows it. -/
theorem State.rd_setOut (wf : s.regs.wf = true) : (s.setOut d c v).rd d (DACB_OUT_NOW c.val) = v % 4096 := by
  have shown := s.rd_wr wf d (DACB_OUT_NOW c.val) v
  rwa [State.rd, ← State.setOut_regs] at shown

/-! ### What leaves a channel as it is -/

/-- What concerns channel `c` of die `d` is the same in two states: the channel, what holds it, and every field but the outputs
of the other channels. -/
structure ChanKept (d : Die) (c : Fin 6) (s t : State) : Prop where
  wf : s.regs.wf = true → t.regs.wf = true
  dac : t.dac d c = s.dac d c
  shows : ∀ f : Fld, (∀ e c', (e, c') ≠ (d, c) → f.key d ≠ (DACB_OUT_NOW c'.val).key e) → t.rd d f = s.rd d f
  safetyClr : (t.die d).ana.safetyClr = (s.die d).ana.safetyClr
  armHold : (t.die d).safe.armHold = (s.die d).safe.armHold

namespace ChanKept

theorem refl (s : State) : ChanKept d c s s := ⟨id, rfl, fun _ _ => rfl, rfl, rfl⟩

theorem congr (h : ChanKept d c s t) (regs : u.regs = t.regs) (dies : u.dies = t.dies) : ChanKept d c s u := by
  have die : u.die d = t.die d := by simp only [State.die, dies]
  refine ⟨fun wf => regs ▸ h.wf wf, ?_, fun f other => ?_, ?_, ?_⟩
  · rw [State.dac, die]; exact h.dac
  · rw [State.rd, regs]; exact h.shows f other
  · rw [die]; exact h.safetyClr
  · rw [die]; exact h.armHold

/-- A change of a die that leaves the channel and what holds it. -/
theorem updDie {g : DieSt → DieSt} (h : ChanKept d c s t) (dac : (t.updDie e g).dac d c = t.dac d c)
    (safetyClr : ∀ x, (g x).ana.safetyClr = x.ana.safetyClr) (armHold : ∀ x, (g x).safe.armHold = x.safe.armHold) :
    ChanKept d c s (t.updDie e g) :=
  ⟨h.wf, dac.trans h.dac, h.shows, (State.die_updDie_keeps (fun x => x.ana.safetyClr) safetyClr).trans h.safetyClr,
    (State.die_updDie_keeps (fun x => x.safe.armHold) armHold).trans h.armHold⟩

theorem updDac {g : DacCh → DacCh} (h : ChanKept d c s t) (other : (e, c') ≠ (d, c)) :
    ChanKept d c s (t.updDac e c' g) := by
  have dac := State.dac_updDac_ne (s := t) g other
  unfold State.updDac at dac ⊢
  exact h.updDie dac (fun _ => rfl) fun _ => rfl

theorem setOut (h : ChanKept d c s t) (other : (e, c') ≠ (d, c)) : ChanKept d c s (t.setOut e c' v) := by
  have wrote : ChanKept d c s (t.wr e (DACB_OUT_NOW c'.val) v) :=
    ⟨fun wf => t.wr_wf (h.wf wf) _ _ _, h.dac, fun f apart =>
      (State.rd_wr_of_other_key (apart e c' other)).trans (h.shows f apart), h.safetyClr, h.armHold⟩
  exact wrote.congr (State.setOut_regs _ _ _ _) (State.setOut_dies _ _ _ _)

theorem waveCode (h : ChanKept d c s t) : ChanKept d c s (t.waveCode e c').2 := by
  unfold State.waveCode
  dsimp only
  split
  case h_4 => exact h.congr rfl rfl
  all_goals exact h

/-- An update of one channel leaves the others. -/
theorem dacStep (h : ChanKept d c s t) (other : (e, c') ≠ (d, c)) : ChanKept d c s (t.dacStep e c') := by
  unfold State.dacStep
  dsimp only
  split
  · exact h
  · split
    · exact (h.updDac other).setOut other
    · split
      · exact (h.waveCode.setOut other).updDac other
      · split
        · exact (h.updDac other).setOut other
        · exact h

theorem out (h : ChanKept d c s t) : t.rd d (DACB_OUT_NOW c.val) = s.rd d (DACB_OUT_NOW c.val) :=
  h.shows _ fun _ _ other => outNow_key_ne other

theorem field (h : ChanKept d c s t) {f : Fld} (apart : ∀ c' : Fin 6, f.place ≠ (DACB_OUT_NOW c'.val).place) :
    t.rd d f = s.rd d f := h.shows f fun e c' _ => Fld.key_ne_of_place_ne (apart c') e d

theorem dacBusy (h : ChanKept d c s t) : t.dacBusy d c = s.dacBusy d c := by
  simp only [State.dacBusy, State.dacHeld, State.dacParking, State.flag, h.dac, h.safetyClr, h.armHold,
    h.field fun c' => dacFields_place_ne c c' DACB_CTRL_CLR_N_LOW (by simp),
    h.field fun c' => dacFields_place_ne c c' DACB_CTRL_SW_CLR (by simp)]

end ChanKept

/-- Two states with the same channels and outputs on every die. -/
structure DacShown (s t : State) : Prop where
  dac : ∀ d c, t.dac d c = s.dac d c
  out : ∀ d, ∀ c : Fin 6, t.rd d (DACB_OUT_NOW c.val) = s.rd d (DACB_OUT_NOW c.val)

namespace DacShown

theorem refl (s : State) : DacShown s s := ⟨fun _ _ => rfl, fun _ _ => rfl⟩

theorem wr {f : Fld} (h : DacShown s t) (apart : ∀ c : Fin 6, (DACB_OUT_NOW c.val).place ≠ f.place) :
    DacShown s (t.wr d f v) := ⟨h.dac, fun e c => (State.rd_wr_of_other_place (apart c)).trans (h.out e c)⟩

theorem cnt {i : Nat} (h : DacShown s t) : DacShown s (t.cnt d i) :=
  ⟨fun e c => (congrArg (fun x : DieSt => x.ana.chs.get c) State.die_cntN).trans (h.dac e c),
    fun e c => State.rd_cnt.trans (h.out e c)⟩

theorem updDie {g : DieSt → DieSt} (h : DacShown s t) (chs : ∀ x, (g x).ana.chs = x.ana.chs) :
    DacShown s (t.updDie d g) :=
  ⟨fun e c => (congrArg (·.get c) (State.die_updDie_keeps (fun x => x.ana.chs) chs)).trans (h.dac e c), h.out⟩

theorem updConv {g : Conv → Conv} (h : DacShown s t) : DacShown s (t.updConv d n g) := by
  unfold State.updConv
  exact h.updDie fun _ => rfl

theorem raiseLane {i : Nat} (h : DacShown s t) : DacShown s (t.raiseLane d i) := by
  have apart : ∀ c : Fin 6, ∀ g ∈ eventFields, (DACB_OUT_NOW c.val).place ≠ g.place := by decide
  unfold State.raiseLane
  exact ⟨fun e c => (State.dac_raise _ _ _ _).trans (h.dac e c),
    fun e c => ((Reported.raise t _ _ _).shows e _ (apart c)).trans (h.out e c)⟩

theorem convRun {a : ConvAct} {ts preset gain : Nat} (h : DacShown s t) : DacShown s (t.convRun d n a ts preset gain) := by
  unfold State.convRun State.convStart
  exact h.updConv.updConv

theorem startInjected {safety : Bool} (h : DacShown s t) : DacShown s (t.startInjected d n safety) := by
  unfold State.startInjected
  split
  · exact h.convRun
  · exact h.convRun

theorem ownNow (h : DacShown s t) : DacShown s (t.ownNow d n) := by
  unfold State.ownNow
  dsimp only
  split
  · exact h.updConv
  · exact h.updConv.startInjected

theorem ownTrigger (h : DacShown s t) : DacShown s (t.ownTrigger d n) := by
  have apart : ∀ n : Fin 2, ∀ c : Fin 6, (DACB_OUT_NOW c.val).place ≠ (MADC_STAT_INJ_OVR n.val).place := by decide
  unfold State.ownTrigger
  dsimp only
  split
  · exact h
  · split
    · exact (h.wr (apart n)).cnt
    · split
      · exact h.ownNow
      · exact h.updConv

theorem regTrigger (h : DacShown s t) : DacShown s (t.regTrigger d n) := by
  have apart : ∀ n : Fin 2, ∀ c : Fin 6, (DACB_OUT_NOW c.val).place ≠ (MADC_STAT_REG_OVR n.val).place := by decide
  unfold State.regTrigger
  dsimp only
  split
  · exact h
  · split
    · split
      · exact ((h.wr (apart n)).cnt.updConv).raiseLane
      · exact (h.wr (apart n)).cnt.updConv
    · exact h.updConv

theorem sourceTrigger {src : Nat} (h : DacShown s t) : DacShown s (t.sourceTrigger src d n) := by
  have regular {v : State} (h : DacShown s v) :
      DacShown s (if v.rd d (MADC_CTRL_TRIG_SRC n.val) = src then v.regTrigger d n else v) := by
    split
    · exact h.regTrigger
    · exact h
  refine regular ?_
  split
  · exact h.ownTrigger
  · exact h

end DacShown

/-! ### An update (R527, R529) -/

/-- The due update of a die noted. -/
def State.noteUpdate (s : State) (d : Die) : State :=
  s.updDie d fun x => { x with ana := { x.ana with updAt := some (Machine.nextDue x.ana.updAt (modU 8) s.time.now) } }

/-- The channels of a die on which SINE plays at an update. -/
def State.sines (s : State) (d : Die) : List (Fin 6) :=
  [(1 : Fin 6), 2].filter fun c => s.sineRuns d c && !s.dacBusy d c && (s.dac d c).direct.isNone

/-- Those of them whose phase event is due. -/
def State.phaseHits (s : State) (d : Die) : List (Fin 6) :=
  (s.sines d).filter fun c => phaseHit (s.dac d c).lastPhase (s.wavePhase d c) (s.rd d (DACB_EVT_POINT c.val))

/-- What the sine channels of a die note at an update that began in the state `s`. -/
def State.noteSines (s : State) (d : Die) (t : State) : State :=
  let t := t.each (s.sines d) fun t c => t.updDac d c fun x => { x with lastPhase := some (s.wavePhase d c) }
  match s.sines d with
  | c :: _ => t.updDie d fun x => { x with ana := { x.ana with
      sineAcc := (x.ana.sineAcc + s.rd d (DACB_RATE c.val)) % 2 ^ 32 } }
  | [] => t

/-- An update of a die (R527, R529, R533). -/
def State.dacUpdated (s : State) (d : Die) : State :=
  ((s.noteUpdate d).noteSines d ((s.noteUpdate d).each allChs fun s c => s.dacStep d c)).each
    ((s.noteUpdate d).phaseHits d) fun t _ => t.dieTrigger 1 d

theorem execDacUpdate_of_due (populated : s.pop d = true) (on : s.domainOn d .ana = true)
    (due : periodDue (s.die d).ana.updAt (modU 8) s.time.now = true) : execDacUpdate d s = .next (s.dacUpdated d) :=
  if_neg (by simp [populated, on, due])

theorem ChanKept.noteUpdate (h : ChanKept d c s t) : ChanKept d c s (t.noteUpdate e) := by
  unfold State.noteUpdate
  exact h.updDie (State.die_updDie_keeps (fun x => x.ana.chs.get c) fun _ => rfl) (fun _ => rfl) fun _ => rfl

/-- A channel that plays no sine is left as it is by what the sine channels note. -/
theorem ChanKept.noteSines (h : ChanKept d c s t) (silent : e = d → c ∉ u.sines e) :
    ChanKept d c s (u.noteSines e t) := by
  have noted : ChanKept d c s
      (t.each (u.sines e) fun t c' => t.updDac e c' fun x => { x with lastPhase := some (u.wavePhase e c') }) := by
    refine State.each_keeps (Q := ChanKept d c s) (fun v c' mem h => h.updDac ?_) h
    intro same
    obtain ⟨rfl, rfl⟩ := Prod.mk.inj same
    exact silent rfl mem
  unfold State.noteSines
  dsimp only
  split
  · exact noted.updDie (State.die_updDie_keeps (fun x => x.ana.chs.get c) fun _ => rfl) (fun _ => rfl) fun _ => rfl
  · exact noted

theorem State.dacUpdated_shown (s : State) (d : Die) :
    DacShown ((s.noteUpdate d).noteSines d ((s.noteUpdate d).each allChs fun s c => s.dacStep d c)) (s.dacUpdated d) :=
  State.each_keeps (Q := DacShown _) (fun _ _ _ h => h.sourceTrigger.sourceTrigger) (DacShown.refl _)

/-- An update of a die leaves every channel of the others. -/
theorem State.dacUpdated_other (other : e ≠ d) :
    (s.dacUpdated d).dac e c = s.dac e c ∧
      (s.dacUpdated d).rd e (DACB_OUT_NOW c.val) = s.rd e (DACB_OUT_NOW c.val) := by
  have kept : ChanKept e c s ((s.noteUpdate d).noteSines d ((s.noteUpdate d).each allChs fun s c => s.dacStep d c)) := by
    refine ChanKept.noteSines ?_ fun same => absurd same.symm other
    refine State.each_keeps (Q := ChanKept e c s) (fun v c' _ h => h.dacStep fun same => ?_) (ChanKept.refl s).noteUpdate
    exact other (Prod.mk.inj same).1.symm
  exact ⟨((s.dacUpdated_shown d).dac e c).trans kept.dac, ((s.dacUpdated_shown d).out e c).trans kept.out⟩

/-- A channel that does not run SINE, is busy or has a direct code plays no sine. -/
theorem State.not_mem_sines (silent : s.sineRuns d c = false ∨ s.dacBusy d c = true ∨ (s.dac d c).direct ≠ none) :
    c ∉ (s.noteUpdate d).sines d := by
  have kept : ChanKept d c s (s.noteUpdate d) := (ChanKept.refl s).noteUpdate
  have runs : (s.noteUpdate d).sineRuns d c = s.sineRuns d c := by
    simp only [State.sineRuns, kept.dac, kept.field fun c' => dacFields_place_ne c c' (DACB_WAVE_SHAPE c.val) (by simp)]
  intro mem
  simp only [State.sines, List.mem_filter, runs, kept.dacBusy, kept.dac, Bool.and_eq_true, Bool.not_eq_true',
    Option.isNone_iff_eq_none] at mem
  obtain ⟨-, ⟨sine, free⟩, direct⟩ := mem
  rcases silent with other | busy | code
  · exact Bool.false_ne_true (other.symm.trans sine)
  · exact Bool.false_ne_true (free.symm.trans busy)
  · exact code direct

/-- A channel that plays no sine is after an update as its own step leaves it, taken where what concerns it is as before. -/
theorem State.dacUpdated_channel (s : State) (d : Die) (c : Fin 6)
    (silent : s.sineRuns d c = false ∨ s.dacBusy d c = true ∨ (s.dac d c).direct ≠ none) :
    ∃ u, ChanKept d c s u ∧ (s.dacUpdated d).dac d c = (u.dacStep d c).dac d c ∧
      (s.dacUpdated d).rd d (DACB_OUT_NOW c.val) = (u.dacStep d c).rd d (DACB_OUT_NOW c.val) := by
  have once : allChs.Nodup := by decide
  obtain ⟨u, before, after⟩ : ∃ u, ChanKept d c s u ∧
      ChanKept d c (u.dacStep d c) ((s.noteUpdate d).each allChs fun s c => s.dacStep d c) := by
    refine State.each_once (P := ChanKept d c s) (Q := fun v => ∃ u, ChanKept d c s u ∧ ChanKept d c (u.dacStep d c) v)
      once (mem_allChs c) ?before ?own ?after (ChanKept.refl s).noteUpdate
    case before => exact fun v b other h => h.dacStep fun same => other (Prod.mk.inj same).2
    case own => exact fun v h => ⟨v, h, ChanKept.refl _⟩
    case after => exact fun v b other ⟨u, h, k⟩ => ⟨u, h, k.dacStep fun same => other (Prod.mk.inj same).2⟩
  have noted := after.noteSines (e := d) fun _ => State.not_mem_sines silent
  exact ⟨u, before, ((s.dacUpdated_shown d).dac d c).trans noted.dac, ((s.dacUpdated_shown d).out d c).trans noted.out⟩

/-! ### The step of one channel -/

theorem State.dacStep_of_busy (busy : u.dacBusy d c = true) : u.dacStep d c = u := if_pos busy

/-- A channel that leaves its queue or its direct code behind for `g` and puts out a code. -/
theorem State.play_shows (wf : u.regs.wf = true) (small : v < 4096) (g : DacCh → DacCh) :
    ((u.updDac d c g).setOut d c v).rd d (DACB_OUT_NOW c.val) = v ∧
      ((u.updDac d c g).setOut d c v).dac d c = g (u.dac d c) :=
  ⟨(State.rd_setOut (s := u.updDac d c g) wf).trans (Nat.mod_eq_of_lt small),
    (State.dac_setOut _ _ _ _).trans (State.dac_updDac _ _ _ _)⟩

theorem State.dacStep_of_direct (free : u.dacBusy d c = false) (direct : (u.dac d c).direct = some v) :
    u.dacStep d c = (u.updDac d c fun x => { x with direct := none }).setOut d c v := by
  simp only [State.dacStep, free, direct, Bool.false_eq_true, if_false]

theorem State.dacStep_of_queue {q : List Nat} (free : u.dacBusy d c = false) (direct : (u.dac d c).direct = none)
    (stopped : (u.dac d c).running = false) (queue : (u.dac d c).queue = v :: q) :
    u.dacStep d c = (u.updDac d c fun x => { x with queue := q }).setOut d c v := by
  simp only [State.dacStep, free, direct, stopped, queue, Bool.false_eq_true, if_false]

theorem State.dacStep_of_idle (free : u.dacBusy d c = false) (direct : (u.dac d c).direct = none)
    (stopped : (u.dac d c).running = false) (queue : (u.dac d c).queue = []) : u.dacStep d c = u := by
  simp only [State.dacStep, free, direct, stopped, queue, Bool.false_eq_true, if_false]

/-- The share of the span that SAWTOOTH adds to its lowest code (R529). -/
def State.sawtooth (s : State) (d : Die) (c : Fin 6) : Nat :=
  s.rd d (DACB_WAVE_OFFSET c.val) - s.rd d (DACB_WAVE_SPAN c.val) / 2
    + s.rd d (DACB_WAVE_SPAN c.val) * (s.dac d c).acc / 2 ^ 32

theorem State.dacStep_of_sawtooth (free : u.dacBusy d c = false) (direct : (u.dac d c).direct = none)
    (runs : (u.dac d c).running = true) (shape : u.rd d (DACB_WAVE_SHAPE c.val) = 2) :
    u.dacStep d c = (u.setOut d c (u.sawtooth d c)).updDac d c fun x =>
      { x with acc := (x.acc + (u.setOut d c (u.sawtooth d c)).rd d (DACB_RATE c.val)) % 2 ^ 32, lfsr := noiseStep x.lfsr } := by
  simp only [State.dacStep, State.waveCode, free, direct, runs, shape, Bool.false_eq_true, if_false, if_true]
  rfl

end

/-- Settles O27: what an update leaves of a channel is what the channel's own step leaves (`State.dacUpdated_channel`). -/
theorem dacOutputs : Obligations.DacOutputs := by
  intro s d wf populated on due
  refine ⟨_, execDacUpdate_of_due populated on due, ?direct, ?queue, ?idle, ?sawtooth, ?busy, fun e c => State.dacUpdated_other⟩
  case direct =>
    intro c v free code small
    obtain ⟨u, kept, dac, out⟩ := s.dacUpdated_channel d c (Or.inr (Or.inr (by simp [code])))
    obtain ⟨shown, played⟩ := State.play_shows (d := d) (c := c) (kept.wf wf) small fun x => { x with direct := none }
    rw [dac, out, State.dacStep_of_direct (kept.dacBusy.trans free) (kept.dac ▸ code), shown, played]
    exact ⟨rfl, rfl⟩
  case queue =>
    intro c v q free code stopped queue small
    obtain ⟨u, kept, dac, out⟩ := s.dacUpdated_channel d c (Or.inl (by simp [State.sineRuns, stopped]))
    obtain ⟨shown, played⟩ := State.play_shows (d := d) (c := c) (kept.wf wf) small fun x => { x with queue := q }
    rw [dac, out, State.dacStep_of_queue (kept.dacBusy.trans free) (kept.dac ▸ code) (kept.dac ▸ stopped) (kept.dac ▸ queue),
      shown, played]
    exact ⟨rfl, rfl⟩
  case idle =>
    intro c free code stopped queue
    obtain ⟨u, kept, -, out⟩ := s.dacUpdated_channel d c (Or.inl (by simp [State.sineRuns, stopped]))
    rw [out, State.dacStep_of_idle (kept.dacBusy.trans free) (kept.dac ▸ code) (kept.dac ▸ stopped) (kept.dac ▸ queue)]
    exact kept.out
  case sawtooth =>
    intro c free code runs shape
    obtain ⟨u, kept, -, out⟩ := s.dacUpdated_channel d c (Or.inl (by simp [State.sineRuns, shape]))
    have field {f : Fld} (mem : f ∈ [DACB_CTRL_CLR_N_LOW, DACB_CTRL_SW_CLR, DACB_WAVE_SHAPE c.val, DACB_WAVE_SPAN c.val,
        DACB_WAVE_OFFSET c.val]) : u.rd d f = s.rd d f := kept.field fun c' => dacFields_place_ne c c' f mem
    have level : u.sawtooth d c = s.sawtooth d c := by
      rw [State.sawtooth, field (by simp), field (by simp), kept.dac, State.sawtooth]
    rw [out, State.dacStep_of_sawtooth (kept.dacBusy.trans free) (kept.dac ▸ code) (kept.dac ▸ runs)
      ((field (by simp)).trans shape)]
    exact (State.rd_setOut (kept.wf wf)).trans (congrArg (· % 4096) level)
  case busy =>
    intro c held
    obtain ⟨u, kept, dac, out⟩ := s.dacUpdated_channel d c (Or.inr (Or.inl held))
    rw [dac, out, State.dacStep_of_busy (kept.dacBusy.trans held)]
    exact ⟨kept.out, kept.dac⟩

end Sys2Proof.Machine

/-! The mailboxes: the proof of the statement of spec/13_package_interior.md on them. -/

namespace Sys2Proof.Machine

section

variable {s t u : State} {a b d e : Die} {sep rep sep' rep' : Endpoint} {o : MbOutcome} {m : MbMsg} {sec last : Bool}
  {i n : Nat} {w : BitVec 64}

/-! ### What a channel holds (R477, R483) -/

/-- What a filter keeps all of is found in what it leaves. -/
theorem find?_filter_of_imp {α : Type} {l : List α} {p q : α → Bool} (imp : ∀ x, p x = true → q x = true) :
    (l.filter q).find? p = l.find? p := by
  rw [List.find?_filter]
  congr 1
  funext x
  cases found : p x
  · simp
  · simp [imp x found]

theorem MbChan.isFor_iff {c : MbChan} : c.isFor a sep b rep = true ↔ (c.src, c.sep, c.dst, c.rep) = (a, sep, b, rep) := by
  simp [MbChan.isFor, and_assoc]

theorem State.mbMsgs_congr (same : t.sb.mail = s.sb.mail) : t.mbMsgs a sep b rep = s.mbMsgs a sep b rep := by
  simp only [State.mbMsgs, same]

theorem State.mbMsgs_mbSet (ms : List MbMsg) : (s.mbSet a sep b rep ms).mbMsgs a sep b rep = ms := by
  have cleared : (s.sb.mail.filter fun c => !c.isFor a sep b rep).find? (fun c => c.isFor a sep b rep) = none := by
    simp [List.find?_eq_none]
  have mine (since : Nat) : (MbChan.mk a sep b rep ms since).isFor a sep b rep = true := MbChan.isFor_iff.mpr rfl
  cases ms with
  | nil => simp only [State.mbMsgs, State.mbSet, List.isEmpty_nil, if_true, cleared]
  | cons x ms =>
    simp only [State.mbMsgs, State.mbSet, List.isEmpty_cons, Bool.false_eq_true, if_false, List.find?_append, cleared,
      Option.none_or, List.find?_singleton, mine, if_true]

/-- What one channel is set to leaves the others. -/
theorem State.mbMsgs_mbSet_ne {ms : List MbMsg} (other : (d, sep', e, rep') ≠ (a, sep, b, rep)) :
    (s.mbSet a sep b rep ms).mbMsgs d sep' e rep' = s.mbMsgs d sep' e rep' := by
  have apart {c : MbChan} (its : c.isFor d sep' e rep' = true) : c.isFor a sep b rep = false :=
    Bool.eq_false_iff.mpr fun mine => other ((MbChan.isFor_iff.mp its).symm.trans (MbChan.isFor_iff.mp mine))
  have rest := find?_filter_of_imp (l := s.sb.mail) (p := fun c => c.isFor d sep' e rep')
    (q := fun c => !c.isFor a sep b rep) fun c its => by rw [apart its, Bool.not_false]
  have theirs (since : Nat) : (MbChan.mk a sep b rep ms since).isFor d sep' e rep' = false :=
    Bool.eq_false_iff.mpr fun its => Bool.false_ne_true ((apart its).symm.trans (MbChan.isFor_iff.mpr rfl))
  have found : (s.mbSet a sep b rep ms).sb.mail.find? (fun c => c.isFor d sep' e rep') =
      s.sb.mail.find? fun c => c.isFor d sep' e rep' := by
    cases ms with
    | nil => exact rest
    | cons x ms => simp [State.mbSet, rest, theirs]
  simp only [State.mbMsgs, found]

/-! ### Outcomes (R480, R481, R490) -/

theorem State.sb_cntN : (s.cntN d i n).sb = s.sb := by
  unfold State.cntN
  split <;> rfl

theorem State.sb_mbOutcome : (s.mbOutcome a b sep rep o).sb = s.sb := by
  unfold State.mbOutcome
  split
  · rfl
  · split <;> rfl

theorem State.mbOutcome_of_ne (apart : a ≠ b) : s.mbOutcome a b sep rep o = s.sbPush b 2 1 (.mbAck a sep rep o) := if_pos apart

/-! ### A whole message (R480, R483) -/

theorem State.mbStore_of_dead (dead : s.level b (Endpoint.domain rep) = .dead) :
    s.mbStore a b sep rep m = s.mbOutcome a b sep rep .mbDomainOff := if_pos dead

theorem State.mbStore_of_full (alive : s.level b (Endpoint.domain rep) ≠ .dead)
    (full : s.owes a sep b rep = true ∨ 4 ≤ (s.mbMsgs a sep b rep).length) :
    s.mbStore a b sep rep m = (s.cnt b 165).mbOutcome a b sep rep .busy :=
  (if_neg alive).trans (if_pos (by simpa using full))

theorem State.mbStore_of_room (alive : s.level b (Endpoint.domain rep) ≠ .dead)
    (room : ¬ (s.owes a sep b rep = true ∨ 4 ≤ (s.mbMsgs a sep b rep).length)) :
    s.mbStore a b sep rep m =
      (s.mbSet a sep b rep (s.mbMsgs a sep b rep ++ [m])).mbOutcome a b sep rep .stored :=
  (if_neg alive).trans (if_neg (by simpa using room))

/-- A message concerns no channel but its own. -/
theorem State.mbMsgs_mbStore_ne (other : (d, sep', e, rep') ≠ (a, sep, b, rep)) :
    (s.mbStore a b sep rep m).mbMsgs d sep' e rep' = s.mbMsgs d sep' e rep' := by
  unfold State.mbStore
  split
  · exact State.mbMsgs_congr (congrArg SbState.mail State.sb_mbOutcome)
  · split
    · exact State.mbMsgs_congr (congrArg SbState.mail (State.sb_mbOutcome.trans State.sb_cntN))
    · exact (State.mbMsgs_congr (congrArg SbState.mail State.sb_mbOutcome)).trans (State.mbMsgs_mbSet_ne other)

/-- What becomes of a message at its receiver. -/
theorem State.mbStore_cases (s : State) (a b : Die) (sep rep : Endpoint) (m : MbMsg) :
    if s.level b (Endpoint.domain rep) = .dead then
      (s.mbStore a b sep rep m).mbMsgs a sep b rep = s.mbMsgs a sep b rep ∧
      s.mbStore a b sep rep m = s.mbOutcome a b sep rep .mbDomainOff
    else if s.owes a sep b rep = true ∨ 4 ≤ (s.mbMsgs a sep b rep).length then
      (s.mbStore a b sep rep m).mbMsgs a sep b rep = s.mbMsgs a sep b rep ∧
      s.mbStore a b sep rep m = (s.cnt b 165).mbOutcome a b sep rep .busy
    else (s.mbStore a b sep rep m).mbMsgs a sep b rep = s.mbMsgs a sep b rep ++ [m] ∧
      ∃ l, s.mbStore a b sep rep m = ({ s with sb := { s.sb with mail := l } } : State).mbOutcome a b sep rep .stored := by
  split
  case isTrue dead =>
    rw [State.mbStore_of_dead dead]
    exact ⟨State.mbMsgs_congr (congrArg SbState.mail State.sb_mbOutcome), rfl⟩
  case isFalse alive =>
    split
    case isTrue full =>
      rw [State.mbStore_of_full alive full]
      exact ⟨State.mbMsgs_congr (congrArg SbState.mail (State.sb_mbOutcome.trans State.sb_cntN)), rfl⟩
    case isFalse room =>
      rw [State.mbStore_of_room alive room]
      exact ⟨(State.mbMsgs_congr (congrArg SbState.mail State.sb_mbOutcome)).trans (State.mbMsgs_mbSet _), _, rfl⟩

/-! ### The words of a message (R467, R477, R479) -/

/-- Whether words wait for a message of a kind from one die to another. -/
def MbPart.isOf (p : MbPart) (a b : Die) (sec : Bool) : Bool := p.src == a && p.dst == b && p.secure == sec

/-- The state in which the words `ws` of a message have come, and it is not whole. -/
def State.gathered (s : State) (a b : Die) (sec : Bool) (ws : List (BitVec 64)) : State :=
  let rest := s.sb.parts.filter fun p => !p.isOf a b sec
  { s with sb := { s.sb with parts := if ws.isEmpty then rest else rest ++ [⟨a, b, sec, ws⟩] } }

theorem State.gathered_gathered (ws vs : List (BitVec 64)) :
    (s.gathered a b sec ws).gathered a b sec vs = s.gathered a b sec vs := by
  have rest : ((s.gathered a b sec ws).sb.parts.filter fun p => !p.isOf a b sec) =
      s.sb.parts.filter fun p => !p.isOf a b sec := by
    have mine : (MbPart.mk a b sec ws).isOf a b sec = true := by simp [MbPart.isOf]
    cases ws <;> simp [State.gathered, List.filter_filter, mine]
  simp only [State.gathered] at rest ⊢
  rw [rest]

/-- The words that have come of a message. -/
def State.wordsOf (s : State) (a b : Die) (sec : Bool) : List (BitVec 64) :=
  ((s.sb.parts.find? fun p => p.isOf a b sec).map MbPart.words).getD []

theorem State.wordsOf_gathered (ws : List (BitVec 64)) : (s.gathered a b sec ws).wordsOf a b sec = ws := by
  have mine : (MbPart.mk a b sec ws).isOf a b sec = true := by simp [MbPart.isOf]
  have cleared : (s.sb.parts.filter fun p => !p.isOf a b sec).find? (fun p => p.isOf a b sec) = none := by
    simp [List.find?_eq_none]
  cases ws with
  | nil => simp [State.gathered, State.wordsOf, cleared]
  | cons v ws => simp [State.gathered, State.wordsOf, List.find?_append, cleared, mine]

/-- A word that the channel map allows: the words then are those had and it, if it follows them, and the last completes
the message. -/
theorem State.mbWord_eq (allowed : mbMap sep rep (a == b) = some sec) :
    s.mbWord a b sec sep rep i last w =
      let now := if i = 0 then [w] else if i = (s.wordsOf a b sec).length then s.wordsOf a b sec ++ [w] else []
      if last && now.length == i + 1 then (s.gathered a b sec []).mbStore a b sep rep (mbOfWords now)
      else s.gathered a b sec (if last then [] else now) := by
  refine (if_neg (by simp [allowed])).trans ?_
  cases last with
  | false =>
    simp only [Bool.false_and, Bool.false_or, Bool.false_eq_true, if_false]
    rfl
  | true => rfl

theorem State.mbWord_next (allowed : mbMap sep rep (a == b) = some sec) (ws : List (BitVec 64)) :
    (s.gathered a b sec ws).mbWord a b sec sep rep ws.length false w = s.gathered a b sec (ws ++ [w]) := by
  rw [State.mbWord_eq allowed, State.wordsOf_gathered]
  cases ws <;> simp [State.gathered_gathered]

theorem State.mbWord_last (allowed : mbMap sep rep (a == b) = some sec) (ws : List (BitVec 64)) :
    (s.gathered a b sec ws).mbWord a b sec sep rep ws.length true w =
      (s.gathered a b sec []).mbStore a b sep rep (mbOfWords (ws ++ [w])) := by
  rw [State.mbWord_eq allowed, State.wordsOf_gathered]
  cases ws <;> simp [State.gathered_gathered]

/-- The first word does not depend on what has come before. -/
theorem State.mbWord_first (allowed : mbMap sep rep (a == b) = some sec) :
    s.mbWord a b sec sep rep 0 last w = (s.gathered a b sec []).mbWord a b sec sep rep 0 last w := by
  rw [State.mbWord_eq allowed, State.mbWord_eq allowed]
  simp [State.gathered_gathered]

theorem State.slotArrives_word :
    s.slotArrives a (.mb b sec sep rep i last w) [b] = s.mbWord a b sec sep rep i last w := by
  simp [State.slotArrives]

/-- The words still to come, in order, make the message of all of them. -/
theorem State.words_arrive (allowed : mbMap sep rep (a == b) = some sec) (total : Nat) (vs ws : List (BitVec 64))
    (more : vs ≠ []) (whole : total + 1 = ws.length + vs.length) :
    (vs.mapIdx fun i w => SlotMsg.mb b sec sep rep (i + ws.length) (i + ws.length == total) w).foldl
      (fun u x => u.slotArrives a x [b]) (s.gathered a b sec ws) =
        (s.gathered a b sec []).mbStore a b sep rep (mbOfWords (ws ++ vs)) := by
  induction vs generalizing ws with
  | nil => exact absurd rfl more
  | cons v vs ih =>
    rw [List.mapIdx_cons, List.foldl_cons, State.slotArrives_word, Nat.zero_add]
    cases vs with
    | nil =>
      have ends : (ws.length == total) = true := by simp_all
      rw [ends, State.mbWord_last allowed]
      rfl
    | cons v' vs =>
      have goesOn : (ws.length == total) = false := by
        simp only [List.length_cons] at whole
        simp only [beq_eq_false_iff_ne]
        omega
      have left := ih (ws ++ [v]) (by simp) (by simp only [List.length_append, List.length_cons, List.length_nil] at whole ⊢; omega)
      rw [goesOn, State.mbWord_next allowed]
      simpa [Nat.add_assoc, Nat.add_comm, Nat.add_left_comm] using left

theorem mbHeader_epoch (sep rep : Endpoint) (m : MbMsg) :
    (mbHeader sep rep m).extractLsb' 56 8 = BitVec.ofNat 8 m.epoch := by
  refine BitVec.eq_of_getLsbD_eq fun i hi => ?_
  have place : 56 + i - 32 - 15 - 5 - 2 - 2 = i := by omega
  simp only [mbHeader, BitVec.getLsbD_extractLsb', BitVec.getLsbD_append, hi, decide_true, Bool.true_and, place]
  rw [if_neg (by omega), if_neg (by omega), if_neg (by omega), if_neg (by omega), if_neg (by omega)]

theorem mbHeader_msgType (sep rep : Endpoint) (m : MbMsg) : (mbHeader sep rep m).extractLsb' 0 32 = m.msgType := by
  refine BitVec.eq_of_getLsbD_eq fun i hi => ?_
  simp only [mbHeader, BitVec.getLsbD_extractLsb', BitVec.getLsbD_append, hi, decide_true, Bool.true_and, Nat.zero_add,
    if_true]

/-- Word 0 carries all of a message but its words. -/
theorem mbOfWords_mbHeader (epoch : m.epoch < 256) : mbOfWords (mbHeader sep rep m :: m.words) = m := by
  rw [mbOfWords, mbHeader_epoch, mbHeader_msgType, BitVec.toNat_ofNat, Nat.mod_eq_of_lt epoch]

/-- The slots of a message, in order, make the message at the receiver. -/
theorem State.message_arrives (apart : a ≠ b) (allowed : mbMap sep rep false = some sec) (epoch : m.epoch < 256) :
    (mbSlots b sec sep rep m).foldl (fun u x => u.slotArrives a x [b]) s =
      (s.gathered a b sec []).mbStore a b sep rep m := by
  have permits : mbMap sep rep (a == b) = some sec := by rwa [beq_eq_false_iff_ne.mpr apart]
  have arrive := State.words_arrive (s := s) permits m.words.length (mbHeader sep rep m :: m.words) [] (by simp) (by simp)
  rw [List.nil_append, mbOfWords_mbHeader epoch] at arrive
  rw [← arrive, mbSlots, List.mapIdx_cons, List.mapIdx_cons, List.foldl_cons, List.foldl_cons, State.slotArrives_word,
    State.slotArrives_word, State.mbWord_first permits]
  rfl

theorem State.mbWord_of_forbidden (forbidden : mbMap sep rep (a == b) ≠ some sec) :
    s.mbWord a b sec sep rep i last w = (s.cnt b 167).wr b MBX_STAT_SEC_VIOL 1 := if_pos forbidden

theorem State.slotArrives_of_forbidden (forbidden : mbMap sep rep (a == b) ≠ some sec) :
    s.slotArrives a (.mb b sec sep rep i last w) [b] = (s.cnt b 167).wr b MBX_STAT_SEC_VIOL 1 :=
  State.slotArrives_word.trans (State.mbWord_of_forbidden forbidden)

/-! ### Posts (R478 to R480) -/

theorem execMailboxPost_of_apart (here : s.pop a = true) (there : s.pop b = true) (apart : a ≠ b) :
    execMailboxPost a b sep rep sec m s = .next
      (s.mbQueue a b sec (mbSlots b sec sep rep { m with epoch := s.rd a MBX_EPOCH })) :=
  (if_neg (by simp [here, there])).trans (if_pos apart)

theorem execMailboxPost_within (here : s.pop a = true) :
    execMailboxPost a a sep rep sec m s = .next
      (if mbMap sep rep true = some sec then s.mbStore a a sep rep { m with epoch := s.rd a MBX_EPOCH }
       else (s.cnt a 167).wr a MBX_STAT_SEC_VIOL 1) := by
  refine (if_neg (by simp [here])).trans ((if_neg (by simp)).trans ?_)
  by_cases allowed : mbMap sep rep true = some sec
  · rw [if_pos allowed]
    exact if_neg (by simp [allowed])
  · rw [if_neg allowed]
    exact if_pos allowed

/-! ### Drain duties, reads and resets (R481, R483) -/

/-- Of the duties those stay whose inbound channel holds a message. -/
theorem State.sb_settleOwed (s : State) : s.settleOwed.sb =
    { s.sb with owed := s.sb.owed.filter fun o => !(s.mbMsgs o.2.2.1 o.2.2.2 o.1 o.2.1).isEmpty } := by
  unfold State.settleOwed
  exact State.each_keeps (Q := fun t => t.sb = _) (fun _ _ _ same => same) rfl

theorem State.mail_settleOwed (s : State) : s.settleOwed.sb.mail = s.sb.mail := by
  rw [State.sb_settleOwed]

theorem State.mbMsgs_settleOwed : s.settleOwed.mbMsgs a sep b rep = s.mbMsgs a sep b rep :=
  State.mbMsgs_congr s.mail_settleOwed

theorem State.owes_settleOwed_iff :
    s.settleOwed.owes a sep b rep = true ↔ s.owes a sep b rep = true ∧ s.mbMsgs b rep a sep ≠ [] := by
  simp only [State.owes, s.sb_settleOwed, List.contains_iff_mem, List.mem_filter, Bool.not_eq_true',
    List.isEmpty_eq_false_iff]

/-- A read that empties a channel ends the duty that waits for it (R483). -/
theorem execMailboxMessageRead_reads (s : State) (a b : Die) (sep rep : Endpoint) :
    ∃ t, execMailboxMessageRead b rep a sep s = .next t ∧
      t.mbMsgs a sep b rep = (s.mbMsgs a sep b rep).drop 1 ∧
      ((s.mbMsgs a sep b rep).length ≤ 1 → t.owes b rep a sep = false) ∧
      ∀ a' sep' b' rep', (a', sep', b', rep') ≠ (a, sep, b, rep) → t.mbMsgs a' sep' b' rep' = s.mbMsgs a' sep' b' rep' := by
  refine ⟨_, rfl, State.mbMsgs_settleOwed.trans (State.mbMsgs_mbSet _), fun short => ?ended, fun _ _ _ _ other =>
    State.mbMsgs_settleOwed.trans (State.mbMsgs_mbSet_ne other)⟩
  refine Bool.eq_false_iff.mpr fun owed => (State.owes_settleOwed_iff.mp owed).2 ?_
  exact (State.mbMsgs_mbSet _).trans (List.drop_eq_nil_of_le short)

theorem State.mail_mbReset (s : State) (d : Die) (ep : Endpoint) :
    (s.mbReset d ep).sb.mail = s.sb.mail.filter fun c => !(c.dst == d && c.rep == ep) := by
  unfold State.mbReset
  refine (State.mail_settleOwed _).trans ?_
  refine State.each_keeps (Q := fun t => t.sb.mail = _) (fun _ _ _ same => same) ?_
  exact congrArg SbState.mail State.sb_cntN

theorem State.mbMsgs_mbReset (s : State) (b : Die) (rep : Endpoint) : (s.mbReset b rep).mbMsgs a sep b rep = [] := by
  have purged : (s.mbReset b rep).sb.mail.find? (fun c => c.isFor a sep b rep) = none := by
    rw [State.mail_mbReset, List.find?_eq_none]
    simp only [List.mem_filter, MbChan.isFor]
    grind
  simp only [State.mbMsgs, purged]

theorem State.mbMsgs_mbReset_ne (other : (e, rep') ≠ (b, rep)) :
    (s.mbReset b rep).mbMsgs a sep e rep' = s.mbMsgs a sep e rep' := by
  have kept : (s.mbReset b rep).sb.mail.find? (fun c => c.isFor a sep e rep') =
      s.sb.mail.find? fun c => c.isFor a sep e rep' := by
    rw [State.mail_mbReset]
    refine find?_filter_of_imp fun c its => ?_
    obtain ⟨-, -, rfl, rfl⟩ := by simpa using MbChan.isFor_iff.mp its
    simpa [Decidable.or_iff_not_imp_left] using other
  simp only [State.mbMsgs, kept]

theorem execMbAck_of_taken {x : SlotMsg} (taken : s.takeSlot b a (fun m => m == .mbAck b sep rep o) = some (x, u)) :
    execMbAck a b sep rep o s = .next (match (generalizing := false) o with
      | .receiverReset _ => u
      | .mbDomainOff => (u.creditBack b a).wr b MBX_STAT_DOMAIN_OFF_SEEN 1
      | _ => u.creditBack b a) := by
  cases o <;> simp only [execMbAck, taken]

/-! ### Both directions full (R483) -/

/-- The side that owes a drain, as its duty is noted: the lower of the two. -/
def mbDuty (a b : Die) (aep bep : Endpoint) : Die × Endpoint × Die × Endpoint :=
  if a.val < b.val || (a == b && decide (Endpoint.code aep ≤ Endpoint.code bep)) then (a, aep, b, bep) else (b, bep, a, aep)

/-- MUTUAL_FULL set at an end, and raised. -/
def State.showFull (s : State) (d : Die) : State :=
  (s.wr d MBX_STAT_MUTUAL_FULL 1).raise d evMB_MUTUAL_FULL (evArg d.val 0xFF [])

/-- The duty to drain noted. -/
def State.noteDuty (s : State) (a b : Die) (aep bep : Endpoint) : State :=
  { s with sb := { s.sb with owed := mbDuty a b aep bep :: s.sb.owed } }

/-- The duty noted and both ends told, before it is looked at which duties stay. -/
def State.oweDrain (s : State) (a b : Die) (aep bep : Endpoint) : State :=
  (s.noteDuty a b aep bep).each (if a = b then [a] else [a, b]) State.showFull

theorem State.mbMsgs_ne_nil_of_fullSince {x : Nat} (full : s.fullSince a sep b rep = some x) :
    s.mbMsgs a sep b rep ≠ [] := by
  unfold State.fullSince at full
  unfold State.mbMsgs
  split at full
  case h_1 c found =>
    split at full
    case isTrue four => exact List.ne_nil_of_length_pos (Nat.lt_of_lt_of_le (by decide) four)
    case isFalse => cases full
  case h_2 => cases full

theorem State.mbMsgs_ne_nil_of_bothFull (full : s.bothFull a b sep rep = true) :
    s.mbMsgs a sep b rep ≠ [] ∧ s.mbMsgs b rep a sep ≠ [] := by
  unfold State.bothFull at full
  split at full
  case h_1 x y forth back => exact ⟨State.mbMsgs_ne_nil_of_fullSince forth, State.mbMsgs_ne_nil_of_fullSince back⟩
  case h_2 => cases full

theorem execMbMutualFull_of_full (here : s.pop a = true) (there : s.pop b = true) (full : s.bothFull a b sep rep = true)
    (free : s.owes a sep b rep = false) (free' : s.owes b rep a sep = false) :
    execMbMutualFull a b sep rep s = .next (s.oweDrain a b sep rep).settleOwed := by
  have new : s.sb.owed.contains (mbDuty a b sep rep) = false := by
    unfold mbDuty
    split
    · exact free
    · exact free'
  refine if_pos ?_
  change (s.pop a && s.pop b && s.bothFull a b sep rep && !s.sb.owed.contains (mbDuty a b sep rep)) = true
  rw [here, there, full, new]
  rfl

theorem State.sb_raise (s : State) (d : Die) (i : Nat) (arg : Bytes) : (s.raise d i arg).sb = s.sb :=
  EventKept.raise (Q := fun t => t.sb = s.sb) ⟨fun _ _ _ h => h, fun _ _ _ _ h => h, fun _ _ _ h => h, fun _ _ _ h => h,
    fun _ _ _ _ h => h⟩ d i arg rfl

theorem State.regs_wf_raise (wf : s.regs.wf = true) (d : Die) (i : Nat) (arg : Bytes) :
    (s.raise d i arg).regs.wf = true :=
  EventKept.raise (Q := fun t => t.regs.wf = true) ⟨fun _ _ _ h => h, fun s d f v h => s.wr_wf h d f v, fun _ _ _ h => h,
    fun _ _ _ h => h, fun _ _ _ _ h => h⟩ d i arg wf

theorem State.sb_oweDrain (s : State) (a b : Die) (sep rep : Endpoint) :
    (s.oweDrain a b sep rep).sb = { s.sb with owed := mbDuty a b sep rep :: s.sb.owed } :=
  State.each_keeps (Q := fun t => t.sb = _) (fun _ _ _ same => (State.sb_raise _ _ _ _).trans same) rfl

theorem State.mbMsgs_oweDrain (s : State) (a b : Die) (sep rep : Endpoint) :
    (s.oweDrain a b sep rep).mbMsgs d sep' e rep' = s.mbMsgs d sep' e rep' :=
  State.mbMsgs_congr (by rw [s.sb_oweDrain a b sep rep])

/-- A duty that is noted stays while its inbound channel holds messages. -/
theorem State.owes_of_duty (duty : mbDuty a b sep rep = (d, sep', e, rep')) (held : s.mbMsgs e rep' d sep' ≠ []) :
    (s.oweDrain a b sep rep).settleOwed.owes d sep' e rep' = true := by
  refine State.owes_settleOwed_iff.mpr ⟨?_, by rwa [State.mbMsgs_oweDrain]⟩
  rw [State.owes, s.sb_oweDrain a b sep rep, duty]
  simp

/-- MUTUAL_FULL shows at both ends. -/
theorem State.flag_oweDrain (wf : s.regs.wf = true) (mem : d ∈ if a = b then [a] else [a, b]) :
    (s.oweDrain a b sep rep).settleOwed.flag d MBX_STAT_MUTUAL_FULL = true := by
  have shown : ∀ f ∈ eventFields, MBX_STAT_MUTUAL_FULL.place ≠ f.place := by decide
  have raised (t : State) (e : Die) : (t.showFull e).rd d MBX_STAT_MUTUAL_FULL =
      (t.wr e MBX_STAT_MUTUAL_FULL 1).rd d MBX_STAT_MUTUAL_FULL := (Reported.raise _ _ _ _).shows d _ shown
  have drain : (s.oweDrain a b sep rep).rd d MBX_STAT_MUTUAL_FULL = 1 := by
    refine State.each_sets (s := s.noteDuty a b sep rep) (f := State.showFull) (P := fun t => t.regs.wf = true)
      (Q := fun t => t.rd d MBX_STAT_MUTUAL_FULL = 1 ∧ t.regs.wf = true) mem ?keepsP ?keepsQ ?sets wf |>.1
    case keepsP => exact fun t e _ wf => State.regs_wf_raise (t.wr_wf wf _ _ _) _ _ _
    case sets => exact fun t wf => ⟨(raised t d).trans (t.rd_wr wf _ _ _), State.regs_wf_raise (t.wr_wf wf _ _ _) _ _ _⟩
    case keepsQ =>
      intro t e _ ⟨set, wf⟩
      refine ⟨(raised t e).trans ?_, State.regs_wf_raise (t.wr_wf wf _ _ _) _ _ _⟩
      by_cases same : d = e
      · subst same
        exact t.rd_wr wf _ _ _
      · exact (State.rd_wr_of_other_key (Fld.key_ne_of_die_ne (by decide) same)).trans set
  unfold State.settleOwed State.flag
  rw [bne_iff_ne]
  refine State.each_keeps (Q := fun t => t.rd d MBX_STAT_MUTUAL_FULL ≠ 0) (fun t e _ set => ?_) (by
    change (s.oweDrain a b sep rep).rd d MBX_STAT_MUTUAL_FULL ≠ 0
    rw [drain]
    decide)
  rwa [State.wrB, State.rd_wr_of_other_place (by decide)]

end

/-- Settles O20: a message's words make it again (`State.message_arrives`), its channel alone takes it or is read or purged,
and the lower side's duty stays while its inbound channel holds messages (`State.owes_of_duty`). -/
theorem mailboxes : Obligations.Mailboxes := by
  refine ⟨?post, ?words, ?forbidden, ?within, ?store, ?outcome, ?read, ?reset, ?ack, ?full⟩
  case post => exact fun s a b sep rep sec msg => execMailboxPost_of_apart
  case words => exact fun s a b sep rep sec m apart allowed epoch => ⟨_, State.message_arrives apart allowed epoch⟩
  case forbidden => exact fun s a b sep rep sec i last w => State.slotArrives_of_forbidden
  case within => exact fun s a sep rep sec msg => execMailboxPost_within
  case store =>
    exact fun s a b sep rep m => ⟨fun _ _ _ _ => State.mbMsgs_mbStore_ne, s.mbStore_cases a b sep rep m⟩
  case outcome => exact fun s a b sep rep o => State.mbOutcome_of_ne
  case read => exact fun s a b sep rep => execMailboxMessageRead_reads s a b sep rep
  case reset =>
    exact fun s b rep populated => ⟨_, congrArg Host.Outcome.next (if_pos populated), fun _ _ => s.mbMsgs_mbReset b rep,
      fun _ _ _ _ => State.mbMsgs_mbReset_ne⟩
  case ack => exact fun s u a b sep rep o m => execMbAck_of_taken
  case full =>
    intro s a b aep bep wf here there full free free'
    obtain ⟨forth, back⟩ := State.mbMsgs_ne_nil_of_bothFull full
    refine ⟨_, execMbMutualFull_of_full here there full free free', ?mail, ?a, ?b, fun low => ?aOwes, fun low => ?bOwes⟩
    case mail => rw [State.sb_settleOwed, State.sb_oweDrain]
    case a => exact State.flag_oweDrain wf (by split <;> simp)
    case b => exact State.flag_oweDrain wf (by split <;> simp_all)
    case aOwes => exact State.owes_of_duty (if_pos (by simpa using low)) back
    case bOwes => exact State.owes_of_duty (if_neg (by
      rcases low with lower | ⟨rfl, order⟩
      · have apart : a ≠ b := fun same => Nat.lt_irrefl _ (same ▸ lower)
        simp [apart, le_of_lt (show b < a from lower)]
      · simp [order])) forth

end Sys2Proof.Machine

/-! One slot of the sideband: the proof of the statement of spec/13_package_interior.md on its arbitration. -/

namespace Sys2Proof.Machine

section

variable {s t u : State} {a b d e : Die} {f : Fld} {sep rep : Endpoint} {o : MbOutcome} {m : MbMsg} {x : SlotMsg}
  {ds : List Die} {bad : BitVec 8} {req : SbReqEnt} {n : Nat}

/-! ### Who contends, and who wins (R466) -/

theorem State.mem_popDies_iff : d ∈ s.popDies ↔ s.pop d = true := by
  simp [State.popDies, mem_allDies]

theorem State.popDies_sorted (s : State) : s.popDies.Pairwise (· < ·) :=
  (show allDies.Pairwise (· < ·) by decide).filter _

/-- A die's start bit with its deadline, if it drives one. -/
def State.bid (s : State) (d : Die) : Option (Die × Nat) :=
  match (s.die d).sb.urgent with
  | some e => if (s.die d).sb.sits = 0 && s.power d != .off then some (d, e.count) else none
  | none => none

theorem State.contenders_eq (s : State) : s.contenders = s.popDies.filterMap s.bid := rfl

theorem State.bid_eq_some_iff {x : Die × Nat} : s.bid d = some x ↔
    (s.die d).sb.sits = 0 ∧ s.power d ≠ .off ∧ ∃ e, (s.die d).sb.urgent = some e ∧ (d, e.count) = x := by
  unfold State.bid
  cases urgent : (s.die d).sb.urgent with
  | none => simp
  | some e => simp [and_assoc]

theorem State.mem_contenders_iff : (d, n) ∈ s.contenders ↔
    s.pop d = true ∧ (s.die d).sb.sits = 0 ∧ s.power d ≠ .off ∧ ∃ e, (s.die d).sb.urgent = some e ∧ e.count = n := by
  simp only [State.contenders_eq, List.mem_filterMap, State.mem_popDies_iff, State.bid_eq_some_iff, Prod.mk.injEq]
  constructor
  · rintro ⟨_, populated, free, awake, req, urgent, rfl, same⟩
    exact ⟨populated, free, awake, req, urgent, same⟩
  · rintro ⟨populated, free, awake, req, urgent, same⟩
    exact ⟨d, populated, free, awake, req, urgent, rfl, same⟩

/-- The contenders stand in the order of their positions. -/
theorem State.contenders_sorted (s : State) : s.contenders.Pairwise fun x y => x.1 < y.1 := by
  rw [s.contenders_eq]
  refine List.Pairwise.filterMap _ (fun d e lower x bidX y bidY => ?_) s.popDies_sorted
  obtain ⟨-, -, -, -, rfl⟩ := State.bid_eq_some_iff.mp bidX
  obtain ⟨-, -, -, -, rfl⟩ := State.bid_eq_some_iff.mp bidY
  exact lower

/-- The better of the best contender so far and the next. -/
def arbBetter (best : Option (Die × Nat)) (x : Die × Nat) : Option (Die × Nat) :=
  match best with
  | none => some x
  | some y => if x.2 < y.2 then some x else best

theorem arbWinner_eq (l : List (Die × Nat)) : arbWinner l = (l.foldl arbBetter none).map Prod.fst := rfl

/-- The lowest deadline, and the lowest position among equals. -/
def arbBest (z : Die × Nat) (l : List (Die × Nat)) : Prop := ∀ e ∈ l, z.2 < e.2 ∨ z.2 = e.2 ∧ z.1.val ≤ e.1.val

theorem foldl_arbBetter {l : List (Die × Nat)} (y : Die × Nat) (sorted : (y :: l).Pairwise fun x y => x.1 < y.1) :
    ∃ z ∈ y :: l, l.foldl arbBetter (some y) = some z ∧ arbBest z (y :: l) := by
  induction l generalizing y with
  | nil => exact ⟨y, by simp, rfl, by simp [arbBest]⟩
  | cons x l ih =>
    have first : y.1.val < x.1.val := List.rel_of_pairwise_cons sorted (by simp)
    obtain ⟨ahead, sortedX⟩ := List.pairwise_cons.mp sorted
    rw [List.foldl_cons]
    by_cases lower : x.2 < y.2
    · obtain ⟨z, mem, won, best⟩ := ih x sortedX
      refine ⟨z, List.mem_cons_of_mem _ mem, by rwa [show arbBetter (some y) x = some x from if_pos lower],
        List.forall_mem_cons.mpr ⟨?_, best⟩⟩
      have := best x (by simp)
      omega
    · have sortedY : (y :: l).Pairwise fun x y => x.1 < y.1 :=
        List.pairwise_cons.mpr ⟨fun e mem => ahead e (List.mem_cons_of_mem _ mem), (List.pairwise_cons.mp sortedX).2⟩
      obtain ⟨z, mem, won, best⟩ := ih y sortedY
      obtain ⟨bestY, bestL⟩ := List.forall_mem_cons.mp best
      refine ⟨z, by grind, by rwa [show arbBetter (some y) x = some y from if_neg lower],
        List.forall_mem_cons.mpr ⟨bestY, List.forall_mem_cons.mpr ⟨?_, bestL⟩⟩⟩
      omega

theorem arbWinner_of_cons {y : Die × Nat} {l : List (Die × Nat)} (sorted : (y :: l).Pairwise fun x y => x.1 < y.1) :
    ∃ z ∈ y :: l, arbWinner (y :: l) = some z.1 ∧ arbBest z (y :: l) := by
  obtain ⟨z, mem, won, best⟩ := foldl_arbBetter y sorted
  exact ⟨z, mem, by rw [arbWinner_eq, List.foldl_cons, show arbBetter none y = some y from rfl, won]; rfl, best⟩

theorem State.arbWinner_contenders_eq_none_iff : arbWinner s.contenders = none ↔ s.contenders = [] := by
  cases found : s.contenders with
  | nil => exact iff_of_true rfl rfl
  | cons y l =>
    obtain ⟨z, -, won, -⟩ := arbWinner_of_cons (found ▸ s.contenders_sorted)
    simp [won]

theorem State.winner_best (won : arbWinner s.contenders = some d) :
    ∃ n, (d, n) ∈ s.contenders ∧ arbBest (d, n) s.contenders := by
  cases found : s.contenders with
  | nil => simp [found, arbWinner] at won
  | cons y l =>
    obtain ⟨⟨e, n⟩, mem, won', best⟩ := arbWinner_of_cons (found ▸ s.contenders_sorted)
    rw [found, won'] at won
    cases won
    exact ⟨n, mem, best⟩

/-! ### What a slot leaves of the registers (R461) -/

/-- What a slot changes of the registers: no field but SEC_VIOL and DOMAIN_OFF_SEEN. -/
structure State.SlotShows (s t : State) : Prop where
  part : t.part = s.part
  wf : s.regs.wf = true → t.regs.wf = true
  shows : ∀ d f, (∀ e, f.key d ≠ MBX_STAT_SEC_VIOL.key e ∧ f.key d ≠ MBX_STAT_DOMAIN_OFF_SEEN.key e) →
    t.rd d f = s.rd d f

theorem State.SlotShows.of_regs (part : t.part = s.part) (regs : t.regs = s.regs) : State.SlotShows s t :=
  ⟨part, fun wf => regs ▸ wf, fun d f _ => by rw [State.rd, State.rd, regs]⟩

theorem State.SlotShows.trans (h : State.SlotShows s t) (k : State.SlotShows t u) : State.SlotShows s u :=
  ⟨k.part.trans h.part, fun wf => k.wf (h.wf wf), fun d f other => (k.shows d f other).trans (h.shows d f other)⟩

theorem State.SlotShows.pop (h : State.SlotShows s t) : t.pop d = s.pop d := by
  simp only [State.pop, h.part]

theorem State.SlotShows.rd_of_place_ne (h : State.SlotShows s t) (secViol : f.place ≠ MBX_STAT_SEC_VIOL.place)
    (off : f.place ≠ MBX_STAT_DOMAIN_OFF_SEEN.place) : t.rd d f = s.rd d f :=
  h.shows d f fun e => ⟨Fld.key_ne_of_place_ne secViol e d, Fld.key_ne_of_place_ne off e d⟩

theorem State.SlotShows.power (h : State.SlotShows s t) : t.power d = s.power d := by
  simp only [State.power, h.rd_of_place_ne (f := PWR_STATE_CUR) (d := d) (by decide) (by decide)]

/-- What the arrival of a slot leaves besides: the slot's number and its winner, and what the dies have lost. -/
structure State.SlotKept (s t : State) : Prop extends State.SlotShows s t where
  slot : t.sb.slot = s.sb.slot
  granted : t.sb.granted = s.sb.granted
  loss : ∀ e, (t.die e).sb.loss = (s.die e).sb.loss
  sitOut : ∀ e, (t.die e).sb.sitOut = (s.die e).sb.sitOut

namespace State.SlotKept

theorem refl (s : State) : State.SlotKept s s :=
  ⟨State.SlotShows.of_regs rfl rfl, rfl, rfl, fun _ => rfl, fun _ => rfl⟩

theorem trans (h : State.SlotKept s t) (k : State.SlotKept t u) : State.SlotKept s u :=
  ⟨h.toSlotShows.trans k.toSlotShows, k.slot.trans h.slot, k.granted.trans h.granted,
    fun e => (k.loss e).trans (h.loss e), fun e => (k.sitOut e).trans (h.sitOut e)⟩

theorem cnt (s : State) (d : Die) (i : Nat) : State.SlotKept s (s.cnt d i) := by
  unfold State.cnt State.cntN
  split
  · exact ⟨State.SlotShows.of_regs rfl rfl, rfl, rfl, fun _ => rfl, fun _ => rfl⟩
  · exact refl s

theorem secViol (s : State) (d : Die) : State.SlotKept s (s.wr d MBX_STAT_SEC_VIOL 1) :=
  ⟨⟨rfl, fun wf => s.wr_wf wf _ _ _, fun _ _ other => State.rd_wr_of_other_key (other d).1⟩, rfl, rfl, fun _ => rfl,
    fun _ => rfl⟩

theorem domainOffSeen (s : State) (d : Die) : State.SlotKept s (s.wr d MBX_STAT_DOMAIN_OFF_SEEN 1) :=
  ⟨⟨rfl, fun wf => s.wr_wf wf _ _ _, fun _ _ other => State.rd_wr_of_other_key (other d).2⟩, rfl, rfl, fun _ => rfl,
    fun _ => rfl⟩

theorem sbPush (s : State) (d : Die) (cls copies : Nat) (x : SlotMsg) : State.SlotKept s (s.sbPush d cls copies x) :=
  ⟨State.SlotShows.of_regs rfl rfl, rfl, rfl,
    fun _ => State.die_updDie_keeps (fun x => x.sb.loss) fun _ => rfl,
    fun _ => State.die_updDie_keeps (fun x => x.sb.sitOut) fun _ => rfl⟩

theorem mbOutcome (s : State) (a b : Die) (sep rep : Endpoint) (o : MbOutcome) :
    State.SlotKept s (s.mbOutcome a b sep rep o) := by
  unfold State.mbOutcome
  split
  · exact sbPush s b 2 1 _
  · split
    · exact domainOffSeen s a
    · exact refl s

theorem mbStore (s : State) (a b : Die) (sep rep : Endpoint) (m : MbMsg) :
    State.SlotKept s (s.mbStore a b sep rep m) := by
  unfold State.mbStore
  split
  · exact mbOutcome s a b sep rep _
  · split
    · exact (cnt s b 165).trans (mbOutcome _ a b sep rep _)
    · refine trans ?_ (mbOutcome _ a b sep rep _)
      exact ⟨State.SlotShows.of_regs rfl rfl, rfl, rfl, fun _ => rfl, fun _ => rfl⟩

theorem gathered (s : State) (a b : Die) (sec : Bool) (ws : List (BitVec 64)) :
    State.SlotKept s (s.gathered a b sec ws) :=
  ⟨State.SlotShows.of_regs rfl rfl, rfl, rfl, fun _ => rfl, fun _ => rfl⟩

theorem mbWord (s : State) (a b : Die) (sec : Bool) (sep rep : Endpoint) (i : Nat) (last : Bool) (w : BitVec 64) :
    State.SlotKept s (s.mbWord a b sec sep rep i last w) := by
  by_cases allowed : mbMap sep rep (a == b) = some sec
  · rw [State.mbWord_eq allowed]
    dsimp only
    generalize (if i = 0 then [w] else _) = now
    split
    · exact (gathered s a b sec _).trans (mbStore _ a b sep rep _)
    · exact gathered s a b sec _
  · rw [State.mbWord_of_forbidden allowed]
    exact (cnt s b 167).trans (secViol _ b)

theorem slotArrives (s : State) (a : Die) (x : SlotMsg) (ds : List Die) : State.SlotKept s (s.slotArrives a x ds) := by
  unfold State.slotArrives
  split
  · split
    · exact mbWord s a ..
    · exact refl s
  · exact ⟨State.SlotShows.of_regs rfl rfl, rfl, rfl, fun _ => rfl, fun _ => rfl⟩

end State.SlotKept

/-! ### The winner's slot (R467 to R469) -/

/-- The state in which a winner is about to send its slot. -/
def State.granting (s : State) (d : Die) (req : SbReqEnt) : State :=
  { s.fresh.2 with sb := { s.sb with
      granted := some d
      dlSlots := s.sb.dlSlots + (if req.count = 255 then 0 else 1)
      beSlots := s.sb.beSlots + (if req.count = 255 then 1 else 0) } }

theorem State.SlotKept.sendSlot (s : State) (d : Die) (req : SbReqEnt) (bad : BitVec 8) :
    State.SlotKept ((s.granting d req).afterGrant d req bad) (s.sendSlot d req bad) := by
  refine State.SlotKept.trans (State.SlotKept.cnt _ d 160) (State.SlotKept.trans ?_ (State.SlotKept.slotArrives _ d _ _))
  exact ⟨State.SlotShows.of_regs rfl rfl, rfl, rfl, fun _ => rfl, fun _ => rfl⟩

/-- The winner's loss count and sitting out end. -/
theorem State.die_afterGrant :
    ((s.afterGrant d req bad).die d).sb.loss = 0 ∧ ((s.afterGrant d req bad).die d).sb.sitOut = 0 := by
  unfold State.afterGrant
  rw [State.die_updDie]
  constructor <;> grind

theorem State.die_afterGrant_ne (other : d ≠ e) : (s.afterGrant d req bad).die e = s.die e := State.die_updDie_ne _ _ other

theorem State.SlotShows.sendSlot (s : State) (d : Die) (req : SbReqEnt) (bad : BitVec 8) :
    State.SlotShows s (s.sendSlot d req bad) := by
  have granted : State.SlotShows s ((s.granting d req).afterGrant d req bad) := State.SlotShows.of_regs rfl rfl
  exact granted.trans (State.SlotKept.sendSlot s d req bad).toSlotShows

/-! ### The losers (R469) -/

theorem State.die_each_updDie {g : Die → DieSt → DieSt} (once : ds.Nodup) :
    (s.each ds fun s e => s.updDie e (g e)).die d = if d ∈ ds then g d (s.die d) else s.die d := by
  induction ds generalizing s with
  | nil => rfl
  | cons e ds ih =>
    obtain ⟨apart, once⟩ := List.nodup_cons.mp once
    rw [State.each, List.foldl_cons]
    refine (ih once).trans ?_
    by_cases same : e = d
    · subst same
      simp [apart]
    · simp [State.die_updDie_ne _ _ same, Ne.symm same]

/-- What an arbitration makes of a die: a contender that does not win loses once more, a die that sits out has one
arbitration less to go. -/
def arbitrates (cs : List (Die × Nat)) (d : Die) (x : DieSt) : DieSt :=
  let b := x.sb
  if cs.any (fun c => c.1 == d) then
    if arbWinner cs = some d then x
    else
      let n := b.loss + 1
      { x with sb := { b with loss := n, sitOut := backoff n } }
  else { x with sb := { b with sitOut := SbDie.sits b - 1 } }

/-- The dies have arbitrated. -/
def State.arbitrated (s : State) : State :=
  s.each s.popDies fun t d => t.updDie d (arbitrates s.contenders d)

theorem State.sbSlot_eq : s.sbSlot bad = match arbWinner s.slotBegins.contenders with
    | none => { (s.slotBegins.arbitrated.cntPkg 1557) with sb := { s.slotBegins.arbitrated.sb with granted := none } }
    | some d => match (s.slotBegins.arbitrated.die d).sb.urgent with
      | none => s.slotBegins.arbitrated
      | some e => s.slotBegins.arbitrated.sendSlot d e bad := rfl

theorem State.die_arbitrated (populated : s.pop d = true) : s.arbitrated.die d = arbitrates s.contenders d (s.die d) :=
  (State.die_each_updDie (s.popDies_sorted.imp ne_of_lt)).trans (if_pos (State.mem_popDies_iff.mpr populated))

theorem State.die_arbitrated_of_winner (won : arbWinner s.contenders = some d) : s.arbitrated.die d = s.die d := by
  obtain ⟨n, mem, -⟩ := State.winner_best won
  rw [State.die_arbitrated (State.mem_contenders_iff.mp mem).1, arbitrates, if_pos (List.any_eq_true.mpr ⟨_, mem, by simp⟩),
    if_pos won]

theorem backoff_succ (n : Nat) : backoff (n + 1) = min 128 (2 ^ n) := rfl

theorem State.die_arbitrated_of_loser (mem : (d, n) ∈ s.contenders) (lost : arbWinner s.contenders ≠ some d) :
    (s.arbitrated.die d).sb.loss = (s.die d).sb.loss + 1 ∧
      (s.arbitrated.die d).sb.sitOut = min 128 (2 ^ (s.die d).sb.loss) := by
  rw [State.die_arbitrated (State.mem_contenders_iff.mp mem).1, arbitrates, if_pos (List.any_eq_true.mpr ⟨_, mem, by simp⟩),
    if_neg lost]
  exact ⟨rfl, backoff_succ _⟩

theorem State.die_arbitrated_of_apart (populated : s.pop d = true) (apart : ∀ n, (d, n) ∉ s.contenders) :
    (s.arbitrated.die d).sb.sitOut = (s.die d).sb.sits - 1 := by
  have absent : ¬ (s.contenders.any fun c => c.1 == d) = true := by
    rw [List.any_eq_true]
    rintro ⟨⟨a, n⟩, mem, same⟩
    obtain rfl : a = d := eq_of_beq same
    exact apart n mem
  rw [State.die_arbitrated populated, arbitrates, if_neg absent]

theorem State.arbitrated_keeps : s.arbitrated.sb = s.sb ∧ s.arbitrated.part = s.part ∧ s.arbitrated.regs = s.regs := by
  unfold State.arbitrated
  exact State.each_keeps (Q := fun t => t.sb = s.sb ∧ t.part = s.part ∧ t.regs = s.regs) (fun _ _ _ same => same)
    ⟨rfl, rfl, rfl⟩

/-! ### The slot begins (R468) -/

theorem State.slotBegins_keeps :
    s.slotBegins.sb.slot = s.sb.slot + 1 ∧ s.slotBegins.part = s.part ∧ s.slotBegins.regs = s.regs := by
  unfold State.slotBegins
  exact State.each_keeps (Q := fun t => t.sb.slot = s.sb.slot + 1 ∧ t.part = s.part ∧ t.regs = s.regs)
    (fun _ _ _ same => same) ⟨rfl, rfl, rfl⟩

theorem State.loss_slotBegins : (s.slotBegins.die d).sb.loss = (s.die d).sb.loss := by
  unfold State.slotBegins
  refine State.each_keeps (Q := fun t => (t.die d).sb.loss = (s.die d).sb.loss) (fun t e _ same => ?_) rfl
  rw [← same]
  exact State.die_updDie_keeps (fun x => x.sb.loss) fun _ => rfl

theorem State.SlotShows.arbitrated (s : State) : State.SlotShows s s.slotBegins.arbitrated := by
  obtain ⟨-, part, regs⟩ := s.slotBegins_keeps
  obtain ⟨-, part', regs'⟩ := s.slotBegins.arbitrated_keeps
  exact State.SlotShows.of_regs (part'.trans part) (regs'.trans regs)

theorem State.slot_arbitrated (s : State) : s.slotBegins.arbitrated.sb.slot = s.sb.slot + 1 := by
  rw [s.slotBegins.arbitrated_keeps.1, s.slotBegins_keeps.1]

/-! ### One slot -/

/-- What a slot does before the dies look at its CRC. -/
structure State.Arbitrates (s t : State) : Prop where
  shows : State.SlotShows s t
  slot : t.sb.slot = s.sb.slot + 1
  granted : t.sb.granted = arbWinner s.slotBegins.contenders
  won : ∀ d, t.sb.granted = some d → (t.die d).sb.loss = 0 ∧ (t.die d).sb.sitOut = 0
  others : ∀ d, t.sb.granted ≠ some d → (t.die d).sb.loss = (s.slotBegins.arbitrated.die d).sb.loss ∧
    (t.die d).sb.sitOut = (s.slotBegins.arbitrated.die d).sb.sitOut

theorem State.Arbitrates.sbSlot (s : State) (bad : BitVec 8) : State.Arbitrates s (s.sbSlot bad) := by
  rw [State.sbSlot_eq]
  cases found : arbWinner s.slotBegins.contenders with
  | none =>
    exact ⟨(State.SlotShows.arbitrated s).trans (State.SlotShows.of_regs rfl rfl), s.slot_arbitrated, found.symm,
      (fun d won => nomatch won), fun d _ => ⟨rfl, rfl⟩⟩
  | some d =>
    obtain ⟨n, mem, -⟩ := State.winner_best found
    obtain ⟨-, -, -, req, urgent, -⟩ := State.mem_contenders_iff.mp mem
    have sent := State.SlotKept.sendSlot s.slotBegins.arbitrated d req bad
    simp only [State.die_arbitrated_of_winner found, urgent]
    have winner := sent.granted
    refine ⟨(State.SlotShows.arbitrated s).trans (State.SlotShows.sendSlot _ d req bad), sent.slot.trans s.slot_arbitrated,
      winner.trans found.symm, fun e won => ?won, fun e lost => ?others⟩
    case won =>
      cases winner.symm.trans won
      exact ⟨(sent.loss d).trans State.die_afterGrant.1, (sent.sitOut d).trans State.die_afterGrant.2⟩
    case others =>
      have other : d ≠ e := fun same => lost (same ▸ winner)
      rw [sent.loss, sent.sitOut, State.die_afterGrant_ne other]
      exact ⟨rfl, rfl⟩

/-! ### Slots that fail their CRC (R461) -/

/-- The dies that discard a slot. -/
def State.discarding (s : State) (bad : BitVec 8) : List Die :=
  s.popDies.filter fun d => bad.getLsbD d.val && s.power d != .off

/-- CRC_ERR set and counted. -/
def State.crcFails (s : State) (d : Die) : State := (s.cnt d 163).wr d SB_STAT_CRC_ERR 1

theorem State.sbDiscard_eq : s.sbDiscard bad = s.each (s.discarding bad) State.crcFails := rfl

theorem State.crcFails_keeps : (s.crcFails d).sb = s.sb ∧ (s.crcFails d).die e = s.die e :=
  ⟨State.sb_cntN, State.die_cntN⟩

theorem State.sbDiscard_keeps : (s.sbDiscard bad).sb = s.sb ∧ (s.sbDiscard bad).die e = s.die e := by
  rw [State.sbDiscard_eq]
  exact State.each_keeps (Q := fun t => t.sb = s.sb ∧ t.die e = s.die e)
    (fun _ _ _ ⟨sb, die⟩ => ⟨(State.crcFails_keeps (e := e)).1.trans sb, (State.crcFails_keeps (e := e)).2.trans die⟩) ⟨rfl, rfl⟩

theorem State.rd_crcFails_ne (other : f.key e ≠ SB_STAT_CRC_ERR.key d) : (s.crcFails d).rd e f = s.rd e f :=
  (State.rd_wr_of_other_key other).trans State.rd_cnt

theorem State.rd_sbDiscard_ne (other : ∀ e, f.key d ≠ SB_STAT_CRC_ERR.key e) : (s.sbDiscard bad).rd d f = s.rd d f := by
  rw [State.sbDiscard_eq]
  exact State.each_keeps (Q := fun t => t.rd d f = s.rd d f)
    (fun _ e _ same => (State.rd_crcFails_ne (other e)).trans same) rfl

theorem State.wf_crcFails (wf : s.regs.wf = true) : (s.crcFails d).regs.wf = true :=
  State.wr_wf _ (by rwa [State.cnt, State.regs_cntN]) _ _ _

/-- A die that another die's failure is about keeps its CRC_ERR. -/
theorem State.crcErr_crcFails_ne (other : d ≠ e) : (s.crcFails e).rd d SB_STAT_CRC_ERR = s.rd d SB_STAT_CRC_ERR :=
  State.rd_crcFails_ne (Fld.key_ne_of_die_ne (by decide) other)

theorem State.crcErr_crcFails (wf : s.regs.wf = true) : (s.crcFails d).rd d SB_STAT_CRC_ERR = 1 :=
  State.rd_wr (s := s.cnt d 163) (by rwa [State.cnt, State.regs_cntN]) d SB_STAT_CRC_ERR 1

theorem State.crcErr_sbDiscard (wf : s.regs.wf = true) : (s.sbDiscard bad).rd d SB_STAT_CRC_ERR =
    if d ∈ s.discarding bad then 1 else s.rd d SB_STAT_CRC_ERR := by
  rw [State.sbDiscard_eq]
  split
  case isTrue mem =>
    refine State.each_sets (f := State.crcFails) (P := fun t => t.regs.wf = true)
      (Q := fun t => t.rd d SB_STAT_CRC_ERR = 1 ∧ t.regs.wf = true) mem (fun t e _ wf => State.wf_crcFails wf) ?keeps
      (fun t wf => ⟨State.crcErr_crcFails wf, State.wf_crcFails wf⟩) wf |>.1
    intro t e _ ⟨set, wf⟩
    refine ⟨?_, State.wf_crcFails wf⟩
    by_cases same : d = e
    · exact same ▸ State.crcErr_crcFails wf
    · exact (State.crcErr_crcFails_ne same).trans set
  case isFalse apart =>
    exact State.each_keeps (Q := fun t => t.rd d SB_STAT_CRC_ERR = s.rd d SB_STAT_CRC_ERR)
      (fun t e mem same => (State.crcErr_crcFails_ne fun other : d = e => apart (other ▸ mem)).trans same) rfl

theorem State.flag_sbDiscard (wf : s.regs.wf = true) : (s.sbDiscard bad).flag d SB_STAT_CRC_ERR =
    (s.flag d SB_STAT_CRC_ERR || (s.pop d && bad.getLsbD d.val && s.power d != .off)) := by
  have discards : d ∈ s.discarding bad ↔ (s.pop d && bad.getLsbD d.val && s.power d != .off) = true := by
    simp [State.discarding, State.mem_popDies_iff, and_assoc]
  rw [State.flag, State.flag, State.crcErr_sbDiscard wf]
  split
  case isTrue mem =>
    rw [discards.mp mem, Bool.or_true]
    rfl
  case isFalse apart => rw [Bool.eq_false_iff.mpr (mt discards.mpr apart), Bool.or_false]

/-- The state after a slot: who discards it has CRC_ERR set, if there is one. -/
def State.slotEnds (s : State) (bad : BitVec 8) : State := if s.sb.granted.isSome then s.sbDiscard bad else s

theorem execSbSlotArbitration_of_runs (runs : s.sbRuns = true) :
    execSbSlotArbitration bad s = .next ((s.sbSlot bad).slotEnds bad) := congrArg Host.Outcome.next (if_pos runs)

theorem State.slotEnds_keeps : (s.slotEnds bad).sb = s.sb ∧ (s.slotEnds bad).die e = s.die e := by
  unfold State.slotEnds
  split
  · exact State.sbDiscard_keeps
  · exact ⟨rfl, rfl⟩

theorem State.rd_slotEnds_ne (other : ∀ e, f.key d ≠ SB_STAT_CRC_ERR.key e) : (s.slotEnds bad).rd d f = s.rd d f := by
  unfold State.slotEnds
  split
  · exact State.rd_sbDiscard_ne other
  · rfl

theorem State.flag_slotEnds (wf : s.regs.wf = true) : (s.slotEnds bad).flag d SB_STAT_CRC_ERR =
    (s.flag d SB_STAT_CRC_ERR || (s.sb.granted.isSome && s.pop d && bad.getLsbD d.val && s.power d != .off)) := by
  unfold State.slotEnds
  split
  case isTrue granted => rw [State.flag_sbDiscard wf, granted, Bool.true_and]
  case isFalse idle => simp [Bool.eq_false_iff.mpr idle]

/-- What a slot leaves of the registers, with the dies that discard it. -/
theorem State.Arbitrates.shows_slotEnds (h : State.Arbitrates s t) (wf : s.regs.wf = true) :
    (t.slotEnds bad).flag d SB_STAT_CRC_ERR = (s.flag d SB_STAT_CRC_ERR ||
        ((t.slotEnds bad).sb.granted.isSome && s.pop d && bad.getLsbD d.val && s.power d != .off)) ∧
      ∀ f, (∀ e, f.key d ≠ SB_STAT_CRC_ERR.key e ∧ f.key d ≠ MBX_STAT_SEC_VIOL.key e ∧
        f.key d ≠ MBX_STAT_DOMAIN_OFF_SEEN.key e) → (t.slotEnds bad).rd d f = s.rd d f := by
  refine ⟨?flag, fun f other => ?rest⟩
  case flag =>
    have before : t.flag d SB_STAT_CRC_ERR = s.flag d SB_STAT_CRC_ERR := by
      rw [State.flag, State.flag, h.shows.rd_of_place_ne (by decide) (by decide)]
    rw [State.flag_slotEnds (h.shows.wf wf), before, h.shows.pop, h.shows.power, (t.slotEnds_keeps (e := d)).1]
  case rest =>
    exact (State.rd_slotEnds_ne fun e => (other e).1).trans (h.shows.shows d f fun e => (other e).2)

end

/-- Settles O18: the winner's slot changes nothing of what the losers have lost (`State.Arbitrates.sbSlot`), and the order of
the contenders gives the lowest position among equals (`foldl_arbBetter`). -/
theorem arbitration : Obligations.Arbitration := by
  intro s bad runs
  have h := State.Arbitrates.sbSlot s bad
  refine ⟨_, execSbSlotArbitration_of_runs runs, ?_⟩
  generalize s.sbSlot bad = t at h ⊢
  have sb : (t.slotEnds bad).sb = t.sb := (t.slotEnds_keeps (e := 0)).1
  have dies (d : Die) : (t.slotEnds bad).die d = t.die d := t.slotEnds_keeps.2
  refine ⟨?slot, fun wf d => h.shows_slotEnds wf, ?granted, ?idle, fun d won => ?won, fun d n mem lost => ?lost,
    fun d populated apart => ?apart⟩
  case slot => rw [sb, h.slot]
  case granted => rw [sb, h.granted]
  case idle => rw [sb, h.granted, State.arbWinner_contenders_eq_none_iff]
  case won =>
    rw [sb] at won
    obtain ⟨loss, sitOut⟩ := h.won d won
    obtain ⟨n, mem, best⟩ := State.winner_best (h.granted.symm.trans won)
    exact ⟨by rw [dies, loss], by rw [dies, sitOut], n, mem, best⟩
  case lost =>
    rw [sb] at lost
    obtain ⟨loss, sitOut⟩ := h.others d lost
    obtain ⟨more, longer⟩ := State.die_arbitrated_of_loser mem (h.granted ▸ lost)
    rw [dies, loss, sitOut, more, longer, State.loss_slotBegins]
    exact ⟨rfl, rfl⟩
  case apart =>
    have lost : t.sb.granted ≠ some d := by
      intro won
      obtain ⟨n, mem, -⟩ := State.winner_best (h.granted.symm.trans won)
      exact apart n mem
    have populated' : s.slotBegins.pop d = true := by
      rw [State.pop, s.slotBegins_keeps.2.1]
      exact populated
    rw [dies, (h.others d lost).2, State.die_arbitrated_of_apart populated' apart]

end Sys2Proof.Machine
